-- ==== Sys2Proof/Word.lean ====
section
/-!
DEFINITION. The word types of the model: bytes, bus words, addresses, place codes, and the two data shapes that
every unit uses, a table by number and a byte memory.
-/
set_option autoImplicit false

namespace Sys2Proof

abbrev Byte := BitVec 8
abbrev Word16 := BitVec 16
abbrev Word32 := BitVec 32
abbrev Word64 := BitVec 64

/-- A place code (R15): DIE, QUAD, WELL, UNIT, SLICE and CELL in 32 bits. -/
abbrev Place := BitVec 32

/-- A table by number: pairs in strictly rising order of key. What an absent key reads as is said at each use. -/
abbrev Tab (α : Type) := List (Nat × α)

end Sys2Proof
end

