-- ==== Sys2Proof/Operand.lean ====
section
/-!
DEFINITION. The operand types of the commands: what the outside of the device, or one of its own engines, brings to a
step.
-/
set_option autoImplicit false

namespace Sys2Proof

/-- A partner's transmitter request: one step up or down of tap c(−3) … c(+1) (R414), or the taps of a PCIe or CXL
request (R415). -/
inductive TrainReq where
  | step (tap : Fin 5) (up : Bool)
  | pcie (cm1 c0 cp1 : Nat)
  deriving DecidableEq, Repr

/-- A frame that an Ethernet port receives (R433). -/
inductive EthFrame where
  | arpRequest (ip : Nat)
  | arpReply (ip mac : Nat)
  | icmpEcho (ip : Nat)
  | ptp
  | pause
  | other
  deriving DecidableEq, Repr

/-- An Announce message: its domain, its rank in the best master comparison of IEEE 1588-2019 (lower is better), its
clock identity, and whether every field is in the range of that standard (R445, Table TT-2). -/
structure PtpAnnounce where
  domain : Nat
  rank : Nat
  ident : Nat
  inRange : Bool
  deriving DecidableEq, Repr

/-- A Sync message: sender, sequenceId, two-step flag, and in units of 2⁻¹⁶ ns its origin time t1, raw receive stamp and
correctionField (R450). -/
structure PtpSyncMsg where
  source : Nat
  seqId : Nat
  twoStep : Bool
  t1 : Int
  raw : Int
  corr : Int
  deriving DecidableEq, Repr

/-- The filtered edges of an axis on one filter clock (R475): rising edges of A and B, and the filtered level of B. -/
structure AxisEdge where
  aRise : Bool
  bRise : Bool
  bLevel : Bool
  deriving DecidableEq, Repr

/-- Levels on the JTAG pins after an edge, and the pin levels that a capture would sample (R555). -/
structure JtagEdge where
  tck : Bool
  tms : Bool
  tdi : Bool
  trst : Bool
  pins : List Bool
  deriving DecidableEq, Repr

/-- An edge of a sync pair (R38, R208): for how many bit times the new level stays, the times in ns of the 500 MHz ticks at which
the copy in the peripheral island shows it, oldest first, and when the filter confirms it. Of a code of embedded mode only the
last counts: the time at which it is taken. -/
structure SyncEdge where
  stable : Nat
  copies : List Nat
  confirm : Nat
  deriving DecidableEq, Repr

/-- A line as it arrives at a sensor port (R201 to R205): the edges of LV or the line codes, each lane's samples and received
check word, the length in bit times, the bit times since the last line end, the exposure index of an embedded line start, and
whether a lane disagreed with the majority on a code. -/
structure SnsLine where
  rise : SyncEdge
  fall : SyncEdge
  lanes : List (List Nat × Nat)
  bitTimes : Nat
  gap : Nat
  exposure : Nat
  disagree : Bool
  deriving DecidableEq, Repr

/-- One lane's measurement (R225): for each of the five thresholds, lowest first, the error-free taps, bit t for tap t. -/
structure LaneEye where
  free : List Word64
  deriving DecidableEq, Repr

/-- What a PDM clock brought to an audio port since its last block (R462, R466): the bits of slot 0 and slot 1, the rising
edge at which the port started or restarted (used by the first block after it), and the edges on which the first and the
last sample were produced, in ns. -/
structure AudBits where
  bits0 : List Bool
  bits1 : List Bool
  edge : Nat
  time : Nat
  last : Nat
  deriving DecidableEq, Repr

/-- What an encoder core has coded for a CTU row (R340 to R346): the row QP, the bits of its slice header, the bits of each
CTU, and the byte stream of the slice; for row 0 also that of the prefix chunk. H.265 decides these bits. -/
structure EncRow where
  qp : Nat
  head : Nat
  ctus : List Nat
  bytes : List (BitVec 8)
  lead : List (BitVec 8)
  deriving DecidableEq, Repr

/-- A picture that the decoder has decoded (R355): its POC, size, layer format (4, 5 or 6) and its luma and chroma values, line by
line. H.265 decides them. -/
structure DecPic where
  poc : Int
  width : Nat
  height : Nat
  fmt : Nat
  luma : List Nat
  chroma : List Nat
  deriving DecidableEq, Repr

/-- What decoding a NAL unit comes to (R354 to R356): the pictures completed and the number of held pictures that H.265's output
process then outputs, or damage with its status (Table CC-11) and the POC. -/
inductive NalResult where
  | done (pics : List DecPic) (bump : Nat)
  | damage (status : Nat) (poc : Int)
  deriving DecidableEq, Repr

/-- A write of the store engine that has reached the SSDs (R392): the oldest `n` host blocks of the write buffer, or the
next bytes of a clip's data stream. -/
inductive StoreDone where
  | host (n : Nat)
  | clip (slot bytes : Nat)
  deriving DecidableEq, Repr

/-- A 64-byte submission queue entry (R363), by field. -/
structure Sqe where
  opc : Byte := 0
  fuse : BitVec 2 := 0
  psdt : BitVec 2 := 0
  cid : Word16 := 0
  nsid : Word32 := 0
  cdw2 : Word32 := 0
  cdw3 : Word32 := 0
  mptr : Word64 := 0
  prp1 : Word64 := 0
  prp2 : Word64 := 0
  cdw10 : Word32 := 0
  cdw11 : Word32 := 0
  cdw12 : Word32 := 0
  cdw13 : Word32 := 0
  cdw14 : Word32 := 0
  cdw15 : Word32 := 0
  deriving DecidableEq, Repr

/-- A unit that a hardware error can name: the rows of Table PF-8 and the units of R510. -/
inductive TUnit where
  | pump (well unit : Nat)
  | pailBank (well unit bank : Nat)
  | cistern (well bank : Nat)
  | lookup (well table : Nat)
  | cacheWay (well way : Nat)
  | siphon (well n : Nat)
  | wellControl (well : Nat)
  | compositor (c : Nat)
  | spout (s : Nat)
  | raster (r : Nat)
  | compressor (k : Nat)
  | encoder (n : Nat)
  | decoder
  | pilot
  | dramRow (channel bank row : Nat)
  | lane (n : Nat)
  | windlass (k : Nat)
  | timeUnit
  | queueFront
  | journal
  | sumpWriter
  | secureElement
  | dieLinkLane (endpoint lane : Nat)
  deriving DecidableEq, Repr

/-- An agent that makes translated memory requests (Table ME-5, REQ). -/
inductive Requester where
  | pump (core : Nat)
  | windlass (core : Nat)
  | siphonCh (well siphon chan : Nat)
  | siphonRt (well : Nat)
  | compositor (c layer : Nat)
  | spout (flow : Nat)
  | raster (r : Nat)
  | encoder (n : Nat)
  | decoder
  | compressor (k : Nat)
  | ingest (ctx : Nat)
  | pilot
  | audio (port : Nat)
  | none
  deriving DecidableEq, Repr

/-- Why a channel has a lasting fault (R185). -/
inductive ChanFault where
  | training | ueRows | badRows | ceRate
  deriving DecidableEq, Repr

/-- What a read of a burst finds: in local DRAM, bits flipped since it was written, or a burst written to another address (R173);
from CXL memory, data or poison (R191). -/
inductive ReadEnd where
  | flips (n : Nat) | wrongAddress | cxlPoison
  deriving DecidableEq, Repr

/-- How a priming step ends (R494, Table PF-4): a failure with the sump cause and the place of the unit error that caused it;
cause 0 where no unit error did. -/
inductive StepEnd where
  | pass
  | fail (cause : Nat) (place : Place)
  deriving DecidableEq, Repr

/-- What PM10 finds on an SSD (R386, R387): the bytes of its namespace 1, and which of its superblock slots A and B no longer read
back as the device last wrote them. -/
structure SsdProbe where
  bytes : Nat
  badA : Bool
  badB : Bool
  deriving DecidableEq, Repr

/-- What PM05 finds on an LPDDR5X channel (R172, R185): the type and the GiB of the device that responds, and whether its
training, or the check of its stored settings, succeeded. -/
structure ChanProbe where
  dev : Option (Nat × Nat)
  trained : Bool
  deriving DecidableEq, Repr

end Sys2Proof
end

