-- ==== Sys2Proof/Syntax.lean ====
section
/-!
DEFINITION. The commands of the device, one constructor per row of spec/opcode_table.json. A core instruction carries the core
that executes the bundle at its program counter; a host command carries the SEQ that its acceptance gave it; an event
carries what the outside, or one of the device's engines, brings with it.
-/
set_option autoImplicit false

namespace Sys2Proof

inductive Instr where
  /-- ADDI (R60): A pump or windlass core executes ADDI, writing rs1 plus the immediate modulo 2^32 to rd. -/
  | addi (core : Fin 84)
  /-- ANDI (R60): A core executes ANDI, the bitwise AND of rs1 with the immediate. -/
  | andi (core : Fin 84)
  /-- ORI (R60): A core executes ORI, the bitwise OR of rs1 with the immediate. -/
  | ori (core : Fin 84)
  /-- XORI (R60): A core executes XORI, the bitwise XOR of rs1 with the immediate. -/
  | xori (core : Fin 84)
  /-- SLTI (R60): A core executes SLTI, setting rd to 1 when rs1 is less than the immediate as signed values. -/
  | slti (core : Fin 84)
  /-- MULI (R60): A core executes MULI, writing the low 32 bits of rs1 times the immediate. -/
  | muli (core : Fin 84)
  /-- ADDAI (R60): A core executes ADDAI, adding the sign-extended immediate to an address register modulo 2^48. -/
  | addai (core : Fin 84)
  /-- VIMM (R60): A pump executes VIMM, setting every lane of a vector register to the immediate. -/
  | vimm (core : Fin 84)
  /-- SALU (R61): A core executes a scalar ALU function of Table YI-6, including jumps JR and JALR. -/
  | salu (core : Fin 84)
  /-- PRED (R67): A pump executes a predicate function, unmasked, writing a predicate or scalar. -/
  | pred (core : Fin 84)
  /-- LDL (R72): A core loads sign-extended data from its pail, cistern window or local memory, optionally post-updating the base. -/
  | ldl (core : Fin 84)
  /-- LDLU (R72): A core loads zero-extended scalar data from local space. -/
  | ldlu (core : Fin 84)
  /-- STL (R72): A core stores to local space, raising CODE_WRITE on a store into the code region. -/
  | stl (core : Fin 84)
  /-- LDG (R75): A core issues a global load, held at issue until translation resolves, with data returning asynchronously. -/
  | ldg (core : Fin 84)
  /-- STG (R72): A core issues a translated global store. -/
  | stg (core : Fin 84)
  /-- BCC (R68): A core executes a conditional branch testing a scalar register. -/
  | bcc (core : Fin 84)
  /-- BP (R68): A pump executes a branch testing a predicate register. -/
  | bp (core : Fin 84)
  /-- JAL (R68): A core executes JAL, linking s31 and jumping pc-relative. -/
  | jal (core : Fin 84)
  /-- LOOP (R77): A core arms hardware loop n with a count read from a scalar register. -/
  | loop (core : Fin 84)
  /-- VALU (R62): A pump executes a vector ALU function of Table YI-7, setting SAT when a saturating function clips. -/
  | valu (core : Fin 84)
  /-- VCMP (R63): A pump compares vector lanes and writes a predicate register. -/
  | vcmp (core : Fin 84)
  /-- VPERM (R64): A pump executes a lane permutation function. -/
  | vperm (core : Fin 84)
  /-- VMAC (R65): A pump executes a multiply-accumulate, accumulator load or extract function of Table YI-8. -/
  | vmac (core : Fin 84)
  /-- VLUT (R66): A pump reads or interpolates a lookup table of the well's lookup assist. -/
  | vlut (core : Fin 84)
  /-- SIN (R79): A pump consumes the head data word of an in-port, stalling while empty. -/
  | sin (core : Fin 84)
  /-- SOUT (R79): A pump appends a data word to an out-port, stalling while the channel is full. -/
  | sout (core : Fin 84)
  /-- SMARKR (R79): A pump consumes the head marker of an in-port into a scalar register. -/
  | smarkr (core : Fin 84)
  /-- SMARKW (R79): A pump appends an EOL or EOS marker to an out-port. -/
  | smarkw (core : Fin 84)
  /-- SAVAIL (R79): A pump reads the items held or free places of a port without stalling. -/
  | savail (core : Fin 84)
  /-- SHEAD (R79): A pump reads the kind of the head item of an in-port without stalling. -/
  | shead (core : Fin 84)
  /-- CRD (R83): A core reads a control register. -/
  | crd (core : Fin 84)
  /-- CWR (R83): A core writes every bit of a control register. -/
  | cwr (core : Fin 84)
  /-- CSET (R83): A core sets named bits of a control register. -/
  | cset (core : Fin 84)
  /-- CCLR (R83): A core clears named bits of a control register, clearing W1C flags. -/
  | cclr (core : Fin 84)
  /-- YIELD (R117): A task yields; a real-time task ends its strip, with missing end markers appended as SKIP. -/
  | yield (core : Fin 84)
  /-- HALT (R69): A pump task ends. -/
  | halt (core : Fin 84)
  /-- SVC (R69): A background task or windlass Task-mode code makes a service request. -/
  | svc (core : Fin 84)
  /-- WDKICK (R93): A core reloads its watchdog count from PIPE_WDOG_LIM. -/
  | wdkick (core : Fin 84)
  /-- FENCE (R69): A core waits until its earlier global loads complete and stores are visible to all agents. -/
  | fence (core : Fin 84)
  /-- IFLUSH (R69): A windlass core discards fetched bundles so fetch sees earlier local stores. -/
  | iflush (core : Fin 84)
  /-- SKIPSTRIP (R69): A real-time task starts a strip skip without a fault record. -/
  | skipstrip (core : Fin 84)
  /-- RESUME (R49): A windlass core continues at PIPE_EPC in the mode held in RMODE. -/
  | resume (core : Fin 84)
  /-- RESUMEI (R69): A windlass core resumes and sets IE in the same step. -/
  | resumei (core : Fin 84)
  /-- WAITI (R69): A windlass core waits until an interrupt is pending. -/
  | waiti (core : Fin 84)
  /-- GLOBAL_LOAD_RETURN (R75): Data of an outstanding global load return; poisoned data zero the destination and set PSN. -/
  | globalLoadReturn (core : Fin 84) (load : Nat)
  /-- WATCHDOG (R93): A core's watchdog count reaches 0 and raises watchdog between bundles. -/
  | watchdog (core : Fin 84)
  /-- WINDLASS_INTERRUPT (R92): A pending interrupt with IE set is taken between bundles into Supervisor mode at PIPE_ENTRY. -/
  | windlassInterrupt (core : Fin 4) (source : Option Byte)
  /-- STRIP_SKIP (R94): A real-time task abandons its strip, writing SKIP markers, draining in-ports to their end markers and restarting at PIPE_STRIP_ENTRY. -/
  | stripSkip (core : Fin 80)
  /-- PREEMPT_REQUEST (R96): A pump is pre-empted at a bundle boundary in favour of another task. -/
  | preemptRequest (core : Fin 80) (slot : Nat)
  /-- LOAD_PROGRAM (R103): The device verifies a program image's header and signature and stores it, returning a program handle. -/
  | loadProgram (seq : Nat)
  /-- BUILD_GRAPH (R105): The device checks a graph descriptor against its limits and binds its stages, returning a graph handle. -/
  | buildGraph (seq : Nat)
  /-- START_GRAPH (R125): The device computes well utilisation, admits and arms a graph. -/
  | startGraph (seq : Nat)
  /-- STOP_GRAPH (R141): A graph stops at a boundary or at once, returning its leases. -/
  | stopGraph (seq : Nat)
  /-- RELEASE_GRAPH (R140): A stopped graph is released. -/
  | releaseGraph (seq : Nat)
  /-- SET_PARAMETERS (R126): A new parameter block, and optionally tables, is written into the pending copies of a stage and context, naming an effect frame. -/
  | setParameters (seq : Nat)
  /-- SET_PARAMS_BANK_FREE (R128): A SET PARAMETERS waiting for a free lookup bank proceeds once the older frame in flight has finished. -/
  | setParamsBankFree (seq : Nat)
  /-- REPLACE_PROGRAM (R129): A new image is substituted in a running stage from the first frame after completion. -/
  | replaceProgram (seq : Nat)
  /-- STRIP_DISPATCH (R121): A hardware dispatcher assigns a ready strip to a pump and writes its strip record. -/
  | stripDispatch (graph : Nat)
  /-- PILOT_COVER_STRIP_DONE (R261): The pilot path finishes processing a covered strip into the graph's SINK. -/
  | pilotCoverStripDone
  /-- RT_STALL_PREEMPT (R123): A real-time task stalled for more than 2 µs is pre-empted for a higher-ranked ready strip. -/
  | rtStallPreempt (core : Fin 80)
  /-- BG_QUANTUM_EXPIRY (R120): A background task's 200 µs quantum expires and an equal-priority task pre-empts it. -/
  | bgQuantumExpiry (core : Fin 80)
  /-- FRAME_ADMIT (R130): A waiting frame of a context is admitted once at most one earlier frame is unfinished. -/
  | frameAdmit (graph : Nat) (ctx : Fin 5)
  /-- FRAME_PUBLISH (R134): The SINK siphon repairs SKIPPED strip areas from the previous frame and publishes the frame. -/
  | framePublish (graph : Nat) (ctx : Fin 5)
  /-- PUMP_WITHDRAW (R137): Well control withdraws a pump from dispatch for self-test or retirement. -/
  | pumpWithdraw (core : Fin 80)
  /-- PUMP_SELF_TEST_START (R137): 80 pump cycles after substitution the pump's self-test starts. -/
  | pumpSelfTestStart (core : Fin 80)
  /-- CISTERN_COPY_DONE (R139): The copy of a cistern sub-bank into the empty one completes and its march starts. -/
  | cisternCopyDone (well : Fin 16)
  /-- BOUNDARY_TIMEOUT (R141): A STOP_AT_BOUNDARY exceeds its limit and becomes STOP_NOW. -/
  | boundaryTimeout (kind : Fin 13) (index : Nat)
  /-- CREATE_SPACE (R147): A new address space is created. -/
  | createSpace (seq : Nat)
  /-- DESTROY_SPACE (R147): An address space is destroyed with all its mappings, or refused with BUSY. -/
  | destroySpace (seq : Nat)
  /-- MAP_MEMORY (R148): A range is mapped with attributes, pinned mappings backed at once. -/
  | mapMemory (seq : Nat)
  /-- UNMAP_MEMORY (R154): A range is unmapped at an invalidation point, held while leased. -/
  | unmapMemory (seq : Nat)
  /-- REMAP_MEMORY (R154): A translation of a range is replaced at an invalidation point. -/
  | remapMemory (seq : Nat)
  /-- PIN_MEMORY (R150): Pages are backed and entered in the pinned translation table. -/
  | pinMemory (seq : Nat)
  /-- UNPIN_MEMORY (R154): Pages are removed from the pinned table at an invalidation point. -/
  | unpinMemory (seq : Nat)
  /-- INVALIDATION_POINT (R154): Old translations leave every cache and pinned copy and the waiting command completes. -/
  | invalidationPoint (walk : Nat)
  /-- LEASE_RETIRE (R158): A lease retires when the last access of its frame completes. -/
  | leaseRetire (lease : Nat)
  /-- LEASE_BROKEN (R161): A pending unmap waits 3 frame periods, then aborts holders' frames and completes with LEASE_BROKEN. -/
  | leaseBroken (lease : Nat)
  /-- TRANSLATION_RESOLVE (R153): A translation resolves by cache, pinned table or page walk, or faults. -/
  | translationResolve (walk : Nat)
  /-- FAULT_SERVICE (R157): Firmware services a NOT_PRESENT fault by allocating a zeroed page, or ends the task or channel with TRANSLATION. -/
  | faultService (requester : Requester) (resume : Bool)
  /-- PAGE_MOVE (R150): Firmware moves a pageable page to other memory of the same kind as a remap. -/
  | pageMove (asid : BitVec 12) (va : BitVec 48)
  /-- MEMORY_READ_COMPLETE (R173): A local DRAM or CXL read returns data, corrected, poisoned or clean. -/
  | memoryReadComplete (requester : Requester) (pa : BitVec 52) (bank : Nat) (row : Nat) (how : ReadEnd)
  /-- PATROL_SCRUB (R178): Patrol scrub reads each burst once every 24 hours. -/
  | patrolScrub (pa : BitVec 52) (bank : Nat) (row : Nat) (how : ReadEnd)
  /-- SELF_REFRESH_ENTRY (R179): An idle channel enters self-refresh after the idle time. -/
  | selfRefreshEntry (channel : Fin 24) (idle : Word32)
  /-- SELF_REFRESH_EXIT (R179): A request to a channel in self-refresh waits up to 2 µs for exit. -/
  | selfRefreshExit (channel : Fin 24)
  /-- REFRESH_INTERVAL (R175): A per-bank refresh falls due and is done, or postponed under PANIC. -/
  | refreshInterval (channel : Fin 24) (waiting : List Requester)
  /-- DQS_OSCILLATOR_CHECK (R180): Each channel reads its DQS oscillator every 1 ms and retrains write timing on drift. -/
  | dqsOscillatorCheck (channel : Fin 24) (drift : Bool) (retrained : Bool)
  /-- ZQ_CALIBRATION (R180): ZQ calibration runs every 32 ms. -/
  | zqCalibration (channel : Fin 24)
  /-- WRITE_QUEUE_DRAIN (R174): A channel drains writes in a batch when 48 write-queue entries are full. -/
  | writeQueueDrain (channel : Fin 24) (filled : Fin 65) (writers : List Requester)
  /-- FLOAT_CROSSING (R182): A float's level crosses ON or OFF, asserting or releasing panic. -/
  | floatCrossing (float : Fin 128) (level : BitVec 14)
  /-- REGULATOR_WINDOW (R183): Each 1 µs window a controller decides whether regulators engage for the next window. -/
  | regulatorWindow (controller : Fin 12) (share : Fin 101)
  /-- CHANNEL_LASTING_FAULT (R185): A channel found with a lasting fault is spared out or fenced. -/
  | channelLastingFault (channel : Fin 24) (why : ChanFault)
  /-- SPARE_OUT_DONE (R186): The spare-out copy ends, the channel becomes spared out and CAPACITY is posted. -/
  | spareOutDone
  /-- CXL_EVENT_RECORD (R191): Firmware reads an expander event record and writes it to the sump. -/
  | cxlEventRecord (port : Fin 2) (addr : Word64) (bytes : List Byte)
  /-- CXL_LANE_RETRAIN (R192): A CXL port retrains at reduced width after a lane failure and posts BANDWIDTH. -/
  | cxlLaneRetrain (port : Fin 2) (width : Nat)
  /-- CXL_MEMORY_UNAVAILABLE (R193): A CXL port fails to retrain in 100 ms; recording stops, the journal falls back and layers become absent. -/
  | cxlMemoryUnavailable (port : Fin 2)
  /-- START_SIPHON (R164): A background siphon channel starts a descriptor chain. -/
  | startSiphon (seq : Nat)
  /-- STOP_SIPHON (R171): A background siphon channel stops at a descriptor or 256-byte boundary. -/
  | stopSiphon (seq : Nat)
  /-- SIPHON_DESCRIPTOR_DONE (R167): A siphon completes a descriptor, writes PROGRESS and STATUS and moves to the next. -/
  | siphonDescriptorDone (chan : Nat)
  /-- SIPHON_RT_WORK (R165): Siphon 0 starts real-time SOURCE, SINK or repair work, pre-empting background channels. -/
  | siphonRtWork (well : Fin 16) (units : Nat)
  /-- CONFIGURE_SENSOR_PORT (R222): Port and context settings are staged or applied and the effect frame named. -/
  | configureSensorPort (seq : Nat)
  /-- START_SENSOR_PORT (R206): A port or sub-port starts and begins alignment. -/
  | startSensorPort (seq : Nat)
  /-- ALIGNMENT_DONE (R206): Every lane shows the training word for 16 intervals and the port runs. -/
  | alignmentDone (ctx : Fin 5) (lanes : List (Nat × Nat))
  /-- ALIGNMENT_TIMEOUT (R206): Alignment fails within 2,048 line times and the port enters fault with NO_ALIGN. -/
  | alignmentTimeout (ctx : Fin 5) (failing : List Nat)
  /-- STOP_SENSOR_PORT (R224): A port or sub-port stops at a frame boundary or at once. -/
  | stopSensorPort (seq : Nat)
  /-- SENSOR_CLOCK_WINDOW (R200): A 10 µs window of a forwarded clock's monitor ends, declaring a clock fault if out of range. -/
  | sensorClockWindow (ctx : Fin 5) (clock : Fin 2) (ppm : Option Int)
  /-- SENSOR_FRAME_START (R210): A frame start is accepted or rejected; staged changes, tracking and genlock checks apply. -/
  | sensorFrameStart (ctx : Fin 5) (edge : SyncEdge)
  /-- SENSOR_LINE (R201): A line arrives whole, is checked and stored in the ingest buffer, or counted stray or long. -/
  | sensorLine (ctx : Fin 5) (line : SnsLine)
  /-- SENSOR_EXP_EDGE (R203): An EXP rising edge stamps the exposure start, later edges counted. -/
  | sensorExpEdge (ctx : Fin 5) (edge : SyncEdge)
  /-- SENSOR_FRAME_END (R211): A frame ends at its last line, FV fall or frame-end code. -/
  | sensorFrameEnd (ctx : Fin 5) (edge : SyncEdge)
  /-- LINE_TIMEOUT (R211): No line start within 4 line times ends the frame SHORT. -/
  | lineTimeout (ctx : Fin 5)
  /-- FRAME_TIMEOUT (R212): No frame start by the frame timeout opens a STALE period. -/
  | frameTimeout (ctx : Fin 5)
  /-- BLANKING_CHECK (R207): Each lane's training word is checked in a blanking interval. -/
  | blankingCheck (ctx : Fin 5) (bad : List Nat)
  /-- RAW_ROW_VISIBLE (R220): Ingest write-out makes a row visible in the raw frame buffer. -/
  | rawRowVisible (ctx : Fin 5)
  /-- CALIBRATE_SENSOR_PORT (R225): A calibration unit's lanes are measured with the shadow samplers. -/
  | calibrateSensorPort (seq : Nat)
  /-- CAL_MEASUREMENT_DONE (R227): Measurement ends and the result is accepted or rejected. -/
  | calMeasurementDone (unit : Fin 6) (eyes : List LaneEye)
  /-- CAL_TAP_STEP (R228): Every 4 line times in the window each lane's tap moves one step. -/
  | calTapStep (unit : Fin 6)
  /-- CAL_WINDOW_CLOSE (R228): The window closes after 48 line times; the set is stored or the old values restored. -/
  | calWindowClose (unit : Fin 6)
  /-- OB_TRACK_UPDATE (R248): When every strip of a frame finishes, the tracked black level is updated. -/
  | obTrackUpdate (graph : Nat) (ctx : Fin 5)
  /-- CONFIGURE_PILOT (R262): A pilot block is staged for a context, optionally saved as the start-up set. -/
  | configurePilot (seq : Nat)
  /-- START_PILOT (R263): Pilot service of a context starts into a SINK frame buffer. -/
  | startPilot (seq : Nat)
  /-- STOP_PILOT (R268): Pilot service stops at a boundary or at once. -/
  | stopPilot (seq : Nat)
  /-- PILOT_FRAME_DONE (R259): The pilot path finishes a service frame and publishes it marked PILOT. -/
  | pilotFrameDone
  /-- PILOT_ERROR (R268): An uncorrected pilot error sheds the covered strip, drops the service frame and enters fault. -/
  | pilotError (check : Byte) (state : List Byte)
  /-- START_COMPOSITOR (R273): A compositor starts with its block of buffers and layers. -/
  | startCompositor (seq : Nat)
  /-- SET_LAYERS (R275): New layer entries apply from the compositor's next frame start. -/
  | setLayers (seq : Nat)
  /-- STOP_COMPOSITOR (R308): A compositor stops at a boundary or at once. -/
  | stopCompositor (seq : Nat)
  /-- COMPOSITE_RELEASE (R274): A complete composite is guard-checked and released to readers. -/
  | compositeRelease (comp : Fin 4)
  /-- CONFIGURE_FLOW (R281): A flow descriptor is applied or staged. -/
  | configureFlow (seq : Nat)
  /-- START_FLOW (R298): A flow starts after rate, port and safe-image checks. -/
  | startFlow (seq : Nat)
  /-- STOP_FLOW (R308): A flow stops at a boundary or at once. -/
  | stopFlow (seq : Nat)
  /-- PACKET_SEND (R297): A scheduled ST 2110 packet of a flow leaves, black when its line is not ready. -/
  | packetSend (flow : Fin 512) (ready : Bool)
  /-- FLOW_REGION_SIGNATURE (R295): A flow region's signature completes after its last line and is checked. -/
  | flowRegionSignature (flow : Fin 512) (region : Fin 32)
  /-- MEMORY_FLOW_FRAME_DONE (R303): A memory flow frame becomes visible in its ring buffer. -/
  | memoryFlowFrameDone (flow : Fin 512)
  /-- LOAD_SCALING_PROFILE (R283): A scaling profile is loaded into a spout. -/
  | loadScalingProfile (seq : Nat)
  /-- LOAD_TONE_PROFILE (R286): A tone profile is loaded into a spout. -/
  | loadToneProfile (seq : Nat)
  /-- SET_GUARDS (R290): Guarded regions of a compositor or flow are set. -/
  | setGuards (seq : Nat)
  /-- ARM_GUARDS (R292): Guarded regions are armed from the next frame. -/
  | armGuards (seq : Nat)
  /-- DISARM_GUARDS (R292): Guard checking stops from the next frame start. -/
  | disarmGuards (seq : Nat)
  /-- LOAD_SAFE_IMAGE (R295): A safe or substitute image is loaded for a flow. -/
  | loadSafeImage (seq : Nat)
  /-- GET_FLOW_SDP (R301): The SDP of a network flow is returned. -/
  | getFlowSdp (seq : Nat)
  /-- START_RASTER (R304): A monitor raster starts after timing checks. -/
  | startRaster (seq : Nat)
  /-- STOP_RASTER (R308): A raster stops and its clones with it. -/
  | stopRaster (seq : Nat)
  /-- RELEASE_RASTER (R308): A stopped raster is released and stops sending black. -/
  | releaseRaster (seq : Nat)
  /-- RASTER_UNDERRUN (R305): A raster line not ready when due aborts the frame to black. -/
  | rasterUnderrun (raster : Fin 16)
  /-- RASTER_LINE_READBACK (R306): The near-end receiver compares a line's CRC with that sent. -/
  | rasterLineReadback (raster : Fin 16) (ok : Bool)
  /-- START_RECORDING (R313): A clip opens and recording of a context begins at the next frame. -/
  | startRecording (seq : Nat)
  /-- STOP_RECORDING (R332): Recording stops at a boundary or at once and the clip closes. -/
  | stopRecording (seq : Nat)
  /-- BAND_READY (R316): A band becomes ready and its band-planes are dispatched to compressors. -/
  | bandReady (ctx : Fin 5) (band : Nat)
  /-- BAND_PLANE_DONE (R322): A compressor finishes and verifies a band-plane's blocks. -/
  | bandPlaneDone (compressor : Fin 4) (bad : List Nat)
  /-- START_ENCODER (R335): An HEVC encoder session starts. -/
  | startEncoder (seq : Nat)
  /-- SET_ENCODER_PARAMETERS (R339): Encoder parameters change from the effect picture. -/
  | setEncoderParameters (seq : Nat)
  /-- STOP_ENCODER (R351): An encoder session stops at a boundary or at once. -/
  | stopEncoder (seq : Nat)
  /-- ENCODER_ROW_DONE (R346): A CTU row slice is coded and its chunk written to the ring. -/
  | encoderRowDone (core : Fin 2) (row : EncRow)
  /-- ENCODER_PICTURE_DONE (R346): The suffix chunk is written and the picture record completed. -/
  | encoderPictureDone (core : Fin 2) (hash : List Byte) (filler : List Byte)
  /-- ENCODER_CORE_ERROR (R350): An uncorrected encoder error abandons the picture and starts the core's self-test. -/
  | encoderCoreError (core : Fin 2) (check : Byte) (state : List Byte)
  /-- START_DECODER (R357): The decoder starts in SEEKING. -/
  | startDecoder (seq : Nat)
  /-- RESTART_DECODER (R357): The decoder re-enters SEEKING. -/
  | restartDecoder (seq : Nat)
  /-- STOP_DECODER (R358): The decoder stops at a boundary or at once. -/
  | stopDecoder (seq : Nat)
  /-- DECODER_NAL (R354): The decoder consumes a NAL unit once available in its input ring. -/
  | decoderNal (length : Nat) (result : NalResult)
  /-- DECODER_CORE_ERROR (R358): An uncorrected decoder error acts as FAULT and starts self-test. -/
  | decoderCoreError (check : Byte) (state : List Byte)
  /-- DOORBELL_WRITE (R362): The host writes a submission or completion queue doorbell. -/
  | doorbellWrite (completion : Bool) (queue : Word16) (value : Word32)
  /-- COMMAND_FETCH (R369): The queue front fetches and accepts a command, taking a context and SEQ and writing its journal record. -/
  | commandFetch (queue : Word16) (entry : Sqe) (data : List Byte)
  /-- CONTROLLER_ENABLE (R499): The host sets CC.EN and the controller becomes ready. -/
  | controllerEnable (asq : Nat) (acq : Nat)
  /-- CONTROLLER_RESET (R375): A controller reset stops fetching and aborts accepted commands. -/
  | controllerReset
  /-- SHUTDOWN_NOTIFICATION (R377): The device persists the write buffer and checkpoints the journal. -/
  | shutdownNotification (shn : BitVec 2)
  /-- CREATE_IO_SQ (R360): An I/O submission queue is created. -/
  | createIoSq (seq : Nat)
  /-- DELETE_IO_SQ (R376): An I/O submission queue is deleted after its started commands end. -/
  | deleteIoSq (seq : Nat)
  /-- CREATE_IO_CQ (R360): An I/O completion queue is created. -/
  | createIoCq (seq : Nat)
  /-- DELETE_IO_CQ (R360): An I/O completion queue is deleted. -/
  | deleteIoCq (seq : Nat)
  /-- GET_LOG_PAGE (R381): A log page, such as the event log, is returned. -/
  | getLogPage (seq : Nat)
  /-- IDENTIFY (R360): Identify data are returned. -/
  | identify (seq : Nat)
  /-- ABORT (R374): An Abort races its target for ACCEPTED to ABORTED. -/
  | abort (seq : Nat)
  /-- SET_FEATURES (R360): A supported feature is set. -/
  | setFeatures (seq : Nat)
  /-- SET_POWER_STATE (R379): Set Features Power Management changes power state. -/
  | setPowerState (seq : Nat)
  /-- PS2_BUFFER_EMPTY (R380): During PS2 entry the empty write buffer pauses fetching. -/
  | ps2BufferEmpty
  /-- PS2_DRAIN_DONE (R380): Running commands finish or 2 s pass; channels self-refresh and pixel dies gate. -/
  | ps2DrainDone (timeout : Bool)
  /-- GET_FEATURES (R360): A feature value is returned. -/
  | getFeatures (seq : Nat)
  /-- ASYNCHRONOUS_EVENT_REQUEST (R381): An AER is held for the next event. -/
  | asynchronousEventRequest (seq : Nat)
  /-- FIRMWARE_IMAGE_DOWNLOAD (R522): Image data are written into the inactive slot. -/
  | firmwareImageDownload (seq : Nat)
  /-- FIRMWARE_COMMIT (R522): The inactive slot is verified and committed for the next reset. -/
  | firmwareCommit (seq : Nat)
  /-- FIRMWARE_ACTIVATE (R378): Commit with CA 0b011 loads the new image beside the old. -/
  | firmwareActivate (seq : Nat)
  /-- FW_ACTIVATION_PAUSE (R378): Loading done, fetching pauses. -/
  | fwActivationPause
  /-- FW_ACTIVATION_SWITCH (R378): Started commands reach a step boundary and the cores switch image. -/
  | fwActivationSwitch
  /-- FW_SELF_CHECK_PASS (R378): The self-check passes; paused commands start and held events post. -/
  | fwSelfCheckPass
  /-- FW_SELF_CHECK_FAIL (R378): The self-check fails or times out at 1.8 s; cores revert. -/
  | fwSelfCheckFail
  /-- FLUSH (R373): A Flush completes once earlier writes and frame units are on media. -/
  | flush (seq : Nat)
  /-- WRITE (R372): Host data are written into the write buffer. -/
  | write (seq : Nat)
  /-- WRITE_BUFFER_ROOM (R372): A waiting Write proceeds when host write share frees. -/
  | writeBufferRoom
  /-- READ (R371): Data are read from buffer, ring or media. -/
  | read (seq : Nat)
  /-- WRITE_ZEROES (R371): Host namespace blocks are zeroed. -/
  | writeZeroes (seq : Nat)
  /-- DATASET_MANAGEMENT (R371): Host namespace ranges are deallocated. -/
  | datasetManagement (seq : Nat)
  /-- STORE_WRITE_DONE (R392): An SSD write completes; full slots on media are freed. -/
  | storeWriteDone (part : StoreDone)
  /-- INDEX_PAGE_FLUSH (R391): Index pages reach media at least once per second. -/
  | indexPageFlush (slot : Word16)
  /-- EXTENT_NEEDED (R394): A stream needs a new extent; none free stops the clip MEDIA_FULL. -/
  | extentNeeded (ctx : Fin 5)
  /-- CLIP_CLOSE (R393): The last index page, manifest and clip record are written and CLIP_CLOSED posted. -/
  | clipClose (ctx : Fin 5)
  /-- MANIFEST_READBACK_DONE (R532): Extent digests of a recovered clip are recomputed and the manifest signed. -/
  | manifestReadbackDone (slot : Word16) (bad : List Nat)
  /-- REGISTER_WRITE (R383): Consecutive device registers without a row of their own are written. -/
  | registerWrite (seq : Nat)
  /-- REGISTER_READ (R383): Consecutive device registers are read. -/
  | registerRead (seq : Nat)
  /-- READ_JOURNAL (R400): Journal records from a SEQ are returned. -/
  | readJournal (seq : Nat)
  /-- CONFIGURE_STORE (R396): Store sizes change, or the store is formatted. -/
  | configureStore (seq : Nat)
  /-- READ_SUMP (R505): Sump entries from an SSEQ are returned. -/
  | readSump (seq : Nat)
  /-- READ_RETAINED_RECORD (R492): The last committed retained record is returned. -/
  | readRetainedRecord (seq : Nat)
  /-- READ_INVENTORY (R402): Pending SEQs and live objects are listed. -/
  | readInventory (seq : Nat)
  /-- READ_FRAME_RECORDS (R569): Frame, output or picture records from a number are returned. -/
  | readFrameRecords (seq : Nat)
  /-- LIST_CLIPS (R366): Clip record heads are returned. -/
  | listClips (seq : Nat)
  /-- RELEASE_PROGRAM (R365): An unbound program is released. -/
  | releaseProgram (seq : Nat)
  /-- RELEASE_IMAGE (R365): A safe or substitute image is released. -/
  | releaseImage (seq : Nat)
  /-- CLIP_DELETE (R393): A closed unprotected clip is deleted and its extents freed. -/
  | clipDelete (seq : Nat)
  /-- CLIP_PROTECT (R393): A clip is marked PROTECTED. -/
  | clipProtect (seq : Nat)
  /-- CLIP_UNPROTECT (R393): A clip's protection is removed. -/
  | clipUnprotect (seq : Nat)
  /-- SAFE_ALL (R385): Every network flow sends its safe image and every raster black. -/
  | safeAll (key : Byte)
  /-- SAFE_CLEAR (R385): SAFE_ALL ends from each unit's next frame start. -/
  | safeClear (key : Byte)
  /-- FETCH_HALT (R385): Fetching stops until CC.EN next falls. -/
  | fetchHalt (key : Byte)
  /-- REC_STOP (R385): Every recording stops as STOP_NOW. -/
  | recStop (key : Byte)
  /-- JOURNAL_CHECKPOINT (R401): HEAD and the newest records are committed every 600 s. -/
  | journalCheckpoint
  /-- BAR0_BAD_ACCESS (R41): A misaligned BAR0 access is refused and logged. -/
  | bar0BadAccess (offset : Word32) (width : Nat) (isWrite : Bool) (value : Word64)
  /-- DEBUG_WINDOW_ACCESS (R42): A debug-window access reaches registers, or is refused when locked. -/
  | debugWindowAccess (window : Fin 4) (offset : BitVec 18) (isWrite : Bool) (value : Word32)
  /-- FLIT_CRC_RETRY (R25): A die-link flit failing CRC is retried; eight failures take the link down. -/
  | flitCrcRetry (link : Fin 3) (far : Bool) (linkLane : Fin 64) (ok : Bool)
  /-- DIE_LINK_RETRAINED (R27): A die link returns to service. -/
  | dieLinkRetrained (link : Fin 3)
  /-- TIME_COUNT_BROADCAST (R38): Every 32 ns the time unit sends its count to every island. -/
  | timeCountBroadcast
  /-- LANE_SIGNAL_DETECT (R411): A lane detects a partner and leaves DETECT. -/
  | laneSignalDetect (lane : Fin 96)
  /-- TRAINING_REQUEST (R414): A partner's transmitter tap request is answered. -/
  | trainingRequest (lane : Fin 96) (request : TrainReq)
  /-- LANE_TRAINING_DONE (R414): Training completes on a lane. -/
  | laneTrainingDone (lane : Fin 96)
  /-- LANE_BIT_LOCK (R418): A lane gains bit lock. -/
  | laneBitLock (lane : Fin 96)
  /-- LANE_BLOCK_LOCK (R418): A lane gains block or marker lock and holds for its link. -/
  | laneBlockLock (lane : Fin 96)
  /-- LINK_CAPEX_DONE (R411): The exchange completes and the link's lanes enter ACTIVE. -/
  | linkCapexDone (lane : Fin 96) (rate : Fin 8)
  /-- FLOW_RESUME (R424): Flows resume at their first frame start after 100 ms up. -/
  | flowResume (port : Fin 6) (member : Fin 4)
  /-- BRINGUP_TIMEOUT (R412): An Ethernet bring-up not ACTIVE in time fails. -/
  | bringupTimeout (lane : Fin 96)
  /-- BRINGUP_RETRY (R425): A port tries bring-up again every 10 s. -/
  | bringupRetry (lane : Fin 96)
  /-- LANE_LOCK_LOSS (R423): A lane loses bit or block lock in service. -/
  | laneLockLoss (lane : Fin 96) (cause : Fin 2)
  /-- ADAPTATION_FREEZE (R421): After 4,096 idle blocks adaptation freezes. -/
  | adaptationFreeze (lane : Fin 96)
  /-- ADAPTATION_RESUME (R421): After 256 data blocks adaptation resumes. -/
  | adaptationResume (lane : Fin 96)
  /-- LANE_DRIFT (R422): A coefficient at its bound 10 ms raises LANE_DRIFT. -/
  | laneDrift (lane : Fin 96) (coefficient : Byte) (value : Word16) (quiet : Nat)
  /-- LANE_FENCE (R426): A PCIe or CXL lane left out of its link is fenced and tested. -/
  | laneFence (lane : Fin 96) (width : Nat) (rate : Fin 8)
  /-- ENDPOINT_LINK_DOWN (R427): PCIe endpoint link-down acts as a controller reset. -/
  | endpointLinkDown
  /-- NVME_ROOT_PORT_LOSS (R428): A root port not back in 1 s marks its SSD failed. -/
  | nvmeRootPortLoss (ssd : Fin 4)
  /-- REFCLK_WINDOW (R408): A lane reference clock window ends, raising or clearing REFCLK_FAULT. -/
  | refclkWindow (island : Fin 6) (ppm : Option Int)
  /-- LANE_TEST (R431): A LANE_CTL write starts a lane self-test. -/
  | laneTest (lane : Fin 96)
  /-- LANE_RETRY (R439): A LANE_CTL write clears FAULT and FAILS and starts bring-up. -/
  | laneRetry (lane : Fin 96)
  /-- LANE_TEST_DONE (R431): A lane self-test ends with a verdict. -/
  | laneTestDone (lane : Fin 96) (errors : Word32) (checked : Word64)
  /-- LANE_EQ_WRITE (R439): A transmitter setting is written or refused. -/
  | laneEqWrite (lane : Fin 96) (value : Word32)
  /-- LANE_GRP_SEL_WRITE (R439): A group selection is stored for the next priming. -/
  | laneGrpSelWrite (value : Word32)
  /-- ETH_IP_WRITE (R439): A port IPv4 address is written, or refused while flows use the port. -/
  | ethIpWrite (port : Fin 6) (value : Word32)
  /-- ETH_FRAME_RECEIVED (R433): An Ethernet frame is received and answered, passed to PTP, or dropped. -/
  | ethFrameReceived (port : Fin 6) (frame : EthFrame)
  /-- ARP_REFRESH (R433): Unicast destinations are resolved again every 60 s. -/
  | arpRefresh (port : Fin 6)
  /-- SDI_RATE_STEER (R409): SDI PLL rate follows the time increment. -/
  | sdiRateSteer
  /-- TIME_INC_WRITE (R460): A new increment applies at the next tick. -/
  | timeIncWrite (upper : Bool) (value : Word32)
  /-- TIME_STEP_WRITE (R443): A host step is applied and trigger units rearranged. -/
  | timeStepWrite (upper : Bool) (value : Word32)
  /-- TIME_NOW_SNAPSHOT (R460): A TIME_NOW_LO read snapshots the whole count. -/
  | timeNowSnapshot
  /-- PTP_ANNOUNCE (R445): An Announce updates the port's best master and port selection. -/
  | ptpAnnounce (port : Fin 6) (message : PtpAnnounce)
  /-- PTP_SYNC (R446): A Sync forms an offset sample and drives the servo. -/
  | ptpSync (port : Fin 6) (message : PtpSyncMsg)
  /-- PTP_FOLLOW_UP (R446): A Follow_Up completes a two-step sample. -/
  | ptpFollowUp (port : Fin 6) (source : Word64) (seqId : Word16) (t1 : Int) (corr : Int)
  /-- PTP_DELAY_RESP (R446): A Delay_Resp gives a path-delay sample. -/
  | ptpDelayResp (port : Fin 6) (seqId : Word16) (t4 : Int) (corr : Int)
  /-- DELAY_REQ_SEND (R451): A Delay_Req is sent one-step each Sync interval. -/
  | delayReqSend (port : Fin 6) (raw : Int)
  /-- ANNOUNCE_TIMEOUT (R446): No Announce in the receipt timeout: master lost. -/
  | announceTimeout (port : Fin 6)
  /-- SYNC_TIMEOUT (R447): No accepted sample for 1 s enters HOLDOVER or another port. -/
  | syncTimeout (port : Fin 6)
  /-- TIME_REFCLK_WINDOW (R442): A TIME_REFCLK window ends, setting or clearing REFOK. -/
  | timeRefclkWindow (ppm : Option Int)
  /-- TRIGGER_ARM (R454): Setting EN arms a trigger unit's first target. -/
  | triggerArm (unit : Fin 32)
  /-- TRIGGER_PULSE (R452): A compare fires, pulses and starts its consumers. -/
  | triggerPulse (unit : Fin 32)
  /-- TRIGGER_STAGED_WRITE (R456): A write to a running unit is staged. -/
  | triggerStagedWrite (unit : Fin 32) (register : Fin 5) (value : Word32)
  /-- TRIGGER_PULSE_END (R456): A pulse ends; a one-shot clears EN. -/
  | triggerPulseEnd (unit : Fin 32)
  /-- TRG_LAST_READ (R461): A TRG_LAST_LO read latches the upper half. -/
  | trgLastRead (unit : Fin 32)
  /-- CAPTURE_EDGE (R457): A filtered edge is stamped or dropped. -/
  | captureEdge (unit : Fin 16) (rising : Bool) (held : Nat)
  /-- CAPTURE_POP (R458): A CAP_TS_LO read removes the oldest stamp. -/
  | capturePop (unit : Fin 16)
  /-- CAP_TIMEOUT (R458): No edge within CAP_TOUT raises CAP_TIMEOUT. -/
  | capTimeout (unit : Fin 16)
  /-- START_AUDIO_PORT (R468): START PERIPHERAL starts an audio port. -/
  | startAudioPort (seq : Nat)
  /-- STOP_AUDIO_PORT (R472): An audio port stops. -/
  | stopAudioPort (seq : Nat)
  /-- PDM_CLOCK_WINDOW (R464): A PDM clock window ends, entering or leaving fault. -/
  | pdmClockWindow (clock : Fin 4) (hz : Option Nat) (part : List (Nat × AudBits))
  /-- AUDIO_BLOCK_DONE (R466): A block is written to the ring or dropped. -/
  | audioBlockDone (port : Fin 16) (bits : AudBits)
  /-- AUDIO_MASK_WRITE (R470): A MASK write applies at the next block boundary. -/
  | audioMaskWrite (port : Fin 16) (value : BitVec 2)
  /-- AUD_STUCK (R485): 65,536 equal bits on a slot mark STUCK. -/
  | audStuck (port : Fin 16) (slot : Fin 2) (level : Bool)
  /-- AUDIO_STREAM_ENABLE (R473): Setting EN starts an ST 2110-30 stream. -/
  | audioStreamEnable (stream : Fin 32) (enable : Bool)
  /-- AUDIO_STREAM_PACKET (R473): An audio packet is sent. -/
  | audioStreamPacket (stream : Fin 32)
  /-- START_MOTION_AXIS (R484): START PERIPHERAL resumes counting. -/
  | startMotionAxis (seq : Nat)
  /-- STOP_MOTION_AXIS (R484): An axis stops counting. -/
  | stopMotionAxis (seq : Nat)
  /-- AXIS_COUNT (R475): A filtered edge changes position. -/
  | axisCount (axis : Fin 32) (edge : AxisEdge) (time : Nat)
  /-- SPEED_DECAY (R478): Speed decays every 1 µs. -/
  | speedDecay (axis : Fin 32) (time : Nat)
  /-- AXIS_STANDSTILL (R479): No count for STILL µs sets standstill. -/
  | axisStandstill (axis : Fin 32) (time : Nat)
  /-- AXIS_INDEX_EDGE (R480): An index edge latches and checks the count. -/
  | axisIndexEdge (axis : Fin 32)
  /-- AXIS_COMPARE_ARM (R481): ARM arms the position compare. -/
  | axisCompareArm (axis : Fin 32)
  /-- AXIS_SAMPLE_READ (R488): An AX_SMP_POS read latches time and flags. -/
  | axisSampleRead (axis : Fin 32)
  /-- AX_CMP_TIME_READ (R488): A LO read latches the upper half. -/
  | axCmpTimeRead (axis : Fin 32)
  /-- PRIMING_START (R494): Release of reset begins priming at PM00. -/
  | primingStart (straps : BitVec 4)
  /-- PM00_BOOT_ROM (R521): Boot ROM verifies and loads firmware. -/
  | pm00BootRom (how : StepEnd)
  /-- PM01_RETAINED_RECORD (R497): Record read and variants chosen. -/
  | pm01RetainedRecord (how : StepEnd)
  /-- PM02_CLOCKS_ISLANDS (R494): PLLs lock and islands leave reset. -/
  | pm02ClocksIslands (how : StepEnd)
  /-- PM03_PCIE_ENDPOINT (R494): Endpoint link comes up. -/
  | pm03PcieEndpoint (how : StepEnd)
  /-- PM04_DIE_LINKS (R494): Die links train and repair. -/
  | pm04DieLinks (repairs : List (Fin 4 × Fin 64)) (how : StepEnd)
  /-- PM05_DRAM_TRAINING (R172): LPDDR5X channels train. -/
  | pm05DramTraining (channels : List ChanProbe) (how : StepEnd)
  /-- PM06_DRAM_INIT (R494): DRAM initialised and sump moved. -/
  | pm06DramInit (how : StepEnd)
  /-- PM07_PIXEL_DIE_TEST (R494): Pixel die units tested. -/
  | pm07PixelDieTest (bad : List TUnit) (how : StepEnd)
  /-- PM08_IO_DIE_TEST (R494): I/O die units tested. -/
  | pm08IoDieTest (bad : List TUnit) (how : StepEnd)
  /-- PM09_CXL (R190): CXL expanders discovered. -/
  | pm09Cxl (capacities : List (Option Nat)) (how : StepEnd)
  /-- PM10_NVME (R386): SSDs identified. -/
  | pm10Nvme (ssds : List (Option SsdProbe)) (how : StepEnd)
  /-- PM11_JOURNAL_CLIPS (R395): Journal restored, clips recovered. -/
  | pm11JournalClips (how : StepEnd)
  /-- PM12_NETWORK_SDI_LANES (R494): Ethernet and SDI lanes come up. -/
  | pm12NetworkSdiLanes (how : StepEnd)
  /-- PM13_TIME_PTP (R494): PTP starts. -/
  | pm13TimePtp (how : StepEnd)
  /-- PM14_START_UP_SET (R501): Start-up set started. -/
  | pm14StartUpSet (how : StepEnd)
  /-- PM15_COMMIT (R492): Record committed, events enabled. -/
  | pm15Commit (how : StepEnd)
  /-- PRIMING_STEP_TIMEOUT (R494): A step exceeds its bound and fails. -/
  | primingStepTimeout (place : Place)
  /-- REPRIME (R498): After commits the device resets and primes, or halts. -/
  | reprime
  /-- SUMP_COMMIT (R504): A held sump entry is committed after 1 ms. -/
  | sumpCommit
  /-- HARDWARE_ERROR (R506): A unit reports an error, starting its self-test. -/
  | hardwareError (unit : TUnit) (part : Fin 64) (cls : Fin 4) (detail : Byte) (payload : List Byte)
  /-- SELF_TEST_DEQUEUE (R508): A waiting test starts. -/
  | selfTestDequeue
  /-- SELF_TEST (R507): A test ends; pass returns the unit, fail retires it. -/
  | selfTest (unit : TUnit) (pass : Bool)
  /-- RETAINED_RECORD_COMMIT (R492): A periodic commit every 600 s. -/
  | retainedRecordCommit
  /-- SYS_REFCLK_WINDOW (R511): A SYS_REFCLK check window ends. -/
  | sysRefclkWindow (ppm : Option Int)
  /-- SYS_REFCLK_FATAL (R510): A failure lasting 10 s is fatal. -/
  | sysRefclkFatal
  /-- ATTEST (R529): A signed report is returned. -/
  | attest (seq : Nat)
  /-- READ_IDENTITY (R528): The certificate is returned. -/
  | readIdentity (seq : Nat)
  /-- ENROLL_KEY (R526): A program key is enrolled. -/
  | enrollKey (seq : Nat)
  /-- REVOKE_KEY (R526): A program key is revoked. -/
  | revokeKey (seq : Nat)
  /-- SET_LIFECYCLE (R527): The lifecycle fuses change. -/
  | setLifecycle (seq : Nat)
  /-- RECOVERY_GO (R524): GO verifies and installs the recovery image. -/
  | recoveryGo (key : Byte) (length : BitVec 21)
  /-- THERMAL_SAMPLE (R535): Each 10 µs sample updates readings and actions. -/
  | thermalSample (readings : List (Option Int))
  /-- THERMAL_RISE_CHECK (R538): Every 10 ms the rise rule is checked. -/
  | thermalRiseCheck
  /-- THM_LEVEL_WRITE (R536): A level write updates conditions. -/
  | thmLevelWrite (level : Fin 4) (value : Word32)
  /-- SHUTDOWN_LATCH_CLEAR (R541): VDDIO_18 falling below 1.2 V clears the latch. -/
  | shutdownLatchClear
  /-- RAIL_SAMPLE (R548): Voltage monitors act on a rail sample. -/
  | railSample (rail : Fin 12) (mv : Option Nat)
  /-- CORE_RAIL_RECOVERED (R548): The ÷2 action ends after 1 ms within tolerance. -/
  | coreRailRecovered (rail : Fin 2)
  /-- AVS_SETPOINT_DONE (R546): A regulator reports its setpoint; clocks may rise. -/
  | avsSetpointDone (rail : Fin 3) (mv : Nat) (vmv : List (Nat × Nat))
  /-- PORST_L_FALL (R550): PORST_L low resets every island. -/
  | porstLFall
  /-- PERST_L_FALL (R551): PERST_L falls, taking the endpoint link down. -/
  | perstLFall
  /-- PERST_L_RISE (R551): The endpoint link comes up again. -/
  | perstLRise
  /-- SMBUS_READ (R556): An SMBus read returns status bytes. -/
  | smbusRead (code : Byte)
  /-- PWRGD_FALL (R548): PWRGD falling is a brown-out that acts as PORST_L low. -/
  | pwrgdFall
  /-- FAULT_SIGNALLED (R423): An Ethernet port or member goes down on an RS-FEC high symbol-error indication or on a local or remote fault. -/
  | faultSignalled (lane : Fin 96) (cause : Fin 2)
  /-- PAGE_PROGRAM_DONE (R490): A boot flash page program or erase ends, which advances or finishes a two-slot commit, and a reset that waits for the commit may then follow. -/
  | pageProgramDone
  /-- DATA_TRANSFER_TIMEOUT (R511): A host command whose data transfer has not completed in 50 ms completes with Data Transfer Error. -/
  | dataTransferTimeout (seq : Nat)
  /-- LOOKUP_COPY_DONE (R506): The 2 µs copy of a lookup table's banks into the well's ninth table ends, VLUT stops stalling and the table's march starts. -/
  | lookupCopyDone (well : Fin 16)
  /-- ANNOUNCE_SEND (R444): Each port sends its Announce with clockClass 255 once per announce interval. -/
  | announceSend (port : Fin 6)
  /-- BOUNDARY_SCAN (R555): Edges on JTAG_TCK, JTAG_TMS and JTAG_TRST_L drive the IEEE 1149.1 boundary-scan TAP in every lifecycle state. -/
  | boundaryScan (edge : JtagEdge)
  deriving DecidableEq, Repr

end Sys2Proof
end

