-- ==== Sys2Proof/Decode.lean ====
section
/-!
DEFINITION. The command that a word spells. No row of the opcode table gives bits: the device takes its commands as queue
entries, register accesses and events, and the words of a core's instructions lie in its memory (Machine/Syllable.lean reads
them). So no word spells a command.
-/
set_option autoImplicit false

namespace Sys2Proof

def decodeTableWord (_nbits _w : Nat) : Option Instr := none

end Sys2Proof
end

