-- ==== Sys2Proof/Machine/Bits.lean ====
section
/-!
DEFINITION. Byte order, checksums, tables by number and byte memories: the helpers over plain data that every unit uses.
-/
set_option autoImplicit false

namespace Sys2Proof.Machine

/-! ## Byte order (R8: little-endian, R9) -/

/-- The `n` low bytes of `v`, least significant first (R8). -/
def le : Nat → Nat → List Byte
  | 0, _ => []
  | n + 1, v => BitVec.ofNat 8 v :: le n (v / 256)

/-- The number that little-endian bytes spell (R8). -/
def leNat : List Byte → Nat
  | [] => 0
  | b :: bs => b.toNat + 256 * leNat bs

/-- The `n`-byte little-endian field at byte offset `off` of a data block; bytes past its end count as 0. -/
def field (data : List Byte) (off n : Nat) : Nat := leNat ((data.drop off).take n)

/-- `n` zero bytes. -/
def zeros (n : Nat) : List Byte := List.replicate n 0

/-- Put `x` before the first element that it may precede. -/
def insertBy {α : Type} (le : α → α → Bool) (x : α) : List α → List α
  | [] => [x]
  | y :: ys => if le x y then x :: y :: ys else y :: insertBy le x ys

/-- A list in the order of `le`; elements that tie keep their order. -/
def sortBy {α : Type} (le : α → α → Bool) (l : List α) : List α := l.foldr (insertBy le) []

/-- Exactly `n` bytes: cut, or padded with zeros. -/
def padTo (n : Nat) (bs : List Byte) : List Byte := bs.take n ++ zeros (n - bs.length)

/-- Whether the bytes from `off` for `n` are all zero (a reserved area of a block). -/
def allZero (data : List Byte) (off n : Nat) : Bool := ((data.drop off).take n).all (· == 0)

/-- Bit `i` of a number. -/
def bit (v i : Nat) : Bool := v / 2 ^ i % 2 == 1

/-- Bits `[hi:lo]` of a number. -/
def bits (v hi lo : Nat) : Nat := v / 2 ^ lo % 2 ^ (hi - lo + 1)

/-- A number held at most at `m` (a saturating counter). -/
def sat (m v : Nat) : Nat := min m v

/-- Round `v` up to a multiple of `m`. -/
def roundUp (v m : Nat) : Nat := (v + (m - 1)) / m * m

/-- The two's complement reading of the low `w` bits of a number. -/
def sext (w v : Nat) : Int := (BitVec.ofNat w v).toInt

/-- The low `w` bits of an integer. -/
def trunc (w : Nat) (v : Int) : Nat := (BitVec.ofInt w v).toNat

/-! ## Checksums -/

/-- One bit step of the reflected CRC-32C polynomial 0x1EDC_6F41 (R291). -/
def crc32Bit (c : BitVec 32) : BitVec 32 :=
  if c.getLsbD 0 then (c >>> 1) ^^^ 0x82F63B78#32 else c >>> 1

/-- One byte of CRC-32C (R291). -/
def crc32Byte (c : BitVec 32) (b : Byte) : BitVec 32 :=
  crc32Bit (crc32Bit (crc32Bit (crc32Bit (crc32Bit (crc32Bit (crc32Bit (crc32Bit (c ^^^ b.zeroExtend 32))))))))

/-- CRC-32C of a byte string: initial value and final XOR all ones (R291). -/
def crc32c (bs : List Byte) : BitVec 32 := (bs.foldl crc32Byte 0xFFFFFFFF#32) ^^^ 0xFFFFFFFF#32

/-- One bit of the check word of R202: polynomial x¹⁶ + x¹² + x⁵ + 1, not reflected. -/
def crc16Bit (c : BitVec 16) (b : Bool) : BitVec 16 :=
  if (c.getLsbD 15 != b) then (c <<< 1) ^^^ 0x1021#16 else c <<< 1

/-- The check word of R202 over payload bits in transmission order. -/
def crc16 (bs : List Bool) : BitVec 16 := bs.foldl crc16Bit 0xFFFF#16

/-! ## Tables by number -/

/-- The entry at a key. -/
def tget {α : Type} : Tab α → Nat → Option α
  | [], _ => none
  | (k, v) :: t, i => if i = k then some v else tget t i

/-- The entry at a key, or `d` where there is none. -/
def tgetD {α : Type} (t : Tab α) (i : Nat) (d : α) : α := (tget t i).getD d

/-- Write an entry, keeping the keys strictly rising. -/
def tput {α : Type} : Tab α → Nat → α → Tab α
  | [], i, v => [(i, v)]
  | (k, w) :: t, i, v =>
    if i < k then (i, v) :: (k, w) :: t
    else if i = k then (i, v) :: t
    else (k, w) :: tput t i v

/-- Remove the entry at a key. -/
def terase {α : Type} : Tab α → Nat → Tab α
  | [], _ => []
  | (k, w) :: t, i => if i = k then terase t i else (k, w) :: terase t i

/-- Change the entry at a key, which is `d` where there is none. -/
def tmod {α : Type} (t : Tab α) (i : Nat) (d : α) (f : α → α) : Tab α := tput t i (f (tgetD t i d))

/-- Change an entry that is present. -/
def tadj {α : Type} (t : Tab α) (i : Nat) (f : α → α) : Tab α :=
  match tget t i with
  | some v => tput t i (f v)
  | none => t

/-- Change every entry. -/
def tmap {α : Type} (t : Tab α) (f : Nat → α → α) : Tab α := t.map (fun e => (e.1, f e.1 e.2))

/-- The entries in order of key. -/
def tvals {α : Type} (t : Tab α) : List α := t.map (·.2)

/-- The keys in order. -/
def tkeys {α : Type} (t : Tab α) : List Nat := t.map (·.1)

/-- Write a number that reads as `d` where it is not listed: writing `d` removes the entry. -/
def tputD {α : Type} [DecidableEq α] (t : Tab α) (i : Nat) (v d : α) : Tab α :=
  if v = d then terase t i else tput t i v

/-- The keys of a table rise strictly. -/
def tsorted {α : Type} : Tab α → Bool
  | [] => true
  | [_] => true
  | (k, _) :: (k', v') :: t => decide (k < k') && tsorted ((k', v') :: t)

/-- The lowest number from `lo` up, within `n` tries, that is no key of the table. -/
def tfree {α : Type} (t : Tab α) (lo : Nat) : Nat → Option Nat
  | 0 => none
  | n + 1 => if (tget t lo).isNone then some lo else tfree t (lo + 1) n

/-! ## Byte memories

A memory is a list of cells in strictly rising order of address with no cell equal to what an unlisted address reads
as, which is the byte 0 (DESIGN CHOICE: the spec gives memory no contents at reset; log entry 2). -/

/-- The byte at an address. -/
def mget (m : List Host.Cell) (a : Nat) : Byte := tgetD m a 0

/-- Write one byte. -/
def mput (m : List Host.Cell) (a : Nat) (b : Byte) : List Host.Cell := tputD m a b 0

/-- The canonical form of a memory: addresses rise strictly and no cell holds the byte an unlisted address reads as. -/
def Memory.wf (m : List Host.Cell) : Bool := tsorted m && m.all (fun c => c.2 != 0)

/-- `n` bytes from an address, lowest first. -/
def mread (m : List Host.Cell) (a : Nat) : Nat → List Byte
  | 0 => []
  | n + 1 => mget m a :: mread m (a + 1) n

/-- Write bytes from an address upward. -/
def mwrite (m : List Host.Cell) (a : Nat) : List Byte → List Host.Cell
  | [] => m
  | b :: bs => mwrite (mput m a b) (a + 1) bs

/-- Clear `n` bytes from an address: the listed cells of the range go. -/
def mclear (m : List Host.Cell) (a n : Nat) : List Host.Cell := m.filter (fun c => c.1 < a || a + n ≤ c.1)

/-- Buffers in order of their last write, with `h` written now: "the oldest" buffer is the first. -/
def writtenLast (l : List Nat) (h : Nat) : List Nat := l.filter (· != h) ++ [h]

/-- A ring of buffers from the one after `h` on: "the next" buffer of a ring follows the last one written. -/
def ringAfter (l : List Nat) (h : Nat) : List Nat := l.drop (l.idxOf h + 1) ++ l.take (l.idxOf h + 1)

end Sys2Proof.Machine
end

