-- ==== Sys2Proof/Config.lean ====
section
/-!
DEFINITION. What one part fixes, and the values that the spec leaves open. Every constant here is opaque: nothing can
be proved about its value, so a statement that mentions one holds whatever it is.
-/
set_option autoImplicit false

namespace Sys2Proof.Config

/-- Screening grade fused into SYS_ID.SCREEN, 0 or 1 (R2, R3): either grade may be fitted (log entry 4). -/
opaque screenGrade : Bool
/-- Fused unique device identifier (Table SY-2). -/
opaque uid : BitVec 128
/-- Base MAC address, fused (R439). -/
opaque macBase : BitVec 48
/-- Direction of a float's port, true for a write port, where Table ME-9 does not give it (R188, "Per port"). -/
opaque floatDir : Nat → Bool
/-- SHA3-384 of a byte string (R520). The spec names the function and does not define it (log entry 5). -/
opaque sha3_384 : List Byte → BitVec 384
/-- SHA3-384 digest of firmware key FKk held in the boot ROM (R521). -/
opaque romKeyDigest : Nat → BitVec 384
/-- Measurement of the boot ROM (Table SY-6). -/
opaque romMeasurement : BitVec 384
/-- ML-DSA verification: public key, context string, message, signature (R517). -/
opaque sigVerify : List Byte → List Byte → List Byte → List Byte → Bool
/-- The 3,309-byte signature that DK makes over a body under a context string (R517, R529, R530). -/
opaque dkSign : List Byte → List Byte → BitVec 26472
/-- Public keys of the Skoazel library keys, fixed at provisioning (Table SY-1). -/
opaque libraryKeys : List (List Byte)
/-- The public key of DK, the KEY_ID of the device CA key, and that key's signature over the device certificate, all written
at provisioning (R528). -/
opaque dkPublic : BitVec 15616
opaque caKeyId : BitVec 128
opaque certSignature : BitVec 26472
/-- The port's links run in a CR mode (true) or a C2M mode (false): the board's module decides (R411 to R416). -/
opaque portCr : Nat → Bool
/-- The median of an even number of path-delay samples from its two middle values: the spec does not state it (R446). -/
opaque evenMedian : Int → Int → Int
/-- The servo's proportional and integral law: KP, KI and the samples since ACQUIRE, newest first, to the increment
before clipping (R447 names the law and its gains and states no formula). -/
opaque servoLaw : Nat → Nat → List Int → BitVec 64
/-- The decimation filter: DEC and the PDM bits in the filter, newest first, to a 24-bit sample (R465 fixes its
properties, not its coefficients). -/
opaque decimate : Nat → List Bool → BitVec 24
/-- Whether a JTAG instruction selects the boundary register rather than bypass, and what an instruction capture loads:
IEEE 1149.1 leaves the codes to the part, and the spec does not give them (R555). -/
opaque tapBoundary : List Bool → Bool
opaque tapIrCapture : List Bool
/-- The byte that host memory holds at a bus address when the device reads it for the n-th time: host memory lies outside
the device (log entry 8). -/
opaque hostByte : Nat → Nat → BitVec 8
/-- The DRAM channel, and the one among the channels of the reserve once its own channel is spared out, on which a granule of
local memory lies: the address hash is not given (R146, R186). -/
opaque channelOf : Nat → Nat
opaque spareOf : Nat → Nat
/-- The set of a translation cache in which the page of an address space at an address lies (R152 gives the sets and no
index). -/
opaque cacheSet : Nat → Nat → Nat
/-- The boot ROM: the 64-bit bundle at an address (R51); its contents are not given. -/
opaque bootRom : Nat → BitVec 64
/-- Black of an RGB flow at a depth: R302 gives values for Y'CbCr only. -/
opaque rgbBlack : Nat → BitVec 16
/-- The sample of an RGB flow whose rounded value does not fit its depth: R288 states none. -/
opaque rgbOver : Nat → BitVec 16
/-- User data words of the ATC timecode packet for a TSTART: ST 12-2 leaves the mapping from device time open (R300). -/
opaque atcWords : Nat → List Byte
/-- The session identifier of a flow's SDP: R301 fixes the version number only. -/
opaque sdpSession : Nat → Nat
/-- A byte, by GEN and offset, of the areas of the retained record whose inner layout the spec does not give: the die-link
and LPDDR5X settings, the sensor calibration sets and the start-up set (Table PF-2). -/
opaque recordByte : Nat → Nat → BitVec 8
/-- Free value number `n` (log entry 6): a 64-bit value that nothing constrains. -/
opaque freeValue : Nat → BitVec 64

end Sys2Proof.Config
end

