-- ==== Sys2Proof/Machine/RegMap.lean ====
section
/-!
DEFINITION. The device register space of R382 (Table SQ-17): every register field of the spec's register tables with
its address, bits and reset value, and the table of registers with the access kind of each field (R12 to R14).
A field whose reset the spec gives as "Set at priming" holds 0 until its priming step sets it (log entry 3).
-/
set_option autoImplicit false

namespace Sys2Proof.Machine

/-- A field of a register: the register's address, its bits `[hi:lo]` and its value at reset. -/
structure Fld where
  addr : Nat
  hi : Nat
  lo : Nat
  rst : Nat
  deriving DecidableEq, Repr

/-- Access kinds of R12. -/
inductive Access where
  | ro | rw | w1c | rc | wo
  deriving DecidableEq, Repr

/-- One register or one array of registers: its name, first address, distance between elements, number of elements,
whether BAR0 alone reaches it, and its fields by element. -/
structure RegRow where
  name : String
  base : Nat
  stride : Nat
  count : Nat
  bar0Only : Bool
  fields : Nat → List (Fld × Access)

/-- Nominal clock of an island in MHz, 0 for the lane islands whose protocol is not yet set (Table AR-7, R43). -/
def islandNominalMHz (n : Nat) : Nat :=
  if n < 16 then 1500 else if n < 22 then 2000 else if n = 22 then 1200 else if n < 26 then 1333
  else if n < 32 then 0 else if n < 34 then 1000 else if n = 34 then 1600 else if n < 37 then 300
  else if n = 37 then 500 else if n = 38 then 1000 else 1250

/-- ACT of THM_LEVEL[k] at reset (Table ET-2, codes of Table ET-3). -/
def thmActReset (n : Nat) : Nat := if n = 0 then 1 else if n = 1 then 5 else if n = 2 then 8 else 9

/-! SYS_ID (Device identity), R3. -/
def fSysIdPart : Fld := ⟨0x0, 31, 16, 0x9680⟩
def fSysIdMember : Fld := ⟨0x0, 15, 12, 4⟩
def fSysIdStep : Fld := ⟨0x0, 11, 8, 1⟩
def fSysIdScreen : Fld := ⟨0x0, 7, 4, Config.screenGrade.toNat⟩
/-! SYS_ISL_STAT (Island status), R42. -/
def fSysIslStatState (n : Nat) : Fld := ⟨0x60000 + 4 * n, 31, 30, 3⟩
def fSysIslStatDiv (n : Nat) : Fld := ⟨0x60000 + 4 * n, 29, 28, 0⟩
def fSysIslStatSkip (n : Nat) : Fld := ⟨0x60000 + 4 * n, 27, 25, 0⟩
def fSysIslStatFmhz (n : Nat) : Fld := ⟨0x60000 + 4 * n, 22, 12, islandNominalMHz n⟩
def fSysIslStatVmv (n : Nat) : Fld := ⟨0x60000 + 4 * n, 9, 0, 750⟩
/-! MEM_CTL (Memory control), R188. -/
def fMemCtlScrubEn : Fld := ⟨0x500000, 3, 3, 1⟩
def fMemCtlSrAuto : Fld := ⟨0x500000, 2, 2, 1⟩
def fMemCtlRegForce : Fld := ⟨0x500000, 1, 1, 0⟩
def fMemCtlPanicEn : Fld := ⟨0x500000, 0, 0, 1⟩
/-! MEM_SR_CFG (Self-refresh idle time), R188. -/
def fMemSrCfgIdle : Fld := ⟨0x500004, 15, 0, 100⟩
/-! MEM_PANIC_CEIL (Panic ceiling), R188. -/
def fMemPanicCeilCeil : Fld := ⟨0x500008, 7, 0, 70⟩
/-! MEM_CAP (Local capacity), R188. -/
def fMemCapSpared : Fld := ⟨0x500010, 31, 30, 0⟩
def fMemCapUsable : Fld := ⟨0x500010, 29, 20, 0⟩
def fMemCapReserve : Fld := ⟨0x500010, 19, 10, 0⟩
def fMemCapAlloc : Fld := ⟨0x500010, 9, 0, 0⟩
/-! MEM_CHAN_STAT (Channel status), R188. -/
def fMemChanStatState (n : Nat) : Fld := ⟨0x500100 + 4 * n, 31, 30, 0⟩
def fMemChanStatCe (n : Nat) : Fld := ⟨0x500100 + 4 * n, 27, 16, 0⟩
def fMemChanStatUe (n : Nat) : Fld := ⟨0x500100 + 4 * n, 15, 8, 0⟩
def fMemChanStatCap (n : Nat) : Fld := ⟨0x500100 + 4 * n, 7, 0, 0⟩
/-- A float's port is a write port: ingest write-out and a compressor's block writes are, its frame reads are not (Table ME-9). -/
def floatWrites (n : Nat) : Bool := if n < 5 || (9 ≤ n && n < 13) then true else if n < 9 then false else Config.floatDir n
/-! MEM_FLOAT_CFG (Float configuration), R188. -/
def fMemFloatCfgEn (n : Nat) : Fld := ⟨0x501000 + 4 * n, 31, 31, 0⟩
def fMemFloatCfgDir (n : Nat) : Fld := ⟨0x501000 + 4 * n, 30, 30, (floatWrites n).toNat⟩
def fMemFloatCfgOn (n : Nat) : Fld := ⟨0x501000 + 4 * n, 27, 14, 0⟩
def fMemFloatCfgOff (n : Nat) : Fld := ⟨0x501000 + 4 * n, 13, 0, 0⟩
/-! MEM_FLOAT_STAT (Float status), R188. -/
def fMemFloatStatPanic (n : Nat) : Fld := ⟨0x502000 + 4 * n, 31, 31, 0⟩
def fMemFloatStatHit (n : Nat) : Fld := ⟨0x502000 + 4 * n, 30, 30, 0⟩
def fMemFloatStatWorst (n : Nat) : Fld := ⟨0x502000 + 4 * n, 29, 16, 0⟩
def fMemFloatStatLevel (n : Nat) : Fld := ⟨0x502000 + 4 * n, 13, 0, 0⟩
/-! MEM_REG_CFG (Port regulator), R188. -/
def fMemRegCfgEn (n : Nat) : Fld := ⟨0x503000 + 4 * n, 31, 31, 0⟩
def fMemRegCfgRate (n : Nat) : Fld := ⟨0x503000 + 4 * n, 30, 16, 0⟩
def fMemRegCfgBurst (n : Nat) : Fld := ⟨0x503000 + 4 * n, 15, 8, 16⟩
/-! CXL_PORT_STAT (CXL port status), R193. -/
def fCxlPortStatState (n : Nat) : Fld := ⟨0x700000 + 4 * n, 31, 30, 0⟩
def fCxlPortStatWidth (n : Nat) : Fld := ⟨0x700000 + 4 * n, 29, 24, 0⟩
def fCxlPortStatSpeed (n : Nat) : Fld := ⟨0x700000 + 4 * n, 23, 20, 0⟩
def fCxlPortStatBw (n : Nat) : Fld := ⟨0x700000 + 4 * n, 19, 8, 0⟩
/-! CXL_CAP (CXL capacity), R193. -/
def fCxlCapIlv : Fld := ⟨0x700010, 31, 31, 0⟩
def fCxlCapSize : Fld := ⟨0x700010, 15, 0, 0⟩
/-! SNS_CTL (Port control), R236. -/
def fSnsCtlState (n : Nat) : Fld := ⟨0xd00000 + 4 * n, 31, 30, 0⟩
def fSnsCtlMode (n : Nat) : Fld := ⟨0xd00000 + 4 * n, 29, 28, 0⟩
def fSnsCtlEmb (n : Nat) : Fld := ⟨0xd00000 + 4 * n, 27, 27, 0⟩
def fSnsCtlCk2 (n : Nat) : Fld := ⟨0xd00000 + 4 * n, 26, 26, 0⟩
def fSnsCtlFilt (n : Nat) : Fld := ⟨0xd00000 + 4 * n, 25, 22, 4⟩
def fSnsCtlRate (n : Nat) : Fld := ⟨0xd00000 + 4 * n, 11, 0, 2400⟩
/-! SNS_TRAIN (Training word), R236. -/
def fSnsTrainTrain (n : Nat) : Fld := ⟨0xd00008 + 4 * n, 15, 0, 15525⟩
/-! SNS_TAP_PS (Tap size), R236. -/
def fSnsTapPsTapps : Fld := ⟨0xd00010, 15, 0, 0⟩
/-! SNS_FMT (Line format), R236. -/
def fSnsFmtDepth (n : Nat) : Fld := ⟨0xd00100 + 4 * n, 31, 30, 1⟩
def fSnsFmtNexp (n : Nat) : Fld := ⟨0xd00100 + 4 * n, 29, 28, 1⟩
def fSnsFmtChk (n : Nat) : Fld := ⟨0xd00100 + 4 * n, 27, 27, 1⟩
def fSnsFmtNlane (n : Nat) : Fld := ⟨0xd00100 + 4 * n, 23, 16, 80⟩
def fSnsFmtWidth (n : Nat) : Fld := ⟨0xd00100 + 4 * n, 15, 0, 0⟩
/-! SNS_FRAME (Frame size and buffer), R236. -/
def fSnsFrameLines (n : Nat) : Fld := ⟨0xd00120 + 4 * n, 31, 16, 0⟩
def fSnsFrameWell (n : Nat) : Fld := ⟨0xd00120 + 4 * n, 15, 12, 0⟩
def fSnsFrameBuf (n : Nat) : Fld := ⟨0xd00120 + 4 * n, 7, 0, 96⟩
/-! SNS_TIME (Frame period), R236. -/
def fSnsTimePeriod (n : Nat) : Fld := ⟨0xd00140 + 4 * n, 31, 0, 8333333⟩
/-! SNS_LINE (Line time and timeout), R236. -/
def fSnsLineTout (n : Nat) : Fld := ⟨0xd00160 + 4 * n, 31, 24, 24⟩
def fSnsLineLine (n : Nat) : Fld := ⟨0xd00160 + 4 * n, 19, 0, 9102⟩
/-! SNS_GL (Genlock), R236. -/
def fSnsGlEn (n : Nat) : Fld := ⟨0xd00180 + 4 * n, 31, 31, 0⟩
def fSnsGlTrg (n : Nat) : Fld := ⟨0xd00180 + 4 * n, 28, 24, 0⟩
def fSnsGlWin (n : Nat) : Fld := ⟨0xd00180 + 4 * n, 15, 0, 1000⟩
/-! SNS_GL_LAT (Genlock latency), R236. -/
def fSnsGlLatLat (n : Nat) : Fld := ⟨0xd001a0 + 4 * n, 31, 0, 0⟩
/-! SNS_OCC (Ingest occupancy), R236. -/
def fSnsOccWorst (n : Nat) : Fld := ⟨0xd001c0 + 4 * n, 23, 16, 0⟩
def fSnsOccOvf (n : Nat) : Fld := ⟨0xd001c0 + 4 * n, 15, 8, 0⟩
def fSnsOccLevel (n : Nat) : Fld := ⟨0xd001c0 + 4 * n, 7, 0, 0⟩
/-! SNS_LANE_CFG (Lane setting), R236. -/
def fSnsLaneCfgUsed (n : Nat) : Fld := ⟨0xd01000 + 4 * n, 31, 31, 0⟩
def fSnsLaneCfgTap (n : Nat) : Fld := ⟨0xd01000 + 4 * n, 21, 16, 0⟩
def fSnsLaneCfgThr (n : Nat) : Fld := ⟨0xd01000 + 4 * n, 12, 8, 0⟩
def fSnsLaneCfgSlip (n : Nat) : Fld := ⟨0xd01000 + 4 * n, 4, 0, 0⟩
/-! SNS_LANE_STAT (Lane errors), R236. -/
def fSnsLaneStatCrcerr (n : Nat) : Fld := ⟨0xd01400 + 4 * n, 31, 16, 0⟩
def fSnsLaneStatLockloss (n : Nat) : Fld := ⟨0xd01400 + 4 * n, 15, 8, 0⟩
/-! SNS_CALSET (Calibration set), R236. -/
def fSnsCalsetValid (n : Nat) : Fld := ⟨0xd02000 + 4 * n, 31, 31, 0⟩
def fSnsCalsetSaved (n : Nat) : Fld := ⟨0xd02000 + 4 * n, 30, 30, 0⟩
def fSnsCalsetTemp (n : Nat) : Fld := ⟨0xd02000 + 4 * n, 7, 0, 0⟩
/-! PIPE_PLT_CTL (Pilot control), R269. -/
def fPipePltCtlState : Fld := ⟨0xe00000, 31, 30, 0⟩
def fPipePltCtlCtx : Fld := ⟨0xe00000, 29, 27, 7⟩
def fPipePltCtlBin2 : Fld := ⟨0xe00000, 26, 26, 0⟩
def fPipePltCtlFallback : Fld := ⟨0xe00000, 4, 0, 0⟩
/-! PIPE_PLT_STAT (Pilot counts), R269. -/
def fPipePltStatFrames : Fld := ⟨0xe00004, 31, 16, 0⟩
def fPipePltStatStrips : Fld := ⟨0xe00004, 15, 0, 0⟩
/-! PIPE_PLT_BOOT (Pilot start-up set), R269. -/
def fPipePltBootValid : Fld := ⟨0xe00008, 31, 31, 0⟩
def fPipePltBootCtx : Fld := ⟨0xe00008, 30, 28, 0⟩
def fPipePltBootBin2 : Fld := ⟨0xe00008, 27, 27, 0⟩
/-! MIX_STAT (Compositor status), R310. -/
def fMixStatState (n : Nat) : Fld := ⟨0xf00000 + 4 * n, 31, 30, 0⟩
def fMixStatAbort (n : Nat) : Fld := ⟨0xf00000 + 4 * n, 23, 16, 0⟩
def fMixStatGuard (n : Nat) : Fld := ⟨0xf00000 + 4 * n, 15, 8, 0⟩
def fMixStatLayerf (n : Nat) : Fld := ⟨0xf00000 + 4 * n, 7, 0, 0⟩
/-! SPT_LOAD (Spout load), R310. -/
def fSptLoadLoad (n : Nat) : Fld := ⟨0x1000000 + 4 * n, 15, 0, 0⟩
/-! SPT_FLOW_CFG (Flow state), R310. -/
def fSptFlowCfgState (n : Nat) : Fld := ⟨0x1001000 + 4 * n, 31, 30, 0⟩
def fSptFlowCfgDest (n : Nat) : Fld := ⟨0x1001000 + 4 * n, 29, 29, 0⟩
def fSptFlowCfgHold (n : Nat) : Fld := ⟨0x1001000 + 4 * n, 28, 28, 0⟩
def fSptFlowCfgSafeimg (n : Nat) : Fld := ⟨0x1001000 + 4 * n, 27, 27, 0⟩
def fSptFlowCfgArmed (n : Nat) : Fld := ⟨0x1001000 + 4 * n, 26, 26, 0⟩
def fSptFlowCfgNguard (n : Nat) : Fld := ⟨0x1001000 + 4 * n, 25, 20, 0⟩
def fSptFlowCfgPort (n : Nat) : Fld := ⟨0x1001000 + 4 * n, 19, 17, 0⟩
def fSptFlowCfgSecport (n : Nat) : Fld := ⟨0x1001000 + 4 * n, 16, 14, 7⟩
def fSptFlowCfgSrc (n : Nat) : Fld := ⟨0x1001000 + 4 * n, 13, 12, 0⟩
def fSptFlowCfgTrg (n : Nat) : Fld := ⟨0x1001000 + 4 * n, 4, 0, 0⟩
/-! SPT_FLOW_STAT (Flow counts), R310. -/
def fSptFlowStatUnder (n : Nat) : Fld := ⟨0x1001800 + 4 * n, 31, 24, 0⟩
def fSptFlowStatGuard (n : Nat) : Fld := ⟨0x1001800 + 4 * n, 23, 16, 0⟩
def fSptFlowStatPathlost (n : Nat) : Fld := ⟨0x1001800 + 4 * n, 15, 8, 0⟩
def fSptFlowStatMissed (n : Nat) : Fld := ⟨0x1001800 + 4 * n, 7, 0, 0⟩
/-! RAS_CTL (Raster control), R310. -/
def fRasCtlState (n : Nat) : Fld := ⟨0x1100000 + 4 * n, 31, 30, 0⟩
def fRasCtlLink (n : Nat) : Fld := ⟨0x1100000 + 4 * n, 29, 28, 0⟩
def fRasCtlFrac (n : Nat) : Fld := ⟨0x1100000 + 4 * n, 27, 27, 0⟩
def fRasCtlClone (n : Nat) : Fld := ⟨0x1100000 + 4 * n, 26, 26, 0⟩
def fRasCtlSrc (n : Nat) : Fld := ⟨0x1100000 + 4 * n, 25, 22, 0⟩
def fRasCtlFlow (n : Nat) : Fld := ⟨0x1100000 + 4 * n, 8, 0, 0⟩
/-! RAS_HA (Active and front porch), R310. -/
def fRasHaFp (n : Nat) : Fld := ⟨0x1100100 + 8 * n, 31, 16, 0⟩
def fRasHaActive (n : Nat) : Fld := ⟨0x1100100 + 8 * n, 15, 0, 0⟩
/-! RAS_VA (Active and front porch), R310. -/
def fRasVaFp (n : Nat) : Fld := ⟨0x1100104 + 8 * n, 31, 16, 0⟩
def fRasVaActive (n : Nat) : Fld := ⟨0x1100104 + 8 * n, 15, 0, 0⟩
/-! RAS_HB (Sync and back porch), R310. -/
def fRasHbBp (n : Nat) : Fld := ⟨0x1100200 + 8 * n, 31, 16, 0⟩
def fRasHbSync (n : Nat) : Fld := ⟨0x1100200 + 8 * n, 15, 0, 0⟩
/-! RAS_VB (Sync and back porch), R310. -/
def fRasVbBp (n : Nat) : Fld := ⟨0x1100204 + 8 * n, 31, 16, 0⟩
def fRasVbSync (n : Nat) : Fld := ⟨0x1100204 + 8 * n, 15, 0, 0⟩
/-! RAS_STAT (Raster counts), R310. -/
def fRasStatPinerr (n : Nat) : Fld := ⟨0x1100300 + 4 * n, 31, 16, 0⟩
def fRasStatAbort (n : Nat) : Fld := ⟨0x1100300 + 4 * n, 15, 8, 0⟩
def fRasStatRepeat (n : Nat) : Fld := ⟨0x1100300 + 4 * n, 7, 0, 0⟩
/-! CMP_CTL (Pool control), R333. -/
def fCmpCtlCatchOn : Fld := ⟨0x1200000, 15, 8, 16⟩
def fCmpCtlCatchOff : Fld := ⟨0x1200000, 7, 0, 8⟩
/-! CMP_POOL (Pool status), R333. -/
def fCmpPoolActive : Fld := ⟨0x1200004, 31, 29, 4⟩
def fCmpPoolCatchup : Fld := ⟨0x1200004, 28, 28, 0⟩
def fCmpPoolWorst : Fld := ⟨0x1200004, 23, 16, 0⟩
def fCmpPoolEntries : Fld := ⟨0x1200004, 15, 8, 0⟩
def fCmpPoolBacklog : Fld := ⟨0x1200004, 7, 0, 0⟩
/-! CMP_STAT (Compressor status), R333. -/
def fCmpStatState (n : Nat) : Fld := ⟨0x1200010 + 4 * n, 31, 30, 0⟩
def fCmpStatVerify (n : Nat) : Fld := ⟨0x1200010 + 4 * n, 15, 8, 0⟩
def fCmpStatTests (n : Nat) : Fld := ⟨0x1200010 + 4 * n, 7, 0, 0⟩
/-! HEV_ENC_STAT (Encoder status), R359. -/
def fHevEncStatState (n : Nat) : Fld := ⟨0x1300000 + 4 * n, 31, 29, 0⟩
def fHevEncStatBudget (n : Nat) : Fld := ⟨0x1300000 + 4 * n, 23, 16, 0⟩
def fHevEncStatDropped (n : Nat) : Fld := ⟨0x1300000 + 4 * n, 15, 8, 0⟩
def fHevEncStatFault (n : Nat) : Fld := ⟨0x1300000 + 4 * n, 7, 0, 0⟩
/-! HEV_RING_WR (Output ring write offset), R359. -/
def fHevRingWrWr (n : Nat) : Fld := ⟨0x1300010 + 8 * n, 31, 0, 0⟩
/-! HEV_RING_RD (Output ring read offset), R359. -/
def fHevRingRdRd (n : Nat) : Fld := ⟨0x1300014 + 8 * n, 31, 0, 0⟩
/-! HEV_DEC_STAT (Decoder status), R359. -/
def fHevDecStatState : Fld := ⟨0x1300020, 31, 29, 0⟩
def fHevDecStatStatus : Fld := ⟨0x1300020, 23, 16, 0⟩
def fHevDecStatDropped : Fld := ⟨0x1300020, 15, 8, 0⟩
def fHevDecStatDamage : Fld := ⟨0x1300020, 7, 0, 0⟩
/-! HEV_DEC_RD (Decoder input read offset), R359. -/
def fHevDecRdRd : Fld := ⟨0x1300024, 31, 0, 0⟩
/-! HEV_DEC_WR (Decoder input write offset), R359. -/
def fHevDecWrWr : Fld := ⟨0x1300028, 31, 0, 0⟩
/-! SYS_EMERG_CTL (Emergency control), R385. -/
def fSysEmergCtlKey : Fld := ⟨0x50000, 31, 24, 0⟩
def fSysEmergCtlSafeClear : Fld := ⟨0x50000, 3, 3, 0⟩
def fSysEmergCtlFetchHalt : Fld := ⟨0x50000, 2, 2, 0⟩
def fSysEmergCtlRecStop : Fld := ⟨0x50000, 1, 1, 0⟩
def fSysEmergCtlSafeAll : Fld := ⟨0x50000, 0, 0, 0⟩
/-! SYS_EMERG_STAT (Emergency status), R385. -/
def fSysEmergStatCount : Fld := ⟨0x50004, 31, 16, 0⟩
def fSysEmergStatHalted : Fld := ⟨0x50004, 1, 1, 0⟩
def fSysEmergStatSafe : Fld := ⟨0x50004, 0, 0, 0⟩
/-! SYS_DBG_BASE (Debug window base), R385. -/
def fSysDbgBaseBase (n : Nat) : Fld := ⟨0x50100 + 4 * n, 6, 0, 0⟩
/-! SYS_JNL_HEAD (Journal head), R385. -/
def fSysJnlHeadHead : Fld := ⟨0x60400, 63, 0, 0⟩
/-! QF_STAT (Queue-front status), R404. -/
def fQfStatPstate : Fld := ⟨0xa00000, 31, 30, 0⟩
def fQfStatPaused : Fld := ⟨0xa00000, 29, 29, 0⟩
def fQfStatActivating : Fld := ⟨0xa00000, 28, 28, 0⟩
def fQfStatCtx : Fld := ⟨0xa00000, 20, 0, 0⟩
/-! STO_STAT (Store status), R404. -/
def fStoStatState : Fld := ⟨0xb00000, 31, 30, 0⟩
def fStoStatNssd : Fld := ⟨0xb00000, 29, 27, 0⟩
def fStoStatWbUsed : Fld := ⟨0xb00000, 26, 20, 0⟩
/-! STO_FREE (Free extents), R404. -/
def fStoFreeFree : Fld := ⟨0xb00004, 31, 0, 0⟩
/-! STO_SSD_STAT (SSD status), R404. -/
def fStoSsdStatState (n : Nat) : Fld := ⟨0xb00010 + 4 * n, 31, 30, 0⟩
def fStoSsdStatWidth (n : Nat) : Fld := ⟨0xb00010 + 4 * n, 29, 27, 0⟩
def fStoSsdStatSpeed (n : Nat) : Fld := ⟨0xb00010 + 4 * n, 26, 23, 0⟩
def fStoSsdStatErr (n : Nat) : Fld := ⟨0xb00010 + 4 * n, 15, 0, 0⟩
/-! JNL_HEAD_LO (Journal head), R404. -/
def fJnlHeadLoHead : Fld := ⟨0xc00000, 31, 0, 0⟩
/-! JNL_HEAD_HI (Journal head), R404. -/
def fJnlHeadHiHead : Fld := ⟨0xc00004, 31, 0, 0⟩
/-! JNL_OLDEST_LO (Oldest record), R404. -/
def fJnlOldestLoOldest : Fld := ⟨0xc00008, 31, 0, 0⟩
/-! JNL_OLDEST_HI (Oldest record), R404. -/
def fJnlOldestHiOldest : Fld := ⟨0xc0000c, 31, 0, 0⟩
/-! LANE_GRP_CFG (Group configuration), R439. -/
def fLaneGrpCfgProto (n : Nat) : Fld := ⟨0x800000 + 4 * n, 31, 28, 0⟩
def fLaneGrpCfgIsl (n : Nat) : Fld := ⟨0x800000 + 4 * n, 27, 24, 0⟩
def fLaneGrpCfgUp (n : Nat) : Fld := ⟨0x800000 + 4 * n, 23, 16, 0⟩
def fLaneGrpCfgFence (n : Nat) : Fld := ⟨0x800000 + 4 * n, 15, 8, 0⟩
/-! LANE_GRP_SEL (Group selection), R439. -/
def fLaneGrpSelPending : Fld := ⟨0x800040, 31, 31, 0⟩
def fLaneGrpSelG11 : Fld := ⟨0x800040, 4, 4, 0⟩
def fLaneGrpSelG1 : Fld := ⟨0x800040, 3, 2, 0⟩
def fLaneGrpSelG0 : Fld := ⟨0x800040, 1, 0, 0⟩
/-! LANE_REFCLK_STAT (Reference clock status), R439. -/
def fLaneRefclkStatFault (n : Nat) : Fld := ⟨0x800080 + 4 * n, 31, 31, 0⟩
def fLaneRefclkStatSeen (n : Nat) : Fld := ⟨0x800080 + 4 * n, 30, 30, 0⟩
def fLaneRefclkStatPpm (n : Nat) : Fld := ⟨0x800080 + 4 * n, 23, 0, 0⟩
/-! LANE_STAT (Lane status), R439. -/
def fLaneStatState (n : Nat) : Fld := ⟨0x801000 + 4 * n, 31, 28, 0⟩
def fLaneStatRate (n : Nat) : Fld := ⟨0x801000 + 4 * n, 27, 24, 0⟩
def fLaneStatBitlock (n : Nat) : Fld := ⟨0x801000 + 4 * n, 23, 23, 0⟩
def fLaneStatBlklock (n : Nat) : Fld := ⟨0x801000 + 4 * n, 22, 22, 0⟩
def fLaneStatFrozen (n : Nat) : Fld := ⟨0x801000 + 4 * n, 21, 21, 0⟩
def fLaneStatDrift (n : Nat) : Fld := ⟨0x801000 + 4 * n, 20, 20, 0⟩
def fLaneStatFails (n : Nat) : Fld := ⟨0x801000 + 4 * n, 17, 16, 0⟩
def fLaneStatLockloss (n : Nat) : Fld := ⟨0x801000 + 4 * n, 15, 8, 0⟩
def fLaneStatMargin (n : Nat) : Fld := ⟨0x801000 + 4 * n, 7, 0, 0⟩
/-! LANE_EQ (Transmitter setting), R439. -/
def fLaneEqCm3 (n : Nat) : Fld := ⟨0x801400 + 4 * n, 29, 24, 0⟩
def fLaneEqCm2 (n : Nat) : Fld := ⟨0x801400 + 4 * n, 23, 18, 0⟩
def fLaneEqCm1 (n : Nat) : Fld := ⟨0x801400 + 4 * n, 17, 12, 0⟩
def fLaneEqC0 (n : Nat) : Fld := ⟨0x801400 + 4 * n, 11, 6, 0⟩
def fLaneEqCp1 (n : Nat) : Fld := ⟨0x801400 + 4 * n, 5, 0, 0⟩
/-! LANE_CTL (Lane control), R439. -/
def fLaneCtlTxinv (n : Nat) : Fld := ⟨0x801800 + 4 * n, 3, 3, 0⟩
def fLaneCtlRxinv (n : Nat) : Fld := ⟨0x801800 + 4 * n, 2, 2, 0⟩
def fLaneCtlRetry (n : Nat) : Fld := ⟨0x801800 + 4 * n, 1, 1, 0⟩
def fLaneCtlTest (n : Nat) : Fld := ⟨0x801800 + 4 * n, 0, 0, 0⟩
/-! ETH_PORT_STAT (Port status), R439. -/
def fEthPortStatState (n : Nat) : Fld := ⟨0x900000 + 4 * n, 31, 30, 0⟩
def fEthPortStatMode (n : Nat) : Fld := ⟨0x900000 + 4 * n, 29, 28, 0⟩
def fEthPortStatMembers (n : Nat) : Fld := ⟨0x900000 + 4 * n, 27, 24, 0⟩
def fEthPortStatDowns (n : Nat) : Fld := ⟨0x900000 + 4 * n, 23, 16, 0⟩
def fEthPortStatDropped (n : Nat) : Fld := ⟨0x900000 + 4 * n, 15, 8, 0⟩
def fEthPortStatFecunc (n : Nat) : Fld := ⟨0x900000 + 4 * n, 7, 0, 0⟩
/-! ETH_MAC_LO (Base MAC address), R439. -/
def fEthMacLoMac : Fld := ⟨0x900100, 31, 0, Config.macBase.toNat % 4294967296⟩
/-! ETH_MAC_HI (Base MAC address), R439. -/
def fEthMacHiMac : Fld := ⟨0x900104, 31, 0, Config.macBase.toNat / 4294967296⟩
/-! ETH_IP (Port IPv4 address), R439. -/
def fEthIpAddr (n : Nat) : Fld := ⟨0x900200 + 4 * n, 31, 0, 0⟩
/-! TIME_CTL (Time control), R460. -/
def fTimeCtlSrc : Fld := ⟨0x1400000, 31, 30, 1⟩
def fTimeCtlStepEn : Fld := ⟨0x1400000, 29, 29, 0⟩
def fTimeCtlDomain : Fld := ⟨0x1400000, 22, 16, 127⟩
def fTimeCtlStepMax : Fld := ⟨0x1400000, 15, 0, 1000⟩
/-! TIME_STAT (Time status), R460. -/
def fTimeStatState : Fld := ⟨0x1400004, 31, 30, 0⟩
def fTimeStatPort : Fld := ⟨0x1400004, 29, 27, 7⟩
def fTimeStatRefok : Fld := ⟨0x1400004, 26, 26, 0⟩
def fTimeStatReject : Fld := ⟨0x1400004, 15, 8, 0⟩
def fTimeStatSteps : Fld := ⟨0x1400004, 7, 0, 0⟩
/-! TIME_OFFSET (Last offset), R460. -/
def fTimeOffsetOffset : Fld := ⟨0x1400008, 31, 0, 0⟩
/-! TIME_SERVO (Servo parameters), R460. -/
def fTimeServoKp : Fld := ⟨0x140000c, 31, 24, 48⟩
def fTimeServoKi : Fld := ⟨0x140000c, 23, 16, 4⟩
def fTimeServoLock : Fld := ⟨0x140000c, 15, 0, 100⟩
/-! TIME_NOW_LO (Present time), R460. -/
def fTimeNowLoNow : Fld := ⟨0x1400010, 31, 0, 0⟩
/-! TIME_NOW_HI (Present time), R460. -/
def fTimeNowHiNow : Fld := ⟨0x1400014, 31, 0, 0⟩
/-! TIME_INC_LO (Increment), R460. -/
def fTimeIncLoInc : Fld := ⟨0x1400018, 31, 0, 0⟩
/-! TIME_INC_HI (Increment), R460. -/
def fTimeIncHiInc : Fld := ⟨0x140001c, 31, 0, 2⟩
/-! TIME_STEP_LO (Step), R460. -/
def fTimeStepLoStep : Fld := ⟨0x1400020, 31, 0, 0⟩
/-! TIME_STEP_HI (Step), R460. -/
def fTimeStepHiStep : Fld := ⟨0x1400024, 31, 0, 0⟩
/-! TIME_ASYM_RX (Port asymmetry), R460. -/
def fTimeAsymRxAsym (n : Nat) : Fld := ⟨0x1400100 + 8 * n, 31, 0, 0⟩
/-! TIME_ASYM_TX (Port asymmetry), R460. -/
def fTimeAsymTxAsym (n : Nat) : Fld := ⟨0x1400104 + 8 * n, 31, 0, 0⟩
/-! TIME_PORT_STAT (Port PTP status), R460. -/
def fTimePortStatRole (n : Nat) : Fld := ⟨0x1400200 + 4 * n, 31, 30, 0⟩
def fTimePortStatPath (n : Nat) : Fld := ⟨0x1400200 + 4 * n, 23, 0, 0⟩
/-! TRG_CTL (Trigger control), R461. -/
def fTrgCtlEn (n : Nat) : Fld := ⟨0x1500000 + 32 * n, 31, 31, 0⟩
def fTrgCtlAlign (n : Nat) : Fld := ⟨0x1500000 + 32 * n, 30, 30, 0⟩
def fTrgCtlPeriodic (n : Nat) : Fld := ⟨0x1500000 + 32 * n, 29, 29, 0⟩
def fTrgCtlLate (n : Nat) : Fld := ⟨0x1500000 + 32 * n, 28, 28, 0⟩
def fTrgCtlMissed (n : Nat) : Fld := ⟨0x1500000 + 32 * n, 23, 16, 0⟩
def fTrgCtlPinEn (n : Nat) : Fld := ⟨0x1500000 + 32 * n, 15, 15, 0⟩
def fTrgCtlPol (n : Nat) : Fld := ⟨0x1500000 + 32 * n, 14, 14, 0⟩
def fTrgCtlPin (n : Nat) : Fld := ⟨0x1500000 + 32 * n, 13, 8, 0⟩
/-! TRG_START (Start or phase), R461. -/
def fTrgStartStart (n : Nat) : Fld := ⟨0x1500004 + 32 * n, 31, 0, 0⟩
/-! TRG_PER_N (Period, whole ns), R461. -/
def fTrgPerNPerN (n : Nat) : Fld := ⟨0x1500008 + 32 * n, 31, 0, 8333333⟩
/-! TRG_PER_RD (Period fraction), R461. -/
def fTrgPerRdPerD (n : Nat) : Fld := ⟨0x150000c + 32 * n, 31, 16, 3⟩
def fTrgPerRdPerR (n : Nat) : Fld := ⟨0x150000c + 32 * n, 15, 0, 1⟩
/-! TRG_WIDTH (Pulse width), R461. -/
def fTrgWidthWidth (n : Nat) : Fld := ⟨0x1500010 + 32 * n, 31, 0, 1000⟩
/-! TRG_LAST_LO (Last trigger time), R461. -/
def fTrgLastLoLast (n : Nat) : Fld := ⟨0x1500014 + 32 * n, 31, 0, 0⟩
/-! TRG_LAST_HI (Last trigger time), R461. -/
def fTrgLastHiLast (n : Nat) : Fld := ⟨0x1500018 + 32 * n, 31, 0, 0⟩
/-! CAP_CFG (Capture configuration), R461. -/
def fCapCfgEn (n : Nat) : Fld := ⟨0x1600000 + 32 * n, 31, 31, 0⟩
def fCapCfgEdge (n : Nat) : Fld := ⟨0x1600000 + 32 * n, 30, 29, 1⟩
def fCapCfgSrc (n : Nat) : Fld := ⟨0x1600000 + 32 * n, 23, 16, 0⟩
def fCapCfgFilt (n : Nat) : Fld := ⟨0x1600000 + 32 * n, 15, 8, 0⟩
def fCapCfgMingap (n : Nat) : Fld := ⟨0x1600000 + 32 * n, 7, 0, 0⟩
/-! CAP_TOUT (Capture timeout), R461. -/
def fCapToutTout (n : Nat) : Fld := ⟨0x1600004 + 32 * n, 31, 0, 0⟩
/-! CAP_TS_LO (Oldest stamp), R461. -/
def fCapTsLoTs (n : Nat) : Fld := ⟨0x1600008 + 32 * n, 31, 0, 0⟩
/-! CAP_TS_HI (Oldest stamp), R461. -/
def fCapTsHiTs (n : Nat) : Fld := ⟨0x160000c + 32 * n, 31, 0, 0⟩
/-! CAP_STAT (Capture status), R461. -/
def fCapStatLevel (n : Nat) : Fld := ⟨0x1600010 + 32 * n, 20, 16, 0⟩
def fCapStatOvf (n : Nat) : Fld := ⟨0x1600010 + 32 * n, 15, 8, 0⟩
def fCapStatGap (n : Nat) : Fld := ⟨0x1600010 + 32 * n, 7, 0, 0⟩
/-! AUD_PORT_CFG (Port configuration), R487. -/
def fAudPortCfgState (n : Nat) : Fld := ⟨0x1700000 + 32 * n, 31, 30, 0⟩
def fAudPortCfgMask (n : Nat) : Fld := ⟨0x1700000 + 32 * n, 29, 28, 3⟩
def fAudPortCfgClk (n : Nat) : Fld := ⟨0x1700000 + 32 * n, 27, 26, 0⟩
def fAudPortCfgRate (n : Nat) : Fld := ⟨0x1700000 + 32 * n, 25, 24, 0⟩
def fAudPortCfgTrigmode (n : Nat) : Fld := ⟨0x1700000 + 32 * n, 23, 23, 0⟩
def fAudPortCfgTrg (n : Nat) : Fld := ⟨0x1700000 + 32 * n, 22, 18, 0⟩
def fAudPortCfgDec4 (n : Nat) : Fld := ⟨0x1700000 + 32 * n, 17, 12, 16⟩
def fAudPortCfgBlk (n : Nat) : Fld := ⟨0x1700000 + 32 * n, 10, 0, 48⟩
/-! AUD_RING_LO (Ring base), R487. -/
def fAudRingLoVa (n : Nat) : Fld := ⟨0x1700004 + 32 * n, 31, 0, 0⟩
/-! AUD_RING_HI (Ring base), R487. -/
def fAudRingHiAsid (n : Nat) : Fld := ⟨0x1700008 + 32 * n, 31, 20, 0⟩
def fAudRingHiVa (n : Nat) : Fld := ⟨0x1700008 + 32 * n, 15, 0, 0⟩
/-! AUD_RING_SIZE (Ring size), R487. -/
def fAudRingSizeSize (n : Nat) : Fld := ⟨0x170000c + 32 * n, 31, 0, 0⟩
/-! AUD_RING_WR (Ring offsets), R487. -/
def fAudRingWrOff (n : Nat) : Fld := ⟨0x1700010 + 32 * n, 31, 0, 0⟩
/-! AUD_RING_RD (Ring offsets), R487. -/
def fAudRingRdOff (n : Nat) : Fld := ⟨0x1700014 + 32 * n, 31, 0, 0⟩
/-! AUD_STAT (Port counts), R487. -/
def fAudStatOvr (n : Nat) : Fld := ⟨0x1700018 + 32 * n, 31, 16, 0⟩
def fAudStatStuck (n : Nat) : Fld := ⟨0x1700018 + 32 * n, 15, 8, 0⟩
def fAudStatClklost (n : Nat) : Fld := ⟨0x1700018 + 32 * n, 7, 0, 0⟩
/-! AUD_CLK_STAT (Clock status), R487. -/
def fAudClkStatFault (n : Nat) : Fld := ⟨0x1700400 + 4 * n, 31, 31, 0⟩
def fAudClkStatSeen (n : Nat) : Fld := ⟨0x1700400 + 4 * n, 30, 30, 0⟩
def fAudClkStatKhz (n : Nat) : Fld := ⟨0x1700400 + 4 * n, 23, 0, 0⟩
/-! AUD_STR_CFG (Stream configuration), R487. -/
def fAudStrCfgEn (n : Nat) : Fld := ⟨0x1700800 + 16 * n, 31, 31, 0⟩
def fAudStrCfgL16 (n : Nat) : Fld := ⟨0x1700800 + 16 * n, 30, 30, 0⟩
def fAudStrCfgPort (n : Nat) : Fld := ⟨0x1700800 + 16 * n, 29, 27, 0⟩
def fAudStrCfgSecport (n : Nat) : Fld := ⟨0x1700800 + 16 * n, 26, 24, 7⟩
def fAudStrCfgC0 (n : Nat) : Fld := ⟨0x1700800 + 16 * n, 17, 13, 0⟩
def fAudStrCfgNch (n : Nat) : Fld := ⟨0x1700800 + 16 * n, 12, 8, 2⟩
def fAudStrCfgPt (n : Nat) : Fld := ⟨0x1700800 + 16 * n, 6, 0, 97⟩
/-! AUD_STR_DST (Stream destinations), R487. -/
def fAudStrDstAddr (n : Nat) : Fld := ⟨0x1700804 + 16 * n, 31, 0, 0⟩
/-! AUD_STR_DST2 (Stream destinations), R487. -/
def fAudStrDst2Addr (n : Nat) : Fld := ⟨0x1700808 + 16 * n, 31, 0, 0⟩
/-! AUD_STR_UDP (Stream ports), R487. -/
def fAudStrUdpUdp (n : Nat) : Fld := ⟨0x170080c + 16 * n, 31, 16, 0⟩
def fAudStrUdpDscp (n : Nat) : Fld := ⟨0x170080c + 16 * n, 15, 10, 46⟩
/-! AX_CFG (Axis configuration), R488. -/
def fAxCfgState (n : Nat) : Fld := ⟨0x1800000 + 64 * n, 31, 30, 0⟩
def fAxCfgMode (n : Nat) : Fld := ⟨0x1800000 + 64 * n, 29, 29, 0⟩
def fAxCfgDirinv (n : Nat) : Fld := ⟨0x1800000 + 64 * n, 28, 28, 0⟩
def fAxCfgMeta (n : Nat) : Fld := ⟨0x1800000 + 64 * n, 27, 27, 0⟩
def fAxCfgTrg (n : Nat) : Fld := ⟨0x1800000 + 64 * n, 26, 22, 0⟩
def fAxCfgFilt (n : Nat) : Fld := ⟨0x1800000 + 64 * n, 21, 12, 1⟩
def fAxCfgHyst (n : Nat) : Fld := ⟨0x1800000 + 64 * n, 11, 4, 4⟩
def fAxCfgAvg (n : Nat) : Fld := ⟨0x1800000 + 64 * n, 2, 0, 2⟩
/-! AX_POS (Position), R488. -/
def fAxPosPos (n : Nat) : Fld := ⟨0x1800004 + 64 * n, 31, 0, 0⟩
/-! AX_SPEED (Speed), R488. -/
def fAxSpeedSpeed (n : Nat) : Fld := ⟨0x1800008 + 64 * n, 31, 0, 0⟩
/-! AX_STAT (Axis status), R488. -/
def fAxStatValid (n : Nat) : Fld := ⟨0x180000c + 64 * n, 31, 31, 0⟩
def fAxStatDir (n : Nat) : Fld := ⟨0x180000c + 64 * n, 30, 30, 0⟩
def fAxStatStill (n : Nat) : Fld := ⟨0x180000c + 64 * n, 29, 29, 1⟩
def fAxStatIdxerr (n : Nat) : Fld := ⟨0x180000c + 64 * n, 28, 28, 0⟩
def fAxStatReversals (n : Nat) : Fld := ⟨0x180000c + 64 * n, 23, 16, 0⟩
def fAxStatIdxerrs (n : Nat) : Fld := ⟨0x180000c + 64 * n, 15, 8, 0⟩
def fAxStatColl (n : Nat) : Fld := ⟨0x180000c + 64 * n, 7, 0, 0⟩
/-! AX_STILL (Standstill timeout), R488. -/
def fAxStillStill (n : Nat) : Fld := ⟨0x1800010 + 64 * n, 23, 0, 100000⟩
/-! AX_IDX_CFG (Index check), R488. -/
def fAxIdxCfgEn (n : Nat) : Fld := ⟨0x1800014 + 64 * n, 31, 31, 0⟩
def fAxIdxCfgTol (n : Nat) : Fld := ⟨0x1800014 + 64 * n, 30, 24, 0⟩
def fAxIdxCfgNom (n : Nat) : Fld := ⟨0x1800014 + 64 * n, 23, 0, 0⟩
/-! AX_IDX_POS (Index results), R488. -/
def fAxIdxPosValue (n : Nat) : Fld := ⟨0x1800018 + 64 * n, 31, 0, 0⟩
/-! AX_IDX_CNT (Index results), R488. -/
def fAxIdxCntValue (n : Nat) : Fld := ⟨0x180001c + 64 * n, 31, 0, 0⟩
/-! AX_CMP (Compare target), R488. -/
def fAxCmpTarget (n : Nat) : Fld := ⟨0x1800020 + 64 * n, 31, 0, 0⟩
/-! AX_CMP_CTL (Compare control), R488. -/
def fAxCmpCtlArm (n : Nat) : Fld := ⟨0x1800024 + 64 * n, 31, 31, 0⟩
def fAxCmpCtlLate (n : Nat) : Fld := ⟨0x1800024 + 64 * n, 30, 30, 0⟩
def fAxCmpCtlFired (n : Nat) : Fld := ⟨0x1800024 + 64 * n, 29, 29, 0⟩
def fAxCmpCtlPinEn (n : Nat) : Fld := ⟨0x1800024 + 64 * n, 28, 28, 0⟩
def fAxCmpCtlPol (n : Nat) : Fld := ⟨0x1800024 + 64 * n, 27, 27, 0⟩
def fAxCmpCtlPin (n : Nat) : Fld := ⟨0x1800024 + 64 * n, 26, 21, 0⟩
def fAxCmpCtlWidth (n : Nat) : Fld := ⟨0x1800024 + 64 * n, 15, 0, 100⟩
/-! AX_CMP_TIME_LO (Firing time), R488. -/
def fAxCmpTimeLoTime (n : Nat) : Fld := ⟨0x1800028 + 64 * n, 31, 0, 0⟩
/-! AX_CMP_TIME_HI (Firing time), R488. -/
def fAxCmpTimeHiTime (n : Nat) : Fld := ⟨0x180002c + 64 * n, 31, 0, 0⟩
/-! AX_SMP_POS (Sampled position), R488. -/
def fAxSmpPosPos (n : Nat) : Fld := ⟨0x1800030 + 64 * n, 31, 0, 0⟩
/-! AX_SMP_TIME_LO (Sample time), R488. -/
def fAxSmpTimeLoTime (n : Nat) : Fld := ⟨0x1800034 + 64 * n, 31, 0, 0⟩
/-! AX_SMP_TIME_HI (Sample time), R488. -/
def fAxSmpTimeHiTime (n : Nat) : Fld := ⟨0x1800038 + 64 * n, 31, 0, 0⟩
/-! AX_SMP_FLAGS (Sample flags), R488. -/
def fAxSmpFlagsIdxerr (n : Nat) : Fld := ⟨0x180003c + 64 * n, 3, 3, 0⟩
def fAxSmpFlagsStill (n : Nat) : Fld := ⟨0x180003c + 64 * n, 2, 2, 1⟩
def fAxSmpFlagsDir (n : Nat) : Fld := ⟨0x180003c + 64 * n, 1, 1, 0⟩
def fAxSmpFlagsValid (n : Nat) : Fld := ⟨0x180003c + 64 * n, 0, 0, 0⟩
/-! PRM_STAT (Priming status), R516. -/
def fPrmStatState : Fld := ⟨0x100000, 31, 30, 0⟩
def fPrmStatQfReady : Fld := ⟨0x100000, 29, 29, 0⟩
def fPrmStatDefaults : Fld := ⟨0x100000, 28, 28, 0⟩
def fPrmStatStep : Fld := ⟨0x100000, 27, 24, 0⟩
def fPrmStatReprime : Fld := ⟨0x100000, 18, 16, 0⟩
def fPrmStatBoots : Fld := ⟨0x100000, 15, 0, 0⟩
/-! PRM_STEP (Step status), R516. -/
def fPrmStepState (n : Nat) : Fld := ⟨0x100010 + 4 * n, 31, 29, 0⟩
def fPrmStepVariant (n : Nat) : Fld := ⟨0x100010 + 4 * n, 28, 27, 0⟩
def fPrmStepAttempts (n : Nat) : Fld := ⟨0x100010 + 4 * n, 26, 24, 0⟩
def fPrmStepHistory (n : Nat) : Fld := ⟨0x100010 + 4 * n, 23, 16, 0⟩
def fPrmStepTime (n : Nat) : Fld := ⟨0x100010 + 4 * n, 15, 0, 0⟩
/-! PRM_RETIRED (Retired units), R516. -/
def fPrmRetiredPumps : Fld := ⟨0x100050, 31, 24, 0⟩
def fPrmRetiredBanks : Fld := ⟨0x100050, 23, 16, 0⟩
def fPrmRetiredLanes : Fld := ⟨0x100050, 15, 8, 0⟩
def fPrmRetiredOther : Fld := ⟨0x100050, 7, 0, 0⟩
/-! PRM_SUMP_HEAD_LO (Sump head), R516. -/
def fPrmSumpHeadLoHead : Fld := ⟨0x100060, 31, 0, 0⟩
/-! PRM_SUMP_HEAD_HI (Sump head), R516. -/
def fPrmSumpHeadHiHead : Fld := ⟨0x100064, 31, 0, 0⟩
/-! SYS_RCV_CTL (Recovery control), R524. -/
def fSysRcvCtlKey : Fld := ⟨0x50200, 31, 24, 0⟩
def fSysRcvCtlGo : Fld := ⟨0x50200, 23, 23, 0⟩
def fSysRcvCtlLen : Fld := ⟨0x50200, 20, 0, 0⟩
/-! SYS_RCV_STAT (Recovery status), R524. -/
def fSysRcvStatStatus : Fld := ⟨0x50204, 31, 28, 0⟩
/-! SEC_STAT (Security status), R533. -/
def fSecStatLc : Fld := ⟨0x200000, 31, 30, 1⟩
def fSecStatRollback : Fld := ⟨0x200000, 29, 23, 0⟩
def fSecStatFkrev : Fld := ⟨0x200000, 22, 19, 0⟩
def fSecStatSlotb : Fld := ⟨0x200000, 18, 18, 0⟩
def fSecStatSerial : Fld := ⟨0x200000, 15, 0, 0⟩
/-! THM_CTL (Thermal control), R566. -/
def fThmCtlRiseFloor : Fld := ⟨0x300000, 31, 24, 95⟩
def fThmCtlRiseLimit : Fld := ⟨0x300000, 23, 16, 8⟩
def fThmCtlXthrot : Fld := ⟨0x300000, 0, 0, 1⟩
/-! THM_LEVEL (Throttle level k + 1), R566. -/
def fThmLevelEn (n : Nat) : Fld := ⟨0x300010 + 4 * n, 31, 31, 1⟩
def fThmLevelAct (n : Nat) : Fld := ⟨0x300010 + 4 * n, 27, 24, thmActReset n⟩
def fThmLevelHyst (n : Nat) : Fld := ⟨0x300010 + 4 * n, 23, 16, 3⟩
def fThmLevelTemp (n : Nat) : Fld := ⟨0x300010 + 4 * n, 7, 0, (108 + 4 * n)⟩
/-! THM_SENS (Sensor status), R566. -/
def fThmSensFault (n : Nat) : Fld := ⟨0x300100 + 4 * n, 31, 31, 0⟩
def fThmSensLevel (n : Nat) : Fld := ⟨0x300100 + 4 * n, 30, 28, 0⟩
def fThmSensRise (n : Nat) : Fld := ⟨0x300100 + 4 * n, 27, 27, 0⟩
def fThmSensGrad (n : Nat) : Fld := ⟨0x300100 + 4 * n, 26, 26, 0⟩
def fThmSensTemp (n : Nat) : Fld := ⟨0x300100 + 4 * n, 11, 0, 0⟩
/-! THM_MAX (Maximum-sensor temperature), R566. -/
def fThmMaxSensor : Fld := ⟨0x300200, 31, 27, 0⟩
def fThmMaxPeak : Fld := ⟨0x300200, 23, 12, 0⟩
def fThmMaxTemp : Fld := ⟨0x300200, 11, 0, 0⟩
/-! THM_GATE (Write gate), R566. -/
def fThmGateOpen : Fld := ⟨0x300204, 31, 31, 0⟩
def fThmGateBusy : Fld := ⟨0x300204, 30, 30, 0⟩
def fThmGateSusp : Fld := ⟨0x300204, 29, 29, 0⟩
def fThmGatePendCkpt : Fld := ⟨0x300204, 17, 17, 0⟩
def fThmGatePendRr : Fld := ⟨0x300204, 16, 16, 0⟩
def fThmGateRefused : Fld := ⟨0x300204, 15, 0, 0⟩
/-! PWR_RAIL (Rail status), R566. -/
def fPwrRailState (n : Nat) : Fld := ⟨0x400000 + 4 * n, 31, 30, 0⟩
def fPwrRailMeas (n : Nat) : Fld := ⟨0x400000 + 4 * n, 25, 13, 0⟩
def fPwrRailSet (n : Nat) : Fld := ⟨0x400000 + 4 * n, 12, 0, 0⟩

/-- The SYS_ registers. -/
def regRowsSys : List RegRow := [
  ⟨"SYS_ID", 0x0, 0, 1, false, fun _ => [(fSysIdPart, .ro), (fSysIdMember, .ro), (fSysIdStep, .ro), (fSysIdScreen, .ro)]⟩,
  ⟨"SYS_ISL_STAT", 0x60000, 4, 40, true, fun n => [(fSysIslStatState n, .ro), (fSysIslStatDiv n, .ro), (fSysIslStatSkip n, .ro), (fSysIslStatFmhz n, .ro), (fSysIslStatVmv n, .ro)]⟩,
  ⟨"SYS_EMERG_CTL", 0x50000, 0, 1, true, fun _ => [(fSysEmergCtlKey, .wo), (fSysEmergCtlSafeClear, .wo), (fSysEmergCtlFetchHalt, .wo), (fSysEmergCtlRecStop, .wo), (fSysEmergCtlSafeAll, .wo)]⟩,
  ⟨"SYS_EMERG_STAT", 0x50004, 0, 1, true, fun _ => [(fSysEmergStatCount, .rc), (fSysEmergStatHalted, .ro), (fSysEmergStatSafe, .ro)]⟩,
  ⟨"SYS_DBG_BASE", 0x50100, 4, 4, true, fun n => [(fSysDbgBaseBase n, .rw)]⟩,
  ⟨"SYS_JNL_HEAD", 0x60400, 0, 1, true, fun _ => [(fSysJnlHeadHead, .ro)]⟩,
  ⟨"SYS_RCV_CTL", 0x50200, 0, 1, true, fun _ => [(fSysRcvCtlKey, .wo), (fSysRcvCtlGo, .wo), (fSysRcvCtlLen, .wo)]⟩,
  ⟨"SYS_RCV_STAT", 0x50204, 0, 1, true, fun _ => [(fSysRcvStatStatus, .ro)]⟩]

/-- The MEM_ registers. -/
def regRowsMem : List RegRow := [
  ⟨"MEM_CTL", 0x500000, 0, 1, false, fun _ => [(fMemCtlScrubEn, .rw), (fMemCtlSrAuto, .rw), (fMemCtlRegForce, .rw), (fMemCtlPanicEn, .rw)]⟩,
  ⟨"MEM_SR_CFG", 0x500004, 0, 1, false, fun _ => [(fMemSrCfgIdle, .rw)]⟩,
  ⟨"MEM_PANIC_CEIL", 0x500008, 0, 1, false, fun _ => [(fMemPanicCeilCeil, .rw)]⟩,
  ⟨"MEM_CAP", 0x500010, 0, 1, false, fun _ => [(fMemCapSpared, .ro), (fMemCapUsable, .ro), (fMemCapReserve, .ro), (fMemCapAlloc, .ro)]⟩,
  ⟨"MEM_CHAN_STAT", 0x500100, 4, 24, false, fun n => [(fMemChanStatState n, .ro), (fMemChanStatCe n, .rc), (fMemChanStatUe n, .rc), (fMemChanStatCap n, .ro)]⟩,
  ⟨"MEM_FLOAT_CFG", 0x501000, 4, 128, false, fun n => [(fMemFloatCfgEn n, .rw), (fMemFloatCfgDir n, .ro), (fMemFloatCfgOn n, .rw), (fMemFloatCfgOff n, .rw)]⟩,
  ⟨"MEM_FLOAT_STAT", 0x502000, 4, 128, false, fun n => [(fMemFloatStatPanic n, .ro), (fMemFloatStatHit n, .w1c), (fMemFloatStatWorst n, .rc), (fMemFloatStatLevel n, .ro)]⟩,
  ⟨"MEM_REG_CFG", 0x503000, 4, 192, false, fun n => [(fMemRegCfgEn n, .rw), (fMemRegCfgRate n, .rw), (fMemRegCfgBurst n, .rw)]⟩]

/-- The CXL_ registers. -/
def regRowsCxl : List RegRow := [
  ⟨"CXL_PORT_STAT", 0x700000, 4, 2, false, fun n => [(fCxlPortStatState n, .ro), (fCxlPortStatWidth n, .ro), (fCxlPortStatSpeed n, .ro), (fCxlPortStatBw n, .ro)]⟩,
  ⟨"CXL_CAP", 0x700010, 0, 1, false, fun _ => [(fCxlCapIlv, .ro), (fCxlCapSize, .ro)]⟩]

/-- The SNS_ registers. -/
def regRowsSns : List RegRow := [
  ⟨"SNS_CTL", 0xd00000, 4, 2, false, fun n => [(fSnsCtlState n, .ro), (fSnsCtlMode n, .rw), (fSnsCtlEmb n, .rw), (fSnsCtlCk2 n, .rw), (fSnsCtlFilt n, .rw), (fSnsCtlRate n, .rw)]⟩,
  ⟨"SNS_TRAIN", 0xd00008, 4, 2, false, fun n => [(fSnsTrainTrain n, .rw)]⟩,
  ⟨"SNS_TAP_PS", 0xd00010, 0, 1, false, fun _ => [(fSnsTapPsTapps, .ro)]⟩,
  ⟨"SNS_FMT", 0xd00100, 4, 5, false, fun n => [(fSnsFmtDepth n, .rw), (fSnsFmtNexp n, .rw), (fSnsFmtChk n, .rw), (fSnsFmtNlane n, .rw), (fSnsFmtWidth n, .rw)]⟩,
  ⟨"SNS_FRAME", 0xd00120, 4, 5, false, fun n => [(fSnsFrameLines n, .rw), (fSnsFrameWell n, .rw), (fSnsFrameBuf n, .rw)]⟩,
  ⟨"SNS_TIME", 0xd00140, 4, 5, false, fun n => [(fSnsTimePeriod n, .rw)]⟩,
  ⟨"SNS_LINE", 0xd00160, 4, 5, false, fun n => [(fSnsLineTout n, .rw), (fSnsLineLine n, .rw)]⟩,
  ⟨"SNS_GL", 0xd00180, 4, 5, false, fun n => [(fSnsGlEn n, .rw), (fSnsGlTrg n, .rw), (fSnsGlWin n, .rw)]⟩,
  ⟨"SNS_GL_LAT", 0xd001a0, 4, 5, false, fun n => [(fSnsGlLatLat n, .rw)]⟩,
  ⟨"SNS_OCC", 0xd001c0, 4, 5, false, fun n => [(fSnsOccWorst n, .rc), (fSnsOccOvf n, .rc), (fSnsOccLevel n, .ro)]⟩,
  ⟨"SNS_LANE_CFG", 0xd01000, 4, 160, false, fun n => [(fSnsLaneCfgUsed n, .ro), (fSnsLaneCfgTap n, .ro), (fSnsLaneCfgThr n, .ro), (fSnsLaneCfgSlip n, .ro)]⟩,
  ⟨"SNS_LANE_STAT", 0xd01400, 4, 160, false, fun n => [(fSnsLaneStatCrcerr n, .rc), (fSnsLaneStatLockloss n, .rc)]⟩,
  ⟨"SNS_CALSET", 0xd02000, 4, 48, false, fun n => [(fSnsCalsetValid n, .ro), (fSnsCalsetSaved n, .ro), (fSnsCalsetTemp n, .ro)]⟩]

/-- The PIPE_ registers. -/
def regRowsPipe : List RegRow := [
  ⟨"PIPE_PLT_CTL", 0xe00000, 0, 1, false, fun _ => [(fPipePltCtlState, .ro), (fPipePltCtlCtx, .ro), (fPipePltCtlBin2, .ro), (fPipePltCtlFallback, .rw)]⟩,
  ⟨"PIPE_PLT_STAT", 0xe00004, 0, 1, false, fun _ => [(fPipePltStatFrames, .rc), (fPipePltStatStrips, .rc)]⟩,
  ⟨"PIPE_PLT_BOOT", 0xe00008, 0, 1, false, fun _ => [(fPipePltBootValid, .ro), (fPipePltBootCtx, .ro), (fPipePltBootBin2, .ro)]⟩]

/-- The MIX_ registers. -/
def regRowsMix : List RegRow := [
  ⟨"MIX_STAT", 0xf00000, 4, 4, false, fun n => [(fMixStatState n, .ro), (fMixStatAbort n, .rc), (fMixStatGuard n, .rc), (fMixStatLayerf n, .rc)]⟩]

/-- The SPT_ registers. -/
def regRowsSpt : List RegRow := [
  ⟨"SPT_LOAD", 0x1000000, 4, 16, false, fun n => [(fSptLoadLoad n, .ro)]⟩,
  ⟨"SPT_FLOW_CFG", 0x1001000, 4, 512, false, fun n => [(fSptFlowCfgState n, .ro), (fSptFlowCfgDest n, .ro), (fSptFlowCfgHold n, .ro), (fSptFlowCfgSafeimg n, .ro), (fSptFlowCfgArmed n, .ro), (fSptFlowCfgNguard n, .ro), (fSptFlowCfgPort n, .ro), (fSptFlowCfgSecport n, .ro), (fSptFlowCfgSrc n, .ro), (fSptFlowCfgTrg n, .ro)]⟩,
  ⟨"SPT_FLOW_STAT", 0x1001800, 4, 512, false, fun n => [(fSptFlowStatUnder n, .rc), (fSptFlowStatGuard n, .rc), (fSptFlowStatPathlost n, .rc), (fSptFlowStatMissed n, .rc)]⟩]

/-- The RAS_ registers. -/
def regRowsRas : List RegRow := [
  ⟨"RAS_CTL", 0x1100000, 4, 16, false, fun n => [(fRasCtlState n, .ro), (fRasCtlLink n, .rw), (fRasCtlFrac n, .rw), (fRasCtlClone n, .rw), (fRasCtlSrc n, .rw), (fRasCtlFlow n, .rw)]⟩,
  ⟨"RAS_HA", 0x1100100, 8, 16, false, fun n => [(fRasHaFp n, .rw), (fRasHaActive n, .rw)]⟩,
  ⟨"RAS_VA", 0x1100104, 8, 16, false, fun n => [(fRasVaFp n, .rw), (fRasVaActive n, .rw)]⟩,
  ⟨"RAS_HB", 0x1100200, 8, 16, false, fun n => [(fRasHbBp n, .rw), (fRasHbSync n, .rw)]⟩,
  ⟨"RAS_VB", 0x1100204, 8, 16, false, fun n => [(fRasVbBp n, .rw), (fRasVbSync n, .rw)]⟩,
  ⟨"RAS_STAT", 0x1100300, 4, 16, false, fun n => [(fRasStatPinerr n, .rc), (fRasStatAbort n, .rc), (fRasStatRepeat n, .rc)]⟩]

/-- The CMP_ registers. -/
def regRowsCmp : List RegRow := [
  ⟨"CMP_CTL", 0x1200000, 0, 1, false, fun _ => [(fCmpCtlCatchOn, .rw), (fCmpCtlCatchOff, .rw)]⟩,
  ⟨"CMP_POOL", 0x1200004, 0, 1, false, fun _ => [(fCmpPoolActive, .ro), (fCmpPoolCatchup, .ro), (fCmpPoolWorst, .rc), (fCmpPoolEntries, .rc), (fCmpPoolBacklog, .ro)]⟩,
  ⟨"CMP_STAT", 0x1200010, 4, 4, false, fun n => [(fCmpStatState n, .ro), (fCmpStatVerify n, .rc), (fCmpStatTests n, .rc)]⟩]

/-- The HEV_ registers. -/
def regRowsHev : List RegRow := [
  ⟨"HEV_ENC_STAT", 0x1300000, 4, 2, false, fun n => [(fHevEncStatState n, .ro), (fHevEncStatBudget n, .rc), (fHevEncStatDropped n, .rc), (fHevEncStatFault n, .rc)]⟩,
  ⟨"HEV_RING_WR", 0x1300010, 8, 2, false, fun n => [(fHevRingWrWr n, .ro)]⟩,
  ⟨"HEV_RING_RD", 0x1300014, 8, 2, false, fun n => [(fHevRingRdRd n, .rw)]⟩,
  ⟨"HEV_DEC_STAT", 0x1300020, 0, 1, false, fun _ => [(fHevDecStatState, .ro), (fHevDecStatStatus, .ro), (fHevDecStatDropped, .rc), (fHevDecStatDamage, .rc)]⟩,
  ⟨"HEV_DEC_RD", 0x1300024, 0, 1, false, fun _ => [(fHevDecRdRd, .ro)]⟩,
  ⟨"HEV_DEC_WR", 0x1300028, 0, 1, false, fun _ => [(fHevDecWrWr, .rw)]⟩]

/-- The QF_ registers. -/
def regRowsQf : List RegRow := [
  ⟨"QF_STAT", 0xa00000, 0, 1, false, fun _ => [(fQfStatPstate, .ro), (fQfStatPaused, .ro), (fQfStatActivating, .ro), (fQfStatCtx, .ro)]⟩]

/-- The STO_ registers. -/
def regRowsSto : List RegRow := [
  ⟨"STO_STAT", 0xb00000, 0, 1, false, fun _ => [(fStoStatState, .ro), (fStoStatNssd, .ro), (fStoStatWbUsed, .ro)]⟩,
  ⟨"STO_FREE", 0xb00004, 0, 1, false, fun _ => [(fStoFreeFree, .ro)]⟩,
  ⟨"STO_SSD_STAT", 0xb00010, 4, 4, false, fun n => [(fStoSsdStatState n, .ro), (fStoSsdStatWidth n, .ro), (fStoSsdStatSpeed n, .ro), (fStoSsdStatErr n, .rc)]⟩]

/-- The JNL_ registers. -/
def regRowsJnl : List RegRow := [
  ⟨"JNL_HEAD_LO", 0xc00000, 0, 1, false, fun _ => [(fJnlHeadLoHead, .ro)]⟩,
  ⟨"JNL_HEAD_HI", 0xc00004, 0, 1, false, fun _ => [(fJnlHeadHiHead, .ro)]⟩,
  ⟨"JNL_OLDEST_LO", 0xc00008, 0, 1, false, fun _ => [(fJnlOldestLoOldest, .ro)]⟩,
  ⟨"JNL_OLDEST_HI", 0xc0000c, 0, 1, false, fun _ => [(fJnlOldestHiOldest, .ro)]⟩]

/-- The LANE_ registers. -/
def regRowsLane : List RegRow := [
  ⟨"LANE_GRP_CFG", 0x800000, 4, 12, false, fun n => [(fLaneGrpCfgProto n, .ro), (fLaneGrpCfgIsl n, .ro), (fLaneGrpCfgUp n, .ro), (fLaneGrpCfgFence n, .ro)]⟩,
  ⟨"LANE_GRP_SEL", 0x800040, 0, 1, false, fun _ => [(fLaneGrpSelPending, .ro), (fLaneGrpSelG11, .rw), (fLaneGrpSelG1, .rw), (fLaneGrpSelG0, .rw)]⟩,
  ⟨"LANE_REFCLK_STAT", 0x800080, 4, 6, false, fun n => [(fLaneRefclkStatFault n, .ro), (fLaneRefclkStatSeen n, .w1c), (fLaneRefclkStatPpm n, .ro)]⟩,
  ⟨"LANE_STAT", 0x801000, 4, 96, false, fun n => [(fLaneStatState n, .ro), (fLaneStatRate n, .ro), (fLaneStatBitlock n, .ro), (fLaneStatBlklock n, .ro), (fLaneStatFrozen n, .ro), (fLaneStatDrift n, .w1c), (fLaneStatFails n, .ro), (fLaneStatLockloss n, .rc), (fLaneStatMargin n, .ro)]⟩,
  ⟨"LANE_EQ", 0x801400, 4, 96, false, fun n => [(fLaneEqCm3 n, .rw), (fLaneEqCm2 n, .rw), (fLaneEqCm1 n, .rw), (fLaneEqC0 n, .rw), (fLaneEqCp1 n, .rw)]⟩,
  ⟨"LANE_CTL", 0x801800, 4, 96, false, fun n => [(fLaneCtlTxinv n, .rw), (fLaneCtlRxinv n, .rw), (fLaneCtlRetry n, .wo), (fLaneCtlTest n, .wo)]⟩]

/-- The ETH_ registers. -/
def regRowsEth : List RegRow := [
  ⟨"ETH_PORT_STAT", 0x900000, 4, 6, false, fun n => [(fEthPortStatState n, .ro), (fEthPortStatMode n, .ro), (fEthPortStatMembers n, .ro), (fEthPortStatDowns n, .rc), (fEthPortStatDropped n, .rc), (fEthPortStatFecunc n, .rc)]⟩,
  ⟨"ETH_MAC_LO", 0x900100, 0, 1, false, fun _ => [(fEthMacLoMac, .ro)]⟩,
  ⟨"ETH_MAC_HI", 0x900104, 0, 1, false, fun _ => [(fEthMacHiMac, .ro)]⟩,
  ⟨"ETH_IP", 0x900200, 4, 6, false, fun n => [(fEthIpAddr n, .rw)]⟩]

/-- The TIME_ registers. -/
def regRowsTime : List RegRow := [
  ⟨"TIME_CTL", 0x1400000, 0, 1, false, fun _ => [(fTimeCtlSrc, .rw), (fTimeCtlStepEn, .rw), (fTimeCtlDomain, .rw), (fTimeCtlStepMax, .rw)]⟩,
  ⟨"TIME_STAT", 0x1400004, 0, 1, false, fun _ => [(fTimeStatState, .ro), (fTimeStatPort, .ro), (fTimeStatRefok, .ro), (fTimeStatReject, .rc), (fTimeStatSteps, .rc)]⟩,
  ⟨"TIME_OFFSET", 0x1400008, 0, 1, false, fun _ => [(fTimeOffsetOffset, .ro)]⟩,
  ⟨"TIME_SERVO", 0x140000c, 0, 1, false, fun _ => [(fTimeServoKp, .rw), (fTimeServoKi, .rw), (fTimeServoLock, .rw)]⟩,
  ⟨"TIME_NOW_LO", 0x1400010, 0, 1, false, fun _ => [(fTimeNowLoNow, .ro)]⟩,
  ⟨"TIME_NOW_HI", 0x1400014, 0, 1, false, fun _ => [(fTimeNowHiNow, .ro)]⟩,
  ⟨"TIME_INC_LO", 0x1400018, 0, 1, false, fun _ => [(fTimeIncLoInc, .rw)]⟩,
  ⟨"TIME_INC_HI", 0x140001c, 0, 1, false, fun _ => [(fTimeIncHiInc, .rw)]⟩,
  ⟨"TIME_STEP_LO", 0x1400020, 0, 1, false, fun _ => [(fTimeStepLoStep, .wo)]⟩,
  ⟨"TIME_STEP_HI", 0x1400024, 0, 1, false, fun _ => [(fTimeStepHiStep, .wo)]⟩,
  ⟨"TIME_ASYM_RX", 0x1400100, 8, 6, false, fun n => [(fTimeAsymRxAsym n, .rw)]⟩,
  ⟨"TIME_ASYM_TX", 0x1400104, 8, 6, false, fun n => [(fTimeAsymTxAsym n, .rw)]⟩,
  ⟨"TIME_PORT_STAT", 0x1400200, 4, 6, false, fun n => [(fTimePortStatRole n, .ro), (fTimePortStatPath n, .ro)]⟩]

/-- The TRG_ registers. -/
def regRowsTrg : List RegRow := [
  ⟨"TRG_CTL", 0x1500000, 32, 32, false, fun n => [(fTrgCtlEn n, .rw), (fTrgCtlAlign n, .rw), (fTrgCtlPeriodic n, .rw), (fTrgCtlLate n, .w1c), (fTrgCtlMissed n, .rc), (fTrgCtlPinEn n, .rw), (fTrgCtlPol n, .rw), (fTrgCtlPin n, .rw)]⟩,
  ⟨"TRG_START", 0x1500004, 32, 32, false, fun n => [(fTrgStartStart n, .rw)]⟩,
  ⟨"TRG_PER_N", 0x1500008, 32, 32, false, fun n => [(fTrgPerNPerN n, .rw)]⟩,
  ⟨"TRG_PER_RD", 0x150000c, 32, 32, false, fun n => [(fTrgPerRdPerD n, .rw), (fTrgPerRdPerR n, .rw)]⟩,
  ⟨"TRG_WIDTH", 0x1500010, 32, 32, false, fun n => [(fTrgWidthWidth n, .rw)]⟩,
  ⟨"TRG_LAST_LO", 0x1500014, 32, 32, false, fun n => [(fTrgLastLoLast n, .ro)]⟩,
  ⟨"TRG_LAST_HI", 0x1500018, 32, 32, false, fun n => [(fTrgLastHiLast n, .ro)]⟩]

/-- The CAP_ registers. -/
def regRowsCap : List RegRow := [
  ⟨"CAP_CFG", 0x1600000, 32, 16, false, fun n => [(fCapCfgEn n, .rw), (fCapCfgEdge n, .rw), (fCapCfgSrc n, .rw), (fCapCfgFilt n, .rw), (fCapCfgMingap n, .rw)]⟩,
  ⟨"CAP_TOUT", 0x1600004, 32, 16, false, fun n => [(fCapToutTout n, .rw)]⟩,
  ⟨"CAP_TS_LO", 0x1600008, 32, 16, false, fun n => [(fCapTsLoTs n, .ro)]⟩,
  ⟨"CAP_TS_HI", 0x160000c, 32, 16, false, fun n => [(fCapTsHiTs n, .ro)]⟩,
  ⟨"CAP_STAT", 0x1600010, 32, 16, false, fun n => [(fCapStatLevel n, .ro), (fCapStatOvf n, .rc), (fCapStatGap n, .rc)]⟩]

/-- The AUD_ registers. -/
def regRowsAud : List RegRow := [
  ⟨"AUD_PORT_CFG", 0x1700000, 32, 16, false, fun n => [(fAudPortCfgState n, .ro), (fAudPortCfgMask n, .rw), (fAudPortCfgClk n, .rw), (fAudPortCfgRate n, .rw), (fAudPortCfgTrigmode n, .rw), (fAudPortCfgTrg n, .rw), (fAudPortCfgDec4 n, .rw), (fAudPortCfgBlk n, .rw)]⟩,
  ⟨"AUD_RING_LO", 0x1700004, 32, 16, false, fun n => [(fAudRingLoVa n, .rw)]⟩,
  ⟨"AUD_RING_HI", 0x1700008, 32, 16, false, fun n => [(fAudRingHiAsid n, .rw), (fAudRingHiVa n, .rw)]⟩,
  ⟨"AUD_RING_SIZE", 0x170000c, 32, 16, false, fun n => [(fAudRingSizeSize n, .rw)]⟩,
  ⟨"AUD_RING_WR", 0x1700010, 32, 16, false, fun n => [(fAudRingWrOff n, .ro)]⟩,
  ⟨"AUD_RING_RD", 0x1700014, 32, 16, false, fun n => [(fAudRingRdOff n, .rw)]⟩,
  ⟨"AUD_STAT", 0x1700018, 32, 16, false, fun n => [(fAudStatOvr n, .rc), (fAudStatStuck n, .rc), (fAudStatClklost n, .rc)]⟩,
  ⟨"AUD_CLK_STAT", 0x1700400, 4, 4, false, fun n => [(fAudClkStatFault n, .ro), (fAudClkStatSeen n, .w1c), (fAudClkStatKhz n, .ro)]⟩,
  ⟨"AUD_STR_CFG", 0x1700800, 16, 32, false, fun n => [(fAudStrCfgEn n, .rw), (fAudStrCfgL16 n, .rw), (fAudStrCfgPort n, .rw), (fAudStrCfgSecport n, .rw), (fAudStrCfgC0 n, .rw), (fAudStrCfgNch n, .rw), (fAudStrCfgPt n, .rw)]⟩,
  ⟨"AUD_STR_DST", 0x1700804, 16, 32, false, fun n => [(fAudStrDstAddr n, .rw)]⟩,
  ⟨"AUD_STR_DST2", 0x1700808, 16, 32, false, fun n => [(fAudStrDst2Addr n, .rw)]⟩,
  ⟨"AUD_STR_UDP", 0x170080c, 16, 32, false, fun n => [(fAudStrUdpUdp n, .rw), (fAudStrUdpDscp n, .rw)]⟩]

/-- The AX_ registers. -/
def regRowsAx : List RegRow := [
  ⟨"AX_CFG", 0x1800000, 64, 32, false, fun n => [(fAxCfgState n, .ro), (fAxCfgMode n, .rw), (fAxCfgDirinv n, .rw), (fAxCfgMeta n, .rw), (fAxCfgTrg n, .rw), (fAxCfgFilt n, .rw), (fAxCfgHyst n, .rw), (fAxCfgAvg n, .rw)]⟩,
  ⟨"AX_POS", 0x1800004, 64, 32, false, fun n => [(fAxPosPos n, .ro)]⟩,
  ⟨"AX_SPEED", 0x1800008, 64, 32, false, fun n => [(fAxSpeedSpeed n, .ro)]⟩,
  ⟨"AX_STAT", 0x180000c, 64, 32, false, fun n => [(fAxStatValid n, .ro), (fAxStatDir n, .ro), (fAxStatStill n, .ro), (fAxStatIdxerr n, .w1c), (fAxStatReversals n, .rc), (fAxStatIdxerrs n, .rc), (fAxStatColl n, .rc)]⟩,
  ⟨"AX_STILL", 0x1800010, 64, 32, false, fun n => [(fAxStillStill n, .rw)]⟩,
  ⟨"AX_IDX_CFG", 0x1800014, 64, 32, false, fun n => [(fAxIdxCfgEn n, .rw), (fAxIdxCfgTol n, .rw), (fAxIdxCfgNom n, .rw)]⟩,
  ⟨"AX_IDX_POS", 0x1800018, 64, 32, false, fun n => [(fAxIdxPosValue n, .ro)]⟩,
  ⟨"AX_IDX_CNT", 0x180001c, 64, 32, false, fun n => [(fAxIdxCntValue n, .ro)]⟩,
  ⟨"AX_CMP", 0x1800020, 64, 32, false, fun n => [(fAxCmpTarget n, .rw)]⟩,
  ⟨"AX_CMP_CTL", 0x1800024, 64, 32, false, fun n => [(fAxCmpCtlArm n, .rw), (fAxCmpCtlLate n, .w1c), (fAxCmpCtlFired n, .w1c), (fAxCmpCtlPinEn n, .rw), (fAxCmpCtlPol n, .rw), (fAxCmpCtlPin n, .rw), (fAxCmpCtlWidth n, .rw)]⟩,
  ⟨"AX_CMP_TIME_LO", 0x1800028, 64, 32, false, fun n => [(fAxCmpTimeLoTime n, .ro)]⟩,
  ⟨"AX_CMP_TIME_HI", 0x180002c, 64, 32, false, fun n => [(fAxCmpTimeHiTime n, .ro)]⟩,
  ⟨"AX_SMP_POS", 0x1800030, 64, 32, false, fun n => [(fAxSmpPosPos n, .ro)]⟩,
  ⟨"AX_SMP_TIME_LO", 0x1800034, 64, 32, false, fun n => [(fAxSmpTimeLoTime n, .ro)]⟩,
  ⟨"AX_SMP_TIME_HI", 0x1800038, 64, 32, false, fun n => [(fAxSmpTimeHiTime n, .ro)]⟩,
  ⟨"AX_SMP_FLAGS", 0x180003c, 64, 32, false, fun n => [(fAxSmpFlagsIdxerr n, .ro), (fAxSmpFlagsStill n, .ro), (fAxSmpFlagsDir n, .ro), (fAxSmpFlagsValid n, .ro)]⟩]

/-- The PRM_ registers. -/
def regRowsPrm : List RegRow := [
  ⟨"PRM_STAT", 0x100000, 0, 1, false, fun _ => [(fPrmStatState, .ro), (fPrmStatQfReady, .ro), (fPrmStatDefaults, .ro), (fPrmStatStep, .ro), (fPrmStatReprime, .ro), (fPrmStatBoots, .ro)]⟩,
  ⟨"PRM_STEP", 0x100010, 4, 16, false, fun n => [(fPrmStepState n, .ro), (fPrmStepVariant n, .ro), (fPrmStepAttempts n, .ro), (fPrmStepHistory n, .ro), (fPrmStepTime n, .ro)]⟩,
  ⟨"PRM_RETIRED", 0x100050, 0, 1, false, fun _ => [(fPrmRetiredPumps, .ro), (fPrmRetiredBanks, .ro), (fPrmRetiredLanes, .ro), (fPrmRetiredOther, .ro)]⟩,
  ⟨"PRM_SUMP_HEAD_LO", 0x100060, 0, 1, false, fun _ => [(fPrmSumpHeadLoHead, .ro)]⟩,
  ⟨"PRM_SUMP_HEAD_HI", 0x100064, 0, 1, false, fun _ => [(fPrmSumpHeadHiHead, .ro)]⟩]

/-- The SEC_ registers. -/
def regRowsSec : List RegRow := [
  ⟨"SEC_STAT", 0x200000, 0, 1, false, fun _ => [(fSecStatLc, .ro), (fSecStatRollback, .ro), (fSecStatFkrev, .ro), (fSecStatSlotb, .ro), (fSecStatSerial, .ro)]⟩]

/-- The THM_ registers. -/
def regRowsThm : List RegRow := [
  ⟨"THM_CTL", 0x300000, 0, 1, false, fun _ => [(fThmCtlRiseFloor, .rw), (fThmCtlRiseLimit, .rw), (fThmCtlXthrot, .rw)]⟩,
  ⟨"THM_LEVEL", 0x300010, 4, 4, false, fun n => [(fThmLevelEn n, .rw), (fThmLevelAct n, .rw), (fThmLevelHyst n, .rw), (fThmLevelTemp n, .rw)]⟩,
  ⟨"THM_SENS", 0x300100, 4, 28, false, fun n => [(fThmSensFault n, .ro), (fThmSensLevel n, .ro), (fThmSensRise n, .ro), (fThmSensGrad n, .ro), (fThmSensTemp n, .ro)]⟩,
  ⟨"THM_MAX", 0x300200, 0, 1, false, fun _ => [(fThmMaxSensor, .ro), (fThmMaxPeak, .rc), (fThmMaxTemp, .ro)]⟩,
  ⟨"THM_GATE", 0x300204, 0, 1, false, fun _ => [(fThmGateOpen, .ro), (fThmGateBusy, .ro), (fThmGateSusp, .ro), (fThmGatePendCkpt, .ro), (fThmGatePendRr, .ro), (fThmGateRefused, .rc)]⟩]

/-- The PWR_ registers. -/
def regRowsPwr : List RegRow := [
  ⟨"PWR_RAIL", 0x400000, 4, 12, false, fun n => [(fPwrRailState n, .ro), (fPwrRailMeas n, .ro), (fPwrRailSet n, .ro)]⟩]

/-- Every register of the device. -/
def regRows : List RegRow :=
  regRowsSys ++ regRowsMem ++ regRowsCxl ++ regRowsSns ++ regRowsPipe ++ regRowsMix ++ regRowsSpt ++ regRowsRas ++ regRowsCmp ++ regRowsHev ++ regRowsQf ++ regRowsSto ++ regRowsJnl ++ regRowsLane ++ regRowsEth ++ regRowsTime ++ regRowsTrg ++ regRowsCap ++ regRowsAud ++ regRowsAx ++ regRowsPrm ++ regRowsSec ++ regRowsThm ++ regRowsPwr

end Sys2Proof.Machine
end

