-- ==== Sys2Proof/Machine/StateHost.lean ====
section
/-!
DEFINITION. State of the host side: the queue front, its queues and journal, the event log, the sump, the store engine,
the device non-volatile memory, priming and the targeted self-tests. Default values are the values at reset.
-/
set_option autoImplicit false

namespace Sys2Proof

namespace Machine

/-! ## Events (R381, R567) and the sump (R502 to R505) -/

/-- An event entry (Table SQ-15). -/
structure Event where
  eseq : Nat
  time : Nat
  ty : Nat
  kind : Nat
  index : Nat
  place : Place
  data : List Byte
  deriving DecidableEq, Repr

/-- The event log: a ring of 65,536 entries at slot ESEQ mod 65,536. -/
structure EventLog where
  next : Nat := 0
  log : Tab Event := []
  /-- Events that arose while posting is held, oldest first, at most 4,096 (R567). -/
  held : List Event := []
  /-- PM15 has enabled events (R567). -/
  enabled : Bool := false
  /-- An event has been announced and the page has not been read with RAE clear since (R381). -/
  announced : Bool := false
  /-- An event has been added since the last announcement. -/
  unread : Bool := false
  deriving DecidableEq, Repr

/-- A sump entry (Table PF-6); `sseq` is assigned when the entry is committed. -/
structure SumpEntry where
  sseq : Nat := 0
  time : Nat
  place : Place
  cls : Nat
  detail : Nat
  sev : Nat
  flags : Nat
  rep : Nat := 0
  step : Nat
  payload : List Byte
  deriving DecidableEq, Repr

structure Sump where
  /-- SSEQ[47:0] of the next entry committed (R502). -/
  next : Nat := 0
  /-- Entries held for 1 ms, oldest first, at most 64 (R504). -/
  hold : List SumpEntry := []
  /-- The present second of device time and the occurrences in it (R504). -/
  rate : Nat × Nat := (0, 0)
  /-- The entry of class 0x14 that merges the overflow, and how many it merges. -/
  overflow : Option (SumpEntry × Nat) := none
  /-- Entries held in the ring, oldest first: 1,024 in SRAM until PM06, 65,536 in local DRAM after it (R502). -/
  ring : List SumpEntry := []
  inDram : Bool := false
  deriving DecidableEq, Repr

/-! ## Queue front (R360 to R380) and journal (R397 to R401) -/

/-- Journal record states (Table SQ-25). -/
inductive JState where
  | accepted | started | done | doneUnposted | aborted | abortedReset | abortedSqDel
  deriving DecidableEq, Repr

/-- A journal record (Table SQ-24); CHECK is computed when a record is read. -/
structure JRec where
  seq : Nat
  tacc : Nat
  sqid : Nat
  cid : Nat
  opc : Nat
  st : JState
  notes : Nat
  flags : Nat
  nsid : Nat
  cdw10 : Nat
  cdw11 : Nat
  status : Nat
  result : Nat
  digest : List Byte
  deriving DecidableEq, Repr

/-- A command context (R362): a fetched command until its completion is posted. -/
structure Ctx where
  sqid : Nat
  sqe : Sqe
  /-- The data the command carries from the host, as transferred. -/
  data : List Byte
  /-- What a READ INVENTORY returns: the inventory of the moment of its acceptance (R402). -/
  inv : List Byte := []
  /-- Set by a controller reset or queue deletion: no completion will be posted (R375, R376). -/
  unposted : Bool := false
  deriving DecidableEq, Repr

/-- A posted completion (R364) with what the device wrote to the command's buffers. -/
structure Completion where
  seq : Nat
  sqid : Nat
  cid : Nat
  sct : Nat
  sc : Nat
  dw0 : Nat
  notes : Nat
  /-- The result buffer: 64-byte entries, at most 4,096 bytes. -/
  list : List Byte
  /-- Data written from device to host. -/
  out : List Byte
  deriving DecidableEq, Repr

structure SubQueue where
  size : Nat
  head : Nat := 0
  tail : Nat := 0
  cqid : Nat := 0
  prio : Nat := 0
  deriving DecidableEq, Repr

structure CplQueue where
  size : Nat
  head : Nat := 0
  /-- Completions posted into it. -/
  posted : Nat := 0
  vector : Nat := 0
  ien : Bool := false
  deriving DecidableEq, Repr

/-- Firmware activation steps (Table SQ-13). -/
inductive FwStep where
  | loading | paused | checking
  deriving DecidableEq, Repr

/-- Entry to PS2 (R380) and which of its steps runs. -/
inductive Ps2Step where
  | none | draining | waiting
  deriving DecidableEq, Repr

structure QueueFront where
  /-- CC.EN, CSTS.RDY, CC.SHN, CSTS.SHST. -/
  en : Bool := false
  rdy : Bool := false
  shn : Nat := 0
  shst : Nat := 0
  /-- The other read-write fields of CC in place, AQA, ASQ and ACQ (R40; layout of NVMe 2.0, log entry 19). -/
  cc : Nat := 0
  aqa : Nat := 0
  asq : Nat := 0
  acq : Nat := 0
  sqs : Tab SubQueue := []
  cqs : Tab CplQueue := []
  /-- SEQ of the next accepted command (SYS_JNL_HEAD, JNL_HEAD). -/
  head : Nat := 0
  /-- Lowest SEQ held in the journal. -/
  oldest : Nat := 0
  /-- Journal records at slot SEQ mod 1,048,576 (R397). -/
  jnl : Tab JRec := []
  /-- The journal lies in the fallback area of local DRAM (R399). -/
  fallback : Bool := false
  /-- Records were lost with CXL memory, or the checkpoint was not valid (PFLAGS [1]). -/
  lost : Bool := false
  ctxs : Tab Ctx := []
  posted : List Completion := []
  /-- Interrupt vectors raised, oldest first. -/
  irqs : List Nat := []
  /-- The MSI-X table and pending bit array of BAR0 (Table AR-9), by BAR0 offset. -/
  msix : List Host.Cell := []
  /-- Outstanding Asynchronous Event Requests, oldest first, at most 8. -/
  aers : List Nat := []
  features : Tab Nat := []
  /-- Firmware activation in progress: its step and the SEQ of its Commit. -/
  fw : Option (FwStep × Nat) := none
  /-- Change of power state in progress. -/
  ps2 : Ps2Step := .none
  /-- SEQ of the Set Features that performs the change. -/
  ps2Seq : Nat := 0
  /-- SEQ of a SET LIFECYCLE whose commit of the retained record is not written yet (R527). -/
  lifecycle : Option Nat := none
  /-- FETCH_HALT in force (R385). -/
  halted : Bool := false
  /-- Queues being deleted, each with the SEQ of its Delete I/O SQ (R376). -/
  sqDel : Tab Nat := []
  /-- Invalid Doorbell Write events raised (Table PF-9). -/
  badDoorbells : Nat := 0
  /-- Last data returned by a BAR0 read. -/
  bar0Read : Nat := 0
  /-- A debug window has been accessed since priming (Table SY-6). -/
  dbgUsed : Bool := false
  /-- SEQ of the command that created or started, and last changed, each object: key kind × 2³² + index (R402). -/
  created : Tab Nat := []
  changed : Tab Nat := []
  /-- Next handle to assign; never reused while powered (R366). -/
  handle : Nat := 4
  deriving DecidableEq, Repr

/-! ## Clip store (R386 to R396) -/

/-- A clip's recording stream bookkeeping and its record (Table SQ-21, R531). -/
structure Clip where
  /-- 0 free, 1 open, 2 closed, 3 recovered. -/
  st : Nat := 0
  gen : Nat := 0
  spent : Bool := false
  ctx : Nat := 0
  flags : Nat := 0
  first : Nat := 0
  last : Nat := 0
  dataLen : Nat := 0
  tstart : Nat := 0
  closeSeq : Nat := 0
  mstate : Nat := 0
  moff : Nat := 0
  mlen : Nat := 0
  mdigest : List Byte := []
  /-- Signed manifest body and signature block, once written. -/
  manifest : List Byte := []
  /-- Data and index extents, in stream order. -/
  dataExt : List Nat := []
  indexExt : List Nat := []
  /-- The data stream and the index stream by byte. -/
  stream : List Host.Cell := []
  index : List Host.Cell := []
  /-- Index stream bytes written, and bytes of the index and of the data stream on media. -/
  indexLen : Nat := 0
  indexOnMedia : Nat := 0
  dataOnMedia : Nat := 0
  /-- Byte ranges (start, length) of ring-only units (R392, R530). -/
  ringOnly : List (Nat × Nat) := []
  deriving DecidableEq, Repr

/-- A slot of the write buffer or the replay ring: one extent of a clip's stream (R392). -/
structure Slot where
  clip : Nat
  /-- Extent number within the data stream. -/
  seq : Nat
  deriving DecidableEq, Repr

/-- A host write held in the write buffer, one 4 KiB block of namespace 3 (R371, R372). -/
structure BufBlock where
  seq : Nat
  lba : Nat
  data : List Byte
  deriving DecidableEq, Repr

/-- A Flush that waits for media (R373): its SEQ, whether it covers namespace 3, and the clip IDs that it covers with the
lengths of their data and index streams at its acceptance. -/
structure FlushWait where
  seq : Nat
  host : Bool
  clips : List (Nat × Nat × Nat)
  deriving DecidableEq, Repr

/-- The content of a superblock, apart from MAGIC, INDEX and CRC (Table SQ-19). -/
structure Super where
  gen : Nat
  storeId : Nat
  nssd : Nat
  hostNs : Nat
  blocks : Nat
  deriving DecidableEq, Repr

structure Store where
  storeId : Nat := 0
  gen : Nat := 0
  hostNs : Nat := 0
  nssdFormatted : Nat := 0
  blocksPerSsd : Nat := 0
  /-- The superblocks of the SSD set agree (R387, R396). -/
  superOk : Bool := false
  /-- Superblock slots as the device last wrote them, 64 bytes at 2 × SSD + slot, A 0 and B 1 (R387). -/
  supers : Tab (List Byte) := []
  /-- Bytes of namespace 1 of the SSDs that PM10 found, from port 0 upward (R386). -/
  ssdBytes : List Nat := []
  clips : Tab Clip := []
  /-- Extents of the data region in use: extent number to clip ID. -/
  extents : Tab Nat := []
  nextents : Nat := 0
  /-- Namespace 3 on media: byte address to byte. -/
  media : List Host.Cell := []
  /-- Host writes in the write buffer not yet on media, oldest first. -/
  wbHost : List BufBlock := []
  /-- Slots of the write buffer and of the replay ring, oldest first. -/
  wbSlots : List Slot := []
  ringSlots : List Slot := []
  wb : Nat := 16
  ring : Nat := 0
  /-- Writes waiting for the host's share, in SEQ order, and Flushes waiting for media. -/
  waiting : List Nat := []
  flushes : List FlushWait := []
  /-- STORE_LOW has been posted and free extents have not risen since. -/
  lowPosted : Bool := false
  deriving DecidableEq, Repr

/-! ## Device non-volatile memory, the retained record and priming (R489 to R501) -/

/-- An entry of the step table (Table PF-2). -/
structure StepEntry where
  st : Nat := 0
  variant : Nat := 0
  attempts : Nat := 0
  history : Nat := 0
  cause : Nat := 0
  place : Place := 0
  dur : Nat := 0
  deriving DecidableEq, Repr

/-- A sensor calibration set (R229): its temperature and the tap and threshold of each lane. -/
structure CalSet where
  temp : Nat
  lanes : List (Nat × Nat × Nat)
  saved : Bool
  deriving DecidableEq, Repr

/-- The start-up set of R501. Register values stand under the keys of their fields. -/
structure StartUp where
  ctx : Nat
  /-- The context's port block, and the length of each of its raw frame buffers. -/
  port : Tab Nat
  raws : List Nat
  pilot : List Byte
  /-- Bytes of the SINK frame buffer. -/
  sink : Nat
  /-- Compositor and its block with layers 1 to 15 disabled. -/
  comp : Option (Nat × List Byte)
  flows : List (Nat × List Byte)
  /-- Rasters: index, trigger unit and registers. -/
  rasters : List (Nat × Nat × Tab Nat)
  triggers : List (Nat × Tab Nat)
  ips : List Nat
  timeCtl : Tab Nat
  deriving DecidableEq, Repr

/-- The retained record (Table PF-2), by content. -/
structure Retained where
  boots : Nat := 0
  tcommit : Nat := 0
  steps : Tab StepEntry := []
  /-- Retirement list: place, cause, BOOTS; at most 256 entries. -/
  retired : List (Place × Nat × Nat) := []
  /-- WB and RING in GiB; none when never configured. -/
  sizes : Option (Nat × Nat) := none
  grpSel : Nat := 0
  laneCtl : Tab Nat := []
  laneEq : Tab Nat := []
  /-- Spare-lane repair map of the die links: endpoint (0 to 3) and lane (R25). -/
  dieRepair : List (Nat × Nat) := []
  softRows : List (Nat × Nat × Nat) := []
  calSets : Tab CalSet := []
  tapPs : Nat := 0
  sumpTail : List SumpEntry := []
  startUp : Option StartUp := none
  deriving DecidableEq, Repr

/-- A journal checkpoint: HEAD and the newest 1,024 records (R401). -/
structure Checkpoint where
  head : Nat
  recs : List JRec
  deriving DecidableEq, Repr

/-- What a two-slot commit writes (R490). -/
inductive CommitBody where
  | record (r : Retained)
  | checkpoint (c : Checkpoint)
  deriving DecidableEq, Repr

/-- A commit in progress: what, into slot B or not, with which GEN, and its pages still to program. -/
structure Commit where
  body : CommitBody
  slotB : Bool
  gen : Nat
  erased : Bool := false
  pagesLeft : Nat
  deriving DecidableEq, Repr

/-- A progress record (Table PF-4). -/
structure ProgRec where
  boots : Nat
  step : Nat
  st : Nat
  variant : Nat
  cause : Nat
  place : Place
  time : Nat
  deriving DecidableEq, Repr

structure Nv where
  /-- Firmware slots A and B as written. -/
  fwA : List Byte := []
  fwB : List Byte := []
  /-- Slot last recorded as active (SEC_STAT.SLOTB). -/
  activeB : Bool := false
  /-- Slot that the next reset loads once it is committed (Firmware Commit). -/
  commitB : Bool := false
  /-- Program keys: slot to public key (Table SY-1). -/
  keys : Tab (List Byte) := []
  serial : Nat := 0
  ownerHash : BitVec 384 := 0
  /-- The owner root key as SET LIFECYCLE carried it (R527): the fuses hold its digest. -/
  ownerKey : List Byte := []
  rrA : Option (Nat × Retained) := none
  rrB : Option (Nat × Retained) := none
  ckA : Option (Nat × Checkpoint) := none
  ckB : Option (Nat × Checkpoint) := none
  /-- Retained record commits and checkpoint commits in progress or waiting, oldest first. -/
  commits : List Commit := []
  /-- The two sectors of the priming progress log, each oldest first, and which is being filled. -/
  prog0 : List ProgRec := []
  prog1 : List ProgRec := []
  progCur : Bool := false
  deriving DecidableEq, Repr

structure Prime where
  /-- Power-on reset is asserted: no step runs until it is released. -/
  held : Bool := true
  /-- Variant chosen for each step in this priming. -/
  variants : Tab Nat := []
  /-- Cause and place of each step's last failure in the previous priming. -/
  lastFail : Tab (Nat × Place) := []
  /-- Step that runs or runs next, 16 when priming has ended. -/
  next : Nat := 0
  /-- When the step that runs began. -/
  stepAt : Nat := 0
  /-- Progress records of the previous priming, as the boot ROM found them (R493, R496). -/
  prev : List ProgRec := []
  /-- An essential failure or a fatal fault waits for its commits before the device re-primes (R498). -/
  waitReset : Bool := false
  /-- Since when that wait has lasted (R498). -/
  waitSince : Nat := 0
  /-- Content of the retained record differs from the last commit. -/
  dirty : Bool := false
  /-- The working copy of the retained record, in windlass local memory. -/
  rr : Retained := {}
  /-- BOOTS of the present priming as the boot ROM set it (R493). -/
  boots : Nat := 0
  /-- HEAD of the last checkpoint committed in or before this priming. -/
  ckptHead : Nat := 0
  /-- Errors of units named before PM08, to be tested at its end (R500). -/
  early : List (TUnit × Nat) := []
  /-- Measurement of the image loaded in PM00 and of the image running now. -/
  bootMeas : BitVec 384 := 0
  activeMeas : BitVec 384 := 0
  /-- ROLLBACK of the image running now. -/
  imageRollback : Nat := 0
  /-- Activations that reached step 4 since priming (Table SY-6). -/
  activations : Nat := 0
  /-- PCIe endpoint link up. -/
  linkUp : Bool := false
  /-- Buffers of the start-up set: kind and index of the object that uses one, and its handle (R501). -/
  startBufs : List (Nat × Nat × Nat) := []
  /-- The 1 MiB recovery buffer (R524). -/
  rcvBuf : List Byte := []
  deriving DecidableEq, Repr

/-! ## Targeted self-tests (R506 to R510) -/

/-- A test running or waiting: the unit, the sump cause that started it, its errors and when it started. -/
structure Test where
  unit : TUnit
  cause : Nat
  errors : Nat := 1
  start : Nat
  /-- A cover for the unit is in place. -/
  covered : Bool := false
  /-- The test itself runs: pumps, cistern sub-banks and lookup tables are withdrawn or copied first. -/
  begun : Bool := true
  deriving DecidableEq, Repr

structure SelfTest where
  running : List Test := []
  waiting : List Test := []
  /-- Times of passed tests, newest first, by unit (R508). -/
  passes : List (TUnit × Nat) := []
  /-- Units out of service that the retirement list does not hold: it was full (R507), or the step that tests them failed
  (R494). -/
  unsaved : List Place := []
  /-- Retired pumps whose background tasks the firmware restarts when the activation in progress ends (R509). -/
  restarts : List Nat := []
  deriving DecidableEq, Repr

end Machine
end Sys2Proof
end

