-- ==== Sys2Proof/Machine/StateIo.lean ====
section
/-!
DEFINITION. State of the lanes, the time unit, triggers and captures, audio, motion, thermal control and supplies.
Fields that a register shows are held in the register file; these structures hold what no register shows. Default
values are the values at reset.
-/
set_option autoImplicit false

namespace Sys2Proof.Machine

/-! ## Lanes and Ethernet ports (R405 to R439) -/

/-- What a lane holds beside LANE_STAT. -/
structure LaneX where
  /-- Times in ns of the failed attempts of the present 60 s window, newest first (R425). -/
  fails : List Nat := []
  /-- The lane has run the self-test of R425 since it was last ACTIVE. -/
  tested : Bool := false
  /-- A self-test runs, started by R425, R426, a LANE_CTL write or priming. -/
  testing : Bool := false
  /-- A test has passed on a lane left out of its link: it is offered at the next retrain (R426). -/
  offered : Bool := false
  /-- LANE_DRIFT has been raised for the lane (R422). -/
  driftOpen : Bool := false
  /-- The lane waits for the next attempt of its port, 10 s after a passing verdict (R425). -/
  wait : Bool := false
  /-- The last answer to a training request: true applied, false "coefficient at limit" or rejected (R414, R415). -/
  answer : Option Bool := none
  deriving DecidableEq, Repr

structure PortX where
  /-- Time at which the port or member 0 came up (R424). -/
  upAt : Option Nat := none
  /-- Times at which breakout members came up. -/
  memberUp : Tab Nat := []
  /-- Members (0 in 400G mode) whose flows may resume at their next frame start (R424). -/
  resumed : List Nat := []
  /-- Resolved unicast destinations: IPv4 address to MAC address (R433). -/
  arp : Tab Nat := []
  /-- Unicast destinations whose ARP request waits for a reply. -/
  arpAsked : List Nat := []
  /-- Received PAUSE frames counted and ignored (Table SL-5). -/
  pauses : Nat := 0
  /-- Packets scheduled while the port was down, dropped and counted (R423). -/
  dropped : Nat := 0
  /-- Replies sent: ARP and ICMP echo (R433). -/
  replies : Nat := 0
  deriving DecidableEq, Repr

structure Lanes where
  lane : Tab LaneX := []
  port : Tab PortX := []
  /-- Good windows in a row of each reference clock input in fault (R408). -/
  refGood : Tab Nat := []
  /-- The selection in use since priming (R439): LANE_GRP_SEL [4:0]. -/
  selInUse : Nat := 0
  /-- SDI PLL rate of groups G10 and G11 in 2⁻³² of nominal (R409). -/
  sdiRate : Nat := 4294967296
  /-- CRC failures in succession of the flit that each direction of a die link retries (2 × link, plus 1 towards the far end),
  and the die links that are down (R27). -/
  dieFails : Tab Nat := []
  dieDown : List Nat := []
  deriving DecidableEq, Repr

/-! ## Time unit (R440 to R451) -/

/-- The best master of a port (R445): its rank in the comparison of IEEE 1588-2019 (a lower rank is better, an
operand of the Announce) and its identity. -/
structure Master where
  rank : Nat
  ident : Nat
  deriving DecidableEq, Repr

/-- What the egress stamp puts into a Delay_Req: seconds and nanoseconds of originTimestamp, and the fraction in correctionField, in
2⁻¹⁶ ns (R451). -/
structure DelayReq where
  seqId : Nat
  sec : Nat
  ns : Nat
  corr : Nat
  deriving DecidableEq, Repr

/-- A port's PTP state; stamps are in units of 2⁻¹⁶ ns (R450). -/
structure PtpPort where
  master : Option Master := none
  /-- The port gave no accepted sample for 1 s and was passed over (Table TT-2). -/
  silent : Bool := false
  /-- The last Delay_Req as it left the port. -/
  sent : Option DelayReq := none
  /-- Accepted path-delay samples, newest first, at most 16. -/
  delays : List Int := []
  /-- A two-step Sync waiting for its Follow_Up: sequenceId and t2. -/
  sync : Option (Nat × Int) := none
  /-- The last Delay_Req: sequenceId and egress time t3. -/
  req : Option (Nat × Int) := none
  /-- t1 and t2 of the last accepted Sync, used by the path-delay sample. -/
  last : Option (Int × Int) := none
  seqOut : Nat := 0
  announceSeq : Nat := 0
  /-- Announces dropped and counted (Table TT-2). -/
  dropped : Nat := 0
  /-- Announces sent with clockClass 255 (R444). -/
  announces : Nat := 0
  deriving DecidableEq, Repr

structure TimeUnit where
  /-- The 96-bit count: nanoseconds in [95:32] and their fraction in [31:0] (R440). -/
  count : BitVec 96 := 0
  /-- Nanoseconds of the newest broadcast count (R38): the record time of every island. -/
  bcast : Nat := 0
  /-- Written halves waiting for their upper half: TIME_INC_LO, TIME_STEP_LO (R460). -/
  incLo : Nat := 0
  incHi : Nat := 2
  stepLo : Nat := 0
  /-- The increment in force: whole ns in [63:32] (R441). -/
  inc : BitVec 64 := 0x200000000
  /-- The tick runs from the internal oscillator (R442). -/
  internal : Bool := false
  refGood : Nat := 0
  ports : Tab PtpPort := []
  /-- Samples accepted in a row within LOCK, while ACQUIRE. -/
  goodRun : Nat := 0
  /-- Rejected samples in a row, newest first, while LOCKED. -/
  rejects : List Int := []
  /-- The first sample of ACQUIRE has been taken. -/
  first : Bool := false
  /-- Offset samples since ACQUIRE, newest first: the input of the servo law. -/
  samples : List Int := []
  /-- ACQUIRE was entered with STEP_EN clear: slew without stepping (R447). -/
  slew : Bool := false
  /-- Time of the last accepted sample. -/
  lastSample : Nat := 0
  /-- Increments that the servo set and the time of each, newest first, as far as the last 64 s need them (R447). -/
  incHist : List (Nat × Nat) := []
  deriving DecidableEq, Repr

/-! ## Triggers and captures (R452 to R458) -/

structure Trig where
  /-- The target in units of 1 ÷ den ns, once set (R452). -/
  target : Option Nat := none
  den : Nat := 1
  /-- The compare fires at the next tick with LATE (R453). -/
  late : Bool := false
  /-- A pulse is in progress. -/
  pulse : Bool := false
  /-- Targets counted MISSED behind a late one, for the event. -/
  missed : Nat := 0
  /-- Values staged while running, by field key (R456). -/
  staged : Tab Nat := []
  /-- Staged output values that apply when the pulse in progress ends. -/
  ripe : Tab Nat := []
  /-- Pulses fired since EN was set. -/
  fired : Nat := 0
  /-- TRG_LAST in 64 bits. -/
  last : Nat := 0
  /-- Nanoseconds of the count at which the pulse in progress has lasted its width. -/
  ends : Nat := 0
  /-- Contexts whose exposure trigger the pulse in progress drives (R233). -/
  drives : List Nat := []
  deriving DecidableEq, Repr

structure CapUnit where
  /-- Stamps held, oldest first: nanoseconds and rising (R458). -/
  stamps : List (Nat × Bool) := []
  lastAccepted : Option Nat := none
  /-- CAP_TIMEOUT has been raised and no edge accepted since. -/
  timedOut : Bool := false
  /-- From when the timeout is measured before the first accepted edge. -/
  since : Nat := 0
  deriving DecidableEq, Repr

/-! ## Audio (R462 to R473) and motion (R474 to R484) -/

structure AudPort where
  /-- Mask of the block in progress (R470). -/
  mask : Nat := 3
  /-- PDM bits of each slot still in the filter, newest first (R465). -/
  hist0 : List Bool := []
  hist1 : List Bool := []
  /-- SAMPLE of the first sample of the block in progress. -/
  sample : Nat := 0
  /-- The last completed block: its samples, its first sample's time and SAMPLE. -/
  block : List (Nat × Nat) := []
  blockTime : Nat := 0
  blockSample : Nat := 0
  /-- Time and SAMPLE of the newest sample, once there is one (R469). -/
  last : Option (Nat × Nat) := none
  /-- Flags that the next block carries: FIRST, RESYNC. -/
  first : Bool := false
  resync : Bool := false
  /-- The port joined a running group within a block (R468). -/
  joining : Bool := false
  /-- Level of a slot while it is stuck (R485). -/
  stuck0 : Option Bool := none
  stuck1 : Option Bool := none
  /-- The last block was dropped (AUD_OVERRUN is raised at the first drop after a written block). -/
  dropping : Bool := false
  /-- Stopped by a translation fault on a ring write (R467). -/
  translation : Bool := false
  /-- STOP_AT_BOUNDARY commands that wait. -/
  stops : List Nat := []
  deriving DecidableEq, Repr

/-- What the headers of a packet on one path carry (R282, R296): the Ethernet port and member on which it leaves, source and
destination IPv4 address, source and destination UDP port, the 802.1Q tag control word where a tag is sent, and the DSCP. -/
structure PathHead where
  port : Nat
  member : Nat
  src : Nat
  dst : Nat
  udpSrc : Nat
  udpDst : Nat
  tag : Option Nat
  dscp : Nat
  deriving DecidableEq, Repr

/-- A packet of an audio stream (R473): its paths (0 primary, 1 secondary), RTP timestamp and payload. -/
structure AudPacket where
  paths : List Nat
  /-- The headers of its copy on each of these paths. -/
  heads : List PathHead := []
  pt : Nat
  ts : Nat
  data : List Byte
  deriving DecidableEq, Repr

/-- An audio stream (R473). -/
structure AudStream where
  /-- It runs: a block boundary has passed since EN was set. -/
  on : Bool := false
  /-- A block has completed whose packet has not been sent. -/
  due : Bool := false
  /-- Where its paths are placed: port, member, peak rate as a fraction (R298). -/
  place : List (Nat × Nat × Nat × Nat) := []
  /-- Packets made ready so far: the RTP sequence number. -/
  seq : Nat := 0
  last : Option AudPacket := none
  deriving DecidableEq, Repr

structure Audio where
  port : Tab AudPort := []
  /-- Good windows in a row of each clock input in fault (R464). -/
  clkGood : Tab Nat := []
  stream : Tab AudStream := []
  deriving DecidableEq, Repr

structure Axis where
  opp : Nat := 0
  /-- Times of the edges of the present run, newest first, as many as the average needs. -/
  run : List Nat := []
  /-- Edges of the present run. -/
  edges : Nat := 0
  lastCount : Nat := 0
  /-- Position at the last index edge, and whether a reversal or standstill has come since (R480). -/
  idx : Option Nat := none
  idxVoid : Bool := false
  /-- The compare is armed with this target (R481). -/
  armed : Option Nat := none
  /-- The armed compare fires at the next filter clock (d = 0). -/
  fireNow : Bool := false
  cmpTime : Nat := 0
  /-- The newest sample (R482): position, flags VALID, DIR, STILL, IDXERR and trigger time. -/
  sample : Option (Nat × Nat × Nat) := none
  /-- Samples kept for frame metadata, newest first (R483). -/
  history : List (Nat × Nat × Nat) := []
  /-- STOP_AT_BOUNDARY commands that wait (R484). -/
  stops : List Nat := []
  deriving DecidableEq, Repr

/-! ## Thermal control, power and pins (R534 to R556) -/

structure ThmSensor where
  /-- Last accepted reading in 0.25 °C. -/
  reading : Option Int := none
  /-- Rejected readings in a row, or readings in a row that would end a fault. -/
  rejected : Nat := 0
  missing : Nat := 0
  good : Nat := 0
  lastRaw : Int := 0
  /-- When the present level was entered (R536). -/
  levelAt : Nat := 0
  /-- Readings at the comparisons of the last 250 ms: time and reading, newest first (R538). -/
  hist : List (Nat × Int) := []
  /-- When the sensor entered fault, for cause 3 of R556. -/
  faultAt : Nat := 0
  deriving DecidableEq, Repr

/-- A neighbour pair whose gradient rule is in force: its sensors, the action code it gives each well island, and when
the codes last rose (R539). -/
structure Gradient where
  hot : Nat
  cold : Nat
  acts : List (Nat × Nat)
  since : Nat
  deriving DecidableEq, Repr

structure Thermal where
  sens : Tab ThmSensor := []
  grads : List Gradient := []
  /-- A first sample has been taken since power-on (R542). -/
  sampled : Bool := false
  /-- Latched shutdown: cause, sensor, reading (R541, R556). -/
  trip : Option (Nat × Nat × Int) := none
  /-- Pixel dies whose wells take the core-rail action of R548. -/
  coreLow : List Nat := []
  deriving DecidableEq, Repr

structure Pins where
  /-- PORST_L, PERST_L and PWRGD levels as the board drives them. -/
  porst : Bool := false
  perst : Bool := false
  pwrgd : Bool := false
  straps : Nat := 0
  /-- GPIO lines: sources that enabled each line, first first (R554), and the sources whose pulse is in progress. -/
  gpioSrc : Tab (List (Nat × Bool)) := []
  gpioOn : Tab (List Nat) := []
  /-- SENSA_TRIG and SENSB_TRIG_0 to 3 levels by ingest context (R553). -/
  snsTrig : List Nat := []
  /-- JTAG TAP: state number, instruction, shift register, boundary cells and TDO (R555). -/
  tap : Nat := 0
  tapIr : List Bool := []
  tapShift : List Bool := []
  boundary : List Bool := []
  tck : Bool := false
  tdo : Bool := false
  /-- Bytes that the last SMBus read returned (R556). -/
  smb : List Byte := []
  deriving DecidableEq, Repr

structure Power where
  /-- Samples in a row outside tolerance, and below 85 %, by rail. -/
  outRun : Tab Nat := []
  brownRun : Tab Nat := []
  /-- Samples in a row that lie more than 150 mV from another core rail, by rail (R34, Table PF-9). -/
  farRun : Tab Nat := []
  /-- PM02 variant V1: no setpoint is written. -/
  fixed : Bool := false
  /-- SYS_REFCLK in fault since (R511), and good windows in a row. -/
  sysRef : Option Nat := none
  sysRefGood : Nat := 0
  deriving DecidableEq, Repr

end Sys2Proof.Machine
end

