-- ==== Sys2Proof/Machine/StatePump.lean ====
section
/-!
DEFINITION. State of the programmable side: pumps and windlass cores, wells, programs, graphs, address spaces, DRAM and
CXL memory, and siphons. Default values are the values at reset.
-/
set_option autoImplicit false

namespace Sys2Proof

namespace Machine

/-! ## Cores (R45 to R101) -/

/-- An item of a channel: a data word of 64 bytes or a marker in its form of Table YI-10 (R78). -/
inductive Item where
  | data (w : BitVec 512)
  | mark (m : Nat)
  deriving DecidableEq, Repr

/-- A global load that has issued (R75, R98): the address space of its issue, none for a physical address (Table YI-2),
the address, size code, sign extension and destination register. `done`: its data have returned, while an older load is
still outstanding. -/
structure Load where
  space : Option Nat
  va : Nat
  sz : Nat
  signed : Bool
  rt : Nat
  done : Bool := false
  deriving DecidableEq, Repr

/-- The registers of a core (Table YI-1). A register not listed holds 0 (R101). -/
structure Regs where
  s : Tab (BitVec 32) := []
  a : Tab (BitVec 48) := []
  v : Tab (BitVec 512) := []
  acc : Tab (BitVec 1536) := []
  p : Tab (BitVec 32) := []
  pc : BitVec 48 := 0
  /-- Control registers by number, PIPE_STATUS included; one not listed holds 0. -/
  cr : Tab (BitVec 32) := []
  /-- Global loads from the oldest outstanding one on, at most eight (R75). -/
  loads : List Load := []
  deriving DecidableEq, Repr

/-- The strip that a task works on. -/
structure StripRef where
  ctx : Nat
  frame : Nat
  strip : Nat
  deriving DecidableEq, Repr

/-- What a task on a pump is doing. `waiting`: a real-time task with no strip. `suspended`: it waits for service. -/
inductive TaskSt where
  | waiting | ready | running | suspended | ended
  deriving DecidableEq, Repr

/-- A task: the instance of a stage on one pump (R105), or windlass code. -/
structure Task where
  graph : Nat
  stage : Nat
  rt : Bool
  prio : Nat := 0
  st : TaskSt
  /-- Offset of its save frame in the pail, and its control registers that the frame does not hold. -/
  savePtr : Nat
  cr : Tab (BitVec 32)
  strip : Option StripRef := none
  /-- Items of SOURCE in-ports still to be read, by in-port (R109), and the strip's input items as dispatched. -/
  src : Tab (List Item) := []
  input : List Item := []
  /-- Ports already handled by the strip skip in progress, whether it posts a record, and exceptions discarded. -/
  skipDone : List Nat := []
  skipPost : Bool := false
  discarded : Nat := 0
  /-- CAUSE, EPC and PSN as they stood when the skip started (R136). -/
  skipInfo : Nat × Nat × Bool := (0, 0, false)
  /-- KIND of its real-time fault record (Table GS-10). -/
  skipKind : Nat := 1
  /-- Status with which the firmware ended a background task: TRANSLATION, or 0 (R157). -/
  status : Nat := 0
  deriving DecidableEq, Repr

/-- Role of a pump in its well (R22, R131, R137). -/
inductive Role where
  | active | spare | helper | withdrawing | testing | substitute | retired
  deriving DecidableEq, Repr

/-- A pump (0 to 79: 5 × well + unit) or a windlass core (80 to 83). -/
structure Core where
  regs : Regs := {}
  /-- Pail, or windlass local memory, by byte. -/
  mem : List Host.Cell := []
  /-- Windlass core: local memory as instruction fetch sees it until the next IFLUSH (R51). -/
  fetch : List Host.Cell := []
  /-- Windlass core: interrupt sources pending, in order; it has stopped (R92). -/
  irqs : List Nat := []
  stopped : Bool := false
  /-- Pump: tasks by save-frame slot, and the slot of the task that runs. -/
  tasks : Tab Task := []
  cur : Option Nat := none
  role : Role := .active
  /-- The graphs' contexts that have enlisted the pump as a helper: handle and context (R131). -/
  helps : List (Nat × Nat) := []
  /-- Its targeted self-tests have all passed. -/
  lastTestOk : Bool := true
  deriving DecidableEq, Repr

/-- A translation held by a cache (R152): address space, first virtual address and page size. -/
structure CacheEntry where
  asid : Nat
  va : Nat
  size : Nat
  deriving DecidableEq, Repr

structure Well where
  /-- Cistern by byte, 8 MiB. -/
  cistern : List Host.Cell := []
  /-- Lookup tables: entry index of table t (0 to 8), bank b under the key (2t + b) × 4096 + index; 0 if not listed. -/
  luts : Tab Nat := []
  /-- Lookup tables that a bound stage owns, by table: graph handle. -/
  lutUse : Tab Nat := []
  /-- The table that the ninth table stands in for, and the table being copied into it (R112, Table PF-8). -/
  ninthFor : Option Nat := none
  copying : Option Nat := none
  ninthFailed : Bool := false
  /-- Cistern allocations of bound graphs, ingest buffers: start, length in bytes, owner key. -/
  alloc : List (Nat × Nat × Nat) := []
  /-- Pail allocations of the well's layout: start, length, owner key. -/
  pailAlloc : List (Nat × Nat × Nat) := []
  codeLim : Nat := 0
  /-- The empty sub-bank and the reserve (R108, R139), the sub-bank being copied, and retired ones. -/
  emptyBank : Nat := 63
  reserveBank : Option Nat := some 62
  copyBank : Option Nat := none
  /-- Sub-bank that holds the addresses of each sub-bank's place, where a copy has redirected them (R139). -/
  bankMap : Tab Nat := []
  retiredBanks : List Nat := []
  /-- Ways of the translation cache that stay disabled (Table PF-8). -/
  waysOff : List Nat := []
  /-- Siphons of the pair that are retired. -/
  siphonOff : List Nat := []
  /-- UNIT of the pump that stands in each of the four active places; 31 when the place is empty (R22, R137). -/
  order : List Nat := [0, 1, 2, 3]
  deriving DecidableEq, Repr

/-! ## Programs and graphs (R102 to R143) -/

/-- A stored program image (Table GS-1). -/
structure Program where
  flags : Nat
  code : List Byte
  data : List Byte
  bss : Nat
  entry : Nat
  stripEntry : Nat
  stripRec : Nat
  paramSize : Nat
  nin : Nat
  nout : Nat
  nlut : Nat
  cycFixed : Nat
  cycPerK : Nat
  outIpk : List Nat
  name : List Byte
  version : Nat
  /-- Lookup-table contents, 8,192 bytes per table. -/
  tables : List Byte
  /-- SHA3-384 of the bytes before its signature block (R529). -/
  digest : BitVec 384
  deriving DecidableEq, Repr

/-- A parameter copy of a stage and context: its block, bank and cube, and the frame it takes effect at. -/
structure ParamCopy where
  effect : Nat
  block : List Byte
  bank : Nat
  cube : List Byte
  /-- SEQ of the SET PARAMETERS that wrote it; none for the copy that binding wrote. -/
  seq : Option Nat
  /-- Which of the three copies in the cistern window it is. -/
  slot : Nat
  /-- Black tracking since its effect frame (R248): each frame that makes an update with its mean_φ, newest first. -/
  ob : List (Nat × List Int) := []
  deriving DecidableEq, Repr

/-- Code that a REPLACE PROGRAM put beside the old: program, offsets by well, effect frame of each context and SEQ.
`freed`: the code that it replaces is freed (R129). -/
structure NewProg where
  prog : Nat
  offs : Tab Nat
  effects : List Nat
  seq : Nat
  freed : Bool := false
  deriving DecidableEq, Repr

/-- A stage of a built graph (Table GS-5) with what binding gave it. -/
structure Stage where
  prog : Nat
  rt : Bool
  prio : Nat
  ins : List Nat
  outs : List Nat
  pumps : List Nat
  wdog : Nat
  cscratch : Nat
  /-- Per well: offset of code and data in the pail, of the window in the cistern, and lookup tables owned. -/
  codeOff : Tab Nat := []
  dataOff : Tab Nat := []
  cwin : Tab Nat := []
  cwinLen : Nat := 0
  luts : Tab (List Nat) := []
  /-- Code that REPLACE PROGRAM put beside the old, oldest first (R129). -/
  newProgs : List NewProg := []
  /-- Parameter copies by context, newest first, at most three (R128). -/
  params : Tab (List ParamCopy) := []
  /-- Positions of the pump set in each well: 0 to 3 of the well's active places (R105). -/
  pos : Tab (List Nat) := []
  deriving DecidableEq, Repr

/-- A slot of a STAGE or SINK channel (R109): the strip it holds and its items in order. -/
structure ChSlot where
  strip : StripRef
  items : List Item := []
  /-- Items appended so far; the slot is full at the channel's ITEMS (R110). -/
  count : Nat := 0
  /-- The strip's end marker has been appended. -/
  complete : Bool := false
  deriving DecidableEq, Repr

/-- A channel (Table GS-6). -/
structure Chan where
  kind : Nat
  nslots : Nat
  home : Nat
  prod : Nat
  cons : Nat
  target : Nat
  plane : Nat
  items : Nat := 0
  base : Nat := 0
  slots : Tab ChSlot := []
  deriving DecidableEq, Repr

/-- A frame buffer's newest published frame: number, marks, producer kind and index, transfer function, geometry. -/
structure Published where
  frame : Nat
  marks : Nat
  producer : Nat
  tf : Nat
  width : Nat
  height : Nat
  time : Nat
  /-- The newest time of a sample that counts as metadata of the frame: TSTART, or the acceptance of its start (R483). -/
  tmeta : Nat := 0
  /-- The bytes that its producer, a graph or the pilot path, published: what repair copies are made from (R134). -/
  image : List Byte := []
  deriving DecidableEq, Repr

/-- How a strip of a frame ended at a stage. -/
inductive StripSt where
  | running (core : Nat) | done | skipped | shed | covered
  deriving DecidableEq, Repr

/-- A frame of a graph's context in flight. -/
structure GFrame where
  ctx : Nat
  frame : Nat
  /-- The buffer and the frame in it that SOURCE 2 reads (R109). -/
  src : Option (Nat × Published) := none
  admitted : Bool := false
  /-- State of strip n at stage m: key 4096 × stage + strip; not listed: not started. -/
  strips : Tab StripSt := []
  /-- Strips drained into the SINK, and strips whose area must be repaired (R134). -/
  drained : List Nat := []
  repair : List Nat := []
  skipped : Nat := 0
  covered : Nat := 0
  /-- A die link went down while the frame was in flight (R27). -/
  stale : Bool := false
  width : Nat := 0
  height : Nat := 0
  nexp : Nat := 1
  depth : Nat := 12
  /-- Rows present once the frame has ended: first, and one past the last. -/
  rows : Option (Nat × Nat) := none
  /-- Samples of the rows that optical black tracking may use, by row (R248), and the stages updated. -/
  obRows : Tab (List (List Nat)) := []
  obDone : List Nat := []
  deriving DecidableEq, Repr

/-- What a graph is doing. `cutting`: its tasks are cut, and a substitution in progress must finish before its slots are
emptied (R143). -/
inductive GraphSt where
  | built | armed | draining | cutting | stopped
  deriving DecidableEq, Repr

structure Graph where
  asid : Nat
  source : Nat
  nctx : Nat
  flags : Nat
  utilMax : Nat
  stripH : Nat
  apronY : Nat
  nspan : Nat
  apronX : Nat
  warn : Nat
  shed : Nat
  prio : List Nat
  srcSel : Nat
  stages : List Stage
  chans : List Chan
  st : GraphSt := .built
  frames : List GFrame := []
  /-- First frame to process by context once armed, and whether a frame was published since. -/
  first : Tab Nat := []
  announced : Bool := false
  /-- WARN or SHED in force by context. -/
  warned : List Nat := []
  /-- STOP commands waiting for the drain, oldest first, and the frame last published. -/
  stops : List Nat := []
  lastPub : Option Nat := none
  /-- STOP commands that complete once the graph is cut: SEQ, notes and returned list (R142, R143). -/
  cuts : List (Nat × Nat × List Byte) := []
  /-- First frame by context that STOP_AT_BOUNDARY left unadmitted (R265). -/
  spill : Tab Nat := []
  /-- SET PARAMETERS commands waiting for a free bank: SEQ (R128). -/
  waiting : List Nat := []
  /-- A background task of the graph was restarted on another pump since it was armed (Table GS-11). -/
  restarted : Bool := false
  deriving DecidableEq, Repr

/-! ## Memory and translation (R144 to R195) -/

/-- A page of a mapping (R149): its backing, attributes and pinning; `pa` is none until the first touch (R150). -/
structure Page where
  va : Nat
  size : Nat
  pa : Option Nat
  rd : Bool
  wr : Bool
  pin : Bool
  kind : Nat
  deriving DecidableEq, Repr

/-- A buffer handle: the mapping that MAP MEMORY made. -/
structure Mapping where
  asid : Nat
  va : Nat
  len : Nat
  kind : Nat
  deriving DecidableEq, Repr

/-- A held change of translations (R154, R159): what the invalidation point will do. -/
inductive InvOp where
  | unmap | remap (pages : List Page) | unpin | move (pa : Nat) | destroy
  deriving DecidableEq, Repr

structure InvWait where
  seq : Option Nat
  op : InvOp
  asid : Nat
  va : Nat
  len : Nat
  leaseHeld : Bool := false
  /-- Its leases were broken (R161). -/
  broken : Bool := false
  deriving DecidableEq, Repr

/-- A lease of a unit's frame on a range (R158). -/
structure Lease where
  kind : Nat
  index : Nat
  frame : Nat
  asid : Nat
  va : Nat
  len : Nat
  deriving DecidableEq, Repr

/-- A translation that a request waits for (R75, R96, R153). -/
structure XlatReq where
  req : Requester
  asid : Nat
  va : Nat
  write : Bool
  deriving DecidableEq, Repr

/-- A background siphon channel (R164 to R171). -/
structure Siphon where
  asid : Nat
  desc : Nat
  prio : Nat
  /-- Bytes of the descriptor's stream done, in 256-byte units. -/
  progress : Nat := 0
  suspended : Bool := false
  /-- Physical address of the first poisoned burst that the descriptor has read (R170). -/
  poison : Option Nat := none
  /-- STOP_AT_BOUNDARY commands that wait for the descriptor's end. -/
  stops : List Nat := []
  deriving DecidableEq, Repr

structure DramChan where
  /-- Refreshes postponed, 0 to 8 (R175). -/
  postponed : Nat := 0
  writes : Nat := 0
  /-- Uncorrectable errors: row and time (R185). -/
  ueRows : List (Nat × Nat) := []
  /-- Corrected errors by second of device time, the last eleven (R185). -/
  ceCount : Tab Nat := []
  /-- Rows with a lasting verdict: row and time. -/
  badRows : List (Nat × Nat) := []
  /-- Last patrol scrub address. -/
  scrub : Nat := 0
  deriving DecidableEq, Repr

structure Mem where
  /-- Physical memory by byte: local DRAM and CXL memory (R144); a byte not listed is 0. -/
  bytes : List Host.Cell := []
  /-- Poisoned bursts of 64 bytes, by physical address ÷ 64 (R173). -/
  poison : Tab Bool := []
  /-- Address spaces created, 0 among them (R147), and their pages by space, in order of address. -/
  spaces : List Nat := [0]
  pages : Tab (List Page) := []
  maps : Tab Mapping := []
  waits : List InvWait := []
  leases : List Lease := []
  reqs : List XlatReq := []
  /-- Translation caches: wells 0 to 15, quadrants 16 to 19, I/O die 20 (R152). -/
  caches : Tab (List CacheEntry) := []
  siphons : Tab Siphon := []
  /-- Per siphon (well + 16 × siphon): the channel that had the last turn, and the units left of it (R164). -/
  sphTurn : Tab (Nat × Nat) := []
  chans : Tab DramChan := []
  /-- The channel being spared out, and the channels whose reserve took the granules of the one spared out (R186). -/
  sparing : Option Nat := none
  spareTo : List Nat := []
  /-- Controllers whose regulators are engaged, and since when each has been released (R183). -/
  engaged : List Nat := []
  released : Tab Nat := []
  /-- Floats whose level has been taken since MEM_FLOAT_STAT was last read (R188). -/
  floatSeen : List Nat := []
  /-- CXL memory that is unavailable, by port (R193); GiB per channel found by PM05. -/
  cxlDown : List Nat := []
  /-- Capacity of each expander in 256 MiB units (R190). -/
  cxlCap : Tab Nat := []
  published : Tab Published := []
  deriving DecidableEq, Repr

structure Cores where
  core : Tab Core := []
  well : Tab Well := []
  programs : Tab Program := []
  graphs : Tab Graph := []
  /-- Cores whose task waits for the windlass firmware, in the order of their service requests (R92). -/
  service : List Nat := []
  /-- Real-time fault records posted, oldest first (R136). -/
  rtFaults : List (List Byte) := []
  deriving DecidableEq, Repr

end Machine
end Sys2Proof
end

