-- ==== Sys2Proof/Machine/StateSensor.lean ====
section
/-!
DEFINITION. State of the sensor ports, the ingest contexts, receiver calibration and the pilot path. Default values are
the values at reset.
-/
set_option autoImplicit false

namespace Sys2Proof.Machine

/-- A frame record (Table SI-5) by field; times are none where the record holds all ones. -/
structure FrameRec where
  frame : Nat
  ctx : Nat
  nexp : Nat := 1
  marks : Nat := 0
  rows : Nat := 0
  lost : Nat := 0
  extra : Nat := 0
  chk : Nat := 0
  skipped : Nat := 0
  pilot : Nat := 0
  tstart : Option Nat := none
  /-- When the frame start was accepted (R483). -/
  tacc : Nat := 0
  texp : Option Nat := none
  tend : Option Nat := none
  glerr : Option Int := none
  stray : Nat := 0
  expx : Nat := 0
  /-- The first row received (R315). -/
  row0 : Option Nat := none
  deriving DecidableEq, Repr

/-- A row held in the ingest buffer (R218, R219): its frame, number and samples by exposure; whether the write-out has
taken it. -/
structure IngRow where
  frame : Nat
  row : Nat
  lines : List (List Nat)
  /-- Bits of a sample of its frame. -/
  depth : Nat := 12
  written : Bool := false
  deriving DecidableEq, Repr

/-- An ingest context (R196, R216 to R224). -/
structure Ingest where
  /-- State of its port or sub-port: 0 stopped, 1 aligning, 2 running, 3 fault (R236). -/
  st : Nat := 0
  asid : Nat := 0
  raws : List Nat := []
  /-- Position in the rotation of raw frame buffers, and the buffers in which frames are being written, by frame. -/
  rawNext : Nat := 0
  rawBuf : Tab Nat := []
  /-- Staged field values: key, value, oldest first (R222). -/
  staged : List (Nat × Nat) := []
  /-- Next frame number (R216). -/
  count : Nat := 0
  /-- The record not yet final, and whether its frame is still in progress. -/
  cur : Option FrameRec := none
  inFrame : Bool := false
  /-- The frame in progress, or the last one: number and rows ingested. Its record is final once a STALE period opens (R217). -/
  frameNo : Nat := 0
  rowsIn : Nat := 0
  /-- Lines received in the frame, and the exposures of the row being received. -/
  lines : Nat := 0
  part : List (List Nat) := []
  /-- A rejected frame start: lines are stray until the next accepted one (R210). -/
  rejected : Bool := false
  /-- FV is high. -/
  fv : Bool := false
  recs : List FrameRec := []
  lastStart : Option Nat := none
  /-- STALE periods opened since the reference of the frame timeout (R212). -/
  stales : Nat := 0
  /-- When the last of them was due. -/
  staleAt : Nat := 0
  /-- An EXP edge that belongs to the next frame, and the further ones that it will ignore (R203, R209). -/
  nextExp : Option Nat := none
  nextExpx : Nat := 0
  /-- The frame in progress has its EXP edge. -/
  expSeen : Bool := false
  lastTrig : Option Nat := none
  rows : List IngRow := []
  dropping : Bool := false
  /-- Geometry with which the frame in progress is ingested. -/
  width : Nat := 0
  height : Nat := 0
  depth : Nat := 12
  /-- Consecutive failed training checks by lane (R207). -/
  bad : Tab Nat := []
  /-- Line records of the frame in progress: rows lost in a calibration window, first row present, exposures per row. -/
  nexp : Nat := 1
  chk : Bool := true
  nlane : Nat := 80
  startSeq : Option Nat := none
  stops : List Nat := []
  /-- Line times of the calibration window passed and rows lost in it; none when no window is open (R228). -/
  window : Option Nat := none
  /-- When the last calibration window opened, in ns. -/
  winAt : Option Nat := none
  winLost : Nat := 0
  calMark : Bool := false
  deriving DecidableEq, Repr

inductive CalPhase where
  | measuring | pending | window
  deriving DecidableEq, Repr

/-- A calibration in progress on a unit (R225 to R232): the reading at its start in 0.25 °C, the new and old tap and
threshold by lane, and whether a training check has failed in the window. -/
structure Cal where
  seq : Nat
  phase : CalPhase
  temp : Int
  new : List (Nat × Nat × Int) := []
  old : List (Nat × Nat × Int) := []
  failed : Bool := false
  deriving DecidableEq, Repr

/-- A frame that the pilot path serves (R263): its geometry, the next row to write, the rows present (first, and one past
the last once the frame has ended), and whether it will not be published. -/
structure PilotFrame where
  frame : Nat
  width : Nat
  height : Nat
  depth : Nat
  nexp : Nat
  row : Nat := 0
  lo : Option Nat := none
  hi : Option Nat := none
  failed : Bool := false
  deriving DecidableEq, Repr

structure PilotService where
  ctx : Nat
  sink : Nat
  first : Nat
  frames : List PilotFrame := []
  /-- The graph that takes over from its first frame on (R264). -/
  handTo : Option Nat := none
  stops : List Nat := []
  lastPub : Option Nat := none
  announced : Bool := false
  deriving DecidableEq, Repr

structure Pilot where
  /-- Blocks by ingest context with their effect frame, newest first, at most three copies (R262). -/
  blocks : Tab (List (Nat × List Byte)) := []
  service : Option PilotService := none
  armed : Option Nat := none
  cover : Option (Nat × StripRef) := none
  deriving DecidableEq, Repr

structure Sensor where
  ctxs : Tab Ingest := []
  cals : Tab Cal := []
  /-- Calibration sets by 8 × unit + set (R229). -/
  sets : Tab CalSet := []
  pilot : Pilot := {}
  deriving DecidableEq, Repr

end Sys2Proof.Machine
end

