-- ==== Sys2Proof/Machine/StateVideo.lean ====
section
/-!
DEFINITION. State of the compositors, spouts and flows, monitor rasters, images, the compressor pool and the HEVC cores.
Default values are the values at reset.
-/
set_option autoImplicit false

namespace Sys2Proof.Machine

/-! ## Output frames and guards (R270 to R272, R290 to R295) -/

/-- An output frame record (Table CF-1) by field. -/
structure OutRec where
  oframe : Nat
  src : Option Nat := none
  marks : Nat := 0
  flags : Nat := 0
  detail : Nat := 0
  tstart : Nat
  deriving DecidableEq, Repr

/-- A guarded region (Table CF-8) with what arming and checking gave it: the learned signature, whether its last check
mismatched, and whether its action persists. -/
structure Region where
  x : Nat
  y : Nat
  w : Nat
  h : Nat
  action : Nat
  mode : Nat
  expect : Nat
  subst : Nat
  learned : Option Nat := none
  bad : Bool := false
  latched : Bool := false
  deriving DecidableEq, Repr

structure Guards where
  regions : List Region := []
  armed : Bool := false
  /-- Counts armings: a frame is checked under the arming in force at its start (R292). -/
  epoch : Nat := 0
  deriving DecidableEq, Repr

/-- A frame that a unit has released to its readers: its buffer, numbers, marks and transfer function, and whether every
flow sends its safe image for it (R294). -/
structure Released where
  buf : Nat
  oframe : Nat
  src : Option Nat
  marks : Nat
  oflags : Nat
  tf : Nat
  width : Nat
  height : Nat
  safe : Bool := false
  /-- TSTART of the base frame, and the newest sample time of its metadata (R300, R483). -/
  time : Nat := 18446744073709551615
  tmeta : Nat := 0
  deriving DecidableEq, Repr

/-! ## Compositors (R273 to R279) -/

/-- A composite in progress. -/
structure CompFrame where
  oframe : Nat
  buf : Nat
  base : Option Nat
  src : Option Nat
  tf : Nat
  marks : Nat
  tstart : Nat
  time : Nat
  tmeta : Nat
  layers : List (List Byte)
  absent : List Nat := []
  epoch : Option Nat := none
  late : Bool := false
  deriving DecidableEq, Repr

structure Compositor where
  running : Bool := false
  block : List Byte := []
  width : Nat := 0
  height : Nat := 0
  bg : List Nat := []
  trg : Nat := 0
  asid : Nat := 0
  /-- Composite buffers, the one written longest ago first. -/
  bufs : List Nat := []
  layers : List (List Byte) := []
  /-- Layer entries that wait for the next frame start, oldest first. -/
  staged : List (Nat × List Byte) := []
  guards : Guards := {}
  next : Nat := 0
  cur : Option CompFrame := none
  recs : List OutRec := []
  /-- Base buffer and frame used at the previous frame start. -/
  lastBase : Option (Nat × Nat) := none
  out : Option Released := none
  stops : List Nat := []
  lastDone : Option Nat := none
  deriving DecidableEq, Repr

/-! ## Spouts and flows (R280 to R303) -/

structure ScaleProfile where
  th : Nat
  tv : Nat
  /-- Coefficients by phase and tap. -/
  ch : List Int
  cv : List Int
  deriving DecidableEq, Repr

structure ToneProfile where
  peak : Nat
  tone : List Nat
  deriving DecidableEq, Repr

structure Spout where
  scale : Tab ScaleProfile := []
  tone : Tab ToneProfile := []
  deriving DecidableEq, Repr

/-- A packet as sent: paths on which it left (0 primary, 1 secondary), RTP payload type and timestamp, the line that it
carries and its offset there, and its payload. -/
structure Packet where
  paths : List Nat
  /-- The headers of its copy on each of these paths. -/
  heads : List PathHead := []
  pt : Nat
  ts : Nat
  line : Nat
  off : Nat
  data : List Byte
  deriving DecidableEq, Repr

/-- A frame of a flow: its source composite, the descriptor and profiles in force, and what has been sent. -/
structure FlowFrame where
  oframe : Nat
  src : Option Released
  desc : List Byte
  scale : Option ScaleProfile := none
  tone : Option ToneProfile := none
  tstart : Nat
  /-- Trigger time of the period in which the frame is sent: one period later with HOLD (R295). -/
  tsend : Nat := 0
  /-- Next packet, and the first packet that is black. -/
  pkt : Nat := 0
  black : Option Nat := none
  /-- The safe image or black of SAFE_ALL replaces the frame; regions substituted. -/
  safe : Bool := false
  subst : List Region := []
  /-- It was made safe before its own guards, which then do not check it again (R293). -/
  unchecked : Bool := false
  epoch : Option Nat := none
  /-- Regions whose signature is complete. -/
  checked : List Nat := []
  /-- Paths down at the frame's start or lost at some packet of it. -/
  lost : List Nat := []
  /-- First output line whose reads of the composite fault: from it on they give zero (R156). -/
  fault : Option Nat := none
  /-- Lines of a frame in the hold buffer (R295). -/
  held : Option (List (List Byte)) := none
  /-- Buffer of the ring that a MEMORY frame writes. -/
  buf : Option Nat := none
  deriving DecidableEq, Repr

structure Flow where
  /-- Running descriptor (Table CF-5), and the staged one. -/
  desc : Option (List Byte) := none
  staged : Option (List Byte) := none
  next : Nat := 0
  cur : Option FlowFrame := none
  /-- The HOLD frame that is being sent. -/
  send : Option FlowFrame := none
  recs : List OutRec := []
  /-- Composite and frame used at the previous frame start. -/
  lastSrc : Option (Nat × Nat) := none
  /-- Streams placed by START FLOW: port, member, peak rate as a fraction (R298, R407). -/
  place : List (Nat × Nat × Nat × Nat) := []
  /-- Ring buffers of a MEMORY flow, the one written longest ago first, and the newest complete frame. -/
  bufs : List Nat := []
  out : Option Released := none
  guards : Guards := {}
  safeImg : Option Nat := none
  /-- Regions whose action applies to the next frame. -/
  nextAct : List Nat := []
  stops : List Nat := []
  lastDone : Option Nat := none
  /-- RTP sequence numbers of video and ancillary packets, the packet sent last, and the version of the SDP. -/
  rtp : Nat := 0
  ancSeq : Nat := 0
  last : Option Packet := none
  anc : Option Packet := none
  /-- Version of the newest SDP, the SDP of the running configuration, and that of the staged one (R301). -/
  version : Nat := 0
  sdp : List Byte := []
  sdpStaged : List Byte := []
  /-- The last frame sent whole from its composite, with its lines: what the flow repeats while a die link is down (R27). -/
  good : Option FlowFrame := none
  deriving DecidableEq, Repr

/-- An image loaded by LOAD SAFE IMAGE: its flow, or none for a substitute image, and its bytes. -/
structure Image where
  flow : Option Nat
  data : List Byte
  deriving DecidableEq, Repr

/-! ## Monitor rasters (R304 to R307) -/

structure Raster where
  trg : Nat := 0
  next : Nat := 0
  cur : Option (Nat × Option Released) := none
  recs : List OutRec := []
  lastBuf : Option (Nat × Nat) := none
  /-- A clone waits for its source's next frame start. -/
  waiting : Bool := false
  /-- Lines in a row whose read-back mismatched. -/
  badRun : Nat := 0
  stops : List Nat := []
  lastDone : Option Nat := none
  deriving DecidableEq, Repr

/-! ## Compressor pool (R312 to R331) -/

/-- A frame unit in progress (R323). -/
structure FrameUnit where
  frame : Nat
  width : Nat
  lines : Nat
  depth : Nat
  nexp : Nat
  stale : Bool := false
  tstart : Nat
  /-- Raw frame buffer read; none when the raw frame is lost or the frame is a STALE period. -/
  raw : Option Nat := none
  /-- Rows that ingest write-out has made visible. -/
  visible : List Nat := []
  /-- Bands that have become ready, and their band-planes that have not started: NEXP × 4 × band + 4 × e + φ. -/
  bands : List Nat := []
  ready : List Nat := []
  /-- Blocks of finished band-planes that are not yet in the stream: position and bytes, or none for an absent block. -/
  done : Tab (List (Nat × Option (List Byte))) := []
  /-- The band-plane whose blocks enter the stream next. -/
  next : Nat := 0
  /-- Offset of the unit in the data stream once its header is written, its bytes so far, and the offsets of its blocks in
  8-byte units by position. -/
  start : Option Nat := none
  len : Nat := 0
  index : Tab Nat := []
  nraw : Nat := 0
  nverify : Nat := 0
  ncatch : Nat := 0
  truncated : Bool := false
  srcFault : Bool := false
  ringOnly : Bool := false
  /-- The frame record is final (R217). -/
  final : Bool := false
  deriving DecidableEq, Repr

/-- A recording of an ingest context (R313). -/
structure Recording where
  clip : Nat
  first : Nat
  /-- The next frame that gets a unit. -/
  next : Nat
  units : List FrameUnit := []
  stops : List Nat := []
  lastDone : Option Nat := none
  /-- Clip flags that the recording ends with, and that no further unit starts (R390, R394, R193). -/
  flags : Nat := 0
  ending : Bool := false
  /-- The last unit is closed: the clip awaits its close, with CLOSE_SEQ (R393). -/
  closing : Option Nat := none
  deriving DecidableEq, Repr

/-- What a compressor codes: context, frame, band-plane, and whether catch-up was in force (R329). -/
structure Coding where
  ctx : Nat
  frame : Nat
  bp : Nat
  catchup : Bool
  deriving DecidableEq, Repr

structure Pool where
  recs : Tab Recording := []
  work : Tab Coding := []
  deriving DecidableEq, Repr

/-! ## HEVC cores (R334 to R358) -/

/-- A picture record (Table CC-10). -/
structure PicRec where
  picno : Nat
  ty : Nat := 255
  qpavg : Nat := 0
  flags : Nat := 0
  src : Option Nat := none
  marks : Nat := 0
  bytes : Nat := 0
  budget : Option (Nat × Nat) := none
  tstart : Nat
  deriving DecidableEq, Repr

/-- How a CTU was coded: normally at a QP (R345); at minimum cost as one 64×64 CU, in skip mode with a merge index in a P or
B picture, with DC prediction for luma and chroma and no residual in an IDR (R343). -/
inductive CtuCode where
  | normal (qp : Nat)
  | skip (merge : Nat)
  | dcNoResidual
  deriving DecidableEq, Repr

/-- A coded CTU row: the slice_qp of its slice and its CTUs (R343). -/
structure CodedRow where
  sliceQp : Nat
  ctus : List CtuCode
  deriving DecidableEq, Repr

/-- The picture being coded. -/
structure EncPic where
  picno : Nat
  ty : Nat
  src : Released
  /-- Effective cap in bits (R341). -/
  cap : Nat
  /-- Next CTU row, bits spent, and whether coding is at minimum cost (R342). -/
  row : Nat := 0
  spent : Nat := 0
  mincost : Bool := false
  /-- QP of the last row coded normally, and the sum and number of QPs of normally coded CTUs. -/
  lastQp : Option Nat := none
  qpSum : Nat := 0
  qpNum : Nat := 0
  /-- The rows coded so far, first row first. -/
  rows : List CodedRow := []
  /-- Bytes written in chunks. -/
  bytes : Nat := 0
  store : Option Nat := none
  /-- List 0: the preceding coded pictures, then the long-term ones, by PICNO (R338). -/
  refs : List Nat := []
  /-- POC (R337), and the VUI's colour_primaries, transfer_characteristics and matrix_coeffs (R336). -/
  poc : Nat := 0
  colour : Nat × Nat × Nat := (1, 1, 1)
  deriving DecidableEq, Repr

structure Encoder where
  session : Bool := false
  block : List Byte := []
  /-- Change blocks that wait for the next pulse, oldest first (R339). -/
  staged : List (List Byte) := []
  rois : List (List Byte) := []
  ltUse : Nat := 0
  /-- Long-term slots: slot to PICNO; the preceding coded pictures that may be referred to, newest first (R338). -/
  slots : Tab Nat := []
  coded : List Nat := []
  picno : Nat := 0
  lastIdr : Option Nat := none
  /-- The next coded picture is an IDR: on request, after a fault or a resumption (R339, R349, R350). -/
  forceIdr : Bool := true
  cur : Option EncPic := none
  recs : List PicRec := []
  stops : List Nat := []
  lastDone : Option Nat := none
  lastSrc : Option (Nat × Nat) := none
  /-- Bits in the coded picture buffer of the reference decoder, for CBR with HRD (R341). -/
  cpb : Nat := 0
  deriving DecidableEq, Repr

/-- A picture in the decoded picture buffer that awaits output, and the coded video sequence that it belongs to. -/
structure HeldPic where
  cvs : Nat
  pic : DecPic
  deriving DecidableEq, Repr

/-- The HEVC decoder core (R353 to R358). -/
structure Decoder where
  inVa : Nat := 0
  inSize : Nat := 0
  asid : Nat := 0
  /-- Output buffers, the one written longest ago first. -/
  bufs : List Nat := []
  ring : List Nat := []
  /-- Parameter sets received, newest first. -/
  params : List (List Byte) := []
  consumed : Nat := 0
  pictures : Nat := 0
  /-- Pictures that await output, in output order (R354, R356, R358), the sequence being decoded, and pictures written. -/
  held : List HeldPic := []
  cvs : Nat := 0
  outs : Nat := 0
  newest : Option Released := none
  /-- STOP_AT_BOUNDARY commands that wait for the picture in progress (R358). -/
  stops : List Nat := []
  /-- The RASL pictures of a CRA decoded as a BLA are discarded (R357); the last picture's sequence has ended. -/
  skipRasl : Bool := false
  ended : Bool := false
  deriving DecidableEq, Repr

structure Video where
  mix : Tab Compositor := []
  flow : Tab Flow := []
  spout : Tab Spout := []
  ras : Tab Raster := []
  images : Tab Image := []
  pool : Pool := {}
  enc : Tab Encoder := []
  dec : Decoder := {}
  deriving DecidableEq, Repr

end Sys2Proof.Machine
end

