-- ==== Sys2Proof/Machine/State.lean ====
section
/-!
DEFINITION. The state of the whole block, its faults and refusals, and the state after reset.
-/
set_option autoImplicit false

namespace Sys2Proof.Machine

/-- Everything the spec gives the device, apart from the queue of commands. -/
structure Dev where
  /-- The register file: a field's value under the key 32 × address + lowest bit; a field not listed holds its reset
  value (RegMap). -/
  regs : Tab Nat := []
  time : TimeUnit := {}
  ev : EventLog := {}
  sump : Sump := {}
  qf : QueueFront := {}
  store : Store := {}
  nv : Nv := {}
  prime : Prime := {}
  test : SelfTest := {}
  lanes : Lanes := {}
  trg : Tab Trig := []
  cap : Tab CapUnit := []
  aud : Audio := {}
  axes : Tab Axis := []
  thm : Thermal := {}
  pins : Pins := {}
  power : Power := {}
  cores : Cores := {}
  mem : Mem := {}
  sns : Sensor := {}
  vid : Video := {}
  /-- The model's own: number of free values used so far (log entry 6). -/
  free : Nat := 0
  deriving DecidableEq, Repr

/-- The device and the commands waiting for it, first in, first out. -/
structure State where
  dev : Dev
  pending : List Instr
  deriving DecidableEq, Repr

/-- Why a command stops the model. -/
inductive Fault where
  /-- A command whose operands name no unit of the device or give a list of the wrong length (`Instr.wf` refuses it):
  raised by `exec`'s guard alone. Safe: the sender cannot form such a command on the hardware. -/
  | illFormed
  deriving DecidableEq, Repr

/-- Why a command has no meaning. -/
inductive Refusal where
  /-- The command's meaning is not written yet: raised by `exec`'s arms alone. Safe. -/
  | notModelled (mnemonic : String)
  deriving DecidableEq, Repr

/-- The device after power-on, every pin as the board holds it before PORST_L rises (R550). -/
def State.reset : State := { dev := {}, pending := [] }

end Sys2Proof.Machine
end

