-- ==== Sys2Proof/Machine/Ops.lean ====
section
/-!
DEFINITION. The operations that every family shares: the register file, record times, the sump, the event log,
completions and the journal.
-/
set_option autoImplicit false

namespace Sys2Proof.Machine

/-- A command whose whole effect is a change of the device. -/
def onDev (f : Dev → Dev) (s : State) : Host.Outcome State Fault Refusal := .next { s with dev := f s.dev }

/-- The same for a command whose operands are checked first: one that is ill formed stops the model. -/
def onDevIf (ok : Bool) (f : Dev → Dev) (s : State) : Host.Outcome State Fault Refusal :=
  if ok then onDev f s else .fault .illFormed

/-! ## Register file -/

/-- The register-file key of a field. -/
def Fld.key (f : Fld) : Nat := 32 * f.addr + f.lo

/-- Width of a field in bits. -/
def Fld.width (f : Fld) : Nat := f.hi + 1 - f.lo

/-- The largest value a field holds. -/
def Fld.max (f : Fld) : Nat := 2 ^ f.width - 1

/-- The value of a field. -/
def Dev.fget (d : Dev) (f : Fld) : Nat := tgetD d.regs f.key f.rst

/-- Whether a one-bit field is set. -/
def Dev.flag (d : Dev) (f : Fld) : Bool := d.fget f == 1

/-- Set a field to a value, kept to the field's width. -/
def Dev.fset (d : Dev) (f : Fld) (v : Nat) : Dev :=
  { d with regs := tputD d.regs f.key (v % 2 ^ f.width) f.rst }

/-- Set a one-bit field. -/
def Dev.fsetb (d : Dev) (f : Fld) (b : Bool) : Dev := d.fset f b.toNat

/-- Add to a counter field, which saturates (R12 gives the counters their "saturating"). -/
def Dev.fadd (d : Dev) (f : Fld) (n : Nat) : Dev := d.fset f (min f.max (d.fget f + n))

/-- Count one in a saturating counter field. -/
def Dev.finc (d : Dev) (f : Fld) : Dev := d.fadd f 1

/-- Set several fields. -/
def Dev.fsets (d : Dev) (l : List (Fld × Nat)) : Dev := l.foldl (fun d p => d.fset p.1 p.2) d

/-! ## Time -/

/-- The record time of every recording block: the newest broadcast count (R38). -/
def Dev.recTime (d : Dev) : Nat := d.time.bcast

/-- The present count in whole nanoseconds. -/
def Dev.nowNs (d : Dev) : Nat := (d.time.count >>> 32).toNat

/-- A fresh free value of `w` bits; the caller advances `Dev.free` with `Dev.used`. -/
def Dev.fresh (d : Dev) (w : Nat) : Nat := (Config.freeValue d.free).toNat % 2 ^ w

/-- The device after one free value has been used. -/
def Dev.used (d : Dev) : Dev := { d with free := d.free + 1 }

/-- `n` bytes whose values the spec leaves open, and the device after their use. -/
def Dev.freeBytes (d : Dev) (n : Nat) : List Byte × Dev :=
  ((List.range n).map (fun i => BitVec.ofNat 8 (Config.freeValue (d.free + i)).toNat), { d with free := d.free + n })

/-! ## Place codes (R15, R16, R22 to R24) -/

/-- A place code from its six fields (R15): DIE [31:30], QUAD [29:28], WELL [27:25], UNIT [24:20], SLICE [19:14],
CELL [13:0]. -/
def mkPlace (die quad well unit slice cell : Nat) : Place :=
  BitVec.ofNat 32 (die * 2 ^ 30 + quad * 2 ^ 28 + well * 2 ^ 25 + unit * 2 ^ 20 + slice * 2 ^ 14 + cell)

def noCell : Nat := 16383
def noSlice : Nat := 63

/-- A unit of a well W0 to W15 (Table AR-3). -/
def wellPlace (w unit slice : Nat) : Place := mkPlace (w / 8) (w / 4) (w % 4) unit slice noCell

/-- A unit of a quadrant block (R23). -/
def quadPlace (q unit : Nat) : Place := mkPlace (q / 2) q 4 unit noSlice noCell

/-- A unit of an I/O die block group (Table AR-4). -/
def ioPlace (group unit slice : Nat) : Place := mkPlace 2 3 group unit slice noCell

/-- A serial lane (R405). -/
def lanePlace (n : Nat) : Place := ioPlace 6 (n / 8) (n % 8)

/-- The queue front: PCIe endpoint and queue front, X:host:U2 (Table AR-4). -/
def qfPlace : Place := ioPlace 4 2 noSlice

/-- A supply rail at package level (R24). -/
def railPlace (r : Nat) : Place := mkPlace 3 3 7 r noSlice noCell

def allOnes32 : Nat := 4294967295
def allOnes64 : Nat := 18446744073709551615

/-- No place: all ones. -/
def noPlace : Place := BitVec.allOnes 32

/-! ## The sump (R502 to R505) -/

/-- Whether the device is in priming, before PM15 has ended (R494). -/
def Dev.priming (d : Dev) : Bool := d.fget fPrmStatState == 0

/-- STEP of a sump entry: the priming step, or 0xFF in service (Table PF-6). -/
def Dev.sumpStep (d : Dev) : Nat := if d.priming then d.fget fPrmStatStep else 255

/-- Merge an occurrence into the entry of class 0x14 (R504). -/
def Sump.merge (m : Sump) (e : SumpEntry) : Sump :=
  match m.overflow with
  | none => { m with overflow := some ({ e with place := noPlace, cls := 20, detail := 0, flags := 0, payload := [] }, 1) }
  | some (o, n) => { m with overflow := some ({ o with sev := max o.sev e.sev }, n + 1) }

/-- Count an occurrence in its second of device time. The spec names no window for the 100,000 per second of R504: DESIGN CHOICE,
log entry 131. -/
def Sump.tick (m : Sump) (t : Nat) : Sump :=
  { m with rate := if m.rate.1 = t / 1000000000 then (m.rate.1, m.rate.2 + 1) else (t / 1000000000, 1) }

/-- Add an occurrence to the entries held: to the REPEAT of an entry with the same PLACE and CAUSE, as a new entry, or
into the overflow entry when 64 are held or 100,000 have occurred in the second (R504). -/
def Sump.add (m : Sump) (e : SumpEntry) : Sump :=
  let m := m.tick e.time
  if 100000 < m.rate.2 then m.merge e
  else if m.hold.any (fun h => h.place == e.place && h.cls == e.cls && h.detail == e.detail) then
    { m with hold := m.hold.map (fun h =>
        if h.place == e.place && h.cls == e.cls && h.detail == e.detail then { h with rep := min 65535 (h.rep + 1) } else h) }
  else if m.hold.length < 64 then { m with hold := m.hold ++ [e] }
  else m.merge e

/-- Write a sump entry: FLAGS take PRIMING from the state of priming (R503, Table PF-6). -/
def Dev.sumpWrite (d : Dev) (place : Place) (cls detail sev flags : Nat) (payload : List Byte) : Dev :=
  { d with sump := d.sump.add {
      time := d.recTime, place := place, cls := cls, detail := detail % 256, sev := sev,
      flags := flags + (if d.priming then 4 else 0), step := d.sumpStep, payload := payload } }

/-- Change the first entry of a list that meets a condition. -/
def modFirst (p : SumpEntry → Bool) (f : SumpEntry → SumpEntry) : List SumpEntry → List SumpEntry
  | [] => []
  | e :: l => if p e then f e :: l else e :: modFirst p f l

/-- A further error of a unit that has just passed its test adds to the REPEAT of the newest entry with its PLACE and CAUSE,
committed or held; without one it is a new entry (R508). -/
def Dev.sumpAgain (d : Dev) (place : Place) (cls detail sev : Nat) (payload : List Byte) : Dev :=
  let same := fun (e : SumpEntry) => e.place == place && e.cls == cls && e.detail == detail % 256
  if d.sump.hold.any same || !d.sump.ring.any same then d.sumpWrite place cls detail sev 0 payload
  else { d with sump := { d.sump with
    ring := (modFirst same (fun e => { e with rep := min 65535 (e.rep + 1) }) d.sump.ring.reverse).reverse } }

/-- An input out of range or timed out: class 0x0A with the input class, its index and the value (R511). -/
def Dev.sumpInput (d : Dev) (place : Place) (detail index value : Nat) : Dev :=
  d.sumpWrite place 10 detail 0 0 (le 2 index ++ le 8 value)

/-- An access refused: class 0x0F with the address and the value (Table PF-7). -/
def Dev.sumpRefused (d : Dev) (place : Place) (addr value : Nat) : Dev :=
  d.sumpWrite place 15 0 0 0 (le 8 addr ++ le 8 value)

/-! ## The journal (R397 to R401) and completions (R364) -/

def jnlSize : Nat := 1048576

/-- The journal record of a SEQ, where its slot still holds it. -/
def Dev.jrec (d : Dev) (seq : Nat) : Option JRec :=
  match tget d.qf.jnl (seq % jnlSize) with
  | some r => if r.seq = seq then some r else none
  | none => none

/-- Rewrite a journal record. -/
def Dev.jset (d : Dev) (seq : Nat) (f : JRec → JRec) : Dev :=
  match d.jrec seq with
  | some r => { d with qf := { d.qf with jnl := tput d.qf.jnl (seq % jnlSize) (f r) } }
  | none => d

/-- Whether a record state is terminal (Table SQ-25). -/
def JState.terminal : JState → Bool
  | .accepted => false
  | .started => false
  | _ => true

/-- The number of a record state (Table SQ-25). -/
def JState.code : JState → Nat
  | .accepted => 1 | .started => 2 | .done => 3 | .doneUnposted => 4
  | .aborted => 5 | .abortedReset => 6 | .abortedSqDel => 7

/-- Show HEAD and OLDEST in the JNL_ registers and the BAR0 mirror (R385, R404). -/
def Dev.showHead (d : Dev) : Dev :=
  d.fsets [(fSysJnlHeadHead, d.qf.head), (fJnlHeadLoHead, d.qf.head), (fJnlHeadHiHead, d.qf.head / 4294967296),
    (fJnlOldestLoOldest, d.qf.oldest), (fJnlOldestHiOldest, d.qf.oldest / 4294967296)]

/-- Take the next SEQ and write its record (R369, R397). -/
def Dev.journal (d : Dev) (r : JRec) : Dev :=
  let seq := d.qf.head
  let r := { r with seq := seq, tacc := d.recTime, flags := r.flags + (if d.qf.fallback then 2 else 0) }
  let t := tput d.qf.jnl (seq % jnlSize) r
  ({ d with qf := { d.qf with head := seq + 1, jnl := t, oldest := (t.map (fun (e : Nat × JRec) => e.2.seq)).foldl min seq } }).showHead

/-- An internal journal record of a kind with its argument (R398). -/
def Dev.journalInternal (d : Dev) (kind arg : Nat) : Dev :=
  d.journal {
    seq := 0, tacc := 0, sqid := 65535, cid := 65535, opc := 255, st := .done, notes := 0, flags := 4,
    nsid := 0, cdw10 := kind, cdw11 := arg % 4294967296, status := 0, result := 0, digest := zeros 16 }

/-- An internal record of a kind whose argument the spec does not state: it is a free value (R398, log entry 6). -/
def Dev.journalFree (d : Dev) (kind : Nat) : Dev := (d.journalInternal kind (d.fresh 32)).used

/-- How a command ends: status, result, notes, lists, data out and the parts of its digest (R364, R398). -/
structure Ending where
  sct : Nat := 0
  sc : Nat := 0
  dw0 : Nat := 0
  notes : Nat := 0
  list : List Byte := []
  out : List Byte := []
  dg0 : Nat := 0
  dg1 : Nat := 0
  dgData : List Byte := []

/-- The 16 bytes of a digest (Table SQ-26): zeros for a command that fails. -/
def Ending.digest (f : Ending) : List Byte :=
  if f.sc ≠ 0 then zeros 16
  else le 8 f.dg0 ++ le 4 f.dg1 ++ (if f.dgData.isEmpty then zeros 4 else le 4 (crc32c f.dgData).toNat)

/-- Whether the list of a command is cut: longer than 4,096 bytes, or no result buffer (R364). -/
def Ending.cut (f : Ending) (c : Ctx) : Bool :=
  4096 < f.list.length || (c.sqe.mptr == 0 && !f.list.isEmpty)

/-- The list as written to the result buffer (R364). -/
def Ending.written (f : Ending) (c : Ctx) : List Byte := if c.sqe.mptr == 0 then [] else f.list.take 4096

/-- Notes of Table SQ-4. -/
def noteSuperseded : Nat := 1
def noteNotApplied : Nat := 2
def noteLeaseHeld : Nat := 4
def noteLeaseBroken : Nat := 8
def noteBoundaryTimeout : Nat := 16
def noteRestarted : Nat := 32
def noteNotSaved : Nat := 64
def noteListCut : Nat := 128

/-- The NOTES byte of a completion: the command's notes and LIST_CUT. -/
def Ending.allNotes (f : Ending) (c : Ctx) : Nat := f.notes + (if f.cut c then noteListCut else 0)

/-- The completion queue of a submission queue still exists. -/
def Dev.cqLives (d : Dev) (sqid : Nat) : Bool :=
  match tget d.qf.sqs sqid with
  | some q => (tget d.qf.cqs q.cqid).isSome
  | none => false

/-- The completion queue of a submission queue: its number. -/
def Dev.cqOf (d : Dev) (sqid : Nat) : Nat :=
  match tget d.qf.sqs sqid with
  | some q => q.cqid
  | none => 0

/-- Interrupt vectors a posted completion raises (MSI-X, Table SQ-1). -/
def Dev.cqVectors (d : Dev) (cqid : Nat) : List Nat :=
  match tget d.qf.cqs cqid with
  | some q => if q.ien then [q.vector] else []
  | none => []

/-- Free the context of a command and show the number in use (R362, R404). -/
def Dev.freeCtx (d : Dev) (seq : Nat) : Dev :=
  let d := { d with qf := { d.qf with ctxs := terase d.qf.ctxs seq } }
  d.fset fQfStatCtx d.qf.ctxs.length

/-- The field checks of a command that fail: Invalid Field in Command and BAD_PARAM. They write a sump entry whose index
is the queue; the spec states no value for it, so that value is free (R511, log entry 6). -/
def Dev.fieldFailure (d : Dev) (sqid : Nat) (f : Ending) : Dev :=
  if (f.sct = 0 ∧ f.sc = 2) ∨ (f.sct = 7 ∧ f.sc = 1) then (d.sumpInput qfPlace 11 sqid (d.fresh 64)).used else d

/-- End a command in a terminal state: its record becomes terminal before its completion is posted (R397), and exactly
one completion is posted, unless the command has lost its queue (R375, R376). A command with no context is not
outstanding. -/
def Dev.finishAs (d : Dev) (st : JState) (seq : Nat) (f : Ending) : Dev :=
  match tget d.qf.ctxs seq with
  | none => d
  | some c =>
    let post := !c.unposted && d.cqLives c.sqid
    let d := d.fieldFailure c.sqid f
    let d := d.jset seq (fun r => { r with
      st := if post then st else if st = .done then .doneUnposted else st, notes := r.notes ||| f.allNotes c,
      status := f.sct * 256 + f.sc, result := f.dw0 % 4294967296, digest := f.digest })
    let d := d.freeCtx seq
    if post then
      { d with qf := { d.qf with
        cqs := tadj d.qf.cqs (d.cqOf c.sqid) (fun q => { q with posted := q.posted + 1 }),
        irqs := d.qf.irqs ++ d.cqVectors (d.cqOf c.sqid),
        posted := d.qf.posted ++ [{
          seq := seq, sqid := c.sqid, cid := c.sqe.cid.toNat, sct := f.sct, sc := f.sc,
          dw0 := f.dw0 % 4294967296, notes := f.allNotes c, list := f.written c, out := f.out }] } }
    else d

/-- A Delete I/O SQ completes, and its queue goes, after the last command of the queue has ended (R376). -/
def Dev.settleSqDel (d : Dev) (sqid : Nat) : Dev :=
  match tget d.qf.sqDel sqid with
  | some del =>
    if d.qf.ctxs.any (fun e => e.2.sqid == sqid) then d
    else ({ d with qf := { d.qf with sqDel := terase d.qf.sqDel sqid, sqs := terase d.qf.sqs sqid } }).finishAs .done del {}
  | none => d

/-- End a command that ran to its end (R370, R397). -/
def Dev.finish (d : Dev) (seq : Nat) (f : Ending) : Dev :=
  match tget d.qf.ctxs seq with
  | none => d
  | some c => (d.finishAs .done seq f).settleSqDel c.sqid

/-- A Skoazel failure status: Status Code Type 0x7 (R368). -/
def Dev.fail (d : Dev) (seq sc : Nat) : Dev := d.finish seq { sct := 7, sc := sc }

/-- A failure with a generic NVMe status (R368). -/
def Dev.failStd (d : Dev) (seq sc : Nat) : Dev := d.finish seq { sct := 0, sc := sc }

/-- Success of a command whose digest is that of "all others": CDW10 and the data in (Table SQ-26). -/
def Dev.okOther (d : Dev) (seq : Nat) (c : Ctx) (dw0 : Nat) : Dev :=
  d.finish seq { dw0 := dw0, dg1 := c.sqe.cdw10.toNat, dgData := c.data }

/-- Success of a command whose RESULT is an effect, first or last frame (Table SQ-26). -/
def Dev.okEffect (d : Dev) (seq : Nat) (c : Ctx) (n index : Nat) : Dev :=
  d.finish seq { dw0 := n % 4294967296, dg0 := n, dg1 := index, dgData := c.data }

/-- Success of a creating command (Table SQ-26). -/
def Dev.okCreate (d : Dev) (seq : Nat) (c : Ctx) (handle va : Nat) : Dev :=
  d.finish seq { dw0 := handle, dg0 := va, dg1 := handle, dgData := c.data }

/-- A command reaches its commit point: ACCEPTED becomes STARTED (R370). -/
def Dev.startCmd (d : Dev) (seq : Nat) : Dev :=
  d.jset seq (fun r => if r.st = .accepted then { r with st := .started } else r)

/-- Notes added to the journal record after the completion, as SUPERSEDED is (R364). -/
def Dev.noteLater (d : Dev) (seq n : Nat) : Dev := d.jset seq (fun r => { r with notes := r.notes ||| n })

/-! ### Skoazel status codes (Table SQ-12) -/
def stBadParam : Nat := 0x01
def stBadHandle : Nat := 0x02
def stBusy : Nat := 0x03
def stPowerState : Nat := 0x04
def stTranslation : Nat := 0x05
def stNoMemory : Nat := 0x06
def stImageFormat : Nat := 0x07
def stSignature : Nat := 0x08
def stBadTopology : Nat := 0x09
def stPailFull : Nat := 0x0A
def stCisternFull : Nat := 0x0B
def stLutFull : Nat := 0x0C
def stOverUtil : Nat := 0x0D
def stGraphRunning : Nat := 0x0E
def stPilotBusy : Nat := 0x0F
def stSinkBusy : Nat := 0x10
def stOverRate : Nat := 0x11
def stMapAlign : Nat := 0x12
def stPinFull : Nat := 0x13
def stBadSize : Nat := 0x14
def stPoolInUse : Nat := 0x15
def stPortRunning : Nat := 0x16
def stGeometry : Nat := 0x17
def stNoAlign : Nat := 0x18
def stNoSignal : Nat := 0x19
def stTempMoved : Nat := 0x1A
def stRejectedEye : Nat := 0x1B
def stRejectedStep : Nat := 0x1C
def stRejectedLock : Nat := 0x1D
def stLockLost : Nat := 0x1E
def stStopped : Nat := 0x1F
def stFlowRunning : Nat := 0x20
def stScaleRange : Nat := 0x21
def stNoSafeImage : Nat := 0x22
def stPortFull : Nat := 0x23
def stBadTiming : Nat := 0x24
def stDpbFull : Nat := 0x25
def stCoreRetired : Nat := 0x26
def stStoreFull : Nat := 0x27
def stNoStore : Nat := 0x28
def stActivationFailed : Nat := 0x29
def stNotPermitted : Nat := 0x2A

/-! ### Object kinds (Table SQ-5) -/
def kGraph : Nat := 1
def kIngest : Nat := 2
def kPilot : Nat := 3
def kCompositor : Nat := 4
def kFlow : Nat := 5
def kRaster : Nat := 6
def kRecording : Nat := 7
def kEncoder : Nat := 8
def kDecoder : Nat := 9
def kSiphon : Nat := 10
def kAudio : Nat := 11
def kAxis : Nat := 12
def kSpace : Nat := 16
def kMapping : Nat := 17
def kProgram : Nat := 18
def kImage : Nat := 19

/-! ### Fields of a command (R363, R366) -/

/-- CDW10 and CDW11. -/
def Ctx.w10 (c : Ctx) : Nat := c.sqe.cdw10.toNat
def Ctx.w11 (c : Ctx) : Nat := c.sqe.cdw11.toNat
/-- A VA: bits [31:0] in CDW13 and bits [47:32] in CDW14 [15:0]. -/
def Ctx.va (c : Ctx) : Nat := c.sqe.cdw13.toNat + c.sqe.cdw14.toNat % 65536 * 4294967296
/-- FORM of STOP: set for STOP_NOW. -/
def Ctx.stopNow (c : Ctx) : Bool := bit c.w10 8

/-- The object a Skoazel I/O command names, by kind and index (R370, Tables SQ-5 and SQ-7); clips count as kind 0x20. -/
def objectOf (q : Sqe) : Option (Nat × Nat) :=
  let a := q.cdw10.toNat
  let b := q.cdw11.toNat
  let guards : Nat × Nat := if bit a 9 then (kFlow, a % 512) else (kCompositor, a % 4)
  match q.opc.toNat with
  | 0x81 => some (kSpace, a % 4096) | 0x85 => some (kSpace, a % 4096) | 0x88 => some (kSpace, a % 4096)
  | 0x8C => some (kSpace, a % 4096) | 0x90 => some (kSpace, a % 4096)
  | 0x84 => some (a % 256, b) | 0x98 => some (a % 256, b) | 0xC8 => some (a % 256, b)
  | 0x91 => some (kGraph, a) | 0x9C => some (kGraph, a) | 0xA0 => some (kGraph, a)
  | 0x94 => some (kSiphon, a % 256)
  | 0x95 => some (kIngest, a % 8) | 0xA4 => some (kIngest, a % 8)
  | 0x99 => some (kPilot, 0) | 0xAC => some (kPilot, 0)
  | 0x9D => some (kCompositor, a % 4) | 0xA1 => some (kCompositor, a % 4)
  | 0xA5 => some (kFlow, a % 512) | 0xB0 => some (kFlow, a % 512)
  | 0xD0 => if a % 512 = 511 then none else some (kFlow, a % 512)
  | 0xB1 => some guards | 0xB4 => some guards | 0xB8 => some guards
  | 0xBC => some (kRaster, a % 16)
  | 0xC0 => some (kRecording, a % 8)
  | 0xB9 => some (kEncoder, a % 2) | 0xBD => some (kEncoder, a % 2)
  | 0xC1 => some (kDecoder, 0) | 0xC4 => some (kDecoder, 0)
  | 0xCC => some (0x20, a)
  | _ => none

/-- No earlier accepted command that names the same object is still before its commit point (R370). -/
def Dev.inOrder (d : Dev) (seq : Nat) (c : Ctx) : Bool :=
  match objectOf c.sqe with
  | none => true
  | some o =>
    c.sqid == 0 || d.qf.ctxs.all (fun e => !(e.1 < seq && e.2.sqid != 0 && objectOf e.2.sqe == some o
      && ((d.jrec e.1).map (·.st) == some JState.accepted)))

/-- Whether an opcode is a Skoazel one: its I/O opcodes from 0x80 and its admin opcodes from 0xC0 (Table SQ-7). -/
def isSkoazel (sqid opc : Nat) : Bool := if sqid = 0 then 0xC0 ≤ opc else 0x80 ≤ opc

/-- Firmware activation holds accepted Skoazel commands before they start, from step 2 to step 4 or 4a (Table SQ-13). -/
def Dev.fwHolds (d : Dev) : Bool :=
  match d.qf.fw with
  | some (.paused, _) => true
  | some (.checking, _) => true
  | _ => false

/-- The context of a command that may reach its commit point now: it is ACCEPTED, its opcode and queue are those of the
row, no activation holds it and it is its turn on its object (R370, R378). -/
def Dev.ready (d : Dev) (seq : Nat) (admin : Bool) (opc : Nat) : Option Ctx :=
  match tget d.qf.ctxs seq, d.jrec seq with
  | some c, some r =>
    if r.st = .accepted && (c.sqid == 0) == admin && c.sqe.opc.toNat == opc
        && !(isSkoazel c.sqid opc && d.fwHolds) && d.inOrder seq c then some c else none
  | _, _ => none

/-- Run an accepted command; a SEQ that names none in that state leaves the device as it is (log entry 7). -/
def Dev.run (d : Dev) (seq : Nat) (admin : Bool) (opc : Nat) (f : Dev → Ctx → Dev) : Dev :=
  match d.ready seq admin opc with
  | some c => f d c
  | none => d

/-- START commands complete with POWER_STATE in PS2 and during the entry to it (R380). -/
def Dev.noStart (d : Dev) : Bool := d.fget fQfStatPstate == 2 || d.qf.ps2 != .none

/-- Run a STOP of a kind (Table SQ-7). -/
def Dev.runStop (d : Dev) (seq kind : Nat) (f : Dev → Ctx → Dev) : Dev :=
  d.run seq false 0x98 (fun d c => if c.w10 % 256 = kind then f d c else d)

/-- Run a RELEASE of a kind (Table SQ-7). -/
def Dev.runRelease (d : Dev) (seq kind : Nat) (f : Dev → Ctx → Dev) : Dev :=
  d.run seq false 0x84 (fun d c => if c.w10 % 256 = kind then f d c else d)

/-- Run a START command, which completes with POWER_STATE in PS2 (R380). -/
def Dev.runStart (d : Dev) (seq opc : Nat) (f : Dev → Ctx → Dev) : Dev :=
  d.run seq false opc (fun d c => if d.noStart then d.fail seq stPowerState else f d c)

/-- The step that owns a unit or a lane group has not ended: commands that name it complete with BUSY (R499). -/
def Dev.ownedBusy (d : Dev) (step : Nat) : Bool := d.prime.next ≤ step

/-- Mark an object created or started by a command, and changed by it (R402). -/
def Dev.markCreated (d : Dev) (kind index seq : Nat) : Dev :=
  { d with qf := { d.qf with created := tput d.qf.created (kind * 4294967296 + index) seq,
                             changed := tput d.qf.changed (kind * 4294967296 + index) seq } }

/-- Mark the last command that changed an object (R402). -/
def Dev.markChanged (d : Dev) (kind index seq : Nat) : Dev :=
  { d with qf := { d.qf with changed := tput d.qf.changed (kind * 4294967296 + index) seq } }

/-- A fresh handle, never reused while the device is powered (R366). -/
def Dev.newHandle (d : Dev) : Nat × Dev := (d.qf.handle, { d with qf := { d.qf with handle := d.qf.handle + 1 } })

/-! ## Events (R381, R567) -/

def evRing : Nat := 65536

/-- Events are held: before PM15 enables them, and during a firmware activation (R567). -/
def Dev.eventsHeld (d : Dev) : Bool := !d.ev.enabled || d.qf.fw.isSome

/-- The completion of an Asynchronous Event Request: event type 0b111, information 0x00, log page 0xC0 (R381). -/
def aerResult : Nat := 0xC00007

/-- Complete the oldest outstanding Asynchronous Event Request when an event is unread, once until the page is read with
RAE clear (R381). -/
def Dev.announce (d : Dev) : Dev :=
  if d.ev.announced || !d.ev.unread then d else
    match d.qf.aers with
    | [] => d
    | seq :: rest =>
      let d := { d with qf := { d.qf with aers := rest }, ev := { d.ev with announced := true, unread := false } }
      d.finish seq { dw0 := aerResult }

/-- Put an event into the log at slot ESEQ mod 65,536 and announce it (R381). -/
def Dev.logEvent (d : Dev) (e : Event) : Dev :=
  ({ d with ev := { d.ev with log := tput d.ev.log (e.eseq % evRing) e, unread := true } }).announce

/-- Raise an event: it takes its ESEQ and record time as it arises; it is posted, or held while posting is held, at
most 4,096 at once (R381, R567). -/
def Dev.post (d : Dev) (ty kind index : Nat) (place : Place) (data : List Byte) : Dev :=
  let e : Event := { eseq := d.ev.next, time := d.recTime, ty := ty, kind := kind, index := index, place := place, data := data }
  let d := { d with ev := { d.ev with next := d.ev.next + 1 } }
  if d.eventsHeld then
    if d.ev.held.length < 4096 then { d with ev := { d.ev with held := d.ev.held ++ [e] } } else d
  else d.logEvent e

/-- Post every held event, in the order in which they arose (R567). -/
def Dev.postHeld (d : Dev) : Dev :=
  let l := d.ev.held
  l.foldl Dev.logEvent { d with ev := { d.ev with held := [] } }

/-! ## Byte forms of the records -/

/-- An event entry, 64 bytes (Table SQ-15). -/
def Event.bytes (e : Event) : List Byte :=
  le 8 e.eseq ++ le 8 e.time ++ le 2 e.ty ++ le 1 e.kind ++ zeros 1 ++ le 4 e.index ++ le 4 e.place.toNat ++ zeros 4
    ++ padTo 32 e.data

/-- A sump entry, 64 bytes (Table PF-6). -/
def SumpEntry.bytes (e : SumpEntry) : List Byte :=
  le 8 e.sseq ++ le 8 e.time ++ le 4 e.place.toNat ++ le 2 (e.cls * 256 + e.detail) ++ le 1 e.sev ++ le 1 e.flags
    ++ le 2 e.rep ++ le 1 e.step ++ zeros 5 ++ padTo 32 e.payload

/-- A journal record, 64 bytes with its CHECK (Table SQ-24). -/
def JRec.bytes (r : JRec) : List Byte :=
  let a := le 8 r.seq ++ le 8 r.tacc ++ le 2 r.sqid ++ le 2 r.cid ++ le 1 r.opc ++ le 1 r.st.code ++ le 1 r.notes
    ++ le 1 r.flags ++ le 4 r.nsid ++ le 4 r.cdw10 ++ le 4 r.cdw11
    ++ le 2 (if r.st.terminal then r.status else 0) ++ zeros 2 ++ le 4 r.result
  let g := padTo 16 r.digest
  a ++ le 4 (crc32c (a ++ g)).toNat ++ g

end Sys2Proof.Machine
end

