-- ==== Sys2Proof/Machine/NvOps.lean ====
section
/-!
DEFINITION. Signature blocks (R517), and writes of the device non-volatile memory: the write gate, two-slot commits, the retained record and the
retirement of units.
-/
set_option autoImplicit false

namespace Sys2Proof.Machine

/-! ## Signatures (R517) -/

/-- A signature block: the 3,309-byte signature and 19 zero bytes. -/
def sigBlock (sig : BitVec 26472) : List Byte := le 3309 sig.toNat ++ zeros 19

/-- The signature block that DK makes over a body under a context string. -/
def dkBlock (ctx body : List Byte) : List Byte := sigBlock (Config.dkSign ctx body)

/-- A signature block verifies over a body under a key and a context string. -/
def blockVerifies (key ctx body blk : List Byte) : Bool := Config.sigVerify key ctx body (blk.take 3309) && allZero blk 3309 19

/-! ## The write gate and two-slot commits -/

/-- The non-volatile write gate is open (R542). -/
def Dev.gateOpen (d : Dev) : Bool := d.flag fThmGateOpen

/-- Count a write that the gate refused (THM_GATE.REFUSED). -/
def Dev.gateRefuse (d : Dev) : Dev := d.finc fThmGateRefused

/-- A commit of the retained record rather than of a checkpoint. -/
def CommitBody.isRecord : CommitBody → Bool
  | .record _ => true
  | .checkpoint _ => false

/-- GEN of a slot, 0 where it holds no valid copy. -/
def genOf {α : Type} (s : Option (Nat × α)) : Nat := match s with | some (g, _) => g | none => 0

/-- Slot B holds the newer valid copy. -/
def newerB {α : Type} (a b : Option (Nat × α)) : Bool :=
  match a, b with
  | none, some _ => true
  | some (ga, _), some (gb, _) => ga < gb
  | _, _ => false

/-- The newer valid copy of a two-slot region (R490). -/
def newest {α : Type} (a b : Option (Nat × α)) : Option (Nat × α) := if newerB a b then b else a

/-- A commit as it starts: into the slot that does not hold the newer valid copy, with GEN one higher (R490); 512 pages
for the retained record, 257 for a checkpoint. -/
def Nv.newCommit (n : Nv) : CommitBody → Commit
  | .record r => { body := .record r, slotB := !newerB n.rrA n.rrB && n.rrA.isSome,
                   gen := genOf (newest n.rrA n.rrB) + 1, pagesLeft := 512 }
  | .checkpoint c => { body := .checkpoint c, slotB := !newerB n.ckA n.ckB && n.ckA.isSome,
                       gen := genOf (newest n.ckA n.ckB) + 1, pagesLeft := 257 }

/-- The erase of a commit leaves its slot without a valid copy. -/
def Nv.invalidate (n : Nv) (c : Commit) : Nv :=
  match c.body, c.slotB with
  | .record _, false => { n with rrA := none }
  | .record _, true => { n with rrB := none }
  | .checkpoint _, false => { n with ckA := none }
  | .checkpoint _, true => { n with ckB := none }

/-- The flash stops: a commit in progress, its erase running or suspended included, leaves its slot without a valid copy, and
one that has not started leaves it as it is (R490, R543). -/
def Nv.cutOff (n : Nv) (started : Bool) : Nv :=
  match n.commits with
  | c :: _ => { (if started then n.invalidate c else n) with commits := [] }
  | [] => n

/-- The last page of a commit makes its slot valid. -/
def Nv.land (n : Nv) (c : Commit) : Nv :=
  match c.body, c.slotB with
  | .record r, false => { n with rrA := some (c.gen, r) }
  | .record r, true => { n with rrB := some (c.gen, r) }
  | .checkpoint k, false => { n with ckA := some (c.gen, k) }
  | .checkpoint k, true => { n with ckB := some (c.gen, k) }

/-- CSTS.SHST reports complete once the write buffer is persisted and the checkpoint is committed, or once the buffer is
persisted where the gate is closed (R377). -/
def Dev.settleShutdown (d : Dev) : Dev :=
  if d.qf.shst = 1 && d.store.wbHost.isEmpty && d.store.wbSlots.isEmpty
      && (!d.gateOpen || d.nv.commits.all (·.body.isRecord)) then { d with qf := { d.qf with shst := 2 } }
  else d

/-- Show the commits in THM_GATE: BUSY while a program or erase runs, PEND_RR and PEND_CKPT while one waits for the
gate, SUSP while an erase is suspended (R543, R566). -/
def Dev.showCommits (d : Dev) : Dev :=
  let cs := d.nv.commits
  let shut := !d.gateOpen
  ((((d.fsetb fThmGateBusy (!cs.isEmpty && !shut)).fsetb fThmGatePendRr (shut && cs.any (·.body.isRecord))).fsetb
    fThmGatePendCkpt (shut && cs.any (fun c => !c.body.isRecord))).fsetb fThmGateSusp (shut && d.flag fThmGateSusp)).settleShutdown

/-- The oldest commit has started: the gate is open, or has suspended its erase. -/
def Dev.commitStarted (d : Dev) : Bool := d.gateOpen || d.flag fThmGateSusp

/-- Request a two-slot commit: it starts when the gate is open and is held pending when it is closed (R490, R543). A
commit of the same region that waits or runs is replaced by the newer content. -/
def Dev.commit (d : Dev) (b : CommitBody) : Dev :=
  let cs := d.nv.commits.filter (fun c => c.body.isRecord != b.isRecord)
  let d := { d with nv := { d.nv with commits := cs ++ [d.nv.newCommit b] } }
  (if d.gateOpen then d else d.gateRefuse).showCommits

/-- Commit the retained record (R492). -/
def Dev.commitRecord (d : Dev) : Dev :=
  let r := { d.prime.rr with boots := d.prime.boots, tcommit := d.recTime }
  let d := { d with prime := { d.prime with rr := r, dirty := false } }
  d.commit (.record r)

/-- The newest 1,024 records of the journal, oldest first (R401). -/
def Dev.newestRecords (d : Dev) (n : Nat) : List JRec :=
  ((List.range n).map (fun i => d.jrec (d.qf.head - n + i))).filterMap id

/-- Write the journal checkpoint: HEAD and the newest 1,024 records (R401). -/
def Dev.checkpoint (d : Dev) : Dev := d.commit (.checkpoint { head := d.qf.head, recs := d.newestRecords (min d.qf.head 1024) })

/-- Change the working copy of the retained record. -/
def Dev.rrMod (d : Dev) (f : Retained → Retained) : Dev :=
  { d with prime := { d.prime with rr := f d.prime.rr, dirty := true } }

/-- Change the working copy where the gate allows it: content that it refuses is not entered (R543). -/
def Dev.rrModGated (d : Dev) (f : Retained → Retained) : Dev := if d.gateOpen then d.rrMod f else d.gateRefuse

/-- Which counter of PRM_RETIRED a place counts in: pumps, cistern sub-banks and lookup tables, lanes, or other units
(R516). -/
def retiredField (p : Place) : Fld :=
  let die := bits p.toNat 31 30
  let well := bits p.toNat 27 25
  let unit := bits p.toNat 24 20
  if die < 2 && well < 4 && unit < 5 then fPrmRetiredPumps
  else if die < 2 && well < 4 && (unit == 8 || unit == 9) then fPrmRetiredBanks
  else if (die == 2 && well == 6) || (die < 2 && well == 5) then fPrmRetiredLanes
  else fPrmRetiredOther

/-- Retire a unit: it enters the retirement list, of at most 256 entries, the retained record is committed, the counts
show it, a sump entry of class 0x0C is written and RETIRED is raised (R507, Table PF-7, Table PF-11). -/
def Dev.retire (d : Dev) (place : Place) (cause : Nat) (subst : Option Place) (affected : List Byte) : Dev :=
  let sub := subst.getD noPlace
  let full := 256 ≤ d.prime.rr.retired.length
  let d := d.sumpWrite place 12 (if full then 2 else if subst.isSome then 0 else 1) 2 0 (le 4 sub.toNat)
  let d := if full then { d with test := { d.test with unsaved := d.test.unsaved ++ [place] } }
    else (d.rrMod (fun r => { r with retired := r.retired ++ [(place, cause, d.prime.boots)] })).commitRecord
  let d := d.finc (retiredField place)
  d.post 0x62 0 0 place (le 4 place.toNat ++ le 4 sub.toNat ++ affected.take 24)

/-- The unit at a place is retired: the retirement list names it, or would but for its size (R507). -/
def Dev.isRetired (d : Dev) (place : Place) : Bool :=
  d.prime.rr.retired.any (fun e => e.1 == place) || d.test.unsaved.contains place

end Sys2Proof.Machine
end

