-- ==== Sys2Proof/Machine/Lanes.lean ====
section
/-!
DEFINITION. Serial lanes and link protocols (R405 to R439): the meanings of the lane, Ethernet port and reference clock
commands.
-/
set_option autoImplicit false

namespace Sys2Proof.Machine

/-! ## Lane states (Table SL-3) -/

def lsOff : Nat := 0
def lsDetect : Nat := 1
def lsTrain : Nat := 2
def lsBitlock : Nat := 3
def lsBlocklock : Nat := 4
def lsCapex : Nat := 5
def lsActive : Nat := 6
def lsTest : Nat := 8
def lsFenced : Nat := 9
def lsFault : Nat := 10

def Dev.laneSt (d : Dev) (n : Nat) : Nat := d.fget (fLaneStatState n)
def Dev.setLaneSt (d : Dev) (n v : Nat) : Dev := d.fset (fLaneStatState n) v
def Dev.laneX (d : Dev) (n : Nat) : LaneX := tgetD d.lanes.lane n {}
def Dev.setLaneX (d : Dev) (n : Nat) (f : LaneX → LaneX) : Dev :=
  { d with lanes := { d.lanes with lane := tmod d.lanes.lane n {} f } }
def Dev.portX (d : Dev) (p : Nat) : PortX := tgetD d.lanes.port p {}
def Dev.setPortX (d : Dev) (p : Nat) (f : PortX → PortX) : Dev :=
  { d with lanes := { d.lanes with port := tmod d.lanes.port p {} f } }

/-- Protocol of a lane's group (R439): 1 to 3 Ethernet, 4 CXL, 5 endpoint, 6 root ports, 7 SDI. -/
def Dev.proto (d : Dev) (n : Nat) : Nat := d.fget (fLaneGrpCfgProto (n / 8))
def Dev.isEth (d : Dev) (n : Nat) : Bool := 1 ≤ d.proto n && d.proto n ≤ 3
def Dev.isSdi (d : Dev) (n : Nat) : Bool := d.proto n == 7

/-- The Ethernet port of a lane: ports 0 to 3 on lanes 0 to 15, ports 4 and 5 on lanes 88 to 95 (Table SL-1). -/
def portOfLane (n : Nat) : Nat := if n < 16 then n / 4 else 4 + (n - 88) / 4

/-- The first lane of an Ethernet port. -/
def firstLane (p : Nat) : Nat := if p < 4 then 4 * p else 88 + 4 * (p - 4)

/-- The lanes of an Ethernet port. -/
def portLanes (p : Nat) : List Nat := (List.range 4).map (firstLane p + ·)

/-- Every lane of a lane's link, by its group's protocol (Table SL-1, R406). -/
def Dev.linkAll (d : Dev) (n : Nat) : List Nat :=
  match d.proto n with
  | 1 => portLanes (portOfLane n)
  | 4 => (List.range 16).map (16 * (n / 16) + ·)
  | 5 => (List.range 16).map (48 + ·)
  | 6 => (List.range 4).map (4 * (n / 4) + ·)
  | _ => [n]

/-- The lanes of the link that take part: not left out, retired or off (R426). -/
def Dev.link (d : Dev) (n : Nat) : List Nat :=
  (d.linkAll n).filter (fun m => d.laneSt m != lsFenced && d.laneSt m != lsFault && d.laneSt m != lsOff)

/-- Show which lanes of a group are ACTIVE, and which FENCED or in FAULT (LANE_GRP_CFG). -/
def Dev.showGroup (d : Dev) (g : Nat) : Dev :=
  let up := ((List.range 8).map (fun l => if d.laneSt (8 * g + l) == lsActive then 2 ^ l else 0)).sum
  let fe := ((List.range 8).map (fun l =>
    if d.laneSt (8 * g + l) == lsFenced || d.laneSt (8 * g + l) == lsFault then 2 ^ l else 0)).sum
  (d.fset (fLaneGrpCfgUp g) up).fset (fLaneGrpCfgFence g) fe

/-- Set the state of several lanes and show their groups. -/
def Dev.setLanes (d : Dev) (l : List Nat) (v : Nat) : Dev :=
  (l.foldl (fun d n => d.setLaneSt n v) d |> fun d => (l.map (· / 8)).eraseDups.foldl Dev.showGroup d)

/-- A lane loses its lock; its receiver adapts again (R418, R421). -/
def Dev.unlock (d : Dev) (n : Nat) : Dev := d.fsets [(fLaneStatBitlock n, 0), (fLaneStatBlklock n, 0), (fLaneStatFrozen n, 0)]

/-- The reference clock of a lane's island is not in fault: without it the lane has no lock (R408). -/
def Dev.refOk (d : Dev) (n : Nat) : Bool := !d.flag (fLaneRefclkStatFault (n / 16))

/-- No lane of an Ethernet link is retired: its port has no reduced width and stays down (R425). -/
def Dev.linkWhole (d : Dev) (n : Nat) : Bool := !d.isEth n || (d.linkAll n).all (fun m => d.laneSt m != lsFault)

/-- The sum and main-tap limits of R413. -/
def eqOk (cm3 cm2 cm1 c0 cp1 : Nat) : Bool :=
  decide (cm3 + cm2 + cm1 + c0 + cp1 ≤ 48) && decide (16 + cm3 + cm2 + cm1 + cp1 ≤ c0)

/-- The tap fields of LANE_EQ, c(−3) first. -/
def eqFields (n : Nat) : List Fld := [fLaneEqCm3 n, fLaneEqCm2 n, fLaneEqCm1 n, fLaneEqC0 n, fLaneEqCp1 n]

def Dev.eqTaps (d : Dev) (n : Nat) : List Nat := (eqFields n).map d.fget

def Dev.setTaps (d : Dev) (n : Nat) (v : List Nat) : Dev := d.fsets ((eqFields n).zip v)

/-- LANE_EQ as one word. -/
def eqWord (v : List Nat) : Nat :=
  match v with
  | [a, b, c, m, p] => a * 2 ^ 24 + b * 2 ^ 18 + c * 2 ^ 12 + m * 2 ^ 6 + p
  | _ => 0

/-- Member number of a lane for events: 0xFF in 400G mode (Table SL-6). -/
def Dev.memberOf (d : Dev) (n : Nat) : Nat := if d.proto n == 1 then 255 else n % 4

/-- MEMBERS bits of a lane: all four in 400G mode. -/
def Dev.memberBits (d : Dev) (n : Nat) : Nat := if d.proto n == 1 then 15 else 2 ^ (n % 4)

/-- An Ethernet port or breakout member goes down (R423): PORT_DOWN and a sump entry with the first lane to lose lock,
flows stop, the lanes return to DETECT and bring up again. -/
def Dev.portDown (d : Dev) (n cause : Nat) : Dev :=
  let p := portOfLane n
  let data := le 1 p ++ le 1 (d.memberOf n) ++ le 1 cause
  let mem := d.fget (fEthPortStatMembers p)
  let d := d.fset (fEthPortStatMembers p) (mem - (mem &&& d.memberBits n))
  let d := if d.fget (fEthPortStatMembers p) == 0 then d.fset (fEthPortStatState p) 1 else d
  let d := d.finc (fEthPortStatDowns p)
  let d := d.setPortX p (fun x => { x with
    upAt := if d.proto n == 1 || n % 4 == 0 then none else x.upAt,
    memberUp := terase x.memberUp (n % 4),
    resumed := x.resumed.filter (fun m => m != (if d.proto n == 1 then 0 else n % 4)) })
  let d := d.post 0x41 0 p (lanePlace n) data
  let d := d.sumpWrite (lanePlace n) 9 0x41 2 0 data
  let ls := d.link n
  (ls.foldl Dev.unlock d).setLanes ls lsDetect

/-- A lane's link is up in service. -/
def Dev.linkActive (d : Dev) (n : Nat) : Bool := d.laneSt n == lsActive

/-- Start a lane self-test (R431): the lane shows TEST, or stays FENCED when it was left out of its link (R426). -/
def Dev.startLaneTest (d : Dev) (n : Nat) : Dev :=
  let d := d.setLaneX n (fun x => { x with testing := true })
  if d.laneSt n == lsFenced then d else (d.unlock n).setLanes [n] lsTest

/-- Lanes begin bring-up: in DETECT, but an SDI lane, which has no partner, enters ACTIVE with its PLL, and a lane of an
unused group is OFF (R411, Table SL-3). -/
def Dev.bringUp (d : Dev) (l : List Nat) : Dev :=
  ((d.setLanes (l.filter (fun n => d.proto n == 0)) lsOff).setLanes (l.filter (fun n => d.isSdi n)) lsActive).setLanes
    (l.filter (fun n => d.proto n != 0 && !d.isSdi n)) lsDetect

/-- The links that a reference clock input serves: its island's lanes (Table SL-2). -/
def refclkLanes (k : Nat) : List Nat := (List.range 16).map (16 * k + ·)

/-- Accepted range of a reference clock input in 0.1 ppm (Table SL-2). -/
def refclkInRange (k : Nat) (ppm : Int) : Bool :=
  if k = 0 ∨ k = 5 then decide (-2000 ≤ ppm ∧ ppm ≤ 2000) else decide (-53000 ≤ ppm ∧ ppm ≤ 3000)

/-- SSD of a root port lane (Table SL-1). -/
def rootPortOf (n : Nat) : Nat := (n - 64) / 4

def cxlPlace (p : Nat) : Place := ioPlace 4 p noSlice

/-- Rate of a SPEED code in tenths of GT/s. -/
def cxlRate (speed : Nat) : Nat := ([0, 25, 50, 80, 160, 320] : List Nat).getD speed 0

/-- Show a port's width, rate and bandwidth each way. -/
def Dev.showCxlPort (d : Dev) (p width speed : Nat) : Dev :=
  d.fsets [(fCxlPortStatWidth p, width), (fCxlPortStatSpeed p, speed), (fCxlPortStatBw p, width * cxlRate speed / 80),
    (fCxlPortStatState p, if width = 0 then 0 else if width = 16 && speed = 5 then 2 else 3)]

/-- Record a PCIe or CXL link's new width and rate in the register of its unit (R426): CXL_PORT_STAT for CXL, STO_SSD_STAT for a
root port. -/
def Dev.showLink (d : Dev) (n width rate : Nat) : Dev :=
  match d.proto n with
  | 4 => d.showCxlPort (n / 16 - 1) width rate
  | 6 =>
    let r := rootPortOf n
    let st := if width == 4 && rate == 5 then 1 else 2
    ((d.fset (fStoSsdStatState r) st).fset (fStoSsdStatWidth r) width).fset (fStoSsdStatSpeed r) rate
  | _ => d

/-- Raise BANDWIDTH with a port, its width and the code of its rate (Table SQ-16): a CXL port by its number and place, another
link by its first lane ÷ 4. -/
def Dev.bandwidth (d : Dev) (n width rate : Nat) : Dev :=
  if d.proto n = 4 then d.post 0x07 0 (n / 16 - 1) (cxlPlace (n / 16 - 1)) (le 1 (n / 16 - 1) ++ le 1 width ++ le 1 rate)
  else d.post 0x07 0 (n / 4) (lanePlace n) (le 1 (n / 4) ++ le 1 width ++ le 1 rate)

/-- Widths at which a link may run: x16, x8 or x4 (R189, R426), and x4, x2 or x1 for a root port. -/
def Dev.widths (d : Dev) (n : Nat) : List Nat := if d.proto n = 6 then [4, 2, 1] else [16, 8, 4]

/-- The width of a link with the lanes that take part. -/
def Dev.linkWidth (d : Dev) (n : Nat) : Nat := ((d.widths n).find? (· ≤ (d.link n).length)).getD 0

/-- A CXL port whose lanes train shows Training (R193). -/
def Dev.showTraining (d : Dev) (n : Nat) : Dev := if d.proto n = 4 then d.fset (fCxlPortStatState (n / 16 - 1)) 1 else d

/-! ## Bring-up (R411, R412, R418 to R420) -/

/-- LANE_SIGNAL_DETECT: a lane in DETECT finds its partner and enters TRAIN; an SDI lane has no partner (R411). -/
def laneSignalDetect (n : Nat) (d : Dev) : Dev :=
  if d.laneSt n == lsDetect && !(d.laneX n).wait && !d.isSdi n && d.linkWhole n then (d.setLanes [n] lsTrain).showTraining n else d

/-- A transmitter request of the partner: one step of one coefficient in a CR mode (R414), or the three taps of a PCIe
or CXL request (R415). -/
def trainingRequest (n : Nat) (r : TrainReq) (d : Dev) : Dev :=
  if d.laneSt n != lsTrain then d else
  let old := d.eqTaps n
  let new : Option (List Nat) := match r with
    | .step tap up =>
      if d.isEth n && Config.portCr (portOfLane n) then
        let v := old.getD tap.val 0
        if up then some (old.set tap.val (v + 1)) else if v = 0 then none else some (old.set tap.val (v - 1))
      else none
    | .pcie cm1 c0 cp1 => if d.isEth n || d.isSdi n then none else some [0, 0, cm1, c0, cp1]
  let ok : Bool := match new with
    | some [a, b, c, m, p] => eqOk a b c m p
    | _ => false
  let d := d.setLaneX n (fun x => { x with answer := some ok })
  if ok then d.setTaps n (new.getD old) else d

/-- LANE_TRAINING_DONE: training is done and the lane enters BITLOCK (R411). -/
def laneTrainingDone (n : Nat) (d : Dev) : Dev :=
  if d.laneSt n == lsTrain then d.setLanes [n] lsBitlock else d

/-- LANE_BIT_LOCK: bit lock moves the lane to BLOCKLOCK; an SDI lane's near-end receiver gains bit lock in ACTIVE
(R418, R430). -/
def laneBitLock (n : Nat) (d : Dev) : Dev :=
  if !d.refOk n then d
  else if d.laneSt n == lsBitlock then (d.fset (fLaneStatBitlock n) 1).setLanes [n] lsBlocklock
  else if d.isSdi n && d.laneSt n == lsActive then d.fset (fLaneStatBitlock n) 1
  else d

/-- LANE_BLOCK_LOCK: the lane holds in BLOCKLOCK until every lane of its link has lock, and then the link's lanes enter
CAPEX together (R411, R420). -/
def laneBlockLock (n : Nat) (d : Dev) : Dev :=
  if d.laneSt n == lsBlocklock then
    let d := d.fset (fLaneStatBlklock n) 1
    let l := d.link n
    if d.linkWhole n && l.all (fun m => d.laneSt m == lsBlocklock && d.flag (fLaneStatBlklock m)) then d.setLanes l lsCapex else d
  else if d.isSdi n && d.laneSt n == lsActive && d.flag (fLaneStatBitlock n) then d.fset (fLaneStatBlklock n) 1
  else d

/-- Record the trained settings of a link's lanes in the retained record, subject to the gate (R417). -/
def Dev.keepEq (d : Dev) (l : List Nat) : Dev :=
  l.foldl (fun d n => d.rrModGated (fun r => { r with laneEq := tput r.laneEq n (eqWord (d.eqTaps n)) })) d

/-- A port or member comes up: PORT_UP, its state and members (R424). -/
def Dev.portUp (d : Dev) (n : Nat) : Dev :=
  let p := portOfLane n
  let d := (d.fset (fEthPortStatMembers p) (d.fget (fEthPortStatMembers p) ||| d.memberBits n)).fset (fEthPortStatState p) 2
  let d := d.setPortX p (fun x => { x with
    upAt := if d.proto n == 1 || n % 4 == 0 then some d.nowNs else x.upAt,
    memberUp := if d.proto n == 1 then x.memberUp else tput x.memberUp (n % 4) d.nowNs })
  d.post 0x42 0 p (lanePlace n) (le 1 p ++ le 1 (d.memberOf n))

/-- LINK_CAPEX_DONE: the exchange completes and every lane of the link enters ACTIVE at the given rate; the trained
settings are recorded, and the port is up (R411, R417, R420, R424, R426, R428). -/
def linkCapexDone (n rate : Nat) (d : Dev) : Dev :=
  let l := d.link n
  if d.laneSt n == lsCapex && l.all (fun m => d.laneSt m == lsCapex) then
    let d := d.setLanes l lsActive
    let d := l.foldl (fun d m => (d.fset (fLaneStatRate m) rate).setLaneX m (fun x => { x with tested := false, wait := false })) d
    let d := d.keepEq l
    if d.isEth n then d.portUp n
    else
      let w := d.linkWidth n
      let d := d.showLink n w rate
      let d := if d.proto n == 5 then { d with prime := { d.prime with linkUp := true } } else d
      if w < (d.linkAll n).length || rate != 5 then d.bandwidth n w rate else d
  else d

/-- FLOW_RESUME: a port or member that has been up for 100 ms lets its flows resume at their next frame start (R424). -/
def flowResume (p m : Nat) (d : Dev) : Dev :=
  let x := d.portX p
  let at? := if d.proto (firstLane p) == 1 then x.upAt else tget x.memberUp m
  let mem := if d.proto (firstLane p) == 1 then 0 else m
  match at? with
  | some t => if t + 100000000 ≤ d.nowNs && !x.resumed.contains mem
      then d.setPortX p (fun x => { x with resumed := x.resumed ++ [mem] }) else d
  | none => d

/-- Failed attempts of a lane within the present 60 s (R425). -/
def recentFails (fails : List Nat) (now : Nat) : List Nat := fails.filter (fun t => now < t + 60000000000)

/-- BRINGUP_TIMEOUT: an Ethernet link not ACTIVE in time is a failed attempt: each lane that did not reach BLOCKLOCK
counts it, a lane's third within 60 s starts its self-test, and the link returns to DETECT; once tested, it tries again
every 10 s (R412, R425). -/
def bringupTimeout (n : Nat) (d : Dev) : Dev :=
  if !d.isEth n || d.laneSt n == lsActive || d.laneSt n == lsOff then d else
  let l := d.link n
  let late := l.filter (fun m => d.laneSt m < lsBlocklock)
  let d := late.foldl (fun d m =>
    let fs := d.nowNs :: recentFails (d.laneX m).fails d.nowNs
    (d.setLaneX m (fun x => { x with fails := fs })).fset (fLaneStatFails m) (min 3 fs.length)) d
  let d := (l.foldl Dev.unlock d).setLanes l lsDetect
  let third := late.filter (fun m => 3 ≤ ((d.laneX m).fails).length && !(d.laneX m).tested)
  let wait := !third.isEmpty || l.any (fun m => (d.laneX m).tested)
  let d := if wait then l.foldl (fun d m => d.setLaneX m (fun x => { x with wait := true })) d else d
  third.foldl (fun d m => (d.setLaneX m (fun x => { x with tested := true })).startLaneTest m) d

/-- BRINGUP_RETRY: the link of a lane that waits, or a lost NVMe root port, tries bring-up again, every 10 s (R425, R428). -/
def bringupRetry (n : Nat) (d : Dev) : Dev :=
  let l := d.link n
  if l.any (fun m => (d.laneX m).testing) then d else
  if d.laneSt n == lsDetect then l.foldl (fun d m => d.setLaneX m (fun x => { x with wait := false })) d else d

/-! ## Loss of lock in service (R421 to R430) -/

/-- A PCIe or CXL link goes into Recovery, and lanes left out whose self-test passed are offered again (R426). -/
def Dev.retrain (d : Dev) (n : Nat) : Dev :=
  let l := d.link n
  let back := (d.linkAll n).filter (fun m => d.laneSt m == lsFenced && (d.laneX m).offered)
  let d := ((l.foldl Dev.unlock d).setLanes (l ++ back) lsTrain).showTraining n
  back.foldl (fun d m => d.setLaneX m (fun x => { x with offered := false })) d

/-- LANE_LOCK_LOSS: a lane in service loses bit lock (cause 0) or block or marker lock (cause 1). An Ethernet port or
member goes down; a PCIe or CXL link goes into Recovery, and lanes left out whose self-test passed are offered again; an SDI lane goes on
transmitting (R423, R426, R430). -/
def laneLockLoss (n cause : Nat) (d : Dev) : Dev :=
  if d.laneSt n != lsActive then d else
  let d := (d.finc (fLaneStatLockloss n)).unlock n
  if d.isEth n then d.portDown n cause
  else if d.isSdi n then d
  else d.retrain n

/-- FAULT_SIGNALLED: an RS-FEC high symbol-error indication (cause 2) or a local or remote fault (cause 3) takes an
Ethernet port or member down (R423). -/
def faultSignalled (n cause : Nat) (d : Dev) : Dev :=
  if d.isEth n && d.laneSt n == lsActive then d.portDown n cause else d

/-- Every lane of an island is treated as having lost lock: links in service as R423 to R430 say, and bring-up starts again (R408). -/
def Dev.islandLost (d : Dev) (k : Nat) : Dev :=
  let up := (refclkLanes k).filter (fun n => d.laneSt n == lsActive)
  let late := (refclkLanes k).filter (fun n => lsTrain ≤ d.laneSt n && d.laneSt n < lsActive)
  let d := up.foldl (fun d n => (d.finc (fLaneStatLockloss n)).unlock n) d
  let d := up.foldl (fun d n =>
    if d.laneSt n != lsActive || d.isSdi n then d else if d.isEth n then d.portDown n 4 else d.retrain n) d
  late.foldl (fun d n => (d.unlock n).setLanes [n] (if d.isEth n then lsDetect else lsTrain)) d

/-- REFCLK_WINDOW: a 100 µs window of a lane reference clock ends with an offset in 0.1 ppm, or none when the input was
absent. A bad window raises REFCLK_FAULT and costs the island its lock; the fault clears after 10 good windows, and the
links bring up again (R408, R429, R511). -/
def refclkWindow (k : Nat) (ppm : Option Int) (d : Dev) : Dev :=
  let d := match ppm with
    | some v => d.fset (fLaneRefclkStatPpm k) (trunc 24 v)
    | none => d
  let good := match ppm with
    | some v => refclkInRange k v
    | none => false
  if !good then
    let d := { d with lanes := { d.lanes with refGood := tput d.lanes.refGood k 0 } }
    if d.flag (fLaneRefclkStatFault k) then d else
      let v := match ppm with | some v => trunc 32 v | none => allOnes32
      let d := (d.fset (fLaneRefclkStatFault k) 1).fset (fLaneRefclkStatSeen k) 1
      let d := d.post 0x44 0 k (ioPlace 6 (2 * k) noSlice) (le 1 k ++ le 4 v)
      let d := d.sumpInput (ioPlace 6 (2 * k) noSlice) 8 k v
      d.islandLost k
  else if d.flag (fLaneRefclkStatFault k) then
    let g := tgetD d.lanes.refGood k 0 + 1
    let d := { d with lanes := { d.lanes with refGood := tput d.lanes.refGood k g } }
    if g < 10 then d else d.fset (fLaneRefclkStatFault k) 0
  else d

/-- ADAPTATION_FREEZE: after 4,096 idle blocks the receivers of a link stop adapting; SDI never freezes (R421). -/
def adaptationFreeze (n : Nat) (d : Dev) : Dev :=
  if d.isSdi n || d.laneSt n != lsActive then d else (d.link n).foldl (fun d m => d.fset (fLaneStatFrozen m) 1) d

/-- ADAPTATION_RESUME: after 256 data blocks the receivers of a link adapt again (R421). -/
def adaptationResume (n : Nat) (d : Dev) : Dev := (d.link n).foldl (fun d m => d.fset (fLaneStatFrozen m) 0) d

/-- LANE_DRIFT: a coefficient has been at its bound for 10 ms. The event is raised again only after all coefficients
have been off their bounds for 1 s (`quiet` ns before this); the lane continues (R422). -/
def laneDrift (n coef value quiet : Nat) (d : Dev) : Dev :=
  if d.laneSt n != lsActive || ((d.laneX n).driftOpen && decide (quiet < 1000000000)) then d else
  let data := le 1 n ++ le 1 coef ++ le 2 value
  let d := (d.fset (fLaneStatDrift n) 1).setLaneX n (fun x => { x with driftOpen := true })
  let d := d.post 0x40 0 n (lanePlace n) data
  d.sumpWrite (lanePlace n) 9 0x40 0 0 data

/-- LANE_FENCE: a PCIe or CXL lane that Recovery cannot bring back is left out: FENCED, its self-test starts, and the
rest of the link has retrained at the given width and rate, with BANDWIDTH (R426). -/
def laneFence (n width rate : Nat) (d : Dev) : Dev :=
  if d.isEth n || d.isSdi n || d.laneSt n == lsOff || d.laneSt n == lsFault || d.laneSt n == lsFenced
      || !(d.widths n).contains width || (d.linkAll n).length ≤ width then d else
  let d := (d.unlock n).setLanes [n] lsFenced
  let d := d.startLaneTest n
  let l := d.link n
  let d := (l.foldl (fun d m => d.fsets [(fLaneStatBitlock m, 1), (fLaneStatBlklock m, 1), (fLaneStatRate m, rate)]) d).setLanes l lsActive
  (d.showLink n width rate).bandwidth n width rate

/-- NVME_ROOT_PORT_LOSS: a root port not back in 1 s marks its SSD failed; it tries bring-up every 10 s (R428, R435). -/
def nvmeRootPortLoss (r : Nat) (d : Dev) : Dev :=
  let n := 64 + 4 * r
  let l := d.link n
  let d := ((l.foldl Dev.unlock d).setLanes l lsDetect).fset (fStoSsdStatState r) 3
  let d := l.foldl (fun d m => d.setLaneX m (fun x => { x with wait := true })) d
  (d.fset (fStoSsdStatWidth r) 0).fset (fStoSsdStatSpeed r) 0

/-- SDI_RATE_STEER: the SDI rate follows the increment over 2.0 ns, within ±200 ppm (R409). -/
def sdiRateSteer (d : Dev) : Dev :=
  { d with lanes := { d.lanes with sdiRate := max 4294108303 (min 4295826289 (d.time.inc.toNat / 2)) } }

/-! ## Lane self-test (R431) -/

/-- LANE_TEST: a write of LANE_CTL[n].TEST acts only when the lane is not in an ACTIVE link, or its raster is released
or stopped on an SDI lane (R431). -/
def laneTest (n : Nat) (d : Dev) : Dev :=
  let idle := if d.isSdi n then
      let r := n - 80
      d.fget (fRasCtlState r) == 0 || d.fget (fRasCtlState r) == 2
    else (d.linkAll n).all (fun m => d.laneSt m != lsActive)
  if idle && !(d.laneX n).testing && d.laneSt n != lsFault then d.startLaneTest n else d

/-- LANE_RETRY: a write of LANE_CTL[n].RETRY clears FAULT and FAILS and starts bring-up of the lane's link (R439). -/
def laneRetry (n : Nat) (d : Dev) : Dev :=
  let d := if d.laneSt n == lsFault then d.bringUp [n] else d
  let d := (d.setLaneX n (fun x => { x with fails := [], wait := false, tested := false })).fset (fLaneStatFails n) 0
  let l := (d.link n).filter (fun m => d.laneSt m != lsActive && !(d.laneX m).testing)
  let d := l.foldl (fun d m => d.setLaneX m (fun x => { x with wait := false })) d
  let d := d.bringUp l
  if d.isEth n && d.fget (fEthPortStatState (portOfLane n)) != 2 then d.fset (fEthPortStatState (portOfLane n)) 1 else d

/-- LANE_TEST_DONE: the verdict is a pass when the errors do not exceed the bits checked × 10⁻¹⁰, rounded down. A
failing verdict retires the lane; its Ethernet port stays down in fault (R425, R426, R431). -/
def laneTestDone (n errors bits : Nat) (d : Dev) : Dev :=
  if !(d.laneX n).testing then d else
  let pass := decide (errors ≤ bits / 10000000000)
  let data := le 1 n ++ le 1 (if pass then 0 else 1) ++ le 4 errors ++ le 8 bits
  let d := d.setLaneX n (fun x => { x with testing := false })
  let d := d.post 0x43 0 n (lanePlace n) data
  let d := d.sumpWrite (lanePlace n) 9 0x43 (if pass then 0 else 2) 0 data
  if pass then
    if d.laneSt n == lsFenced then d.setLaneX n (fun x => { x with offered := true })
    else d.bringUp [n]
  else
    let d := d.setLanes [n] lsFault
    let d := if d.isEth n then d.fset (fEthPortStatState (portOfLane n)) 3 else d
    d.retire (lanePlace n) (9 * 256 + 0x43) none []

/-! ## Writes of lane and port registers (R439) -/

/-- LANE_EQ is writable in C2M and SDI modes only (R416, R439). -/
def Dev.eqWritable (d : Dev) (n : Nat) : Bool := d.isSdi n || (d.isEth n && !Config.portCr (portOfLane n))

/-- LANE_EQ_WRITE: a setting that breaks R413 is ignored and writes a sump entry; a valid one takes effect and is kept
in the retained record, subject to the gate (R413, R417, R439). -/
def laneEqWrite (n v : Nat) (d : Dev) : Dev :=
  if !d.eqWritable n then d else
  let t := [bits v 29 24, bits v 23 18, bits v 17 12, bits v 11 6, bits v 5 0]
  if eqOk (bits v 29 24) (bits v 23 18) (bits v 17 12) (bits v 11 6) (bits v 5 0) then
    (d.setTaps n t).rrModGated (fun r => { r with laneEq := tput r.laneEq n (eqWord t) })
  else d.sumpRefused (lanePlace n) (fLaneEqCm3 n).addr v

/-- LANE_GRP_SEL_WRITE: the selection is stored for the next priming; when the gate refuses it, the register keeps the
stored value and a sump entry is written (R439). -/
def laneGrpSelWrite (v : Nat) (d : Dev) : Dev :=
  let v := v % 32
  if d.gateOpen then
    let d := d.rrMod (fun r => { r with grpSel := v })
    d.fsets [(fLaneGrpSelG11, bits v 4 4), (fLaneGrpSelG1, bits v 3 2), (fLaneGrpSelG0, bits v 1 0),
      (fLaneGrpSelPending, if v = d.lanes.selInUse then 0 else 1)]
  else (d.gateRefuse).sumpRefused (ioPlace 6 31 noSlice) fLaneGrpSelG0.addr v

/-- A running flow or enabled audio stream uses an Ethernet port. -/
def Dev.portUsed (d : Dev) (p : Nat) : Bool :=
  (List.range 512).any (fun n => d.fget (fSptFlowCfgState n) != 0 && d.fget (fSptFlowCfgDest n) == 0
      && (d.fget (fSptFlowCfgPort n) == p || d.fget (fSptFlowCfgSecport n) == p))
    || (List.range 32).any (fun s => d.flag (fAudStrCfgEn s)
      && (d.fget (fAudStrCfgPort s) == p || d.fget (fAudStrCfgSecport s) == p))

/-- ETH_IP_WRITE: the address is stored, or ignored with a sump entry while a flow uses the port (R439). -/
def ethIpWrite (p v : Nat) (d : Dev) : Dev :=
  if d.portUsed p then d.sumpRefused (ioPlace 5 p noSlice) (fEthIpAddr p).addr v
  else d.fset (fEthIpAddr p) v

/-- The MAC address of a port: the base plus the port (R433). -/
def portMac (p : Nat) : Nat := Config.macBase.toNat + p

/-- ETH_FRAME_RECEIVED: a frame for the port is answered (ARP and ICMP echo for ETH_IP), resolves a destination, passes
to the time unit (PTP), is a PAUSE frame, or is counted and dropped (R433, Table SL-5). -/
def ethFrameReceived (p : Nat) (f : EthFrame) (d : Dev) : Dev :=
  if d.fget (fEthPortStatState p) != 2 then d else
  match f with
  | .arpRequest ip =>
    if ip == d.fget (fEthIpAddr p) then d.setPortX p (fun x => { x with replies := x.replies + 1 })
    else d.finc (fEthPortStatDropped p)
  | .arpReply ip mac =>
    if (d.portX p).arpAsked.contains ip then
      d.setPortX p (fun x => { x with arp := tput x.arp ip mac, arpAsked := x.arpAsked.filter (· != ip) })
    else d.finc (fEthPortStatDropped p)
  | .icmpEcho ip =>
    if ip == d.fget (fEthIpAddr p) then d.setPortX p (fun x => { x with replies := x.replies + 1 })
    else d.finc (fEthPortStatDropped p)
  | .ptp => d
  | .pause => d.setPortX p (fun x => { x with pauses := x.pauses + 1 })
  | .other => d.finc (fEthPortStatDropped p)

/-- ARP_REFRESH: every unicast destination of a port is resolved again (R433). -/
def arpRefresh (p : Nat) (d : Dev) : Dev :=
  d.setPortX p (fun x => { x with arpAsked := (x.arpAsked ++ tkeys x.arp).eraseDups })

end Sys2Proof.Machine
end

