-- ==== Sys2Proof/Machine/MemOps.lean ====
section
/-!
DEFINITION. Physical memory, page tables, translation and leases: the operations that every requester shares
(R144 to R163, R173).
-/
set_option autoImplicit false

namespace Sys2Proof.Machine

def mib128 : Nat := 134217728
def mib256 : Nat := 268435456
def gib : Nat := 1073741824
/-- First physical address of CXL memory and of host memory (Table ME-1). -/
def cxlBase : Nat := 0x1000000000000
def hostBase : Nat := 0x8000000000000

def Dev.memMod (d : Dev) (f : Mem → Mem) : Dev := { d with mem := f d.mem }

/-! ## Physical memory -/

/-- Bytes of CXL memory present (CXL_CAP). -/
def Dev.cxlBytes (d : Dev) : Nat := d.fget fCxlCapSize * mib256

/-- The CXL port that serves an offset (R190). -/
def Dev.cxlPortOf (d : Dev) (off : Nat) : Nat :=
  if d.flag fCxlCapIlv then off / 4096 % 2
  else if off < tgetD d.mem.cxlCap 0 0 * mib256 then 0 else 1

/-- CXL memory at an offset is unavailable (R193). -/
def Dev.cxlLost (d : Dev) (off : Nat) : Bool :=
  if d.flag fCxlCapIlv then !d.mem.cxlDown.isEmpty else d.mem.cxlDown.contains (d.cxlPortOf off)

/-- The DRAM channel of a byte of local memory: its granule of 1,984 data bytes lies on one channel (R146), and that of a channel
spared out on a healthy channel of the reserve (R186). -/
def Dev.channelAt (d : Dev) (pa : Nat) : Nat :=
  let ch := Config.channelOf (pa / 1984) % 24
  if d.fget (fMemChanStatState ch) == 2 then d.mem.spareTo.getD (Config.spareOf (pa / 1984) % d.mem.spareTo.length) ch else ch

/-- Some part of a range of CXL memory is unavailable; a range that does not interleave lies on the ports of its ends. -/
def Dev.cxlPartLost (d : Dev) (off n : Nat) : Bool := n != 0 && (d.cxlLost off || d.cxlLost (off + n - 1))

/-- The write buffer, or an area of the store engine below it, is unavailable; and the replay ring (Table ME-10, R193). -/
def Dev.wbLost (d : Dev) : Bool := d.cxlPartLost 0 (gib + d.store.wb * gib)
def Dev.ringLost (d : Dev) : Bool := d.cxlPartLost (d.cxlBytes - d.store.ring * gib) (d.store.ring * gib)

/-- What stands behind a physical address: 0 memory, 1 nothing (reserved or absent), 2 a fenced channel, 3 unavailable
CXL memory, 4 host memory (R144, R145, R187, R193). -/
def Dev.behind (d : Dev) (pa : Nat) : Nat :=
  if pa < d.fget fMemCapUsable * mib128 then
    if d.fget (fMemChanStatState (d.channelAt pa)) == 3 then 2 else 0
  else if cxlBase ≤ pa && pa < cxlBase + d.cxlBytes then (if d.cxlLost (pa - cxlBase) then 3 else 0)
  else if hostBase ≤ pa && pa < hostBase + 2 ^ 48 then 4
  else 1

/-- The byte at a physical address; poisoned or absent memory delivers 0 to a requester that zeroes it (R156). -/
def Dev.physByte (d : Dev) (pa : Nat) : Byte :=
  match d.behind pa with
  | 0 => mget d.mem.bytes pa
  | 4 => Config.hostByte d.free (pa - hostBase)
  | _ => 0

/-- A read of the burst that holds an address returns poison, until the whole burst is written (R177). -/
def Dev.poisoned (d : Dev) (pa : Nat) : Bool :=
  match d.behind pa with
  | 0 => tgetD d.mem.poison (pa / 64) false
  | 4 => false
  | _ => true

/-- Write one byte; writes behind which nothing stands are dropped, and host memory lies outside the device. -/
def Dev.physPut (d : Dev) (pa : Nat) (b : Byte) : Dev :=
  if d.behind pa == 0 then d.memMod (fun m => { m with bytes := mput m.bytes pa b }) else d

/-- Set or clear the poison bit of a burst. -/
def Dev.setPoison (d : Dev) (burst : Nat) (p : Bool) : Dev :=
  d.memMod (fun m => { m with poison := tputD m.poison burst p false })

/-- Bursts that a write of `n` bytes covers whole. -/
def wholeBursts (a n : Nat) : List Nat :=
  (List.range (n / 64 + 1)).map (fun i => (a + 63) / 64 + i) |>.filter (fun b => b * 64 + 64 ≤ a + n)

/-- Write bytes to physical memory: a write of a whole burst clears its poison bit, a smaller one keeps it (R173). -/
def Dev.physWrite (d : Dev) (pa : Nat) (bs : List Byte) : Dev :=
  let d := (bs.zipIdx).foldl (fun d e => d.physPut (pa + e.2) e.1) d
  (wholeBursts pa bs.length).foldl (fun d b => d.setPoison b false) d

/-! ## Requesters -/

end Sys2Proof.Machine

namespace Sys2Proof
open Machine

/-- Place code of a requester (R22 to R24). The spec numbers no unit for a monitor raster: the place of its SDI lane
(DEDUCED). -/
def Requester.place : Requester → Place
  | .pump c => wellPlace (c / 5) (c % 5) noSlice
  | .windlass c => ioPlace 0 (c - 80) noSlice
  | .siphonCh w s _ => wellPlace w (10 + s) noSlice
  | .siphonRt w => wellPlace w 10 noSlice
  | .compositor c _ => quadPlace c 0
  | .spout f => quadPlace (f / 128) (1 + f / 32 % 4)
  | .raster r => lanePlace (80 + r)
  | .encoder n => ioPlace 2 (4 + n) noSlice
  | .decoder => ioPlace 2 6 noSlice
  | .compressor k => ioPlace 2 k noSlice
  | .ingest _ => ioPlace 1 3 noSlice
  | .pilot => ioPlace 1 2 noSlice
  | .audio _ => ioPlace 7 1 noSlice
  | .none => noPlace

/-- REQ and CHAN of a fault report (Table ME-5). -/
def Requester.codes : Requester → Nat × Nat
  | .pump _ => (0, 255) | .siphonCh _ _ c => (1, c) | .siphonRt _ => (1, 255) | .compositor _ l => (2, l)
  | .spout f => (3, f % 32) | .raster _ => (4, 255) | .encoder _ => (5, 255) | .decoder => (6, 255)
  | .compressor k => (7, k) | .ingest _ => (8, 255) | .windlass _ => (9, 255) | .pilot => (10, 255)
  | .audio p => (11, p) | .none => (255, 255)

/-- The cache through which a requester translates (Table ME-4): wells 0 to 15, quadrants 16 to 19, I/O die 20. -/
def Requester.cache : Requester → Nat
  | .pump c => c / 5 | .siphonCh w _ _ => w | .siphonRt w => w
  | .compositor c _ => 16 + c | .spout f => 16 + f / 128
  | _ => 20

end Sys2Proof

namespace Sys2Proof.Machine

/-- An access with nothing behind it writes a sump entry with the place of the requester (R145, R187). -/
def Dev.badPhys (d : Dev) (r : Requester) (pa : Nat) : Dev :=
  let detail := d.behind pa
  if detail == 1 || detail == 2 then
    d.sumpWrite r.place 6 (detail + 1) 2 0 (le 8 pa ++ le 4 r.place.toNat ++ le 1 (d.channelAt pa))
  else d

/-- The first address of a range in each burst of 64 bytes that it touches. -/
def burstsOf (a n : Nat) : List Nat :=
  (List.range (n / 64 + 2)).map (fun i => if i = 0 then a else (a / 64 + i) * 64) |>.filter (· < a + n)

/-- Whether a float asserts panic at its present level, and HIT as it starts to (R182, R188). -/
def Dev.judgeFloat (d : Dev) (n : Nat) : Dev :=
  let level := d.fget (fMemFloatStatLevel n)
  let on := d.fget (fMemFloatCfgOn n)
  let off := d.fget (fMemFloatCfgOff n)
  let was := d.flag (fMemFloatStatPanic n)
  let panic := d.flag (fMemFloatCfgEn n) && (if d.flag (fMemFloatCfgDir n) then decide (on < level) || (was && decide (off ≤ level))
    else decide (level < on) || (was && decide (level ≤ off)))
  let d := d.fsetb (fMemFloatStatPanic n) panic
  if panic && !was then d.fset (fMemFloatStatHit n) 1 else d

/-! ## Page tables (R147 to R151) -/

def Dev.pagesOf (d : Dev) (asid : Nat) : List Page := tgetD d.mem.pages asid []

/-- The page that holds a virtual address. -/
def findPage (ps : List Page) (va : Nat) : Option Page := ps.find? (fun p => p.va ≤ va && va < p.va + p.size)

def Dev.pageOf (d : Dev) (asid va : Nat) : Option Page := findPage (d.pagesOf asid) va

/-- The physical address of a virtual one. -/
def Dev.phys (d : Dev) (asid va : Nat) : Option Nat :=
  match d.pageOf asid va with
  | some p => p.pa.map (· + (va - p.va))
  | none => none

def subNotPresent : Nat := 1
def subPermission : Nat := 2
def subNotPinned : Nat := 3
def subLocalRange : Nat := 4
def subCodeWrite : Nat := 5

/-- Translate an access: its physical address, or the subcause of a translation fault (R76, R148, R153). -/
def Dev.xlat (d : Dev) (rt : Bool) (asid va : Nat) (write : Bool) : Except Nat Nat :=
  match d.pageOf asid va with
  | none => .error (if rt then subNotPinned else subNotPresent)
  | some p =>
    if rt && !p.pin then .error subNotPinned
    else if (write && !p.wr) || (!write && !p.rd) then .error subPermission
    else match p.pa with
      | none => .error subNotPresent
      | some pa => .ok (pa + (va - p.va))

/-- Sets of a cache, of 16 ways each (Table ME-4), and the key of the set that holds a page. -/
def cacheSets (cache : Nat) : Nat := if cache < 16 then 128 else if cache < 20 then 256 else 512
def cacheKey (cache : Nat) (e : CacheEntry) : Nat := 512 * cache + Config.cacheSet e.asid (e.va / e.size) % cacheSets cache

/-- Ways of a cache in use: a well's ways may have been disabled (Table PF-8). -/
def Dev.cacheWays (d : Dev) (cache : Nat) : Nat := 16 - (if cache < 16 then (tgetD d.cores.well cache {}).waysOff.length else 0)

/-- The translation of an access is at hand: in the requester's cache or in the pinned table (R153, steps 1 and 2). -/
def Dev.cached (d : Dev) (cache asid va : Nat) : Bool :=
  match d.pageOf asid va with
  | some p => p.pin || (tgetD d.mem.caches (cacheKey cache { asid := asid, va := p.va, size := p.size }) []).contains
      { asid := asid, va := p.va, size := p.size }
  | none => false

/-- Fill a cache with the page of an address, pinned or pageable, unless it holds it: the oldest entry of a full set goes,
which is a DESIGN CHOICE (R152, log entry 38). -/
def Dev.fillCache (d : Dev) (cache asid va : Nat) : Dev :=
  match d.pageOf asid va with
  | some p =>
    let e : CacheEntry := { asid := asid, va := p.va, size := p.size }
    d.memMod (fun m => { m with
      caches := tmod m.caches (cacheKey cache e) [] (fun l => if l.contains e then l else (e :: l).take (d.cacheWays cache)) })
  | none => d

/-- A request for a range fills the cache of its requester (R152). -/
def Dev.fillRange (d : Dev) (r : Requester) (asid va n : Nat) : Dev :=
  ((d.pagesOf asid).filter (fun p => p.pin && va < p.va + p.size && p.va < va + n)).foldl (fun d p => d.fillCache r.cache asid p.va) d

/-- The fault report of Table ME-5. -/
def Dev.faultReport (d : Dev) (r : Requester) (rt write : Bool) (asid va sub progress : Nat) : List Byte :=
  let missed := sub < 4 && (match d.pageOf asid va with | some p => !p.pin | none => true)
  le 4 r.place.toNat ++ le 2 asid ++ le 1 sub ++ le 1 (write.toNat + 2 * rt.toNat + 4 * missed.toNat)
    ++ le 8 (va % 2 ^ 48) ++ le 1 r.codes.1 ++ le 1 r.codes.2 ++ le 2 0 ++ le 4 progress ++ le 8 d.recTime

/-- Every translation fault writes one sump entry whose payload is the fault report (R155). -/
def Dev.xlatFault (d : Dev) (r : Requester) (rt write : Bool) (asid va sub progress : Nat) : Dev :=
  d.sumpWrite r.place 4 sub 0 0 (d.faultReport r rt write asid va sub progress)

/-! ## Bytes by virtual address -/

/-- The byte at a virtual address whose access has been checked; 0 where nothing is mapped. -/
def Dev.vbyte (d : Dev) (asid va : Nat) : Byte :=
  match d.phys asid va with
  | some pa => d.physByte pa
  | none => 0

def Dev.vread (d : Dev) (asid va n : Nat) : List Byte := (List.range n).map (fun i => d.vbyte asid (va + i))

/-- Some burst of a range delivers poison. -/
def Dev.vpoison (d : Dev) (asid va n : Nat) : Bool :=
  (burstsOf va n).any (fun a => match d.phys asid a with | some pa => d.poisoned pa | none => false)

/-- Write bytes by virtual address, for a requester, through its cache (R152): a burst behind which nothing stands is dropped and
logged (R145, R187). -/
def Dev.vwrite (d : Dev) (r : Requester) (asid va : Nat) (bs : List Byte) : Dev :=
  let d := d.fillRange r asid va bs.length
  let d := (burstsOf va bs.length).foldl (fun d a => match d.phys asid a with | some pa => d.badPhys r pa | none => d) d
  let d := (bs.zipIdx).foldl (fun d e => match d.phys asid (va + e.2) with
    | some pa => d.physPut pa e.1 | none => d) d
  (wholeBursts va bs.length).foldl (fun d b => match d.phys asid (b * 64) with
    | some pa => d.setPoison (pa / 64) false | none => d) d

/-- The first address of a range at which an access faults, with its subcause. -/
def Dev.rangeFault (d : Dev) (rt : Bool) (asid va n : Nat) (write : Bool) : Option (Nat × Nat) :=
  (List.range (n / 4096 + 2)).findSome? (fun i =>
    let a := if i = 0 then va else (va / 4096 + i) * 4096
    if a < va + n then (match d.xlat rt asid a write with | .error s => some (a, s) | .ok _ => none) else none)

/-- A buffer by its handle (Table SQ-5, kind 0x11). -/
def Dev.buf (d : Dev) (handle : Nat) : Option Mapping := tget d.mem.maps handle

/-! ## Leases (R158 to R161) -/

def overlap (a n b m : Nat) : Bool := a < b + m && b < a + n

/-- An unmap or remap is pending on a range (R160). -/
def Dev.invPending (d : Dev) (asid va n : Nat) : Bool :=
  d.mem.waits.any (fun w => w.asid == asid && overlap w.va w.len va n && w.op != .unpin)

/-- The buffer of a handle is absent for a frame: an unmap or remap of it is pending, or it is not mapped (R160). -/
def Dev.absent (d : Dev) (handle : Nat) : Bool :=
  match d.buf handle with
  | some b => d.invPending b.asid b.va b.len
  | none => true

/-- The requester of a unit by its kind and index (Table SQ-5); a graph's accesses are those of its siphons. -/
def unitReq (kind index : Nat) : Requester :=
  if kind = kCompositor then .compositor index 255 else if kind = kFlow then .spout index else if kind = kRaster then .raster index
  else if kind = kEncoder then .encoder index else if kind = kDecoder then .decoder else if kind = kRecording then .compressor index
  else if kind = kIngest then .ingest index else if kind = kPilot then .pilot else .none

/-- Take a lease on a range for a unit's frame, whose accesses fill the cache of its requester (R152, R158). -/
def Dev.leaseRange (d : Dev) (kind index frame asid : Nat) (rs : List (Nat × Nat)) : Dev :=
  let d := if unitReq kind index = .none then d else rs.foldl (fun d r => d.fillRange (unitReq kind index) asid r.1 r.2) d
  d.memMod (fun m => { m with leases := m.leases ++ rs.map (fun r =>
    { kind := kind, index := index, frame := frame, asid := asid, va := r.1, len := r.2 }) })

/-- Take a lease on a buffer for a unit's frame (R158). -/
def Dev.lease (d : Dev) (kind index frame handle : Nat) : Dev :=
  match d.buf handle with
  | some b => d.leaseRange kind index frame b.asid [(b.va, b.len)]
  | none => d

/-- A lease on a buffer is held by some unit. -/
def Dev.leased (d : Dev) (handle : Nat) : Bool :=
  match d.buf handle with
  | some b => d.mem.leases.any (fun l => l.asid == b.asid && overlap l.va l.len b.va b.len)
  | none => false

/-- Retire the leases of one frame of a unit (R158). -/
def Dev.retireLeases (d : Dev) (kind index frame : Nat) : Dev :=
  d.memMod (fun m => { m with leases := m.leases.filter (fun l => !(l.kind == kind && l.index == index && l.frame == frame)) })

/-- A stop of a unit returns its leases at once (R158). -/
def Dev.dropLeases (d : Dev) (kind index : Nat) : Dev :=
  d.memMod (fun m => { m with leases := m.leases.filter (fun l => !(l.kind == kind && l.index == index)) })

/-- The device frees the start-up buffers of an object that has stopped (R501). -/
def Dev.freeStartUp (d : Dev) (kind index : Nat) : Dev :=
  let mine := d.prime.startBufs.filter (fun e => e.1 == kind && e.2.1 == index)
  let d := { d with prime := { d.prime with startBufs := d.prime.startBufs.filter (fun e => !(e.1 == kind && e.2.1 == index)) } }
  mine.foldl (fun d e => match d.buf e.2.2 with
    | some b => d.memMod (fun m => { m with waits := m.waits ++ [{ seq := none, op := .unmap, asid := b.asid, va := b.va, len := b.len }] })
    | none => d) d

/-! ## Placement and splitting of pages (R149, R568) -/

/-- Page sizes of Table ME-3, largest first; host memory takes 64 KiB and 4 KiB. -/
def pageSizes (kind : Nat) : List Nat :=
  if kind = 2 then [65536, 4096] else [1073741824, 2097152, 65536, 4096]

/-- The largest page that an address, a backing and a remaining length allow. -/
def bestSize (kind va : Nat) (pa : Option Nat) (len : Nat) : Nat :=
  ((pageSizes kind).find? (fun s => va % s == 0 && (pa.getD 0) % s == 0 && s ≤ len)).getD 4096

/-- Cover a range with the largest pages, its backing contiguous or none; `fuel` bounds the number of pages. -/
def coverRange (like : Page) (va : Nat) (pa : Option Nat) (len : Nat) : Nat → List Page
  | 0 => []
  | fuel + 1 =>
    if len = 0 then [] else
      let s := bestSize like.kind va pa len
      { like with va := va, pa := pa, size := s } :: coverRange like (va + s) (pa.map (· + s)) (len - s) fuel

def coverAll (like : Page) (va : Nat) (pa : Option Nat) (len : Nat) : List Page := coverRange like va pa len (len / 4096)

/-- Split a page at one address. -/
def splitAt (p : Page) (at' : Nat) : List Page :=
  if p.va < at' && at' < p.va + p.size then
    coverAll p p.va p.pa (at' - p.va) ++ coverAll p at' (p.pa.map (· + (at' - p.va))) (p.va + p.size - at')
  else [p]

/-- Split pages at the ends of a range (R568). -/
def splitPages (ps : List Page) (va len : Nat) : List Page :=
  (ps.flatMap (fun p => splitAt p va)).flatMap (fun p => splitAt p (va + len))

def inRange (p : Page) (va len : Nat) : Bool := va ≤ p.va && p.va + p.size ≤ va + len

/-- Every 4 KiB page of a range is mapped (R148). -/
def allMapped (ps : List Page) (va len : Nat) : Bool :=
  (List.range (len / 4096)).all (fun i => (findPage ps (va + i * 4096)).isSome)

/-- Insert pages in order of address. -/
def insertPage (ps : List Page) (p : Page) : List Page :=
  ps.filter (fun q => q.va < p.va) ++ p :: ps.filter (fun q => p.va < q.va)

def insertPages (ps new : List Page) : List Page := new.foldl insertPage ps

/-- Pages pinned in every space (R151). -/
def Dev.pinnedCount (d : Dev) : Nat := ((tvals d.mem.pages).map (fun ps => (ps.filter (·.pin)).length)).sum

/-- The memory that MAP MEMORY may give: ALLOC memory for local KIND, the general pool for CXL KIND (R149, R194). -/
def Dev.pool (d : Dev) (kind : Nat) : Nat × Nat :=
  if kind = 0 then (0, d.fget fMemCapAlloc * mib128)
  else (cxlBase + gib + d.store.wb * gib, cxlBase + d.cxlBytes - d.store.ring * gib)

/-- Physical ranges in use: backed pages and ranges taken already by the same command. -/
def Dev.usedRanges (d : Dev) : List (Nat × Nat) :=
  (tvals d.mem.pages).flatMap (fun ps => ps.filterMap (fun p => p.pa.map (fun a => (a, p.size))))
    ++ d.mem.waits.flatMap (fun w => match w.op with
      | .remap ps => ps.filterMap (fun p => p.pa.map (fun a => (a, p.size)))
      | .move a => [(a, w.len)]
      | _ => [])

/-- The lowest free range of a size and alignment in a pool (R149). -/
def lowestFree (used : List (Nat × Nat)) (pool : Nat × Nat) (len align : Nat) : Option Nat :=
  let cands := roundUp pool.1 align :: used.map (fun u => roundUp (u.1 + u.2) align)
  let ok := cands.filter (fun a => pool.1 ≤ a && a + len ≤ pool.2 && used.all (fun u => !overlap u.1 u.2 a len))
  ok.foldl (fun m a => match m with | none => some a | some b => some (min a b)) none

/-- Back a part page by page, each with the largest size and alignment that free memory offers (R149); `fuel` bounds the
number of pages, and the answer is none when memory does not suffice. -/
def backPieces (like : Page) (pool : Nat × Nat) (sizes : List Nat) : Nat → List (Nat × Nat) → Nat → Nat → Option (List Page)
  | 0, _, _, len => if len = 0 then some [] else none
  | fuel + 1, used, va, len =>
    if len = 0 then some [] else
      match sizes.findSome? (fun s => if va % s == 0 && s ≤ len then (lowestFree used pool s s).map (s, ·) else none) with
      | none => none
      | some (s, a) => (backPieces like pool sizes fuel (used ++ [(a, s)]) (va + s) (len - s)).map
          ({ like with va := va, pa := some a, size := s } :: ·)

/-- Back a part by the rule of R149 with the page sizes given, largest first: the lowest free range aligned for the largest of
them, or smaller pages where none is large enough; none when memory does not suffice. -/
def backPart (like : Page) (pool : Nat × Nat) (sizes : List Nat) (used : List (Nat × Nat)) (va len : Nat) : Option (List Page) :=
  match lowestFree used pool len (sizes.headD 4096) with
  | some a => some (coverAll like va (some a) len)
  | none => backPieces like pool sizes (len / 4096) used va len

/-- Back a whole range; none when free memory does not suffice (R150). -/
def backRange (like : Page) (pool : Nat × Nat) : Nat → List (Nat × Nat) → Nat → Nat → Option (List Page)
  | 0, _, _, len => if len = 0 then some [] else none
  | fuel + 1, used, va, len =>
    if len = 0 then some [] else
      -- a part is a run of the largest pages up to the next address where a larger page fits
      let s := bestSize like.kind va none len
      let up := (((pageSizes like.kind).filter (fun t => s < t && t ≤ len)).map (fun t => roundUp va t - va)).foldl
        (fun m a => if 0 < a then min m a else m) len
      let n := max s (min (len / s * s) (up / s * s))
      match backPart like pool ((pageSizes like.kind).filter (· ≤ s)) used va n with
      | none => none
      | some ps => (backRange like pool fuel (used ++ ps.filterMap (fun p => p.pa.map (fun a => (a, p.size)))) (va + n)
          (len - n)).map (ps ++ ·)

/-- Pages of host memory from one bus address per 4 KiB: sixteen aligned contiguous pages make one of 64 KiB (R149). -/
def hostPages (like : Page) : Nat → Nat → List Nat → List Page
  | 0, _, _ => []
  | _ + 1, _, [] => []
  | fuel + 1, va, b :: bs =>
    let run := (b :: bs).take 16
    if va % 65536 == 0 && b % 65536 == 0 && run.length == 16 && (run.zipIdx).all (fun e => e.1 == b + e.2 * 4096) then
      { like with va := va, pa := some (hostBase + b), size := 65536 } :: hostPages like fuel (va + 65536) (bs.drop 15)
    else { like with va := va, pa := some (hostBase + b), size := 4096 } :: hostPages like fuel (va + 4096) bs

/-- Zero the memory of a page as it is allocated (R150). -/
def Dev.zeroPage (d : Dev) (p : Page) : Dev :=
  match p.pa with
  | some pa => if p.kind = 2 then d else
      d.memMod (fun m => { m with
        bytes := mclear m.bytes pa p.size,
        poison := m.poison.filter (fun e => e.1 < pa / 64 || (pa + p.size) / 64 ≤ e.1) })
  | none => d

def Dev.setPages (d : Dev) (asid : Nat) (ps : List Page) : Dev :=
  d.memMod (fun m => { m with pages := tput m.pages asid ps })

end Sys2Proof.Machine
end

