-- ==== Sys2Proof/Machine/Syllable.lean ====
section
/-!
DEFINITION. Yumar bundles: the fields of a syllable, the instruction it spells, and the decode checks of R56.
Syllables are handled as numbers of 32 bits.
-/
set_option autoImplicit false

namespace Sys2Proof.Machine

/-- The instructions of the opcode map: majors of Table YI-5, with CTL and STRM split by function (Tables YI-9, YI-11). -/
inductive Op where
  | addi | andi | ori | xori | slti | muli | addai | vimm | salu | pred | ldl | ldlu | stl | ldg | stg | bcc | bp | jal
  | loop | valu | vcmp | vperm | vmac | vlut | sin | sout | smarkr | smarkw | savail | shead | crd | cwr | cset | cclr
  | yield | halt | svc | wdkick | fence | iflush | skipstrip | resume | resumei | waiti
  deriving DecidableEq, Repr

/-! ## Fields (Table YI-4) -/

def yMajor (w : Nat) : Nat := bits w 30 26
/-- rd, rt or vd. -/
def yRd (w : Nat) : Nat := bits w 25 21
/-- rs1, rs of CTL, or va. -/
def yRs1 (w : Nat) : Nat := bits w 20 16
/-- rs2 or vb. -/
def yRs2 (w : Nat) : Nat := bits w 15 11
def ySh (w : Nat) : Nat := bits w 10 6
def yFn6 (w : Nat) : Nat := bits w 5 0
def yE (w : Nat) : Bool := bit w 15
def yImm15 (w : Nat) : Nat := bits w 14 0
def yPg (w : Nat) : Nat := bits w 10 8
def yW (w : Nat) : Bool := bit w 7
def yFn7 (w : Nat) : Nat := bits w 6 0
/-- VM format. -/
def yAd (w : Nat) : Nat := bits w 25 24
def yVa (w : Nat) : Nat := bits w 23 19
def yVb (w : Nat) : Nat := bits w 18 14
def yMPg (w : Nat) : Nat := bits w 13 11
def yMW (w : Nat) : Bool := bit w 10
def ySB (w : Nat) : Bool := bit w 9
/-- The shift of a VM syllable: {sh5, vb} (R58). -/
def yMSh (w : Nat) : Nat := bits w 8 8 * 32 + yVb w
/-- L format. -/
def yAb (w : Nat) : Nat := bits w 20 18
def ySp (w : Nat) : Nat := bits w 17 16
def yU (w : Nat) : Bool := bit w 15
def ySz (w : Nat) : Nat := bits w 14 13
def yOff13 (w : Nat) : Int := sext 13 (bits w 12 0)
/-- X format of LDG and STG. -/
def yGSz (w : Nat) : Nat := bits w 17 16
def yS (w : Nat) : Bool := bit w 15
def yGU (w : Nat) : Bool := bit w 14
def yOff14 (w : Nat) : Int := sext 14 (bits w 13 0)
/-- X format of STRM. -/
def yPort (w : Nat) : Nat := bits w 20 18
def ySub (w : Nat) : Nat := bits w 17 14
def yOpd (w : Nat) : Nat := bits w 13 0
/-- B formats. -/
def yCond (w : Nat) : Nat := bits w 25 23
def yBRs (w : Nat) : Nat := bits w 22 18
def yBPn (w : Nat) : Nat := bits w 22 20
def yOff18 (w : Nat) : Int := sext 18 (bits w 17 0)
def yOff26 (w : Nat) : Int := sext 26 (bits w 25 0)
def yLoopRs (w : Nat) : Nat := bits w 25 21
def yLoopN (w : Nat) : Nat := bits w 20 20
def yLoopLen (w : Nat) : Nat := bits w 11 0
/-- C format. -/
def yCreg (w : Nat) : Nat := bits w 15 4
def yFn4 (w : Nat) : Nat := bits w 3 0

/-- Bytes of an access of a size code (R58). -/
def sizeBytes (sz : Nat) : Nat := if sz = 3 then 64 else 2 ^ sz

/-! ## The instruction of a syllable -/

/-- The instruction that a syllable names; none for a reserved major, CTL function or STRM sub-code (Tables YI-5, YI-9,
YI-11). -/
def opOf (w : Nat) : Option Op :=
  match yMajor w with
  | 0 => match yFn4 w with
    | 0 => some .crd | 1 => some .cwr | 2 => some .cset | 3 => some .cclr | 4 => some .yield | 5 => some .halt
    | 6 => some .svc | 7 => some .wdkick | 8 => some .fence | 9 => some .iflush | 10 => some .skipstrip
    | 11 => some .resume | 12 => some .resumei | 13 => some .waiti | _ => none
  | 1 => some .bcc | 2 => some .bp | 3 => some .jal | 4 => some .loop | 5 => some .salu | 6 => some .addi
  | 7 => some .andi | 8 => some .ori | 9 => some .xori | 10 => some .slti | 11 => some .muli | 12 => some .addai
  | 13 => some .ldl | 14 => some .ldlu | 15 => some .stl | 16 => some .ldg | 17 => some .stg
  | 18 => match ySub w with
    | 0 => some .sin | 1 => some .sout | 2 => some .smarkr | 3 => some .smarkw | 4 => some .savail | 5 => some .shead
    | _ => none
  | 19 => some .valu | 20 => some .vcmp | 21 => some .vperm | 22 => some .vmac | 23 => some .vlut | 24 => some .vimm
  | 25 => some .pred
  | _ => none

/-- Slot-0 class: majors 0 to 18 and 25; slot-1 class: majors 19 to 24 (R55). -/
def slot0 (w : Nat) : Bool := yMajor w ≤ 18 || yMajor w == 25
def slot1 (w : Nat) : Bool := 19 ≤ yMajor w && yMajor w ≤ 24

/-- I-format syllables, which have the E bit (Table YI-4). -/
def iFormat (w : Nat) : Bool := (6 ≤ yMajor w && yMajor w ≤ 12) || yMajor w == 24

/-- The immediate of an I-format syllable (R58). -/
def yImm (w ext : Nat) : Int := if yE w then sext 32 ext else sext 15 (yImm15 w)

/-! ## Legality of one syllable (R56 to R69) -/

/-- Functions of SALU that name address registers in rd and in rs1. -/
def saluA (fn : Nat) : Bool × Bool := (fn == 0x1D || fn == 0x20, fn == 0x1E || fn == 0x1F || fn == 0x20)

def legalPred (w : Nat) : Bool :=
  let fn := yFn6 w
  fn ≤ 8 && (if fn ≤ 5 || fn == 7 then yRd w < 8 else true) && (if fn ≤ 4 || fn == 6 || fn == 8 then yRs1 w < 8 else true)
    && (if fn ≤ 3 then yRs2 w < 8 else true)

/-- W is allowed (Table YI-7). -/
def valuPair (fn : Nat) : Bool := fn ≤ 0x18 || (0x1B ≤ fn && fn ≤ 0x1D)

def legalValu (w : Nat) : Bool :=
  let fn := yFn7 w
  fn ≤ 0x23 && (!yW w || valuPair fn) && (if 0x13 ≤ fn && fn ≤ 0x17 then yRs2 w ≤ (if yW w then 31 else 15) else true)

def legalVperm (w : Nat) : Bool :=
  let fn := yFn7 w
  !yW w && (fn ≤ 5 || (0x20 ≤ fn && fn ≤ 0x5F))

def vmacDual (fn : Nat) : Bool := 8 ≤ fn && fn ≤ 10
def vmacXtr (fn : Nat) : Bool := 0x1C ≤ fn && fn ≤ 0x1E

def legalVmac (w : Nat) : Bool :=
  let fn := yFn6 w
  bits w 7 6 == 0 && !yMW w
    && (fn ≤ 4 || vmacDual fn || fn == 0x10 || fn == 0x11 || fn == 0x18 || fn == 0x19 || vmacXtr fn)
    && (!vmacDual fn || (yVa w % 2 == 0 && (ySB w || yVb w % 2 == 0)))
    && (fn != 0x18 || ySB w) && (!(fn == 0x19 || vmacXtr fn) || (!ySB w && yMSh w ≤ 47))

/-- Control registers of Table YI-12, and those only a pump has. -/
def cregListed (r : Nat) : Bool :=
  r ≤ 5 || (0x10 ≤ r && r ≤ 0x14) || r == 0x18 || (0x20 ≤ r && r ≤ 0x25) || r == 0x30 || r == 0x31 || r == 0x40
    || r == 0x41 || r == 0x50 || r == 0x51 || r == 0x60 || (0x70 ≤ r && r ≤ 0x77)
def cregPumpOnly (r : Nat) : Bool := (0x11 ≤ r && r ≤ 0x14) || r == 0x50 || r == 0x51 || (0x70 ≤ r && r ≤ 0x77)

def legalCtl (pump : Bool) (w : Nat) : Bool :=
  match yFn4 w with
  | 0 | 1 | 2 | 3 => cregListed (yCreg w) && (pump || !cregPumpOnly (yCreg w))
  | 4 | 5 | 10 => pump
  | 6 => bits w 15 12 == 0
  | 7 | 8 => true
  | 9 | 11 | 12 | 13 => !pump
  | _ => false

def legalStrm (w : Nat) : Bool :=
  let inPort := decide (yPort w < 4)
  match ySub w with
  | 0 | 2 | 5 => inPort
  | 1 => !inPort
  | 3 => !inPort && bits w 13 13 == 0
  | 4 => true
  | _ => false

/-- A syllable passes the checks of R56 that concern it alone, on a pump or a windlass core and with a stage's NLUT. -/
def legalSyl (pump : Bool) (nlut w : Nat) : Bool :=
  match yMajor w with
  | 0 => legalCtl pump w
  | 1 => yCond w != 7 && (yCond w != 6 || yBRs w == 0)
  | 2 => pump && yCond w < 4 && bits w 19 18 == 0
  | 3 => true
  | 4 => bits w 19 12 == 0 && yLoopLen w != 0
  | 5 => yFn6 w ≤ 0x20 && (!(saluA (yFn6 w)).1 || yRd w < 8) && (!(saluA (yFn6 w)).2 || yRs1 w < 8)
  | 6 | 7 | 8 | 9 | 10 | 11 => true
  | 12 => yRd w < 8 && yRs1 w < 8
  | 13 => (ySp w == 0 || (ySp w == 1 && pump)) && (pump || ySz w != 3)
  | 14 => (ySp w == 0 || (ySp w == 1 && pump)) && ySz w != 3
  | 15 => (ySp w == 0 || (ySp w == 1 && pump)) && (pump || ySz w != 3)
  | 16 => pump || yGSz w != 3
  | 17 => (pump || yGSz w != 3) && !yS w
  | 18 => pump && legalStrm w
  | 19 => pump && legalValu w
  | 20 => pump && yFn7 w ≤ 5 && yRd w < 8
  | 21 => pump && legalVperm w
  | 22 => pump && legalVmac w
  | 23 => pump && yFn7 w ≤ 2 && !yW w && yRs2 w < 8 && yRs2 w < nlut
  | 24 => pump && yRs1 w < 2
  | 25 => pump && legalPred w
  | _ => false

/-! ## Destinations, and the checks of a bundle -/

/-- A register that a syllable writes. -/
inductive Dst where
  | s (n : Nat) | a (n : Nat) | v (n : Nat) | acc (n : Nat) | p (n : Nat)
  deriving DecidableEq, Repr

/-- The registers that a syllable writes. -/
def dsts (w : Nat) : List Dst :=
  match yMajor w with
  | 0 => if yFn4 w = 0 then [.s (yRd w)] else []
  | 3 => [.s 31]
  | 5 => if (saluA (yFn6 w)).1 then [.a (yRd w)] else if yFn6 w = 0x1B then [] else [.s (yRd w)]
  | 6 | 7 | 8 | 9 | 10 | 11 => [.s (yRd w)]
  | 12 => [.a (yRd w)]
  | 13 => (if ySz w = 3 then .v (yRd w) else .s (yRd w)) :: (if yU w then [.a (yAb w)] else [])
  | 14 => .s (yRd w) :: (if yU w then [.a (yAb w)] else [])
  | 15 => if yU w then [.a (yAb w)] else []
  | 16 => (if yGSz w = 3 then .v (yRd w) else .s (yRd w)) :: (if yGU w then [.a (yAb w)] else [])
  | 17 => if yGU w then [.a (yAb w)] else []
  | 18 => match ySub w with
    | 0 => [.v (yRd w)] | 2 | 4 | 5 => [.s (yRd w)] | _ => []
  | 19 | 21 | 23 | 24 => [.v (yRd w)]
  | 20 => [.p (yRd w)]
  | 22 => if vmacXtr (yFn6 w) then [.v (yVa w)] else [.acc (yAd w)]
  | 25 => if yFn6 w = 6 || yFn6 w = 8 then [.s (yRd w)] else [.p (yRd w)]
  | _ => []

/-- The word of a bundle that raises illegal instruction with subcause 0, if any (R56, R91). -/
def illegalSlot (pump : Bool) (nlut w0 w1 : Nat) : Option Nat :=
  if bit w0 31 then
    if !slot0 w0 || (iFormat w0 && yE w0) || !legalSyl pump nlut w0 then some 0
    else if bit w1 31 || !slot1 w1 || (iFormat w1 && yE w1) || !legalSyl pump nlut w1 then some 1
    else if (dsts w1).any (fun r => (dsts w0).contains r) then some 1
    else none
  else if !legalSyl pump nlut w0 then some 0
  else if !(iFormat w0 && yE w0) && w1 != 0 then some 1
  else none

/-- Syllables that the last bundle of a loop body must not contain (R77): B format, JR, JALR and CTL functions other
than CRD, CWR, CSET, CCLR and WDKICK. -/
def loopEndBad (w : Nat) : Bool :=
  match yMajor w with
  | 0 => !(yFn4 w ≤ 3 || yFn4 w == 7)
  | 1 | 2 | 3 | 4 => true
  | 5 => yFn6 w == 0x1B || yFn6 w == 0x1C
  | _ => false

end Sys2Proof.Machine
end

