-- ==== Sys2Proof/Machine/RegOps.lean ====
section
/-!
DEFINITION. The register operations of Yumar that touch nothing but registers: scalar, predicate, vector, permutation,
multiply-accumulate and lookup (R60 to R71).
-/
set_option autoImplicit false

namespace Sys2Proof.Machine

/-! ## Register access (Table YI-1) -/

/-- s0 reads 0. -/
def Regs.sget (r : Regs) (n : Nat) : BitVec 32 := if n = 0 then 0 else tgetD r.s n 0
/-- Writes to s0 are discarded. -/
def Regs.sput (r : Regs) (n : Nat) (v : BitVec 32) : Regs := if n = 0 then r else { r with s := tputD r.s n v 0 }
def Regs.aget (r : Regs) (n : Nat) : BitVec 48 := tgetD r.a n 0
def Regs.aput (r : Regs) (n : Nat) (v : BitVec 48) : Regs := { r with a := tputD r.a n v 0 }
def Regs.vget (r : Regs) (n : Nat) : BitVec 512 := tgetD r.v n 0
def Regs.vput (r : Regs) (n : Nat) (v : BitVec 512) : Regs := { r with v := tputD r.v n v 0 }
def Regs.accget (r : Regs) (n : Nat) : BitVec 1536 := tgetD r.acc n 0
def Regs.accput (r : Regs) (n : Nat) (v : BitVec 1536) : Regs := { r with acc := tputD r.acc n v 0 }
/-- p0 reads all ones. -/
def Regs.pget (r : Regs) (n : Nat) : BitVec 32 := if n = 0 then BitVec.allOnes 32 else tgetD r.p n 0
/-- Writes to p0 are discarded. -/
def Regs.pput (r : Regs) (n : Nat) (v : BitVec 32) : Regs := if n = 0 then r else { r with p := tputD r.p n v 0 }
def Regs.crget (r : Regs) (n : Nat) : BitVec 32 := tgetD r.cr n 0
def Regs.crput (r : Regs) (n : Nat) (v : BitVec 32) : Regs := { r with cr := tputD r.cr n v 0 }

/-- Bits of PIPE_STATUS. -/
def stRT : Nat := 29
def stSKIPPED : Nat := 28
def stPSN : Nat := 27
def stSAT : Nat := 26
def stIE : Nat := 25
def stL0A : Nat := 24
def stL1A : Nat := 23
def stSKIPPING : Nat := 22

def Regs.status (r : Regs) : BitVec 32 := r.crget 0
def Regs.stBit (r : Regs) (i : Nat) : Bool := r.status.getLsbD i
def Regs.stSet (r : Regs) (i : Nat) (b : Bool) : Regs :=
  let m := (1#32) <<< i
  r.crput 0 (if b then r.status ||| m else r.status &&& ~~~m)
/-- PIPE_STATUS.MODE (Table YI-2). -/
def Regs.mode (r : Regs) : Nat := bits r.status.toNat 31 30
def Regs.rmode (r : Regs) : Nat := bits r.status.toNat 21 20
def Regs.setMode (r : Regs) (m : Nat) : Regs :=
  r.crput 0 ((r.status &&& 0x3FFFFFFF#32) ||| BitVec.ofNat 32 (m * 2 ^ 30))
def Regs.setRmode (r : Regs) (m : Nat) : Regs :=
  r.crput 0 ((r.status &&& 0xFFCFFFFF#32) ||| BitVec.ofNat 32 (m * 2 ^ 20))

/-! ## Arithmetic helpers (R70) -/

def sat16s (x : Int) : Int := min (max x (-32768)) 32767
def sat16u (x : Int) : Int := min (max x 0) 65535
def sat32s (x : Int) : Int := min (max x (-2147483648)) 2147483647
/-- Rounding shift: halves go towards plus infinity. -/
def rshr (x : Int) (k : Nat) : Int := if k = 0 then x else (x + 2 ^ (k - 1)) / 2 ^ k
/-- Saturation to a signed or unsigned lane of `w` bits. -/
def satS (w : Nat) (x : Int) : Int := min (max x (-(2 ^ (w - 1)))) (2 ^ (w - 1) - 1)
def satU (w : Nat) (x : Int) : Int := min (max x 0) (2 ^ w - 1)

/-! ## Lanes (R46, R47) -/

/-- Lane `i` of `w` bits of a packed register. -/
def laneOf (w v i : Nat) : Nat := v / 2 ^ (w * i) % 2 ^ w

/-- Pack `n` lanes of `w` bits. -/
def packLanes (w n : Nat) (f : Nat → Nat) : Nat :=
  (List.range n).foldl (fun a i => a + f i % 2 ^ w * 2 ^ (w * i)) 0

/-- Number of lanes and the bit of a predicate that governs lane `i`: pair mode uses bit 2j (R46). -/
def laneCount (w : Nat) : Nat := 512 / w
def govBit (w i : Nat) : Nat := if w = 32 then 2 * i else i

/-- Write the lanes of a vector register that the predicate governs; `f` gives a lane's value and whether a saturating
function clipped it, which sets SAT (R47, R71). -/
def Regs.vlanes (new : Regs) (vd : Nat) (mask : BitVec 32) (w : Nat) (f : Nat → Nat × Bool) : Regs :=
  let old := (new.vget vd).toNat
  let on := fun i => mask.getLsbD (govBit w i)
  let r := new.vput vd (BitVec.ofNat 512 (packLanes w (laneCount w) (fun i => if on i then (f i).1 else laneOf w old i)))
  if (List.range (laneCount w)).any (fun i => on i && (f i).2) then r.stSet stSAT true else r

/-- A lane result that cannot clip, and one that saturates. -/
def exact (w : Nat) (x : Int) : Nat × Bool := (trunc w x, false)
def clipS (w : Nat) (x : Int) : Nat × Bool := (trunc w (satS w x), satS w x != x)
def clipU (w : Nat) (x : Int) : Nat × Bool := (trunc w (satU w x), satU w x != x)

/-! ## I format (R60) -/

def semAddi (w ext : Nat) (old new : Regs) : Regs :=
  new.sput (yRd w) (old.sget (yRs1 w) + BitVec.ofInt 32 (yImm w ext))
def semAndi (w ext : Nat) (old new : Regs) : Regs :=
  new.sput (yRd w) (old.sget (yRs1 w) &&& BitVec.ofInt 32 (yImm w ext))
def semOri (w ext : Nat) (old new : Regs) : Regs :=
  new.sput (yRd w) (old.sget (yRs1 w) ||| BitVec.ofInt 32 (yImm w ext))
def semXori (w ext : Nat) (old new : Regs) : Regs :=
  new.sput (yRd w) (old.sget (yRs1 w) ^^^ BitVec.ofInt 32 (yImm w ext))
def semSlti (w ext : Nat) (old new : Regs) : Regs :=
  new.sput (yRd w) (if (old.sget (yRs1 w)).toInt < yImm w ext then 1 else 0)
def semMuli (w ext : Nat) (old new : Regs) : Regs :=
  new.sput (yRd w) (old.sget (yRs1 w) * BitVec.ofInt 32 (yImm w ext))
def semAddai (w ext : Nat) (old new : Regs) : Regs :=
  new.aput (yRd w) (old.aget (yRs1 w) + BitVec.ofInt 48 (yImm w ext))
def semVimm (w ext : Nat) (_old new : Regs) : Regs :=
  let lw := if bit (yRs1 w) 0 then 32 else 16
  new.vlanes (yRd w) (BitVec.allOnes 32) lw (fun _ => (trunc lw (yImm w ext), false))

/-! ## SALU (Table YI-6) -/

/-- Leading zeros of a 32-bit value; 32 for 0. -/
def clz32 (v : BitVec 32) : Nat := ((List.range 32).find? (fun i => v.getLsbD (31 - i))).getD 32
def popc32 (v : BitVec 32) : Nat := ((List.range 32).filter (fun i => v.getLsbD i)).length

/-- The scalar result of a SALU function that writes s[rd]; `pc` is the pc of the bundle. -/
def saluVal (fn sh : Nat) (a b : BitVec 32) : BitVec 32 :=
  match fn with
  | 0x00 => a + b | 0x01 => a - b
  | 0x02 => BitVec.ofInt 32 (sat32s (a.toInt + b.toInt)) | 0x03 => BitVec.ofInt 32 (sat32s (a.toInt - b.toInt))
  | 0x04 => a &&& b | 0x05 => a ||| b | 0x06 => a ^^^ b | 0x07 => a &&& ~~~b
  | 0x08 => a <<< (b.toNat % 32) | 0x09 => a >>> (b.toNat % 32) | 0x0A => a.sshiftRight (b.toNat % 32)
  | 0x0B => a <<< sh | 0x0C => a >>> sh | 0x0D => a.sshiftRight sh
  | 0x0E => if a.toInt < b.toInt then 1 else 0 | 0x0F => if a.toNat < b.toNat then 1 else 0
  | 0x10 => if a.toInt ≤ b.toInt then a else b | 0x11 => if a.toInt ≤ b.toInt then b else a
  | 0x12 => if a.toNat ≤ b.toNat then a else b | 0x13 => if a.toNat ≤ b.toNat then b else a
  | 0x14 => a * b
  | 0x15 => BitVec.ofInt 32 (a.toInt * b.toInt / 4294967296) | 0x16 => BitVec.ofNat 32 (a.toNat * b.toNat / 4294967296)
  | 0x17 => if b = 0 then BitVec.allOnes 32 else BitVec.ofNat 32 (a.toNat / b.toNat)
  | 0x18 => if b = 0 then a else BitVec.ofNat 32 (a.toNat % b.toNat)
  | 0x19 => BitVec.ofNat 32 (clz32 a) | _ => BitVec.ofNat 32 (popc32 a)

/-- ADDS or SUBS clips its result (R71). -/
def saluClips (fn : Nat) (a b : BitVec 32) : Bool :=
  (fn == 2 && sat32s (a.toInt + b.toInt) != a.toInt + b.toInt) || (fn == 3 && sat32s (a.toInt - b.toInt) != a.toInt - b.toInt)

def semSalu (w : Nat) (old new : Regs) : Regs :=
  let fn := yFn6 w
  let a := old.sget (yRs1 w)
  let b := old.sget (yRs2 w)
  let rd := yRd w
  match fn with
  | 0x1B => new
  | 0x1C => new.sput rd ((old.pc + 8).truncate 32)
  | 0x1D => new.aput rd (BitVec.ofNat 48 (b.toNat % 65536 * 4294967296 + a.toNat))
  | 0x1E => new.sput rd ((old.aget (yRs1 w)).truncate 32)
  | 0x1F => new.sput rd (BitVec.ofNat 32 ((old.aget (yRs1 w)).toNat / 4294967296))
  | 0x20 => new.aput rd (old.aget (yRs1 w) + BitVec.ofInt 48 b.toInt)
  | _ =>
    let r := new.sput rd (saluVal fn (ySh w) a b)
    if saluClips fn a b then r.stSet stSAT true else r

/-! ## Predicates (R67) -/

def semPred (w : Nat) (old new : Regs) : Regs :=
  let a := old.pget (yRs1 w)
  let b := old.pget (yRs2 w)
  match yFn6 w with
  | 0 => new.pput (yRd w) (a &&& b) | 1 => new.pput (yRd w) (a ||| b) | 2 => new.pput (yRd w) (a ^^^ b)
  | 3 => new.pput (yRd w) (a &&& ~~~b) | 4 => new.pput (yRd w) (~~~a)
  | 5 => new.pput (yRd w) (old.sget (yRs1 w)) | 6 => new.sput (yRd w) a
  | 7 => new.pput (yRd w) (BitVec.ofNat 32 (2 ^ min (old.sget (yRs1 w)).toNat 32 - 1))
  | _ => new.sput (yRd w) (BitVec.ofNat 32 (popc32 a))

/-! ## VALU (Table YI-7) -/

/-- One lane of a VALU function over operands of `w` bits; `k` is the immediate shift count. -/
def valuLane (fn w a b k : Nat) : Nat × Bool :=
  let sa := sext w a
  let sb := sext w b
  let n := b % w
  match fn with
  | 0x00 => exact w (a + b) | 0x01 => clipS w (sa + sb) | 0x02 => clipU w (a + b)
  | 0x03 => exact w ((a : Int) - b) | 0x04 => clipS w (sa - sb) | 0x05 => clipU w ((a : Int) - b)
  | 0x06 => (if sa ≤ sb then a else b, false) | 0x07 => (if sa ≤ sb then b else a, false)
  | 0x08 => (min a b, false) | 0x09 => (max a b, false)
  | 0x0A => (max a b - min a b, false) | 0x0B => ((a + b + 1) / 2, false)
  | 0x0C => (a &&& b, false) | 0x0D => (a ||| b, false) | 0x0E => (a ^^^ b, false)
  | 0x0F => (a &&& (2 ^ w - 1 - b), false)
  | 0x10 => (a * 2 ^ n, false) | 0x11 => (a / 2 ^ n, false) | 0x12 => exact w (sa / 2 ^ n)
  | 0x13 => (a * 2 ^ k, false) | 0x14 => (a / 2 ^ k, false) | 0x15 => exact w (sa / 2 ^ k)
  | 0x16 => exact w (rshr sa k) | 0x17 => exact w (rshr a k)
  | 0x18 => exact w (a * b) | 0x19 => clipS w (rshr (sa * sb) 15) | 0x1A => (a * b / 65536, false)
  | _ => (a, false)

def semValu (w : Nat) (old new : Regs) : Regs :=
  let fn := yFn7 w
  let lw := if yW w then 32 else 16
  let mask := old.pget (yPg w)
  let va := (old.vget (yRs1 w)).toNat
  let vb := (old.vget (yRs2 w)).toNat
  let vd := yRd w
  match fn with
  | 0x1B => new.vlanes vd (BitVec.allOnes 32) lw (fun i =>
      (if mask.getLsbD (govBit lw i) then laneOf lw va i else laneOf lw vb i, false))
  | 0x1C => new.vlanes vd mask lw (fun _ => ((old.sget (yRs1 w)).toNat, false))
  | 0x1E => new.vlanes vd mask 32 (fun j => exact 32 (sext 16 (laneOf 16 va j)))
  | 0x1F => new.vlanes vd mask 32 (fun j => exact 32 (sext 16 (laneOf 16 va (16 + j))))
  | 0x20 => new.vlanes vd mask 32 (fun j => (laneOf 16 va j, false))
  | 0x21 => new.vlanes vd mask 32 (fun j => (laneOf 16 va (16 + j), false))
  | 0x22 => new.vlanes vd mask 16 (fun i => clipS 16 (sext 32 (if i < 16 then laneOf 32 va i else laneOf 32 vb (i - 16))))
  | 0x23 => new.vlanes vd mask 16 (fun i => clipU 16 (sext 32 (if i < 16 then laneOf 32 va i else laneOf 32 vb (i - 16))))
  | _ => new.vlanes vd mask lw (fun i => valuLane fn lw (laneOf lw va i) (laneOf lw vb i) (yRs2 w))

/-! ## VCMP (R63) -/

def vcmpLane (fn w a b : Nat) : Bool :=
  match fn with
  | 0 => a == b | 1 => a != b | 2 => decide (sext w a < sext w b) | 3 => decide (sext w a ≤ sext w b)
  | 4 => decide (a < b) | _ => decide (a ≤ b)

def semVcmp (w : Nat) (old new : Regs) : Regs :=
  let lw := if yW w then 32 else 16
  let mask := old.pget (yPg w)
  let va := (old.vget (yRs1 w)).toNat
  let vb := (old.vget (yRs2 w)).toNat
  let pd := yRd w
  let before := old.pget pd
  let lane := fun i => if lw = 32 then i / 2 else i
  new.pput pd (BitVec.ofNat 32 (packLanes 1 32 (fun i =>
    let j := lane i
    if mask.getLsbD (govBit lw j) then (vcmpLane (yFn7 w) lw (laneOf lw va j) (laneOf lw vb j)).toNat
    else (before.getLsbD i).toNat)))

/-! ## VPERM (R64) -/

def semVperm (w : Nat) (old new : Regs) : Regs :=
  let fn := yFn7 w
  let va := (old.vget (yRs1 w)).toNat
  let vb := (old.vget (yRs2 w)).toNat
  let a := laneOf 16 va
  let b := laneOf 16 vb
  let c := fun i => if i < 32 then a i else b (i - 32)
  let f : Nat → Nat := fun i =>
    if fn = 0 then c (2 * i) else if fn = 1 then c (2 * i + 1)
    else if fn = 2 then (if i % 2 = 0 then a (i / 2) else b (i / 2))
    else if fn = 3 then (if i % 2 = 0 then a (16 + i / 2) else b (16 + i / 2))
    else if fn = 4 then a (b i % 32) else if fn = 5 then a (31 - i)
    else if fn < 0x40 then c (i + fn % 32)
    else (let k := fn % 32; if k ≤ i then a (i - k) else b (32 - k + i))
  new.vlanes (yRd w) (old.pget (yPg w)) 16 (fun i => (f i, false))

/-! ## VMAC (Table YI-8) -/

/-- Write the accumulator lanes that the predicate governs, modulo 2⁴⁸. -/
def Regs.acclanes (new : Regs) (ad : Nat) (mask : BitVec 32) (f : Nat → Int → Int) : Regs :=
  let old := (new.accget ad).toNat
  new.accput ad (BitVec.ofNat 1536 (packLanes 48 32 (fun i =>
    if mask.getLsbD i then trunc 48 (f i (sext 48 (laneOf 48 old i))) else laneOf 48 old i)))

def semVmac (w : Nat) (old new : Regs) : Regs :=
  let fn := yFn6 w
  let mask := old.pget (yMPg w)
  let ad := yAd w
  let sh := yMSh w
  let va := (old.vget (yVa w)).toNat
  let va1 := (old.vget (yVa w + 1)).toNat
  let vb := (old.vget (yVb w)).toNat
  let vb1 := (old.vget (yVb w + 1)).toNat
  let sb := (old.sget (yVb w)).toNat
  -- suffix U: both unsigned; US: va unsigned and the coefficient signed (R65)
  let uA := fn == 1 || fn == 2 || fn == 4 || fn == 9 || fn == 10 || fn == 0x11
  let uB := fn == 1 || fn == 9
  let rd := fun (u : Bool) (x : Nat) => if u then (x : Int) else sext 16 x
  let x := fun i => rd uA (laneOf 16 va i)
  let x' := fun i => rd uA (laneOf 16 va1 i)
  let c := fun i => rd uB (if ySB w then sb % 65536 else laneOf 16 vb i)
  let c' := fun i => rd uB (if ySB w then sb / 65536 else laneOf 16 vb1 i)
  let acc := (old.accget ad).toNat
  match fn with
  | 0 | 1 | 2 => new.acclanes ad mask (fun i z => z + x i * c i)
  | 3 | 4 => new.acclanes ad mask (fun i z => z - x i * c i)
  | 8 | 9 | 10 => new.acclanes ad mask (fun i z => z + x i * c i + x' i * c' i)
  | 0x10 | 0x11 => new.acclanes ad mask (fun i _ => x i * c i)
  | 0x18 => new.acclanes ad mask (fun _ _ => sext 32 sb)
  | 0x19 => new.acclanes ad mask (fun i _ => sext 16 (laneOf 16 va i) * 2 ^ sh)
  | 0x1C => new.vlanes (yVa w) mask 16 (fun i => clipS 16 (rshr (sext 48 (laneOf 48 acc i)) sh))
  | 0x1D => new.vlanes (yVa w) mask 16 (fun i => clipU 16 (rshr (sext 48 (laneOf 48 acc i)) sh))
  | _ => new.vlanes (yVa w) mask 16 (fun i => exact 16 (sext 48 (laneOf 48 acc i) / 2 ^ sh))

/-! ## VLUT (R66, R71) -/

/-- Interpolation in a table of 4,096 entries (R71). -/
def vluti (t : Nat → Nat) (a : Nat) : Nat :=
  let idx := a / 16
  let y0 : Int := t idx
  let y1 : Int := t (min (idx + 1) 4095)
  (y0 + ((y1 - y0) * (a % 16 : Nat) + 8) / 16).toNat

def semVlut (lut : Nat → Nat → Nat) (w : Nat) (old new : Regs) : Regs :=
  let va := (old.vget (yRs1 w)).toNat
  let t := lut (yRs2 w % 8)
  new.vlanes (yRd w) (old.pget (yPg w)) 16 (fun i =>
    let a := laneOf 16 va i
    (match yFn7 w with | 0 => t (a % 4096) | 1 => t (a / 16) | _ => vluti t a, false))

/-- The effect of a syllable that touches nothing but registers. Sources come from `old`; results go into `new`. -/
def semReg (lut : Nat → Nat → Nat) (op : Op) (w ext : Nat) (old new : Regs) : Regs :=
  match op with
  | .addi => semAddi w ext old new | .andi => semAndi w ext old new | .ori => semOri w ext old new
  | .xori => semXori w ext old new | .slti => semSlti w ext old new | .muli => semMuli w ext old new
  | .addai => semAddai w ext old new | .vimm => semVimm w ext old new | .salu => semSalu w old new
  | .pred => semPred w old new | .valu => semValu w old new | .vcmp => semVcmp w old new
  | .vperm => semVperm w old new | .vmac => semVmac w old new | .vlut => semVlut lut w old new
  | _ => new

end Sys2Proof.Machine
end

