-- ==== Sys2Proof/Machine/CoreOps.lean ====
section
/-!
DEFINITION. What the cores share: access to cores, wells and graphs, stream ports and channels, exceptions, strip skips,
and the saving and restoring of tasks (R78 to R101).
-/
set_option autoImplicit false

namespace Sys2Proof.Machine

/-! ## Access to cores, wells and graphs -/

def isPump (c : Nat) : Bool := c < 80
def wellOf (c : Nat) : Nat := c / 5

/-- Place code of a core (PIPE_PLACE). -/
def corePlace (c : Nat) : Place := if isPump c then wellPlace (c / 5) (c % 5) noSlice else ioPlace 0 (c - 80) noSlice

/-- A core after reset: MODE is Machine on a windlass core and Task on a pump (R83); U4 is the spare (R22). -/
def coreReset (c : Nat) : Core :=
  if isPump c then { role := if c % 5 = 4 then .spare else .active }
  else { regs := { cr := [(0, 0xC0000000#32)] } }

def Dev.core (d : Dev) (c : Nat) : Core := tgetD d.cores.core c (coreReset c)
def Dev.coresMod (d : Dev) (f : Cores → Cores) : Dev := { d with cores := f d.cores }
def Dev.coreMod (d : Dev) (c : Nat) (f : Core → Core) : Dev :=
  d.coresMod (fun k => { k with core := tput k.core c (f (tgetD k.core c (coreReset c))) })
def Dev.setRegs (d : Dev) (c : Nat) (r : Regs) : Dev := d.coreMod c (fun k => { k with regs := r })
def Dev.regsMod (d : Dev) (c : Nat) (f : Regs → Regs) : Dev := d.coreMod c (fun k => { k with regs := f k.regs })

def Dev.well (d : Dev) (w : Nat) : Well := tgetD d.cores.well w {}
def Dev.wellMod (d : Dev) (w : Nat) (f : Well → Well) : Dev :=
  d.coresMod (fun k => { k with well := tmod k.well w {} f })

/-- The table that a lookup table's entries lie in: the ninth one while it stands in for it (R112). -/
def Well.standIn (x : Well) (t : Nat) : Nat := if x.ninthFor == some t then 8 else t

/-- Addresses of the cistern that lie in a sub-bank being copied, whose accesses stall (R139). -/
def Well.copyStalls (x : Well) (a n : Nat) : Bool :=
  match x.copyBank with
  | some b => (List.range (n / 131072 + 2)).any (fun i =>
      let p := a / 131072 + i
      p * 131072 < a + n && tgetD x.bankMap p p == b)
  | none => false

def Dev.graph (d : Dev) (g : Nat) : Option Graph := tget d.cores.graphs g
def Dev.graphMod (d : Dev) (g : Nat) (f : Graph → Graph) : Dev :=
  d.coresMod (fun k => { k with graphs := tadj k.graphs g f })

def Graph.stage (g : Graph) (i : Nat) : Option Stage := g.stages[i]?
def Graph.chan (g : Graph) (i : Nat) : Option Chan := g.chans[i]?
def Graph.stageMod (g : Graph) (i : Nat) (f : Stage → Stage) : Graph := { g with stages := g.stages.modify i f }
def Graph.chanMod (g : Graph) (i : Nat) (f : Chan → Chan) : Graph := { g with chans := g.chans.modify i f }
def Graph.frameMod (g : Graph) (ctx frame : Nat) (f : GFrame → GFrame) : Graph :=
  { g with frames := g.frames.map (fun x => if x.ctx == ctx && x.frame == frame then f x else x) }
def Graph.frame (g : Graph) (ctx frame : Nat) : Option GFrame := g.frames.find? (fun x => x.ctx == ctx && x.frame == frame)

/-- The task that runs on a pump, with its slot. -/
def Core.task (k : Core) : Option (Nat × Task) :=
  match k.cur with
  | some i => (tget k.tasks i).map (fun t => (i, t))
  | none => none

def Dev.curTask (d : Dev) (c : Nat) : Option Task := ((d.core c).task).map (·.2)
/-- Change the task that runs on a pump. -/
def Dev.taskMod (d : Dev) (c : Nat) (f : Task → Task) : Dev :=
  d.coreMod c (fun k => match k.cur with | some i => { k with tasks := tadj k.tasks i f } | none => k)

/-- The image and stage of the task on a pump. -/
def Dev.stageOf (d : Dev) (t : Task) : Option Stage := (d.graph t.graph).bind (·.stage t.stage)
def Dev.programOf (d : Dev) (t : Task) : Option Program :=
  (d.stageOf t).bind (fun s => tget d.cores.programs s.prog)

/-! ## Stream ports (R78 to R82, R109, R110) -/

def markEol : Nat := 0
def markEos : Nat := 1
def markSkip : Nat := 2
/-- KIND of a marker in its register form (Table YI-10). -/
def markKind (m : Nat) : Nat := bits m 31 30
def mkMark (kind : Nat) (p : Bool) (tag : Nat) : Nat := kind * 2 ^ 30 + p.toNat * 2 ^ 29 + tag % 4096

/-- PIPE_PORT_k of a core: bound, kind, channel, slot. -/
def Regs.port (r : Regs) (k : Nat) : Nat := (r.crget (0x70 + k)).toNat
def portBound (v : Nat) : Bool := bit v 31
def portKind (v : Nat) : Nat := bits v 30 29
def portChan (v : Nat) : Nat := bits v 27 20
def portSlot (v : Nat) : Nat := bits v 5 0

/-- Items waiting at an in-port of the task on a pump, oldest first. -/
def Dev.portItems (d : Dev) (c k : Nat) : List Item :=
  let v := (d.core c).regs.port k
  match d.curTask c with
  | none => []
  | some t =>
    if portKind v = 1 then tgetD t.src k []
    else match (d.graph t.graph).bind (·.chan (portChan v)) with
      | some ch => match tget ch.slots (portSlot v) with | some s => s.items | none => []
      | none => []

/-- Replace the items waiting at an in-port. -/
def Dev.setItems (d : Dev) (c k : Nat) (l : List Item) : Dev :=
  let v := (d.core c).regs.port k
  match d.curTask c with
  | none => d
  | some t =>
    if portKind v = 1 then d.taskMod c (fun t => { t with src := tput t.src k l })
    else d.graphMod t.graph (fun g => g.chanMod (portChan v) (fun ch => { ch with
      slots := tadj ch.slots (portSlot v) (fun s => { s with items := l }) }))

/-- Free places at an out-port (R110). -/
def Dev.portRoom (d : Dev) (c k : Nat) : Nat :=
  let v := (d.core c).regs.port k
  match (d.curTask c).bind (fun t => (d.graph t.graph).bind (·.chan (portChan v))) with
  | some ch => match tget ch.slots (portSlot v) with | some s => ch.items - s.count | none => 0
  | none => 0

/-- Append an item at an out-port that has room; EOS and SKIP complete the slot's strip. -/
def Dev.portPush (d : Dev) (c k : Nat) (i : Item) : Dev :=
  let v := (d.core c).regs.port k
  match d.curTask c with
  | none => d
  | some t => d.graphMod t.graph (fun g => g.chanMod (portChan v) (fun ch => { ch with
      slots := tadj ch.slots (portSlot v) (fun s => { s with
        items := s.items ++ [i], count := s.count + 1,
        complete := s.complete || (match i with | .mark m => markKind m != 0 | .data _ => false) }) }))

/-- The slot of an out-port holds its end marker. -/
def Dev.portEnded (d : Dev) (c k : Nat) : Bool :=
  let v := (d.core c).regs.port k
  match (d.curTask c).bind (fun t => (d.graph t.graph).bind (·.chan (portChan v))) with
  | some ch => match tget ch.slots (portSlot v) with | some s => s.complete | none => true
  | none => true

/-- The pc is always a multiple of 8 (Table YI-1): what a 32-bit register gives it has bits [2:0] cleared. -/
def bundlePc (v : BitVec 32) : BitVec 48 := v.zeroExtend 48 &&& 0xFFFFFFFFFFF8#48

/-- Bound in-ports and out-ports of a core. -/
def Regs.boundPorts (r : Regs) (from' : Nat) : List Nat :=
  ((List.range 4).map (· + from')).filter (fun k => portBound (r.port k))

/-- Drop items up to and including the first EOS or SKIP; none where there is none (R94). -/
def dropStrip : List Item → Option (List Item)
  | [] => none
  | .mark m :: l => if markKind m = 0 then dropStrip l else some l
  | .data _ :: l => dropStrip l

/-! ## Saving and restoring a task (R98, R99) -/

/-- The control registers in the control block of a save frame (Table YI-15): PIPE_STATUS, PIPE_CAUSE, PIPE_EPC, the loop
registers, PIPE_WDOG_CNT and the eight ports. -/
def savedCregs : List Nat := [0, 1, 2, 0x20, 0x21, 0x22, 0x23, 0x24, 0x25, 0x31, 0x70, 0x71, 0x72, 0x73, 0x74, 0x75, 0x76, 0x77]

/-- A pending global load in the control block: address, destination, and size with a valid bit. -/
def Load.bytes (l : Load) : List Byte := le 6 l.va ++ le 1 l.rt ++ le 1 (128 + 16 * l.signed.toNat + l.sz)

/-- The global loads still to return their data. -/
def Regs.outstanding (r : Regs) : List Load := r.loads.filter (fun l => !l.done)

/-- The control block of a save frame. Table YI-15 lists its content and gives it no layout: the order and the places of
the fields are a DESIGN CHOICE (log entry 9). -/
def ctlBlock (r : Regs) : List Byte :=
  le 8 r.pc.toNat ++ savedCregs.flatMap (fun n => le 4 (r.crget n).toNat)
    ++ (List.range 8).flatMap (fun i => match r.outstanding[i]? with | some l => l.bytes | none => zeros 8)
    ++ zeros 112

/-- The pending loads of a control block, to be issued again in an address space (R99). -/
def blockLoads (b : List Byte) (space : Nat) : List Load :=
  (List.range 8).filterMap (fun i =>
    let k := field b (80 + 8 * i + 7) 1
    if bit k 7 then some { space := some space, va := field b (80 + 8 * i) 6, sz := bits k 1 0, signed := bit k 4,
                           rt := field b (80 + 8 * i + 6) 1 % 32 } else none)

/-- A save frame (Table YI-15). -/
def frameBytes (r : Regs) : List Byte :=
  ctlBlock r ++ (List.range 32).flatMap (fun i => le 4 (r.sget i).toNat)
    ++ (List.range 8).flatMap (fun i => le 8 (r.aget i).toNat)
    ++ (List.range 8).flatMap (fun i => le 4 (r.pget i).toNat)
    ++ zeros 32
    ++ (List.range 4).flatMap (fun a => le 192 (r.accget a).toNat)
    ++ (List.range 32).flatMap (fun i => le 64 (r.vget i).toNat)

/-- Registers read back from a save frame; `cr` holds the control registers that are not in it. -/
def frameRegs (f : List Byte) (cr : Tab (BitVec 32)) : Regs :=
  let r : Regs := savedCregs.zipIdx.foldl (fun r e => r.crput e.1 (BitVec.ofNat 32 (field f (8 + 4 * e.2) 4)))
    { pc := BitVec.ofNat 48 (field f 0 8), cr := cr }
  let r := { r with loads := blockLoads f ((r.crget 0x10).toNat % 4096) }
  let b := f.drop 256
  let r := (List.range 32).foldl (fun r i => r.sput i (BitVec.ofNat 32 (field b (4 * i) 4))) r
  let r := (List.range 8).foldl (fun r i => r.aput i (BitVec.ofNat 48 (field b (128 + 8 * i) 8))) r
  let r := (List.range 8).foldl (fun r i => r.pput i (BitVec.ofNat 32 (field b (192 + 4 * i) 4))) r
  let r := (List.range 4).foldl (fun r i => r.accput i (BitVec.ofNat 1536 (field b (256 + 192 * i) 192))) r
  (List.range 32).foldl (fun r i => r.vput i (BitVec.ofNat 512 (field b (1024 + 64 * i) 64))) r

/-- The registers of a task that does not run, as its save frame in the pail holds them (R98). -/
def Core.saved (k : Core) (t : Task) : Regs := frameRegs (mread k.mem t.savePtr 3328) t.cr

/-- Put a task into a slot with the registers that its save frame is to hold. -/
def Core.putTask (k : Core) (i : Nat) (t : Task) (r : Regs) : Core :=
  { k with mem := mwrite k.mem t.savePtr (frameBytes r), tasks := tput k.tasks i { t with cr := r.cr } }

/-- Save the running task into its save frame in the pail, and leave the pump without a task (R98). -/
def Dev.saveTask (d : Dev) (c : Nat) (st : TaskSt) : Dev :=
  let k := d.core c
  match k.task with
  | none => d
  | some (i, t) => d.coreMod c (fun k => { k.putTask i { t with st := st } k.regs with cur := none, regs := {} })

/-- Restore a task from its save frame, and issue its pending loads again (R98, R99). -/
def Dev.restoreTask (d : Dev) (c i : Nat) : Dev :=
  d.coreMod c (fun k => match tget k.tasks i with
    | none => k
    | some t => { k with
        regs := k.saved t, cur := some i,
        tasks := tput k.tasks i { t with st := .running } })

/-- Reload the watchdog count (R93). -/
def Regs.kick (r : Regs) : Regs := r.crput 0x31 (r.crget 0x30)

/-! ## Real-time fault records (R136) -/

/-- Post a real-time fault record: the event 0x0C and a sump entry of class 0x13 (Tables GS-10, SQ-16, PF-7). -/
def Dev.rtFault (d : Dev) (c kind : Nat) (t : Task) : Dev :=
  let r := (d.core c).regs
  let (cause, epc, psn) := t.skipInfo
  let exc := kind == 1
  let s := t.strip.getD { ctx := 0, frame := 0, strip := 0 }
  let b := le 4 (corePlace c).toNat ++ le 1 kind ++ le 1 (if exc then cause % 256 else 0)
    ++ le 1 (if exc then bits cause 23 16 else 0) ++ le 1 ((bit cause 24 && exc).toNat + 2 * psn.toNat) ++ le 4 epc
    ++ le 4 (r.crget 3).toNat ++ le 2 (r.crget 4).toNat ++ le 2 (r.crget 0x51).toNat ++ le 4 (s.frame % 4294967296)
    ++ le 1 s.ctx ++ le 1 (min 255 t.discarded) ++ le 2 t.stage ++ le 4 t.graph
  let d := d.coresMod (fun k => { k with rtFaults := k.rtFaults ++ [b] })
  let d := d.sumpWrite (corePlace c) 0x13 kind (if kind = 2 then 2 else 0) 0 b
  d.post 0x0C kGraph t.graph (corePlace c) b

/-! ## Strip skips (R94, R95) -/

/-- A strip of the frame of a task is counted skipped (R134). -/
def Dev.countSkipped (d : Dev) (t : Task) : Dev :=
  match t.strip with
  | none => d
  | some s => d.graphMod t.graph (fun g => g.frameMod s.ctx s.frame (fun f => { f with
      skipped := if f.repair.contains s.strip then f.skipped else f.skipped + 1,
      repair := if f.repair.contains s.strip then f.repair else f.repair ++ [s.strip] }))

/-- Start a strip skip: SKIPPING is set, results in flight are discarded and both loops disarmed (R94). `done'` names an
in-port that has consumed its SKIP already. -/
def Dev.startSkip (d : Dev) (c : Nat) (post : Bool) (kind : Nat) (done' : List Nat) : Dev :=
  let r := (d.core c).regs
  let d := d.regsMod c (fun r => { ((r.stSet stSKIPPING true).stSet stL0A false).stSet stL1A false with loads := [] })
  d.taskMod c (fun t => { t with
    skipDone := done', skipPost := post, skipKind := kind, discarded := 0,
    skipInfo := ((r.crget 1).toNat, (r.crget 2).toNat, r.stBit stPSN) })

/-- The skip has served a port of the task on a pump. -/
def Dev.served (d : Dev) (c k : Nat) : Bool := (d.curTask c).any (fun t => t.skipDone.contains k)
def Dev.serve (d : Dev) (c k : Nat) : Dev := d.taskMod c (fun t => { t with skipDone := t.skipDone ++ [k] })

/-- Make room at an out-port whose slot the producer has overfilled: its strip ends as incomplete, with the end marker in
place of the slot's last item (R110; log entry 126). -/
def Dev.portTrim (d : Dev) (c k : Nat) : Dev :=
  let v := (d.core c).regs.port k
  match d.curTask c with
  | none => d
  | some t => d.graphMod t.graph (fun g => g.chanMod (portChan v) (fun ch => { ch with
      slots := tadj ch.slots (portSlot v) (fun s => { s with items := s.items.dropLast, count := s.count - 1 }) }))

/-- One SKIP marker for each bound out-port in turn; the first full one stalls the skip (R94), unless the producer has
appended more than its slot holds: `full` names the ports at which it was stalled for that (R110). -/
def Dev.skipOuts (d : Dev) (c : Nat) (full : List Nat) : List Nat → Dev × Bool
  | [] => (d, true)
  | k :: ks =>
    if d.served c k then d.skipOuts c full ks
    else if d.portRoom c k = 0 && !full.contains k then (d, false)
    else
      let r := (d.core c).regs
      let d := if d.portRoom c k = 0 then d.portTrim c k else d
      ((d.portPush c k (.mark (mkMark markSkip (r.stBit stPSN) (r.crget 0x51).toNat))).serve c k).skipOuts c full ks

/-- Each bound in-port in turn consumed up to its end marker; the first whose marker has not come stalls the skip (R94). -/
def Dev.skipIns (d : Dev) (c : Nat) : List Nat → Dev × Bool
  | [] => (d, true)
  | k :: ks =>
    if d.served c k then d.skipIns c ks
    else match dropStrip (d.portItems c k) with
      | some l => ((d.setItems c k l).serve c k).skipIns c ks
      | none => (d.setItems c k [], false)

/-- Go on with the strip skip of a pump: markers first, then the in-ports, then the record and the restart at
PIPE_STRIP_ENTRY. A full channel or a missing end marker leaves it waiting (R94). -/
def Dev.skipStep (d : Dev) (c : Nat) (full : List Nat) : Dev :=
  if !(d.core c).regs.stBit stSKIPPING then d else
    let (d, out) := d.skipOuts c full ((d.core c).regs.boundPorts 4)
    if !out then d else
      let d := d.regsMod c (fun r => r.stSet stPSN false)
      let (d, done) := d.skipIns c ((d.core c).regs.boundPorts 0)
      if !done then d else
        match d.curTask c with
        | none => d
        | some t =>
          let d := if t.skipPost then d.rtFault c t.skipKind t else d
          let d := d.countSkipped t
          let d := d.taskMod c (fun t => { t with skipDone := [] })
          d.regsMod c (fun r =>
            let r := r.crput 0x51 (BitVec.ofNat 32 (((r.crget 0x51).toNat + 1) % 4096))
            let r := (r.stSet stSKIPPED true).stSet stSKIPPING false
            { r with pc := bundlePc (r.crget 0x50) }.kick)

/-! ## Exceptions (R89 to R92) -/

def excIllegal : Nat := 1
def excPrivileged : Nat := 2
def excTranslation : Nat := 3
def excAlignment : Nat := 4
def excStream : Nat := 5
def excWatchdog : Nat := 6
def excSvc : Nat := 16
def excInterrupt : Nat := 32

/-- Write PIPE_CAUSE, PIPE_EPC and PIPE_TVAL (R92). -/
def Regs.setCause (r : Regs) (rtf : Bool) (code sub slot epc tval : Nat) : Regs :=
  ((((r.crput 1 (BitVec.ofNat 32 (rtf.toNat * 2 ^ 31 + slot * 2 ^ 24 + sub * 2 ^ 16 + code))).crput 2
    (BitVec.ofNat 32 epc)).crput 3 (BitVec.ofNat 32 tval)).crput 4 (BitVec.ofNat 32 (tval / 2 ^ 32 % 65536)))

/-- Enter Supervisor mode on a windlass core: the interrupted mode goes into RMODE, IE clears, and the core goes on at
PIPE_ENTRY (R49, R92). -/
def Regs.enterSup (r : Regs) : Regs :=
  let r := (r.setRmode r.mode).setMode 1
  let r := r.stSet stIE false
  { r with pc := bundlePc (r.crget 5) }

/-- Take an exception on a core, `epc` naming the bundle (R92). During a strip skip it is discarded and counted (R95). A
windlass core in Machine mode stops; the row of the command then fails the priming step. -/
def Dev.exception (d : Dev) (c code sub slot epc tval : Nat) : Dev :=
  let r := (d.core c).regs
  if isPump c then
    match d.curTask c with
    | none => d
    | some t =>
      if r.stBit stSKIPPING then d.taskMod c (fun t => { t with discarded := t.discarded + 1 })
      else
        let d := d.regsMod c (fun r => r.setCause t.rt code sub slot epc tval)
        if t.rt then d.startSkip c true 1 []
        else
          let d := d.regsMod c (fun r => { r with pc := BitVec.ofNat 48 epc })
          (d.saveTask c .suspended).coresMod (fun k => { k with service := k.service ++ [c] })
  else if r.mode = 3 then d.coreMod c (fun k => { k with regs := r.setCause false code sub slot epc tval, stopped := true })
  else d.regsMod c (fun r => (r.setCause false code sub slot epc tval).enterSup)

/-- A translation fault of a core's global access: the fault report, then the exception (R92, R155, R156). -/
def Dev.coreXlatFault (d : Dev) (c asid va : Nat) (write : Bool) (sub : Nat) : Dev :=
  let rt := match d.curTask c with | some t => t.rt | none => false
  let d := d.xlatFault (if isPump c then .pump c else .windlass c) rt write asid va sub 0
  d.exception c excTranslation sub 0 (d.core c).regs.pc.toNat va

end Sys2Proof.Machine
end

