-- ==== Sys2Proof/Machine/Yumar.lean ====
section
/-!
DEFINITION. The execution of one Yumar bundle: fetch, decode checks, local and global accesses, branches and loops,
control registers and CTL functions, and the events of a core (R49 to R99).
-/
set_option autoImplicit false

namespace Sys2Proof.Machine

/-- Why a bundle does not complete: it stalls at issue, or it raises an exception; a translation fault also files a
fault report, which says whether the access was a write (R155). -/
inductive Stop where
  | stall
  | exc (code sub slot tval : Nat)
  | xlat (va sub : Nat) (write : Bool)
  | need (va : Nat) (write : Bool)
  deriving DecidableEq, Repr

/-! ## Sources of a syllable (R85) -/

def srcsM (w : Nat) : List Dst :=
  let fn := yFn6 w
  let dual := vmacDual fn
  .p (yMPg w) :: .acc (yAd w) :: (if fn == 0x18 || vmacXtr fn then [] else .v (yVa w) :: (if dual then [.v (yVa w + 1)] else []))
    ++ (if ySB w then [.s (yVb w)] else if fn == 0x19 || vmacXtr fn then [] else
      .v (yVb w) :: (if dual then [.v (yVb w + 1)] else []))

/-- Registers that a syllable reads. -/
def srcs (w : Nat) : List Dst :=
  match yMajor w with
  | 0 => if 1 ≤ yFn4 w && yFn4 w ≤ 3 then [.s (yRs1 w)] else []
  | 1 => [.s (yBRs w)] | 2 => [.p (yBPn w)] | 4 => [.s (yLoopRs w)]
  | 5 => if (saluA (yFn6 w)).2 then [.a (yRs1 w), .s (yRs2 w)] else [.s (yRs1 w), .s (yRs2 w)]
  | 6 | 7 | 8 | 9 | 10 | 11 => [.s (yRs1 w)]
  | 12 => [.a (yRs1 w)]
  | 13 | 14 => [.a (yAb w)]
  | 15 => [.a (yAb w), if ySz w = 3 then .v (yRd w) else .s (yRd w)]
  | 16 => [.a (yAb w)]
  | 17 => [.a (yAb w), if yGSz w = 3 then .v (yRd w) else .s (yRd w)]
  | 18 => if ySub w = 1 then [.v (yRd w)] else []
  | 19 => if yFn7 w = 0x1C then [.s (yRs1 w), .p (yPg w)] else [.v (yRs1 w), .v (yRs2 w), .p (yPg w)]
  | 20 | 21 => [.v (yRs1 w), .v (yRs2 w), .p (yPg w)]
  | 22 => srcsM w
  | 23 => [.v (yRs1 w), .p (yPg w)]
  | 25 => if yFn6 w = 5 || yFn6 w = 7 then [.s (yRs1 w)] else [.p (yRs1 w), .p (yRs2 w)]
  | _ => []

/-- The destination of an outstanding load. -/
def Load.dst (l : Load) : Dst := if l.sz = 3 then .v l.rt else .s l.rt

/-- A syllable uses a register that an outstanding load has still to write (R85). -/
def waitsLoad (r : Regs) (w : Nat) : Bool := r.outstanding.any (fun l => (srcs w ++ dsts w).contains l.dst)

/-! ## Local and global memory (R72 to R76) -/

/-- Offset of an access and the post-updated base: o = a[ab] + offset × size, or a[ab] when U is set (R72). -/
def effAddr (r : Regs) (ab : Nat) (off : Int) (size : Nat) (u : Bool) : Nat × BitVec 48 :=
  let next := r.aget ab + BitVec.ofInt 48 (off * size)
  (if u then (r.aget ab).toNat else next.toNat, next)

/-- Size of a local space in bytes (Table YI-3). -/
def Dev.localSize (d : Dev) (c sp : Nat) : Nat :=
  if sp = 1 then ((d.core c).regs.crget 0x12).toNat else if isPump c then 262144 else 524288

/-- An access to a sub-bank that is being copied stalls (R139). -/
def Dev.windowStalls (d : Dev) (c sp o n : Nat) : Bool :=
  sp == 1 && (d.well (wellOf c)).copyStalls (((d.core c).regs.crget 0x11).toNat + o) n

def Dev.localRead (d : Dev) (c sp o n : Nat) : List Byte :=
  if sp = 1 then mread (d.well (wellOf c)).cistern (((d.core c).regs.crget 0x11).toNat + o) n
  else mread (d.core c).mem o n

def Dev.localWrite (d : Dev) (c sp o : Nat) (bs : List Byte) : Dev :=
  if sp = 1 then
    d.wellMod (wellOf c) (fun w => { w with cistern := mwrite w.cistern (((d.core c).regs.crget 0x11).toNat + o) bs })
  else d.coreMod c (fun k => { k with mem := mwrite k.mem o bs })

/-- Put loaded data into a register: sign- or zero-extended scalar, or a vector (R72). -/
def Regs.loadPut (r : Regs) (rt sz : Nat) (signed : Bool) (bs : List Byte) : Regs :=
  if sz = 3 then r.vput rt (BitVec.ofNat 512 (leNat bs))
  else r.sput rt (if signed then BitVec.ofInt 32 (sext (8 * sizeBytes sz) (leNat bs)) else BitVec.ofNat 32 (leNat bs))

/-- Data that a store writes. -/
def Regs.storeBytes (r : Regs) (rt sz : Nat) : List Byte :=
  if sz = 3 then le 64 (r.vget rt).toNat else le (sizeBytes sz) (r.sget rt).toNat

/-- Alignment that a local access needs (R73). -/
def localAlign (sz : Nat) (store : Bool) : Nat := if sz = 3 && !store then 2 else sizeBytes sz

/-- LDL and LDLU. -/
def Dev.semLoad (d : Dev) (c w : Nat) (old : Regs) (signed : Bool) : Except Stop Dev :=
  let n := sizeBytes (ySz w)
  let (o, next) := effAddr old (yAb w) (yOff13 w) n (yU w)
  if o % localAlign (ySz w) false ≠ 0 then .error (.exc excAlignment 0 0 o)
  else if d.localSize c (ySp w) < o + n then .error (.exc excTranslation subLocalRange 0 o)
  else if d.windowStalls c (ySp w) o n then .error .stall
  else
    let bs := d.localRead c (ySp w) o n
    .ok (d.regsMod c (fun r =>
      let r := if yU w then r.aput (yAb w) next else r
      r.loadPut (yRd w) (ySz w) signed bs))

/-- STL: a Task-mode store to the code region raises CODE_WRITE (R51). -/
def Dev.semStore (d : Dev) (c w : Nat) (old : Regs) : Except Stop Dev :=
  let n := sizeBytes (ySz w)
  let (o, next) := effAddr old (yAb w) (yOff13 w) n (yU w)
  if o % localAlign (ySz w) true ≠ 0 then .error (.exc excAlignment 0 0 o)
  else if d.localSize c (ySp w) < o + n then .error (.xlat o subLocalRange true)
  else if isPump c && ySp w == 0 && o < (d.well (wellOf c)).codeLim then .error (.xlat o subCodeWrite true)
  else if d.windowStalls c (ySp w) o n then .error .stall
  else
    let d := d.localWrite c (ySp w) o (old.storeBytes (yRd w) (ySz w))
    .ok (if yU w then d.regsMod c (fun r => r.aput (yAb w) next) else d)

/-- The requests of a core are real-time when its task is (R153). -/
def Dev.coreRt (d : Dev) (c : Nat) : Bool := match d.curTask c with | some t => t.rt | none => false
def coreReq (c : Nat) : Requester := if isPump c then .pump c else .windlass c

/-- Address space of a global access of a core outside Machine mode: the firmware's, space 0, in Supervisor mode, and the
one that PIPE_ASID names in Task mode (Table YI-2, R147; Table YI-3 names PIPE_ASID alone: log entry 115). -/
def coreSpace (c : Nat) (r : Regs) : Nat := if !isPump c && r.mode = 1 then 0 else (r.crget 0x10).toNat % 4096

/-- Physical address that Machine mode forms from an a-register (Table YI-2). -/
def machineAddr (r : Regs) (va : Nat) : Nat := (r.crget 0x18).toNat % 16 * 2 ^ 48 + va

/-- Physical address of a global access of a core, or why it does not go on. In Machine mode addresses are physical
(Table YI-2). A background access whose translation is not at hand waits for a walk (R75, R153). -/
def Dev.coreXlat (d : Dev) (c : Nat) (old : Regs) (va : Nat) (write : Bool) : Except Stop Nat :=
  if !isPump c && old.mode = 3 then .ok (machineAddr old va)
  else
    let asid := coreSpace c old
    let rt := d.coreRt c
    if !rt && !d.cached (coreReq c).cache asid va then .error (.need va write)
    else match d.xlat rt asid va write with
      | .ok pa => .ok pa
      | .error sub => .error (.xlat va sub write)

/-- A global access fills the translation cache of its core (R152); a Machine-mode access has no translation. -/
def Dev.coreFill (d : Dev) (c : Nat) (old : Regs) (va : Nat) : Dev :=
  if !isPump c && old.mode = 3 then d else d.fillCache (coreReq c).cache (coreSpace c old) va

/-- The load that an LDG issues: it keeps the address space, or the physical address, of its issue (R75). -/
def issueLoad (c : Nat) (old : Regs) (va w : Nat) : Load :=
  let phys := !isPump c && old.mode = 3
  { space := if phys then none else some (coreSpace c old), va := if phys then machineAddr old va else va,
    sz := yGSz w, signed := yS w, rt := yRd w }

/-- LDG: held at issue until its translation resolves, and as a ninth load until the oldest has returned its data (R75). -/
def Dev.semLdg (d : Dev) (c w : Nat) (old : Regs) : Except Stop Dev :=
  let n := sizeBytes (yGSz w)
  let (va, next) := effAddr old (yAb w) (yOff14 w) n (yGU w)
  if va % n ≠ 0 then .error (.exc excAlignment 0 0 va)
  else match d.coreXlat c old va false with
    | .error e => .error e
    | .ok _ =>
      if 8 ≤ old.loads.length then .error .stall
      else .ok ((d.coreFill c old va).regsMod c (fun r =>
        let r := if yGU w then r.aput (yAb w) next else r
        { r with loads := r.loads ++ [issueLoad c old va w] }))

/-- STG: it waits for an outstanding load of the same core from the same bytes, so that their accesses take effect in
program order (R74). -/
def Dev.semStg (d : Dev) (c w : Nat) (old : Regs) : Except Stop Dev :=
  let n := sizeBytes (yGSz w)
  let (va, next) := effAddr old (yAb w) (yOff14 w) n (yGU w)
  if va % n ≠ 0 then .error (.exc excAlignment 0 0 va)
  else match d.coreXlat c old va true with
    | .error e => .error e
    | .ok pa =>
      if old.outstanding.any (fun l => overlap l.va (sizeBytes l.sz) (if l.space.isNone then pa else va) n) then .error .stall
      else
        let d := ((d.coreFill c old va).badPhys (coreReq c) pa).physWrite pa (old.storeBytes (yRd w) (yGSz w))
        .ok (if yGU w then d.regsMod c (fun r => r.aput (yAb w) next) else d)

/-! ## Stream functions (R79 to R82) -/

/-- SIN and SMARKR on a head SKIP consume it and start a strip skip that posts no record (R80). -/
def Dev.takeSkip (d : Dev) (c k : Nat) (rest : List Item) : Dev := (d.setItems c k rest).startSkip c false 1 [k]

/-- The slot that a port points at lies in a sub-bank that is being copied (R139). -/
def Dev.portStalls (d : Dev) (c k : Nat) : Bool :=
  let v := (d.core c).regs.port k
  match (d.curTask c).bind (fun t => (d.graph t.graph).bind (·.chan (portChan v))) with
  | some ch => portKind v != 1 && (d.well ch.home).copyStalls (ch.base + portSlot v * ch.items * 64) (ch.items * 64)
  | none => false

def Dev.semStrm (d : Dev) (c w : Nat) (old : Regs) : Except Stop Dev :=
  let k := yPort w
  let rt := yRd w
  if !portBound (old.port k) then .error (.exc excStream 1 0 0)
  else if ySub w < 4 && d.portStalls c k then .error .stall
  else match ySub w with
    | 0 => match d.portItems c k with
      | [] => .error .stall
      | .data v :: rest => .ok ((d.setItems c k rest).regsMod c (fun r => r.vput rt v))
      | .mark m :: rest => if markKind m = markSkip then .ok (d.takeSkip c k rest) else .error (.exc excStream 2 0 0)
    | 1 => if d.portRoom c k = 0 then .error .stall else .ok (d.portPush c k (.data (old.vget rt)))
    | 2 => match d.portItems c k with
      | [] => .error .stall
      | .data _ :: _ => .error (.exc excStream 3 0 0)
      | .mark m :: rest =>
        if markKind m = markSkip then .ok (d.takeSkip c k rest)
        else .ok ((d.setItems c k rest).regsMod c (fun r => r.sput rt (BitVec.ofNat 32 m)))
    | 3 =>
      if d.portRoom c k = 0 then .error .stall
      else
        let kind := bits (yOpd w) 13 12
        let psn := kind == markEos && old.stBit stPSN
        let d := d.portPush c k (.mark (mkMark kind psn (yOpd w)))
        .ok (if psn then d.regsMod c (fun r => r.stSet stPSN false) else d)
    | 4 => .ok (d.regsMod c (fun r => r.sput rt (BitVec.ofNat 32 (min 255
        (if k < 4 then (d.portItems c k).length else d.portRoom c k)))))
    | _ => .ok (d.regsMod c (fun r => r.sput rt (match d.portItems c k with
        | [] => 4 | .data _ :: _ => 0 | .mark m :: _ => BitVec.ofNat 32 (markKind m + 1))))

/-! ## Control registers (R83, Table YI-12) -/

/-- Whether a control register may be read and written in a mode. Table YI-12 has no column for Machine mode: the model
gives it Supervisor's access, a DESIGN CHOICE (log entry 116). -/
def cregPerm (mode r : Nat) : Bool × Bool :=
  if r == 0x18 then (mode == 3, mode == 3)
  else if mode = 0 then (!(r == 5 || r == 0x14), r == 0 || r == 0x20 || r == 0x21)
  else (true, !(r == 0x31 || r == 0x40 || r == 0x41 || r == 0x60))

/-- Bits of a control register that hold a value. -/
def cregMask (r : Nat) : BitVec 32 :=
  match r with
  | 1 => 0x81FF00FF#32 | 4 => 0x0000FFFF#32 | 0x10 => 0x00000FFF#32 | 0x51 => 0x00000FFF#32 | 0x18 => 0x0000000F#32
  | _ => 0xFFFFFFFF#32

/-- Read a control register; PIPE_WDOG_CNT and PIPE_CYCLE count cycles, which the model leaves free (log entry 10). -/
def Dev.cregRead (d : Dev) (c r : Nat) : BitVec 32 × Dev :=
  let regs := (d.core c).regs
  if r = 0x60 then (corePlace c, d)
  else if r = 0x13 then (BitVec.ofNat 32 (d.well (wellOf c)).codeLim, d)
  else if r = 0x40 || r = 0x41 then (BitVec.ofNat 32 (d.fresh 32), d.used)
  else if r = 0x31 then (BitVec.ofNat 32 (d.fresh 32 % ((regs.crget 0x31).toNat + 1)), d.used)
  else (regs.crget r, d)

/-- RW bits and W1C bits of PIPE_STATUS in a mode: IE and RMODE are out of reach of Task mode. -/
def statusRw (mode : Nat) : BitVec 32 := if mode = 0 then 0 else 0x02300000#32
def statusW1c : BitVec 32 := 0x14000000#32

/-- Write a control register by CWR (1), CSET (2) or CCLR (3): CSET and CCLR act on the bits that are 1 in the operand,
and a W1C flag is cleared by CWR and CCLR. The fields of PIPE_CAUSE are read-only: a write of it has no effect (R12, R83). -/
def Regs.cregWrite (r : Regs) (fn reg : Nat) (v : BitVec 32) : Regs :=
  let old := r.crget reg
  if reg = 0 then
    let rw := statusRw r.mode
    let body := match fn with
      | 1 => (old &&& ~~~rw) ||| (v &&& rw) | 2 => old ||| (v &&& rw) | _ => old &&& ~~~(v &&& rw)
    r.crput 0 (if fn = 2 then body else body &&& ~~~(v &&& statusW1c))
  else if reg = 1 then r
  else
    let m := cregMask reg
    r.crput reg (m &&& (match fn with | 1 => v | 2 => old ||| v | _ => old &&& ~~~v))

def Dev.semCrd (d : Dev) (c w : Nat) (old : Regs) : Except Stop Dev :=
  if !(cregPerm old.mode (yCreg w)).1 then .error (.exc excPrivileged 0 0 0)
  else
    let (v, d) := d.cregRead c (yCreg w)
    .ok (d.regsMod c (fun r => r.sput (yRd w) v))

def Dev.semCwr (d : Dev) (c w : Nat) (old : Regs) : Except Stop Dev :=
  if !(cregPerm old.mode (yCreg w)).2 then .error (.exc excPrivileged 0 0 0)
  else .ok (d.regsMod c (fun r => r.cregWrite (yFn4 w) (yCreg w) (old.sget (yRs1 w))))

/-! ## Branches and loops (R68, R77) -/

/-- A branch condition over a scalar register. -/
def bccTaken (cond : Nat) (v : BitVec 32) : Bool :=
  match cond with
  | 0 => v == 0 | 1 => v != 0 | 2 => decide (v.toInt < 0) | 3 => decide (0 ≤ v.toInt) | 4 => decide (0 < v.toInt)
  | 5 => decide (v.toInt ≤ 0) | _ => true

/-- A branch condition over a predicate register. -/
def bpTaken (cond : Nat) (v : BitVec 32) : Bool :=
  match cond with
  | 0 => v != 0 | 1 => v == 0 | 2 => v == BitVec.allOnes 32 | _ => v != BitVec.allOnes 32

def brTarget (pc : BitVec 48) (off : Int) : BitVec 48 := pc + BitVec.ofInt 48 (8 * off)

/-- The target of a taken branch or jump of a syllable. -/
def target (old : Regs) (w : Nat) : Option (BitVec 48) :=
  match yMajor w with
  | 1 => if bccTaken (yCond w) (old.sget (yBRs w)) then some (brTarget old.pc (yOff18 w)) else none
  | 2 => if bpTaken (yCond w) (old.pget (yBPn w)) then some (brTarget old.pc (yOff18 w)) else none
  | 3 => some (brTarget old.pc (yOff26 w))
  | 5 => if yFn6 w = 0x1B || yFn6 w = 0x1C then
      some (bundlePc (old.sget (yRs1 w))) else none
  | _ => none

def armedBit (n : Nat) : Nat := if n = 0 then stL0A else stL1A
def Regs.loopStart (r : Regs) (n : Nat) : Nat := (r.crget (0x22 + 2 * n)).toNat
def Regs.loopEnd (r : Regs) (n : Nat) : Nat := (r.crget (0x23 + 2 * n)).toNat

/-- LOOP n: arm the loop with its count, or skip the body when the count is 0 (R77). -/
def semLoop (w : Nat) (old new : Regs) : Regs × Option (BitVec 48) :=
  let n := yLoopN w
  let cnt := old.sget (yLoopRs w)
  let first := old.pc + 8
  if cnt = 0 then (new.stSet (armedBit n) false, some (first + BitVec.ofNat 48 (8 * yLoopLen w)))
  else
    let r := new.crput (0x20 + n) cnt
    let r := r.crput (0x22 + 2 * n) (first.truncate 32)
    let r := r.crput (0x23 + 2 * n) ((first + BitVec.ofNat 48 (8 * (yLoopLen w - 1))).truncate 32)
    (r.stSet (armedBit n) true, none)

/-- Disarm the loops whose body does not hold the target of a taken branch (R77). -/
def Regs.leave (r : Regs) (t : BitVec 48) : Regs :=
  let out := fun n => t.toNat < r.loopStart n || r.loopEnd n < t.toNat
  let r := if out 0 then r.stSet stL0A false else r
  if out 1 then r.stSet stL1A false else r

/-- Test the end of loop n: none when the bundle does not end it; the count falls, and control returns to the start
until it is spent (R77). -/
def Regs.loopBack (r : Regs) (pc : BitVec 48) (n : Nat) : Regs × Bool :=
  if r.stBit (armedBit n) && pc.toNat % 4294967296 == r.loopEnd n then
    let cnt := r.crget (0x20 + n) - 1
    let r := r.crput (0x20 + n) cnt
    if cnt = 0 then (r.stSet (armedBit n) false, false)
    else ({ r with pc := bundlePc (r.crget (0x22 + 2 * n)) }, true)
  else (r, false)

/-- Move on from a completed bundle: a taken branch or jump, else the loop tests with loop 1 first, else the next
bundle (R77, R88). -/
def Regs.advance (r : Regs) (pc : BitVec 48) (jump skip : Option (BitVec 48)) : Regs :=
  match jump, skip with
  | some t, _ => { r.leave t with pc := t }
  | none, some t => { r with pc := t }
  | none, none =>
    let (r1, back) := r.loopBack pc 1
    if back then r1 else
      let (r0, back) := r1.loopBack pc 0
      if back then r0 else { r0 with pc := pc + 8 }

/-! ## CTL functions that act on the core (R69) -/

def Dev.isRt (d : Dev) (c : Nat) : Bool := d.coreRt c

/-- Whether a CTL function is permitted in the mode and task class; a function of another core is illegal at decode. -/
def Dev.ctlPermitted (d : Dev) (c fn : Nat) (old : Regs) : Bool :=
  match fn with
  | 6 => if isPump c then !d.isRt c else old.mode == 0
  | 10 => d.isRt c
  | 11 | 12 | 13 => old.mode == 1 || old.mode == 3
  | _ => true

/-- RESUME goes on at PIPE_EPC in the mode RMODE, which must not rise (R49). -/
def resumeOk (old : Regs) : Bool :=
  (old.mode == 3 && old.rmode == 1) || (old.mode == 1 && (old.rmode == 1 || old.rmode == 0))

def Regs.resume (r : Regs) (ie : Bool) : Regs :=
  let pc := bundlePc (r.crget 2)
  let r := r.setMode r.rmode
  let r := if ie then r.stSet stIE true else r
  { r with pc := pc }

/-! ## One bundle -/

/-- Where a lookup table of the task's stage lies in the well: the ninth table stands in for one that it covers. -/
def Dev.lutPhys (d : Dev) (c t : Nat) : Nat :=
  let w := wellOf c
  let own := match (d.curTask c).bind d.stageOf with | some s => tgetD s.luts w [] | none => []
  (d.well w).standIn (own.getD t 0)

/-- Frames of a context read the newest copy whose effect frame they have reached (R126, R128). -/
def copyFor (l : List ParamCopy) (frame : Nat) : Option ParamCopy := l.find? (fun p => p.effect ≤ frame)

/-- The bank that the dispatcher assigned to the task's strip (R112, R128). -/
def Dev.lutBank (d : Dev) (c : Nat) : Nat :=
  match d.curTask c with
  | some t => match t.strip, d.stageOf t with
    | some s, some st => match copyFor (tgetD st.params s.ctx []) s.frame with | some p => p.bank | none => 0
    | _, _ => 0
  | none => 0

def Dev.lutRead (d : Dev) (c t idx : Nat) : Nat :=
  tgetD (d.well (wellOf c)).luts ((2 * d.lutPhys c t + d.lutBank c) * 4096 + idx) 0

/-- VLUT on a table that is being copied stalls (Table PF-8). -/
def Dev.lutStalls (d : Dev) (c w : Nat) : Bool :=
  yMajor w == 23 && (match (d.well (wellOf c)).copying with | some t => t == d.lutPhys c (yRs2 w % 8) | none => false)

def Dev.nlut (d : Dev) (c : Nat) : Nat :=
  match (d.curTask c).bind d.programOf with | some p => p.nlut | none => 0

/-- Words of the bundle at the pc of a core, or none where it cannot be fetched (R51). PIPE_CODE_LIM of the pumps of a
well is the end of the well's code region (R106). -/
def Dev.fetch (d : Dev) (c : Nat) : Option (Nat × Nat) :=
  let k := d.core c
  let pc := k.regs.pc.toNat
  if isPump c then
    if pc < (d.well (wellOf c)).codeLim then some (leNat (mread k.mem pc 4), leNat (mread k.mem (pc + 4) 4)) else none
  else if k.regs.mode = 3 then
    let b := (Config.bootRom pc).toNat
    some (b % 4294967296, b / 4294967296)
  else if pc + 8 ≤ 524288 then some (leNat (mread k.fetch pc 4), leNat (mread k.fetch (pc + 4) 4))
  else none

/-- The effect of a slot-0 syllable, or of the syllable of a single bundle, beyond the advance of the pc. -/
def Dev.semSlot0 (d : Dev) (c : Nat) (op : Op) (w ext : Nat) (old : Regs) : Except Stop Dev :=
  match op with
  | .ldl => d.semLoad c w old true
  | .ldlu => d.semLoad c w old false
  | .stl => d.semStore c w old
  | .ldg => d.semLdg c w old
  | .stg => d.semStg c w old
  | .sin | .sout | .smarkr | .smarkw | .savail | .shead => d.semStrm c w old
  | .crd => d.semCrd c w old
  | .cwr | .cset | .cclr => d.semCwr c w old
  | .jal => .ok (d.regsMod c (fun r => r.sput 31 ((old.pc + 8).truncate 32)))
  | .loop => .ok (d.regsMod c (fun r => (semLoop w old r).1))
  | .yield | .halt | .skipstrip | .svc =>
    if d.ctlPermitted c (yFn4 w) old then .ok d else .error (.exc excPrivileged 0 0 0)
  | .wdkick => .ok (d.regsMod c Regs.kick)
  | .fence => if old.loads.isEmpty then .ok d else .error .stall
  | .iflush => .ok (d.coreMod c (fun k => { k with fetch := k.mem }))
  | .resume | .resumei =>
    if d.ctlPermitted c (yFn4 w) old && resumeOk old then .ok d else .error (.exc excPrivileged 0 0 0)
  | .waiti =>
    if !d.ctlPermitted c (yFn4 w) old then .error (.exc excPrivileged 0 0 0)
    else if (d.core c).irqs.isEmpty then .error .stall else .ok d
  | _ => .ok (d.regsMod c (fun r => semReg (d.lutRead c) op w ext old r))

/-- A core that can issue a bundle: a pump with a running task that is in no strip skip; a windlass core that has not
stopped. -/
def Dev.coreRuns (d : Dev) (c : Nat) : Bool :=
  let k := d.core c
  if isPump c then (match k.task with | some (_, t) => t.st == .running | none => false) && !k.regs.stBit stSKIPPING
  else !k.stopped

/-- A walk is asked for, once (R153). -/
def Dev.askWalk (d : Dev) (c va : Nat) (write : Bool) (old : Regs) : Dev :=
  let q : XlatReq := { req := coreReq c, asid := coreSpace c old, va := va, write := write }
  if d.mem.reqs.contains q then d else d.memMod (fun m => { m with reqs := m.reqs ++ [q] })

/-- A bundle does not complete. -/
def Dev.stopBundle (d : Dev) (c : Nat) (old : Regs) : Stop → Dev
  | .stall => d
  | .need va write => d.askWalk c va write old
  | .xlat va sub write => d.coreXlatFault c (coreSpace c old) va write sub
  | .exc code sub slot tval =>
    if code = excTranslation then
      (d.xlatFault (coreReq c) (d.coreRt c) false (coreSpace c old) tval sub 0).exception c
        code sub slot old.pc.toNat tval
    else d.exception c code sub slot old.pc.toNat tval

/-- What follows the bundle of a task's own end: given by the graph family. -/
abbrev Ender := Dev → Nat → Option Dev

/-- Execute a bundle whose checks have passed: slot 0, then slot 1 from the same sources, then the advance. Where slot 0
takes a SKIP, slot 1 still takes effect and the pc stays (a DESIGN CHOICE: R80 does not say; log entry 117). -/
def Dev.runBundle (d : Dev) (c : Nat) (yieldEnd haltEnd : Ender) (w0 w1 : Nat) : Dev :=
  let old := (d.core c).regs
  let paired := bit w0 31
  match opOf w0 with
  | none => d
  | some op =>
    if waitsLoad old w0 || (paired && waitsLoad old w1) || d.lutStalls c w0 || (paired && d.lutStalls c w1) then d
    else match d.semSlot0 c op w0 w1 old with
      | .error e => d.stopBundle c old e
      | .ok d1 =>
        let skipping := isPump c && (d1.core c).regs.stBit stSKIPPING
        if op = .svc then
          -- R92: a background task restarts at the bundle that follows; a windlass core enters Supervisor mode
          if isPump c then
            let d2 := d1.regsMod c (fun r => { r.setCause false excSvc (yCreg w0 % 256) 0 old.pc.toNat 0 with pc := old.pc + 8 })
            (d2.saveTask c .suspended).coresMod (fun k => { k with service := k.service ++ [c] })
          else d1.exception c excSvc (yCreg w0 % 256) 0 old.pc.toNat 0
        else if op = .resume || op = .resumei then d1.regsMod c (fun r => r.resume (op == .resumei))
        else
          let d2 := if paired then (match opOf w1 with
            | some op1 => d1.regsMod c (fun r => semReg (d.lutRead c) op1 w1 0 old r) | none => d1) else d1
          let skip := if op = .loop then (semLoop w0 old old).2 else none
          let d3 := if skipping then d2 else d2.regsMod c (fun r => r.advance old.pc (target old w0) skip)
          match op with
          | .yield => (yieldEnd d3 c).getD d
          | .halt => (haltEnd d3 c).getD d
          | .skipstrip => d3.startSkip c false 1 []
          | _ => d3

/-- The command of instruction `op` at a core: the bundle at its pc executes when one of its syllables is that
instruction. A bundle that cannot be fetched, or that names no instruction, is any instruction's (log entry 11). The
decode checks come first, slot 0 before slot 1; a slot-0 syllable that breaks R56 and LOOP_END both reports R56's subcause
(R91 orders no subcauses: log entry 118). -/
def Dev.bundle (d : Dev) (c : Nat) (op : Op) (yieldEnd haltEnd : Ender) : Dev :=
  if !d.coreRuns c then d else
    let old := (d.core c).regs
    let pc := old.pc.toNat
    match d.fetch c with
    | none => d.stopBundle c old (.exc excTranslation subLocalRange 0 pc)
    | some (w0, w1) =>
      let ops := if bit w0 31 then [opOf w0, opOf w1] else [opOf w0]
      if !(ops.contains (some op) || (opOf w0).isNone) then d
      else
        let last := fun n => old.stBit (armedBit n) && pc % 4294967296 == old.loopEnd n
        let endBad := (last 0 || last 1) && loopEndBad w0
        match illegalSlot (isPump c) (d.nlut c) w0 w1 with
        | some slot => if slot != 0 && endBad then d.exception c excIllegal 1 0 pc 0 else d.exception c excIllegal 0 slot pc 0
        | none =>
          if endBad then d.exception c excIllegal 1 0 pc 0
          else d.runBundle c yieldEnd haltEnd w0 w1

/-! ## Events of a core -/

/-- Where an outstanding load reads: the translation as it is now, for a repeated load too (R99). -/
def Dev.loadPhys (d : Dev) (l : Load) : Option Nat :=
  match l.space with | none => some l.va | some asid => d.phys asid l.va

/-- Data of an outstanding global load return: poisoned data zero the destination and set PSN (R75). A load whose page is
gone returns zeros and sets PSN too, and raises nothing: R99 does not say (DESIGN CHOICE, log entry 119). -/
def globalLoadReturn (c i : Nat) (d : Dev) : Dev :=
  let r := (d.core c).regs
  match r.loads[i]? with
  | none => d
  | some l =>
    -- accesses of one core to the same bytes take effect in program order (R74)
    if l.done || (r.loads.take i).any (fun e => !e.done && overlap e.va (sizeBytes e.sz) l.va (sizeBytes l.sz)) then d else
      let n := sizeBytes l.sz
      let phys := d.loadPhys l
      let bad := match phys with | some pa => d.poisoned pa | none => true
      let bs := if bad then zeros n else match phys with
        | some pa => (List.range n).map (fun j => d.physByte (pa + j)) | none => zeros n
      let d := match phys with | some pa => d.badPhys (coreReq c) pa | none => d
      (d.regsMod c (fun r =>
        let r := r.loadPut l.rt l.sz l.signed bs
        let r := if bad then r.stSet stPSN true else r
        { r with loads := (r.loads.modify i (fun l => { l with done := true })).dropWhile (·.done) })).used

/-- The watchdog count of a core that runs or stalls reaches 0 (R93): taken between bundles, PIPE_EPC naming the next
bundle (R90). A limit of 0 disables it. -/
def watchdog (c : Nat) (d : Dev) : Dev :=
  let k := d.core c
  let live := if isPump c then k.cur.isSome else !k.stopped
  if live && k.regs.crget 0x30 != 0 then
    (d.regsMod c Regs.kick).exception c excWatchdog 0 0 k.regs.pc.toNat 0 else d

/-- An interrupt source becomes pending on a windlass core, or a pending one is taken: with IE set, in Task or
Supervisor mode, between bundles (R49, R89, R90). One that ends a WAITI is taken before the WAITI completes, so that
PIPE_EPC names the WAITI: a DESIGN CHOICE, log entry 120. -/
def windlassInterrupt (k : Nat) (source : Option Nat) (d : Dev) : Dev :=
  let c := 80 + k
  let d := match source with
    | some s => d.coreMod c (fun k => { k with irqs := k.irqs ++ [s] })
    | none => d
  let core := d.core c
  match core.irqs with
  | [] => d
  | s :: rest =>
    if core.regs.stBit stIE && core.regs.mode != 3 && !core.stopped then
      (d.coreMod c (fun k => { k with irqs := rest })).exception c excInterrupt (s % 256) 0 core.regs.pc.toNat 0
    else d

end Sys2Proof.Machine
end

