-- ==== Sys2Proof/Machine/Colour.lean ====
section
/-!
DEFINITION. The arithmetic of the Luzomal colour library and of the pilot path: linearisation, exposure merging, black
level, demosaic, white balance and matrix, shaper, cube and output curves, and the library line formats (R237 to R260).
-/
set_option autoImplicit false

namespace Sys2Proof.Machine

/-! ## Positions (R238, R239) -/

/-- Mirror a position into 0 … n−1 (R239). -/
def mirror (n : Nat) (x : Int) : Nat :=
  (if x < 0 then -x else if (n : Int) ≤ x then 2 * ((n : Int) - 1) - x else x).toNat

/-- Position phase φ (R238). -/
def phase (x y : Nat) : Nat := 2 * (y % 2) + x % 2

/-- Colour at a phase, 0 R, 1 G, 2 B (Table RP-1). -/
def cfaColour (cfa φ : Nat) : Nat := (([[0, 1, 1, 2], [1, 0, 2, 1], [1, 2, 0, 1], [2, 1, 1, 0]] : List (List Nat)).getD cfa []).getD φ 1

/-! ## Front block (Tables RP-3 and RP-7: the same offsets) -/

def fbCfa (b : List Byte) : Nat := field b 2 1
def fbObTrack (b : List Byte) : Bool := bit (field b 3 1) 0
def fbG (b : List Byte) (e : Nat) : Nat := field b (0x04 + 2 * e) 2
def fbKlo (b : List Byte) (e : Nat) : Nat := field b (0x0A + 2 * e) 2
def fbKhi (b : List Byte) (e : Nat) : Nat := field b (0x0E + 2 * e) 2
def fbRcp (b : List Byte) (e : Nat) : Nat := field b (0x12 + 2 * e) 2
def fbObK (b : List Byte) : Nat := field b 0x16 1
def fbB (b : List Byte) (φ : Nat) : Int := sext 16 (field b (0x18 + 2 * φ) 2)
def fbN (b : List Byte) (φ : Nat) : Nat := field b (0x20 + 2 * φ) 2
def fbObRows (b : List Byte) : Nat := field b 0x28 2
def fbObCol0 (b : List Byte) : Nat := field b 0x2A 2
def fbObCols (b : List Byte) : Nat := field b 0x2C 2

/-- A frame of mosaic samples: exposure, x, y. -/
abbrev Mosaic := Nat → Nat → Nat → Nat

/-- Linearisation (R244). -/
def linearise (lut : Nat → Nat → Nat) (depth e x : Nat) : Nat := vluti (lut e) (x * 2 ^ (16 - depth) % 65536)

/-- The weight with which exposure e hands over (R245). -/
def mergeWeight (b : List Byte) (e l : Nat) : Int :=
  if l ≤ fbKlo b e then 0 else if fbKhi b e ≤ l then 4096
  else min 4096 (((l - fbKlo b e) * fbRcp b e / 256 : Nat) : Int)

/-- Merging of the exposures of a position (R245): from the shortest exposure to exposure 0. -/
def merge (b : List Byte) (nexp : Nat) (l : Nat → Nat) : Int :=
  let s := fun e => sat16u (rshr ((l e : Int) * fbG b e) 12)
  (List.range (nexp - 1)).reverse.foldl (fun m e => s e + rshr ((m - s e) * mergeWeight b e (l e)) 12) (s (nexp - 1))

/-- m of a position of a frame (R244, R245). -/
def frontM (b : List Byte) (lut : Nat → Nat → Nat) (nexp depth : Nat) (f : Mosaic) (x y : Nat) : Int :=
  merge b nexp (fun e => linearise lut depth e (f e x y))

/-- Front value v (R246) with the black level B_φ that the frame uses. -/
def frontV (b : List Byte) (lut : Nat → Nat → Nat) (nexp depth : Nat) (f : Mosaic) (black : Nat → Int) (x y : Nat) : Int :=
  let φ := phase x y
  sat16u (rshr ((frontM b lut nexp depth f x y - black φ) * fbN b φ) 14)

/-! ## Demosaic (R249, R259) -/

/-- Green at a red or blue site from the mirrored front values (R249). -/
def greenAt (edge : Nat) (P : Int → Int → Int) (x y : Int) : Int :=
  let c := P x y
  let gw := P (x - 1) y
  let ge := P (x + 1) y
  let gn := P x (y - 1)
  let gs := P x (y + 1)
  let cw := P (x - 2) y
  let ce := P (x + 2) y
  let cn := P x (y - 2)
  let cs := P x (y + 2)
  let dH : Int := (gw - ge).natAbs + (2 * c - cw - ce).natAbs
  let dV : Int := (gn - gs).natAbs + (2 * c - cn - cs).natAbs
  let hH := sat16u (rshr (2 * (gw + ge) + 2 * c - cw - ce) 2)
  let hV := sat16u (rshr (2 * (gn + gs) + 2 * c - cn - cs) 2)
  if dH * edge < dV * 16 then hH else if dV * edge < dH * 16 then hV else rshr (hH + hV) 1

/-- The pilot path's green (R259). -/
def pilotGreen (P : Int → Int → Int) (x y : Int) : Int :=
  let gw := P (x - 1) y
  let ge := P (x + 1) y
  let gn := P x (y - 1)
  let gs := P x (y + 1)
  if (gw - ge).natAbs < (gn - gs).natAbs then rshr (gw + ge) 1
  else if (gn - gs).natAbs < (gw - ge).natAbs then rshr (gn + gs) 1
  else rshr (gw + ge + gn + gs) 2

/-- R, G and B at a position (R249); `green` gives the green at a red or blue site. -/
def demosaicAt (cfa w h : Nat) (green : (Int → Int → Int) → Int → Int → Int) (v : Nat → Nat → Int) (x y : Nat) : Nat → Int :=
  let P : Int → Int → Int := fun i j => v (mirror w i) (mirror h j)
  let col : Int → Int → Nat := fun i j => cfaColour cfa (phase (mirror w i) (mirror h j))
  let gt : Int → Int → Int := fun i j => if col i j = 1 then P i j else green P i j
  let x : Int := x
  let y : Int := y
  let k := col x y
  if k = 1 then
    let g := P x y
    let hor := sat16u (g + rshr (P (x - 1) y - gt (x - 1) y + P (x + 1) y - gt (x + 1) y) 1)
    let ver := sat16u (g + rshr (P x (y - 1) - gt x (y - 1) + P x (y + 1) - gt x (y + 1)) 1)
    let kh := col (x + 1) y
    fun ch => if ch = 1 then g else if ch = kh then hor else ver
  else
    let g := green P x y
    let diff := fun (i j : Int) => P i j - gt i j
    let s := diff (x - 1) (y - 1) + diff (x + 1) (y - 1) + diff (x - 1) (y + 1) + diff (x + 1) (y + 1)
    let o := sat16u (g + rshr s 2)
    fun ch => if ch = 1 then g else if ch = k then P x y else o

/-! ## White balance and matrix (R251) -/

/-- The matrix step with coefficients and offsets at two places of a block. -/
def matrixStep (b : List Byte) (mOff oOff : Nat) (x : Nat → Int) (k : Nat) : Int :=
  let m := fun i => sext 16 (field b (mOff + 2 * (3 * k + i)) 2)
  sat16u (rshr (sext 16 (field b (oOff + 2 * k) 2) * 8192 + m 0 * x 0 + m 1 * x 1 + m 2 * x 2) 13)

/-- LZL_BALANCE at one pixel (Table RP-5). -/
def balancePx (b : List Byte) (x : Nat → Int) : Nat → Int :=
  let wb := fun c => sat16u (rshr (x c * field b (0x04 + 2 * c) 2) 12)
  matrixStep b 0x0C 0x1E wb

/-! ## Look (R252 to R254) -/

/-- Channel k of a node of the cube (R253). -/
def node (cube : List Byte) (ir ig ib k : Nat) : Int := field cube (6 * ((ir * 33 + ig) * 33 + ib) + 2 * k) 2

/-- Tetrahedral interpolation in the cube, channel k (R253). -/
def cubeAt (cube : List Byte) (r g b k : Nat) : Int :=
  let V := fun (a i j : Nat) => node cube (r / 2048 + a) (g / 2048 + i) (b / 2048 + j) k
  let fr : Int := (r % 2048 : Nat)
  let fg : Int := (g % 2048 : Nat)
  let fb : Int := (b % 2048 : Nat)
  let d : Int :=
    if fg ≤ fr then
      if fb ≤ fg then (V 1 0 0 - V 0 0 0) * fr + (V 1 1 0 - V 1 0 0) * fg + (V 1 1 1 - V 1 1 0) * fb
      else if fb ≤ fr then (V 1 0 0 - V 0 0 0) * fr + (V 1 0 1 - V 1 0 0) * fb + (V 1 1 1 - V 1 0 1) * fg
      else (V 0 0 1 - V 0 0 0) * fb + (V 1 0 1 - V 0 0 1) * fr + (V 1 1 1 - V 1 0 1) * fg
    else
      if fb ≤ fr then (V 0 1 0 - V 0 0 0) * fg + (V 1 1 0 - V 0 1 0) * fr + (V 1 1 1 - V 1 1 0) * fb
      else if fb ≤ fg then (V 0 1 0 - V 0 0 0) * fg + (V 0 1 1 - V 0 1 0) * fb + (V 1 1 1 - V 0 1 1) * fr
      else (V 0 0 1 - V 0 0 0) * fb + (V 0 1 1 - V 0 0 1) * fg + (V 1 1 1 - V 0 1 1) * fr
  sat16u (V 0 0 0 + rshr d 11)

/-- LZL_LOOK at one pixel: shaper, cube and output curve, each unless its FLAGS bit bypasses it (R252, Table RP-6). -/
def lookPx (b cube : List Byte) (lut : Nat → Nat → Nat) (x : Nat → Int) : Nat → Int :=
  let flags := field b 2 1
  let s := fun c => if bit flags 0 then (x c).toNat else vluti (lut c) (x c).toNat
  let t := fun c => if bit flags 1 then s c else (cubeAt cube (s 0) (s 1) (s 2) c).toNat
  fun c => if bit flags 2 then t c else vluti (lut (3 + c)) (t c)

/-- The identity cube that binding writes (R255). -/
def identityCube : List Byte :=
  (List.range 33).flatMap (fun ir => (List.range 33).flatMap (fun ig => (List.range 33).flatMap (fun ib =>
    le 2 (min (2048 * ir) 65535) ++ le 2 (min (2048 * ig) 65535) ++ le 2 (min (2048 * ib) 65535)))) ++ zeros 58

/-! ## Pilot path (R259, R260) -/

/-- Tables of a pilot block (Table RP-7). -/
def plLin (b : List Byte) (e i : Nat) : Nat := field b (0x100 + 8192 * e + 2 * i) 2
def plCurve (b : List Byte) (c i : Nat) : Nat := field b (0x6100 + 8192 * c + 2 * i) 2
def plBin2 (b : List Byte) : Bool := bit (field b 3 1) 0

/-- Steps 3 and 4 of R259. -/
def pilotColour (b : List Byte) (x : Nat → Int) (c : Nat) : Nat :=
  vluti (plCurve b c) (matrixStep b 0x28 0x3A x c).toNat

/-- The pilot path at one position of a frame (R259), or of a binned frame (R260). -/
def pilotPx (b : List Byte) (bin2 : Bool) (nexp depth w h : Nat) (f : Mosaic) (x y : Nat) : Nat → Nat :=
  let v := frontV b (plLin b) nexp depth f (fbB b)
  if bin2 then
    let P := fun (i j : Nat) => v (mirror w i) (mirror h j)
    let x0 := x / 2 * 2
    let y0 := y / 2 * 2
    let quad := [(x0, y0), (x0 + 1, y0), (x0, y0 + 1), (x0 + 1, y0 + 1)]
    let at' := fun ch => (quad.filter (fun q => cfaColour (fbCfa b) (phase q.1 q.2) == ch)).map (fun q => P q.1 q.2)
    let rgb : Nat → Int := fun ch => if ch = 1 then rshr (at' 1).sum 1 else (at' ch).sum
    pilotColour b rgb
  else pilotColour b (demosaicAt (fbCfa b) w h pilotGreen v x y)

/-! ## Line formats (R243) -/

/-- A run of samples, little-endian, padded with zeros to whole items of 32 samples. -/
def runBytes (l : List Nat) : List Byte := l.flatMap (fun s => le 2 s) ++ zeros ((roundUp l.length 32 - l.length) * 2)

/-- An RGB16L line of W pixels. -/
def rgbLine (w : Nat) (px : Nat → Nat → Nat) : List Byte :=
  (List.range 3).flatMap (fun c => runBytes ((List.range w).map (fun x => px x c)))

/-- Bytes of an RGB16L line. -/
def rgbPitch (w : Nat) : Nat := 3 * roundUp w 32 * 2

/-- The 64-byte words of a byte string. -/
def words64 (b : List Byte) : Nat → List (BitVec 512)
  | 0 => []
  | n + 1 => BitVec.ofNat 512 (leNat (b.take 64)) :: words64 (b.drop 64) n

def itemWords (b : List Byte) : List (BitVec 512) := words64 b ((b.length + 63) / 64)

/-- Sample i of channel c in a line of RGB16L items. -/
def rgbSample (w : Nat) (line : List Byte) (x c : Nat) : Nat := field line (2 * (roundUp w 32 * c + x)) 2

/-- The lines of a strip's items: bytes between EOL markers. -/
def itemLines : List Item → List Byte → List (List Byte)
  | [], _ => []
  | .data v :: l, acc => itemLines l (acc ++ le 64 v.toNat)
  | .mark m :: l, acc => if markKind m = 0 then acc :: itemLines l [] else []

/-- Replace the data words of a strip's items in order, leaving its markers. -/
def replaceData : List Item → List (BitVec 512) → List Item
  | [], _ => []
  | .mark m :: l, ws => .mark m :: replaceData l ws
  | .data v :: l, [] => .data v :: replaceData l []
  | .data _ :: l, w :: ws => .data w :: replaceData l ws

/-! ## Black tracking (R248) -/

/-- The tracked black level that frame n uses: T after the updates of frames f to n − 2 (R248). -/
def ParamCopy.black (p : ParamCopy) (n : Nat) (φ : Nat) : Int :=
  (p.ob.filter (fun h => h.1 + 2 ≤ n)).foldr (fun h t => sat16s (t + rshr (h.2.getD φ 0 - t) (fbObK p.block))) (fbB p.block φ)

/-- mean_φ of m over the optical black area (R248). -/
def obMean (b : List Byte) (m : Nat → Nat → Int) (φ : Nat) : Int :=
  let ps := (List.range (fbObRows b)).flatMap (fun y => (List.range (fbObCols b)).map (fun i => (fbObCol0 b + i, y)))
  let own := ps.filter (fun p => phase p.1 p.2 == φ)
  (own.map (fun p => m p.1 p.2)).sum / (own.length : Int)

/-! ## Checks of parameter blocks (R247, R250, R257, R262) -/

def frontOk (b : List Byte) : Bool :=
  field b 0 2 == 1 && fbCfa b < 4 && fbKlo b 0 + 17 ≤ fbKhi b 0 && fbKlo b 1 + 17 ≤ fbKhi b 1

def obOk (b : List Byte) : Bool :=
  field b 3 1 < 2 && fbObK b < 8 && field b 0x17 1 == 0 && fbObRows b % 2 == 0 && fbObRows b ≤ 64 && fbObCol0 b % 2 == 0
    && fbObCols b % 2 == 0 && 2 ≤ fbObCols b && fbObCols b ≤ 32760 && allZero b 0x2E 18

def lzFrontOk (b : List Byte) : Bool := frontOk b && obOk b && allZero b 0x40 64
def lzDevelopOk (b : List Byte) : Bool :=
  frontOk b && obOk b && 16 ≤ field b 0x40 1 && field b 0x40 1 ≤ 64 && allZero b 0x41 63
def lzBalanceOk (b : List Byte) : Bool :=
  field b 0 2 == 1 && allZero b 2 2 && allZero b 0x0A 2 && allZero b 0x24 28
def lzLookOk (b : List Byte) : Bool :=
  field b 0 2 == 1 && field b 2 1 < 16 && field b 3 1 < 4 && allZero b 4 4 && field b 8 8 % 64 == 0 && allZero b 0x10 48
def pilotOk (b : List Byte) : Bool :=
  b.length == 49408 && frontOk b && field b 3 1 < 2 && field b 0x16 2 == 0 && field b 0x40 1 < 4 && allZero b 0x41 191

/-! ## Library images (Table RP-2) -/

inductive Lib where
  | front | develop | balance | look
  deriving DecidableEq, Repr

def ascii (l : List Nat) : List Byte := padTo 16 (l.map (BitVec.ofNat 8))
def nameFront : List Byte := ascii [76, 90, 76, 95, 70, 82, 79, 78, 84]
def nameDevelop : List Byte := ascii [76, 90, 76, 95, 68, 69, 86, 69, 76, 79, 80]
def nameBalance : List Byte := ascii [76, 90, 76, 95, 66, 65, 76, 65, 78, 67, 69]
def nameLook : List Byte := ascii [76, 90, 76, 95, 76, 79, 79, 75]

/-- The library image that a program is, when LIBRARY is set and VERSION has 0x0001 in [31:16] (R241). -/
def Program.lib (p : Program) : Option Lib :=
  if !bit p.flags 2 || p.version / 65536 != 1 then none
  else if p.name = nameFront then some .front else if p.name = nameDevelop then some .develop
  else if p.name = nameBalance then some .balance else if p.name = nameLook then some .look else none

end Sys2Proof.Machine
end

