-- ==== Sys2Proof/Machine/GraphOps.lean ====
section
/-!
DEFINITION. Strips, channels, parameter copies and ingest rows: the operations that the graph commands and the
dispatchers share (R105 to R139, R216 to R221).
-/
set_option autoImplicit false

namespace Sys2Proof.Machine

/-- An entry of a completion's list: 64 bytes, each number in 8 bytes (R364). The spec does not lay the entries out. -/
def listEntry (ws : List Nat) : List Byte := padTo 64 (ws.flatMap (fun w => le 8 w))

/-! ## Ingest contexts -/

def Dev.ing (d : Dev) (i : Nat) : Ingest := tgetD d.sns.ctxs i {}
def Dev.ingMod (d : Dev) (i : Nat) (f : Ingest → Ingest) : Dev :=
  { d with sns := { d.sns with ctxs := tmod d.sns.ctxs i {} f } }

/-- Change the frame record of a frame, open or final: RAWLOST reaches it whenever it becomes known (R215; log entry 129). -/
def Dev.recMod (d : Dev) (i frame : Nat) (f : FrameRec → FrameRec) : Dev :=
  d.ingMod i (fun g => { g with
    cur := g.cur.map (fun r => if r.frame = frame then f r else r),
    recs := g.recs.map (fun r => if r.frame = frame then f r else r) })

/-- Change the frame record of a frame while it is open (R217). -/
def Dev.openMod (d : Dev) (i frame : Nat) (f : FrameRec → FrameRec) : Dev :=
  d.ingMod i (fun g => { g with cur := g.cur.map (fun r => if r.frame = frame then f r else r) })

def Dev.frameRec (d : Dev) (i frame : Nat) : Option FrameRec :=
  let g := d.ing i
  (g.cur.toList ++ g.recs).find? (fun r => r.frame == frame)

/-- Mark bits of Table SI-3. -/
def mCheck : Nat := 1
def mShort : Nat := 2
def mLong : Nat := 4
def mOverflow : Nat := 8
def mStale : Nat := 16
def mCal : Nat := 32
def mSkipped : Nat := 64
def mPilot : Nat := 128
def mGenlock : Nat := 256
def mRawlost : Nat := 512

def FrameRec.mark (r : FrameRec) (m : Nat) : FrameRec := { r with marks := r.marks ||| m }

/-- Rows in the ingest buffer, shown in SNS_OCC (R219, R236). -/
def Dev.showOcc (d : Dev) (i : Nat) : Dev :=
  let n := (d.ing i).rows.length
  (d.fset (fSnsOccLevel i) n).fset (fSnsOccWorst i) (max (d.fget (fSnsOccWorst i)) n)

/-- The ingest context that feeds a graph's context (Table GS-4). -/
def Graph.ingestOf (g : Graph) (ctx : Nat) : Option Nat :=
  if g.source = 0 then some 0 else if g.source = 1 then some (1 + ctx) else none

/-! ## Strip geometry (R115) -/

def Graph.spanW (g : Graph) (w : Nat) : Nat := roundUp ((w + g.nspan - 1) / g.nspan) 2
def Graph.bands (g : Graph) (h : Nat) : Nat := (h + g.stripH - 1) / g.stripH
def Graph.nstrips (g : Graph) (h : Nat) : Nat := g.bands h * g.nspan

/-- First line, lines, first pixel and width of strip n. -/
def Graph.strip (g : Graph) (w h n : Nat) : Nat × Nat × Nat × Nat :=
  let l0 := n / g.nspan * g.stripH
  let p0 := n % g.nspan * g.spanW w
  (l0, min g.stripH (h - l0), p0, min (g.spanW w) (w - p0))

/-- Lines of a strip's input area: first and one past the last (R115). -/
def Graph.inputLines (g : Graph) (h n : Nat) : Nat × Nat :=
  let l0 := n / g.nspan * g.stripH
  (l0 - g.apronY, min h (l0 + min g.stripH (h - l0) + g.apronY))

/-- Cost of a strip in pump cycles (R122). -/
def Program.cost (p : Program) (lines width : Nat) : Nat := p.cycFixed + (p.cycPerK * lines * width + 1023) / 1024

/-- ITEMS of a slot for an out-port (R110). -/
def slotItems (lines width ipk : Nat) : Nat := lines * ((roundUp width 32 * ipk + 1023) / 1024 + 1) + 1

def stripKey (stage n : Nat) : Nat := stage * 4096 + n

/-- A strip has ended at a stage. -/
def StripSt.ended : StripSt → Bool
  | .running _ => false
  | _ => true

/-- Every strip of a frame has finished at a stage. -/
def Graph.stageDone (g : Graph) (m : Nat) (f : GFrame) : Bool :=
  (List.range (g.nstrips f.height)).all (fun n => ((tget f.strips (stripKey m n)).map StripSt.ended).getD false)

/-- Every strip of a frame has finished at every real-time stage. -/
def Graph.frameDone (g : Graph) (f : GFrame) : Bool :=
  (List.range g.stages.length).all (fun m => !((g.stage m).map (·.rt)).getD false || g.stageDone m f)

/-- A graph has not stopped. -/
def Graph.runs (g : Graph) : Bool := g.st == .armed || g.st == .draining || g.st == .cutting

/-- Stages fed by a SOURCE channel. -/
def Graph.sourceStages (g : Graph) : List Nat :=
  (List.range g.stages.length).filter (fun m => g.chans.any (fun c => c.kind == 1 && c.cons == m))

/-- Depth of a stage from the source, by the longest chain of channels. -/
def Graph.depth (g : Graph) : Nat → Nat → Nat
  | 0, _ => 0
  | fuel + 1, m => ((g.chans.filter (fun c => c.kind == 0 && c.cons == m)).map (fun c => g.depth fuel c.prod + 1)).foldl max 1

/-- Mark a strip ended at every stage (R132: every stage counts a shed or covered strip as done). -/
def Graph.endAll (g : Graph) (f : GFrame) (n : Nat) (st : StripSt) : GFrame :=
  { f with strips := (List.range g.stages.length).foldl (fun t m => tput t (stripKey m n) st) f.strips }

/-! ## Freeing of ingest rows (R133) -/

/-- The rows of a frame that strips of a graph still need at its source stages. -/
def Graph.needsRow (g : Graph) (frame row : Nat) : Bool :=
  g.frames.any (fun f => f.frame == frame && (List.range (g.nstrips f.height)).any (fun n =>
    let (a, b) := g.inputLines f.height n
    a ≤ row && row < b && g.sourceStages.any (fun m => !((tget f.strips (stripKey m n)).map StripSt.ended).getD false)))

/-- Graphs that take their frames from an ingest context, with their context. -/
def Dev.fedBy (d : Dev) (i : Nat) : List (Nat × Graph × Nat) :=
  d.cores.graphs.filterMap (fun e =>
    if e.2.st = .armed || e.2.st = .draining then
      if e.2.source = 0 && i = 0 then some (e.1, e.2, 0)
      else if e.2.source = 1 && 1 ≤ i && i - 1 < e.2.nctx then some (e.1, e.2, i - 1) else none
    else none)

/-- A frame that a stopping graph has left to the pilot path, where FALLBACK is set (R265). -/
def Dev.spilled (d : Dev) (e : Nat × Graph × Nat) (i frame : Nat) : Bool :=
  e.2.1.st = .draining && bit (d.fget fPipePltCtlFallback) i
    && (match tget e.2.1.spill e.2.2 with | some n => n ≤ frame | none => false)

/-- Some graph or the pilot path still needs a row (R133). The pilot path needs two rows above a row it writes (R259). -/
def Dev.rowNeeded (d : Dev) (i frame row : Nat) : Bool :=
  (d.fedBy i).any (fun e => ({ e.2.1 with frames := e.2.1.frames.filter (fun f => f.ctx == e.2.2) }).needsRow frame row
      || d.spilled e i frame)
    || (match d.sns.pilot.service with
        | some s => s.ctx == i && s.frames.any (fun f => f.frame == frame && !f.failed && f.row ≤ row + 2)
        | none => false)
    || (match d.sns.pilot.cover with
        | some (g, s) => (match d.graph g with
          | some gr => gr.ingestOf s.ctx == some i && s.frame == frame && (match gr.frame s.ctx s.frame with
              | some f => (let (l0, ls, _, _) := gr.strip f.width f.height s.strip
                           l0 ≤ row + 2 && row < l0 + ls + 2)
              | none => false)
          | none => false)
        | none => false)

/-! ## Pilot path (R262 to R264) -/

def Dev.pilotMod (d : Dev) (f : Pilot → Pilot) : Dev := { d with sns := { d.sns with pilot := f d.sns.pilot } }

/-- The pilot block that applied at the start of a frame: of the three copies, the newest not after it (R262). -/
def Dev.pilotBlock (d : Dev) (i frame : Nat) : Option (List Byte) :=
  ((tgetD d.sns.pilot.blocks i []).find? (fun e => e.1 ≤ frame)).map (·.2)

/-- The pilot path as it stands outside service: armed for a graph, or idle. -/
def Dev.showPilot (d : Dev) : Dev :=
  let st := d.fget fPipePltCtlState
  let p := d.sns.pilot
  let d := d.fset fPipePltCtlState (if st = 3 then 3 else if p.service.isSome then 1 else if p.armed.isSome then 2 else 0)
  if p.service.isNone && p.cover.isNone then (d.fset fPipePltCtlCtx 7).fset fPipePltCtlBin2 0 else d

/-- Service ends once its last frame is over: at a STOP (R268), or before a graph's first frame (R264). -/
def Dev.pilotSettle (d : Dev) : Dev :=
  match d.sns.pilot.service with
  | none => d
  | some s =>
    if !s.frames.isEmpty || (s.stops.isEmpty && s.handTo.isNone) then d
    else
      let cover := s.handTo.filter (fun h => match d.graph h with | some g => bit g.flags 0 && g.st = .armed | none => false)
      let d := ((d.pilotMod (fun p => { p with service := none, armed := cover })).showPilot).freeStartUp kPilot 0
      s.stops.foldl (fun d q => d.finish q { dw0 := s.lastPub.getD allOnes32, dg0 := s.lastPub.getD allOnes64, dg1 := 0 }) d

/-- Post a float event with its sump entry (R135). -/
def Dev.floatEvent (d : Dev) (ty g i : Nat) : Dev :=
  let occ := (d.ing i).rows.length
  let d := d.sumpWrite (ioPlace 1 3 noSlice) 0x12 ty 0 0 (le 1 i ++ le 2 occ)
  d.post ty kGraph g (ioPlace 1 3 noSlice) (le 4 i ++ le 4 occ)

/-- CLEAR, on falling below WARN ÷ 2 after WARN or SHED (R135). -/
def Dev.checkClear (d : Dev) (i : Nat) : Dev :=
  (d.fedBy i).foldl (fun d e =>
    let (h, g, ctx) := e
    if g.warned.contains ctx && 2 * (d.ing i).rows.length < g.warn then
      (d.graphMod h (fun g => { g with warned := g.warned.filter (· != ctx) })).floatEvent 4 h i
    else d) d

/-- Free the rows that the write-out has taken and no strip needs any more (R133). -/
def Dev.freeRows (d : Dev) (i : Nat) : Dev :=
  let d := d.ingMod i (fun g => { g with rows := g.rows.filter (fun r => !(r.written && !d.rowNeeded i r.frame r.row)) })
  (d.showOcc i).checkClear i

/-! ## Wells: pumps, pails and cisterns (R106 to R108, R137) -/

def Dev.role (d : Dev) (c : Nat) : Role := (d.core c).role
def Dev.setRole (d : Dev) (c : Nat) (r : Role) : Dev := d.coreMod c (fun k => { k with role := r })

/-- Pumps that stand in active places of a well. -/
def Dev.activePumps (d : Dev) (w : Nat) : List Nat := ((d.well w).order.filter (· != 31)).map (fun u => 5 * w + u)

/-- The spare of a well, where it has one. -/
def Dev.spareOf (d : Dev) (w : Nat) : Option Nat :=
  ((List.range 5).map (5 * w + ·)).find? (fun c => d.role c == .spare || d.role c == .helper)

/-- Pumps of a stage's set in a well (R105). -/
def Dev.pumpSet (d : Dev) (s : Stage) (w : Nat) : List Nat :=
  (tgetD s.pos w []).filterMap (fun p => match (d.well w).order[p]? with
    | some u => if u = 31 then none else some (5 * w + u) | none => none)

/-- The lowest gap of a length and alignment below a limit among allocations. -/
def gapFor (alloc : List (Nat × Nat × Nat)) (lo hi len align : Nat) : Option Nat :=
  lowestFree (alloc.map (fun a => (a.1, a.2.1))) (lo, hi) len align

/-- The highest gap for data, below a limit, found from the ends of the allocations downward. -/
def gapTop (alloc : List (Nat × Nat × Nat)) (lo hi len : Nat) : Option Nat :=
  let cands := (hi - len) / 64 * 64 :: alloc.filterMap (fun a => if len ≤ a.1 then some ((a.1 - len) / 64 * 64) else none)
  (cands.filter (fun a => lo ≤ a && a + len ≤ hi && alloc.all (fun u => !overlap u.1 u.2.1 a len))).foldl
    (fun m a => match m with | none => some a | some b => some (max a b)) none

/-- Eight save frames of 3,328 bytes lie at the top of the pail (R106). -/
def saveArea : Nat := 262144 - 8 * 3328
/-- Bytes of cistern that graphs may use: 62 sub-banks (R108). -/
def cisternLimit : Nat := 62 * 131072

def gOwner (g : Nat) : Nat := 2 * g
def iOwner (i : Nat) : Nat := 2 * i + 1

/-- End of the code region of a well: the allocations below the data. -/
def Well.setCodeLim (w : Well) (codeEnds : List Nat) : Well := { w with codeLim := codeEnds.foldl max 0 }

/-! ## Parameter copies (R126 to R128) -/

/-- A released composite as a frame that a graph reads. -/
def Released.published (o : Released) (i : Nat) : Published :=
  { frame := o.oframe, marks := o.marks, producer := kCompositor + 256 * i, tf := o.tf, width := o.width, height := o.height,
    time := o.time, tmeta := o.tmeta }

/-- SRC_SEL names the composite of compositor 0 to 3 by its index (Table SQ-5); handles start at 4 (log entry 123). -/
def compositeSel (sel : Nat) : Bool := sel < 4

/-- The newest frame of the composite or frame buffer that a SOURCE 2 graph reads (R109, Table GS-4). -/
def Dev.srcNewest (d : Dev) (g : Graph) : Option Published :=
  if compositeSel g.srcSel then ((tget d.vid.mix g.srcSel).bind (·.out)).map (·.published g.srcSel)
  else tget d.mem.published g.srcSel

/-- Number of the next frame of a graph's context to start (R126). -/
def Dev.nextFrame (d : Dev) (g : Graph) (ctx : Nat) : Nat :=
  match g.ingestOf ctx with
  | some i => (d.ing i).count
  | none => match d.srcNewest g with | some p => p.frame + 1 | none => 0

/-- Frames of a context that have started and are not finished. -/
def Graph.inFlight (g : Graph) (ctx : Nat) : List GFrame := g.frames.filter (fun f => f.ctx == ctx && !g.frameDone f)

/-- A stage's copies of a context without the update of a frame. -/
def Stage.obWithdraw (s : Stage) (ctx frame : Nat) : Stage :=
  { s with params := tadj s.params ctx (fun l => l.map (fun p => { p with ob := p.ob.filter (fun h => h.1 ≠ frame) })) }

/-- Drop the copies that no frame can use any more, keeping at most three (R128). -/
def trimCopies (l : List ParamCopy) (oldest : Nat) : List ParamCopy :=
  let keep := l.takeWhile (fun p => oldest < p.effect)
  (keep ++ (l.drop keep.length).take 1).take 3

/-! ## Task switches (R120) -/

/-- A ready background task of a pump to run next: lowest PRIO value, then lowest slot. -/
def Core.nextBg (k : Core) : Option Nat :=
  let l := k.tasks.filter (fun e => e.2.st == .ready && !e.2.rt)
  (l.foldl (fun m e => match m with
    | none => some e
    | some b => if e.2.prio < b.2.prio then some e else some b) none).map (·.1)

/-- A pump without a task takes its next background task, unless it is withdrawn (R137). -/
def Dev.takeBg (d : Dev) (c : Nat) : Dev :=
  let k := d.core c
  if k.cur.isSome || !(k.role == .active || k.role == .substitute || k.role == .spare || k.role == .helper) then d
  else match k.nextBg with
    | some i => d.restoreTask c i
    | none => d

/-! ## Publishing of frames (R134, R140, R264) -/

/-- A producer publishes a frame into a frame buffer; the first frame of a producer and each change of producer post
FRAME_PUBLISHED. -/
def Dev.publish (d : Dev) (handle : Nat) (p : Published) (first : Bool) : Dev :=
  let change := match tget d.mem.published handle with | some o => o.producer != p.producer | none => true
  let d := d.memMod (fun m => { m with published := tput m.published handle p })
  if first || change then
    d.post 0x01 (p.producer % 256) 0 noPlace (le 8 p.frame ++ le 4 handle ++ le 1 (p.producer % 256))
  else d

end Sys2Proof.Machine
end

