-- ==== Sys2Proof/Machine/PilotOps.lean ====
section
/-!
DEFINITION. The pilot path at work on a frame in service (R259, R260, R267): rows are written as they arrive.
-/
set_option autoImplicit false

namespace Sys2Proof.Machine

/-- The frame's samples in the ingest buffer; rows missing above the first row present are mirrored as at an edge. -/
def Dev.frameMosaic (d : Dev) (i frame lo : Nat) : Mosaic := fun e x y =>
  let y := if y < lo then 2 * lo - y else y
  match (d.ing i).rows.find? (fun r => r.frame == frame && r.row == y) with
  | some r => (r.lines.getD e []).getD x 0
  | none => 0

/-- The last row that a row written by the pilot path needs: two below it, or its partner in a binned quad. -/
def pilotReach (bin2 : Bool) (h y : Nat) : Nat := min (h - 1) (if bin2 then y / 2 * 2 + 1 else y + 2)

def Dev.pilotFrameMod (d : Dev) (frame : Nat) (f : PilotFrame → PilotFrame) : Dev :=
  d.pilotMod (fun p => { p with service := p.service.map (fun s => { s with
    frames := s.frames.map (fun x => if x.frame = frame then f x else x) }) })

/-- One row of a frame in service: it is written, or a translation fault drops the frame (R156). -/
def Dev.pilotRow (d : Dev) (s : PilotService) (f : PilotFrame) (b : List Byte) : Dev :=
  match d.buf s.sink with
  | none => d.pilotFrameMod f.frame (fun x => { x with failed := true })
  | some m =>
    let va := m.va + f.row * rgbPitch f.width
    match d.rangeFault true m.asid va (rgbPitch f.width) true with
    | some (a, sub) => (d.xlatFault .pilot true true m.asid a sub 0).pilotFrameMod f.frame (fun x => { x with failed := true })
    | none =>
      let h := f.hi.getD f.height
      let mos := d.frameMosaic s.ctx f.frame (f.lo.getD 0)
      let line := rgbLine f.width (fun x c => pilotPx b (plBin2 b) f.nexp f.depth f.width h mos x f.row c)
      (d.vwrite .pilot m.asid va line).pilotFrameMod f.frame (fun x => { x with row := x.row + 1 })

/-- Rows of a frame in service that can be written now; `fuel` bounds their number. -/
def Dev.pilotAdvance (d : Dev) (frame : Nat) : Nat → Dev
  | 0 => d
  | fuel + 1 =>
    match d.sns.pilot.service with
    | none => d
    | some s => match s.frames.find? (fun f => f.frame == frame) with
      | none => d
      | some f => match d.pilotBlock s.ctx frame with
        | none => d.pilotFrameMod frame (fun x => { x with failed := true })
        | some b =>
          let h := f.hi.getD f.height
          let need := pilotReach (plBin2 b) h f.row
          let here := (d.ing s.ctx).rows.any (fun r => r.frame == frame && r.row == need)
          if f.failed || d.fget fPipePltCtlState == 3 || h ≤ f.row || !here then d
          else (d.pilotRow s f b).pilotAdvance frame fuel

/-- A row of a frame has arrived. -/
def Dev.pilotRowIn (d : Dev) (i frame row : Nat) : Dev :=
  match d.sns.pilot.service with
  | some s =>
    if s.ctx ≠ i then d else
      (d.pilotFrameMod frame (fun x => if x.lo.isSome then x else { x with lo := some row, row := row })).pilotAdvance frame 4
  | none => d

/-- A frame has ended with the rows lo … hi − 1; areas of missing rows keep the bytes of the frame published before into
the same buffer (R267). -/
def Dev.pilotRowsEnd (d : Dev) (i frame hi : Nat) : Dev :=
  match d.sns.pilot.service with
  | some s => if s.ctx ≠ i then d else (d.pilotFrameMod frame (fun x => { x with hi := some hi })).pilotAdvance frame 16384
  | none => d

/-- A frame start of a context that the pilot path serves: the lease on the SINK buffer is taken, and in STATE 0b11 or
with the buffer absent the frame will not be published (R158, R160, R268). -/
def Dev.pilotFrameStart (d : Dev) (i frame : Nat) : Dev :=
  match d.sns.pilot.service with
  | none => d
  | some s =>
    if s.ctx ≠ i || frame < s.first || !s.stops.isEmpty || s.handTo.isSome then d
    else
      let x := d.ing i
      let gone := d.absent s.sink
      let f : PilotFrame := { frame := frame, width := x.width, height := x.height, depth := x.depth, nexp := x.nexp,
                              failed := gone || d.fget fPipePltCtlState == 3 }
      let d := d.pilotMod (fun p => { p with service := some { s with frames := s.frames ++ [f] } })
      let d := match d.pilotBlock i frame with | some b => d.fsetb fPipePltCtlBin2 (plBin2 b) | none => d
      if gone then d else d.lease kPilot 0 frame s.sink

end Sys2Proof.Machine
end

