-- ==== Sys2Proof/Machine/Graph.lean ====
section
/-!
DEFINITION. Programs and graphs: loading, building, starting, parameters, replacement, stopping and release
(R102 to R114, R125 to R130, R140 to R143).
-/
set_option autoImplicit false

namespace Sys2Proof.Machine

/-! ## LOAD PROGRAM (R102, R103) -/

/-- Bytes of a digest, and the KEY_ID of a public key (R517). -/
def digestBytes (h : BitVec 384) : List Byte := le 48 h.toNat
def keyId (pk : List Byte) : List Byte := (digestBytes (Config.sha3_384 pk)).take 16
def ctxProg : List Byte := [76, 90, 45, 80, 82, 79, 71].map (BitVec.ofNat 8)

/-- The image that a byte string holds, when its header is in range (Table GS-1). -/
def parseImage (b : List Byte) : Option Program :=
  let f := field b
  let p : Program := {
    flags := f 6 2, code := (b.drop 256).take (f 8 4), data := (b.drop (256 + f 8 4)).take (f 0xC 4), bss := f 0x10 4,
    entry := f 0x14 4, stripEntry := f 0x18 4, stripRec := f 0x1C 4, paramSize := f 0x20 4, nin := f 0x24 1,
    nout := f 0x25 1, nlut := f 0x26 1, cycFixed := f 0x28 4, cycPerK := f 0x2C 4,
    outIpk := (List.range 4).map (fun k => f (0x30 + 2 * k) 2), name := (b.drop 0x40).take 16, version := f 0x50 4,
    tables := (b.drop (256 + f 8 4 + f 0xC 4)).take (f 0x26 1 * 8192),
    digest := Config.sha3_384 (b.take (b.length - 3328)) }
  let rt := bit p.flags 0
  let cs := f 8 4
  if f 0 4 == 0x594D4931 && f 4 2 == 1 && p.flags < 16 && cs % 8 == 0 && 8 ≤ cs && cs ≤ 196608 && f 0xC 4 % 64 == 0
      && p.bss % 64 == 0 && p.entry < cs
      && (if rt then decide (p.stripEntry < cs) else p.stripEntry == 0xFFFFFFFF)
      && p.stripRec % 64 == 0 && (!rt || p.stripRec + 64 ≤ f 0xC 4 + p.bss)
      && p.paramSize % 64 == 0 && p.paramSize ≤ 65536 && p.nin ≤ 4 && p.nout ≤ 4 && p.nlut ≤ 8
      && allZero b 0x27 1 && allZero b 0x38 8 && allZero b 0x54 12 && allZero b 0x70 144
      && b.length == 256 + cs + f 0xC 4 + p.nlut * 8192 + 3328
  then some p else none

/-- The key that an image names verifies its signature: a library key for the colour library, a key enrolled for program
images for any other (R103, R517). -/
def Dev.imageSigned (d : Dev) (p : Program) (b : List Byte) : Bool :=
  let id := (b.drop 0x60).take 16
  let body := b.take (b.length - 3328)
  let sig := b.drop (b.length - 3328)
  let keys := if bit p.flags 2 then Config.libraryKeys else tvals d.nv.keys
  keys.any (fun k => keyId k == id && blockVerifies k ctxProg body sig)

def loadProgram (seq : Nat) (d : Dev) : Dev :=
  d.run seq false 0x89 (fun d c =>
    match parseImage c.data with
    | none => d.fail seq stImageFormat
    | some p =>
      if !d.imageSigned p c.data then d.fail seq stSignature
      else
        let (h, d) := (d.startCmd seq).newHandle
        let d := d.coresMod (fun k => { k with programs := tput k.programs h p })
        (d.markCreated 0x12 h seq).okCreate seq c h 0)

/-! ## BUILD GRAPH (R105 to R114, R242) -/

def parseStage (b : List Byte) : Stage :=
  { prog := field b 0 4, rt := field b 4 1 == 0, prio := field b 5 1,
    ins := (List.range 4).map (fun k => field b (6 + k) 1), outs := (List.range 4).map (fun k => field b (10 + k) 1),
    pumps := (List.range 16).map (fun w => bits (field b 16 8) (4 * w + 3) (4 * w)), wdog := field b 24 4,
    cscratch := field b 28 4 }

def parseChan (b : List Byte) : Chan :=
  { kind := field b 0 1, nslots := field b 1 1, home := field b 2 1, prod := field b 4 2, cons := field b 6 2,
    target := if field b 0 1 = 1 then field b 8 4 % 4 else field b 8 4, plane := bits (field b 8 8) 35 32 }

def parseGraph (asid : Nat) (b : List Byte) : Graph :=
  let f := field b
  let ns := f 4 1
  { asid := asid, source := f 2 1, nctx := f 3 1, flags := f 6 1, utilMax := if f 7 1 = 0 then 85 else f 7 1,
    stripH := f 8 2, apronY := f 0xA 1, nspan := f 0xB 1, apronX := f 0xC 2, warn := if f 0x10 2 = 0 then 48 else f 0x10 2,
    shed := if f 0x12 2 = 0 then 80 else f 0x12 2, prio := (List.range 4).map (fun k => f (0x18 + 4 * k) 1 % 4),
    srcSel := f 0x28 4,
    stages := (List.range ns).map (fun i => parseStage ((b.drop (64 + 32 * i)).take 32)),
    chans := (List.range (f 5 1)).map (fun i => parseChan ((b.drop (64 + 32 * ns + 16 * i)).take 16)) }

/-- The reserved bytes and field ranges of a descriptor (R113); a SOURCE names one of the graph's contexts. -/
def descOk (b : List Byte) : Bool :=
  let f := field b
  let ns := f 4 1
  let nc := f 5 1
  b.length == 64 + 32 * ns + 16 * nc && f 0 2 == 1 && f 2 1 < 4 && f 6 1 < 4 && (f 7 1 == 0 || (50 ≤ f 7 1 && f 7 1 ≤ 95))
    && f 8 2 % 2 == 0 && 8 ≤ f 8 2 && f 8 2 ≤ 64 && f 0xA 1 % 2 == 0 && f 0xA 1 ≤ 8 && 1 ≤ f 0xB 1 && f 0xB 1 ≤ 16
    && f 0xC 2 % 2 == 0 && f 0xC 2 ≤ 32 && allZero b 0xE 2 && allZero b 0x14 4 && allZero b 0x2C 20
    && (List.range 4).all (fun k => f (0x18 + 4 * k) 4 < 4)
    && (List.range ns).all (fun i => let s := b.drop (64 + 32 * i)
         field s 4 1 < 2 && (field s 4 1 == 0 || field s 5 1 < 4) && allZero s 0xE 2 && field s 0x1C 4 % 64 == 0)
    && (List.range nc).all (fun i => let s := b.drop (64 + 32 * ns + 16 * i)
         field s 0 1 < 3 && field s 2 1 < 16 && allZero s 3 1 && (match field s 0 1 with
           | 0 => allZero s 8 8 | 1 => field s 8 8 < f 3 1 | _ => field s 12 4 < 16))

/-- Frame size that the sources of a graph's context declare: width, rows and period in ns (R122). A frame in memory or a
composite has the size of its newest frame, and no declared rate: period 0 (DESIGN CHOICE, log entry 124). -/
def Dev.srcGeom (d : Dev) (g : Graph) (ctx : Nat) : Nat × Nat × Nat :=
  match g.ingestOf ctx with
  | some i => (d.fget (fSnsFmtWidth i), d.fget (fSnsFrameLines i), d.fget (fSnsTimePeriod i))
  | none => match d.srcNewest g with | some p => (p.width, p.height, 0) | none => (0, 0, 0)

/-- The stages bound in a well. -/
def Graph.inWell (g : Graph) (w : Nat) : List Nat :=
  (List.range g.stages.length).filter (fun m => ((g.stage m).map (fun s => s.pumps.getD w 0)).getD 0 != 0)

/-- Places of a stage's set in a well: those after the graph's earlier stages there. -/
def Graph.places (g : Graph) (m w : Nat) : List Nat :=
  let n := fun i => ((g.stage i).map (fun s => s.pumps.getD w 0)).getD 0
  (List.range (n m)).map (fun i => (((List.range m).map n).sum + i) % 4)

/-- Tasks that graphs put on the pump in a place of a well. -/
def placeTasks (gs : List Graph) (w p : Nat) : Nat :=
  (gs.map (fun g => ((List.range g.stages.length).filter (fun m => (g.places m w).contains p)).length)).sum

/-- The limits of Table GS-2 and the topology rules (R105, R109, R132, R242). -/
def Dev.topologyOk (d : Dev) (g : Graph) : Bool :=
  let ns := g.stages.length
  let nc := g.chans.length
  let prog := fun (s : Stage) => tget d.cores.programs s.prog
  1 ≤ ns && ns ≤ 64 && nc ≤ 255 && 1 ≤ g.nctx && (g.nctx == 1 || (g.nctx ≤ 4 && g.source == 1 && d.fget (fSnsCtlMode 1) == 2))
    && d.cores.graphs.length < 16
    && (!bit g.flags 0 || (g.chans.filter (fun c => c.kind == 2)).length == 1)
    && (List.range ns).all (fun m => g.depth 65 m ≤ 16)
    && (List.range 16).all (fun w => (List.range 4).all (fun p => placeTasks (tvals d.cores.graphs ++ [g]) w p ≤ 8)
        && ((tvals d.cores.graphs ++ [g]).map (fun x => (x.chans.filter (fun c => c.home == w)).length)).sum ≤ 512)
    && (List.range g.nctx).all (fun k => g.nstrips (d.srcGeom g k).2.1 ≤ 4096)
    && g.chans.all (fun c => (c.kind == 1 || (2 ≤ c.nslots && c.nslots ≤ 64))
        && (if c.kind = 1 then c.prod == 0xFFFF && c.cons < ns else if c.kind = 2 then c.cons == 0xFFFF && c.prod < ns
            else c.prod < ns && c.cons < ns && c.prod != c.cons))
    && (List.range ns).all (fun m => match g.stage m with
        | none => false
        | some s => match prog s with
          | none => false
          | some p =>
            !bit p.flags 3 && (if s.rt then bit p.flags 0 else bit p.flags 1) && s.pumps.all (· ≤ 4) && s.pumps.any (· != 0)
              && s.ins.all (fun i => i == 255 || (match g.chan i with | some c => c.cons == m && c.kind != 2 | none => false))
              && s.outs.all (fun i => i == 255 || (match g.chan i with | some c => c.prod == m && c.kind != 1 | none => false))
              && (match p.lib with
                | some .front | some .develop =>
                  g.source < 2 && s.ins.all (fun i => i == 255 || (match g.chan i with | some c => c.kind == 1 | none => false))
                | some .look => 647040 * g.nctx ≤ s.cscratch
                | _ => true)
              && (match p.lib with | some .develop => 4 ≤ g.apronX && 4 ≤ g.apronY | _ => true))

/-- Channels with the size of their slots: the largest strip of the graph (R110). The strips of a SOURCE 2 graph have the
size of the frame that is newest when it is built, and none where none is published (DESIGN CHOICE, log entry 124). -/
def Dev.sizeChans (d : Dev) (g : Graph) : List Chan :=
  let wide := ((List.range g.nctx).map (fun k => g.spanW (d.srcGeom g k).1)).foldl max 0
  g.chans.zipIdx.map (fun (c, ci) => if c.kind = 1 then c else
    match (g.stage c.prod).bind (fun s => (tget d.cores.programs s.prog).map (fun p => (s, p))) with
    | none => c
    | some (s, p) =>
      let k := (s.outs.findIdx? (· == ci)).getD 0
      { c with items := slotItems g.stripH wide (p.outIpk.getD k 0) })

/-- Result of the allocation of one area. -/
abbrev Placed := Except Nat Dev

/-- Place code and data of a stage in a well's pails, on all five pumps (R106, R107). -/
def Dev.placeStage (d : Dev) (h m w : Nat) (p : Program) : Placed :=
  let wl := d.well w
  let dlen := p.data.length + p.bss
  let dataLow := ((wl.pailAlloc.filter (fun a => a.2.2 % 2 == 1)).map (·.1)).foldl min saveArea
  match gapTop wl.pailAlloc wl.codeLim saveArea dlen with
  | none => .error stPailFull
  | some off =>
    match gapFor (wl.pailAlloc ++ [(off, dlen, 1)]) 0 (min dataLow off) p.code.length 8 with
    | none => .error stPailFull
    | some co =>
      let d := d.wellMod w (fun x => { x with
        pailAlloc := x.pailAlloc ++ [(co, p.code.length, 4 * (64 * h + m)), (off, dlen, 4 * (64 * h + m) + 1)],
        codeLim := max x.codeLim (co + p.code.length) })
      let d := (List.range 5).foldl (fun d u => d.coreMod (5 * w + u) (fun k => { k with
        mem := mwrite (mclear (mwrite k.mem co p.code) off dlen) off p.data })) d
      .ok (d.graphMod h (fun g => g.stageMod m (fun s => { s with
        codeOff := tput s.codeOff w co, dataOff := tput s.dataOff w off })))

/-- Bytes of a cube copy in CSCRATCH (R255). -/
def cubeBytes : Nat := 215680

/-- Where a cube copy stands in a stage's window: the three copies of each context, after the parameter copies (R114, R255). -/
def cubeSlot (cwin nctx paramSize ctx slot : Nat) : Nat := cwin + 3 * nctx * paramSize + (3 * ctx + slot) * cubeBytes

/-- Binding writes every cube copy of every context with the identity cube (R255). -/
def Dev.placeCubes (d : Dev) (w nctx cwin : Nat) (p : Program) : Dev :=
  if p.lib = some .look then
    d.wellMod w (fun x => { x with cistern := (List.range (3 * nctx)).foldl (fun t i =>
      mwrite t (cubeSlot cwin nctx p.paramSize 0 i) identityCube) x.cistern })
  else d

/-- Place the parameter window of a stage in a well's cistern (R114). -/
def Dev.placeWindow (d : Dev) (h m w nctx : Nat) (p : Program) (cscratch : Nat) : Placed :=
  let len := 3 * nctx * p.paramSize + cscratch
  match gapFor (d.well w).alloc 0 cisternLimit len 64 with
  | none => .error stCisternFull
  | some a =>
    let d := (d.wellMod w (fun x => { x with alloc := x.alloc ++ [(a, len, gOwner h)] })).placeCubes w nctx a p
    .ok (d.graphMod h (fun g => g.stageMod m (fun s => { s with cwin := tput s.cwin w a, cwinLen := len })))

/-- Write one lookup table bank of a well: 4,096 entries of 16 bits. The ninth table takes what is written while it stands
in for the table (R112). -/
def Dev.lutWrite (d : Dev) (w table bank : Nat) (b : List Byte) : Dev :=
  d.wellMod w (fun x =>
    let at' := x.standIn table
    { x with
      luts := (List.range 4096).foldl (fun t i => tputD t ((2 * at' + bank) * 4096 + i) (field b (2 * i) 2) 0) x.luts })

/-- Allocate the tables of a stage in a well and fill bank 0 of each from the image (R112). -/
def Dev.placeLuts (d : Dev) (h m w : Nat) (p : Program) : Placed :=
  let free := (List.range 8).filter (fun t => (tget (d.well w).lutUse t).isNone)
  if free.length < p.nlut then .error stLutFull
  else
    let own := free.take p.nlut
    let d := own.zipIdx.foldl (fun d e => (d.wellMod w (fun x => { x with lutUse := tput x.lutUse e.1 h })).lutWrite w e.1 0
      (p.tables.drop (8192 * e.2))) d
    .ok (d.graphMod h (fun g => g.stageMod m (fun s => { s with luts := tput s.luts w own })))

/-- PIPE_PORT value of a bound port (R114). -/
def portWord (ch : Chan) (idx slot : Nat) : BitVec 32 :=
  BitVec.ofNat 32 (2 ^ 31 + ch.kind * 2 ^ 29 + idx * 2 ^ 20 + ch.home * 2 ^ 16 + slot)

/-- A stage with the code that REPLACE PROGRAM gave it last: its background tasks start with that code (R129). -/
def Stage.latest (s : Stage) : Stage :=
  match s.newProgs.getLast? with
  | some e => { s with prog := e.prog, codeOff := e.offs }
  | none => s

/-- Registers of a task as binding sets them (R101, R104, R114). -/
def taskRegs (g : Graph) (s : Stage) (p : Program) (w save : Nat) : Regs :=
  let r : Regs := {}
  let r := if s.rt then r.stSet stRT true else r
  let r := r.crput 0x10 (BitVec.ofNat 32 g.asid)
  let r := r.crput 0x11 (BitVec.ofNat 32 (tgetD s.cwin w 0))
  let r := r.crput 0x12 (BitVec.ofNat 32 s.cwinLen)
  let r := r.crput 0x14 (BitVec.ofNat 32 save)
  let co := tgetD s.codeOff w 0
  let r := r.crput 0x50 (BitVec.ofNat 32 (if s.rt then p.stripEntry + co else 0))
  let r := if s.rt then r else (r.crput 0x30 (BitVec.ofNat 32 s.wdog)).kick
  let bind := fun (r : Regs) (base : Nat) (l : List Nat) => l.zipIdx.foldl (fun r e => match g.chan e.1 with
    | some ch => r.crput (0x70 + base + e.2) (portWord ch e.1 0) | none => r) r
  let r := bind (bind r 0 s.ins) 4 s.outs
  { r with pc := BitVec.ofNat 48 ((p.entry + co) / 8 * 8) }

/-- The slot of the task of a graph's stage on a pump. -/
def Core.slotFor (k : Core) (h m : Nat) : Option Nat := (k.tasks.find? (fun e => e.2.graph == h && e.2.stage == m)).map (·.1)

/-- A slot for one more task on a pump: a free one, else that of a real-time task with no strip, which keeps nothing from
strip to strip (R118). -/
def Core.openSlot (k : Core) : Option Nat :=
  (tfree k.tasks 0 8).orElse (fun _ => (k.tasks.find? (fun e => e.2.rt && e.2.st == .waiting)).map (·.1))

/-- Put the task of a stage on a pump. -/
def Dev.newTask (d : Dev) (c h m : Nat) (g : Graph) (s : Stage) (p : Program) (st : TaskSt) : Dev :=
  match (d.core c).openSlot with
  | none => d
  | some i =>
    let save := saveArea + 3328 * i
    d.coreMod c (fun k => k.putTask i { graph := h, stage := m, rt := s.rt, prio := s.prio, st := st, savePtr := save, cr := [] }
      (taskRegs g s p (wellOf c) save))

/-- Bind the tasks of a stage in a well, on the pumps of its set; another pump of the well gets its task with the first
strip that it takes (R106). Every register is 0 (R101). -/
def Dev.bindTasks (d : Dev) (h m w : Nat) (p : Program) : Dev :=
  match d.graph h with
  | none => d
  | some g => match g.stage m with
    | none => d
    | some s => (d.pumpSet s w).foldl (fun d c => d.newTask c h m g s p .waiting) d

/-- Bind one stage in one well. -/
def Dev.bindStage (d : Dev) (h m w : Nat) (s : Stage) (p : Program) (nctx : Nat) : Placed := do
  let d ← d.placeStage h m w p
  let d ← d.placeWindow h m w nctx p s.cscratch
  let d ← d.placeLuts h m w p
  let pos := match d.graph h with | some g => g.places m w | none => []
  return (d.graphMod h (fun g => g.stageMod m (fun s => { s with pos := tput s.pos w pos }))).bindTasks h m w p

/-- Allocate the slots of the STAGE and SINK channels in their home wells (R108). -/
def Dev.placeSlots (d : Dev) (h : Nat) (chans : List Chan) : Placed :=
  chans.zipIdx.foldlM (fun d e =>
    if e.1.kind = 1 then .ok d else
      let len := e.1.nslots * e.1.items * 64
      match gapFor (d.well e.1.home).alloc 0 cisternLimit len 64 with
      | none => .error stCisternFull
      | some a => .ok ((d.wellMod e.1.home (fun x => { x with alloc := x.alloc ++ [(a, len, gOwner h)] })).graphMod h
          (fun g => g.chanMod e.2 (fun c => { c with base := a })))) d

/-- The first parameter copy of every stage and context: binding writes the identity cube (R255) and no block. -/
def firstCopies (g : Graph) (p : Program) : Tab (List ParamCopy) :=
  (List.range g.nctx).map (fun k => (k, [({
    effect := 0, block := [], bank := 0, cube := if p.lib = some .look then identityCube else [], seq := none,
    slot := 0 } : ParamCopy)]))

/-- Bind a graph: every stage in every well of its set, then the channels. -/
def Dev.bindGraph (d : Dev) (h : Nat) (g : Graph) : Placed := do
  let d ← d.placeSlots h g.chans
  (List.range g.stages.length).foldlM (fun d m =>
    match g.stage m with
    | none => .ok d
    | some s => match tget d.cores.programs s.prog with
      | none => .ok d
      | some p => do
        let d := d.graphMod h (fun g => g.stageMod m (fun s => { s with params := firstCopies g p }))
        (List.range 16).foldlM (fun d w => if s.pumps.getD w 0 = 0 then .ok d else d.bindStage h m w s p g.nctx) d) d

def buildGraph (seq : Nat) (d : Dev) : Dev :=
  d.run seq false 0x8D (fun d c =>
    let asid := c.w10 % 4096
    let b := c.data
    let ns := field b 4 1
    let handles := (List.range ns).map (fun i => field b (64 + 32 * i) 4)
    if !d.mem.spaces.contains asid then d.fail seq stBadHandle
    else if b.length < 64 || !descOk b then
      d.fail seq (if 64 ≤ b.length && (ns = 0 || 64 < ns || field b 3 1 = 0 || 4 < field b 3 1) then stBadTopology else stBadParam)
    else
      let g := parseGraph asid b
      let sinks := g.chans.filter (fun c => c.kind == 2)
      if handles.any (fun h => (tget d.cores.programs h).isNone) || sinks.any (fun c => (d.buf c.target).isNone)
          || (g.source == 2 && !compositeSel g.srcSel && (d.buf g.srcSel).isNone) then d.fail seq stBadHandle
      else if !d.topologyOk g then d.fail seq stBadTopology
      else
        let (h, d1) := (d.startCmd seq).newHandle
        let g := { g with chans := d.sizeChans g }
        let d2 := d1.coresMod (fun k => { k with graphs := tput k.graphs h g })
        match d2.bindGraph h g with
        | .error st => d.fail seq st
        | .ok d3 => (d3.markCreated kGraph h seq).okCreate seq c h 0)

/-! ## START GRAPH (R125, R140, R218) -/

/-- A sum of fractions, exactly. -/
def fracAdd (a b : Nat × Nat) : Nat × Nat := (a.1 * b.2 + b.1 * a.2, a.2 * b.2)

/-- Load of a stage in pump cycles per second, as a fraction (R122). -/
def Dev.stageLoad (d : Dev) (g : Graph) (p : Program) : Nat × Nat :=
  (List.range g.nctx).foldl (fun acc k =>
    let (w, h, per) := d.srcGeom g k
    let cost := ((List.range (g.nstrips h)).map (fun n => let (_, l, _, x) := g.strip w h n; p.cost l x)).sum
    if per = 0 then acc else fracAdd acc (cost * 1000000000, per)) (0, 1)

/-- Graphs whose real-time stages run. -/
def Dev.runningGraphs (d : Dev) : List (Nat × Graph) :=
  d.cores.graphs.filter (fun e => e.2.st = .armed || e.2.st = .draining)

/-- Utilisation of a well over a list of graphs: cycles per second as a fraction, each stage's load shared among its pumps
by `count` (R125, R138). -/
def Dev.wellLoad (d : Dev) (count : Stage → Nat → Nat) (gs : List Graph) (w : Nat) : Nat × Nat :=
  gs.foldl (fun acc g => g.stages.foldl (fun acc s =>
    let n := count s w
    if !s.rt || n = 0 then acc else match tget d.cores.programs s.prog with
      | none => acc
      | some p => let (a, b) := d.stageLoad g p; fracAdd acc (a * n, b * ((List.range 16).map (count s)).sum)) acc) (0, 1)

/-- Pumps of a stage in a well: as its descriptor gives them, and those that remain (R138). -/
def Stage.pumpCount (s : Stage) (w : Nat) : Nat := s.pumps.getD w 0
def Dev.pumpsLeft (d : Dev) (s : Stage) (w : Nat) : Nat := (d.pumpSet s w).length

/-- Utilisation exceeds a limit in per cent: U_w = load ÷ (active pumps × 1.5 × 10⁹). -/
def Dev.overUtil (d : Dev) (count : Stage → Nat → Nat) (gs : List Graph) (w limit : Nat) : Bool :=
  let (a, b) := d.wellLoad count gs w
  limit * (d.activePumps w).length * 1500000000 * b < 100 * a

/-- BUF is large enough for a graph (R218). -/
def Dev.bufOk (d : Dev) (g : Graph) : Bool :=
  (List.range g.nctx).all (fun k => match g.ingestOf k with
    | some i => g.stripH + 2 * g.apronY + 8 ≤ d.fget (fSnsFrameBuf i) | none => true)

def Graph.isRt (g : Graph) : Bool := g.stages.any (·.rt)
def Graph.sinkHandles (g : Graph) : List Nat := (g.chans.filter (fun c => c.kind == 2)).map (·.target)

/-- Arm a graph: background tasks are ready at ENTRY; a running service of the same SINK ends before the graph's first
frame (R140, R264). -/
def Dev.armGraph (d : Dev) (h : Nat) (g : Graph) : Dev :=
  let first := (List.range g.nctx).map (fun k => (k, d.nextFrame g k))
  let d := d.graphMod h (fun g => { g with
    st := .armed, first := first, announced := false, lastPub := none, stops := [], restarted := false })
  let cores := (List.range 80)
  let regsFor := fun (m w save : Nat) => (g.stage m).bind (fun s =>
    (tget d.cores.programs s.latest.prog).map (fun p => taskRegs g s.latest p w save))
  let d := cores.foldl (fun d c =>
    if (d.core c).tasks.any (fun e => e.2.graph == h && !e.2.rt) then
      (d.coreMod c (fun k => k.tasks.foldl (fun (k : Core) e => if e.2.graph = h && !e.2.rt then
        (match regsFor e.2.stage (wellOf c) e.2.savePtr with
          | some r => k.putTask e.1 { e.2 with st := .ready } r | none => k) else k) k)).takeBg c
    else d) d
  let pl := d.sns.pilot
  let cover := bit g.flags 0
  match pl.service with
  | some s =>
    if g.sinkHandles.contains s.sink then
      (d.pilotMod (fun p => { p with service := some { s with handTo := some h } })).pilotSettle
    else d
  | none => if cover then (d.pilotMod (fun p => { p with armed := some h })).showPilot else d

def startGraph (seq : Nat) (d : Dev) : Dev :=
  d.runStart seq 0x9C (fun d c =>
    let h := c.w10
    match d.graph h with
    | none => d.fail seq stBadHandle
    | some g =>
      if g.st = .armed || g.st = .draining || g.st = .cutting then d.fail seq stBusy
      else
        let run := d.runningGraphs.map (·.2)
        let rtRun := run.filter Graph.isRt
        if g.isRt && 8 ≤ rtRun.length then d.fail seq stBadTopology
        else if !d.bufOk g then d.fail seq stBadTopology
        else if (List.range 16).any (fun w =>
            ((run ++ [g]).filter (fun x => !(x.inWell w).isEmpty)).any (fun x =>
              d.overUtil Stage.pumpCount (run ++ [g]) w x.utilMax)) then
          d.fail seq stOverUtil
        else if bit g.flags 0 && (run.any (fun x => bit x.flags 0) ||
            (match d.sns.pilot.service with | some s => !g.sinkHandles.contains s.sink | none => false)) then
          d.fail seq stPilotBusy
        else (((d.startCmd seq).armGraph h g).markCreated kGraph h seq).okOther seq c 0)

/-! ## SET PARAMETERS (R126 to R128, R255, R257) -/

/-- Checks of a library stage's block (R257). -/
def libBlockOk (l : Option Lib) (b : List Byte) : Bool :=
  match l with
  | some .front => lzFrontOk b | some .develop => lzDevelopOk b | some .balance => lzBalanceOk b
  | some .look => lzLookOk b | none => true

/-- The newest copy of a context in use when a copy with an effect frame is written: a copy that the new one supersedes
never was (R127). -/
def Stage.inUse (s : Stage) (ctx effect : Nat) : Option ParamCopy := (tgetD s.params ctx []).find? (fun p => p.effect < effect)

/-- Its bank; before a context's first frame, that of the image's tables. -/
def Stage.bankInUse (s : Stage) (ctx effect : Nat) : Nat := ((s.inUse ctx effect).map (·.bank)).getD 0

/-- The bank that no frame in flight uses, in any context: the stage's tables have two banks in all (R112, R128). -/
def Graph.freeBank (g : Graph) (s : Stage) (ctx effect : Nat) : Option Nat :=
  let used := (List.range g.nctx).flatMap (fun k =>
    (g.inFlight k).filterMap (fun f => (copyFor (tgetD s.params k []) f.frame).map (·.bank)))
  if !used.contains 0 && !used.contains 1 then
    -- no frame in flight: write the bank that the copy in use does not have
    some (1 - s.bankInUse ctx effect)
  else if !used.contains 0 then some 0 else if !used.contains 1 then some 1 else none

/-- The copies of a stage and context that frames with started strips or waiting ones still read. -/
def Graph.keptCopies (g : Graph) (s : Stage) (ctx effect : Nat) : List ParamCopy :=
  (trimCopies (tgetD s.params ctx []) (((g.inFlight ctx).map (·.frame)).foldl min effect)).filter (fun p => p.effect < effect)

/-- A place of the cistern window that holds none of them; where there is none, the command waits (R126, R128). -/
def Graph.freeCopy (g : Graph) (s : Stage) (ctx effect : Nat) : Option Nat :=
  (List.range 3).find? (fun i => (g.keptCopies s ctx effect).all (fun p => p.slot != i))

/-- Write a parameter block, and tables, into the pending copy of every well (R126, R128). -/
def Dev.putParams (d : Dev) (seq h m ctx effect : Nat) (block cube tables : List Byte) (bank : Nat) (hasTables : Bool) : Dev :=
  match (d.graph h).bind (fun g => (g.stage m).map (fun s => (g, s))) with
  | none => d
  | some (g, s) =>
    let cs := g.keptCopies s ctx effect
    let slot := (g.freeCopy s ctx effect).getD 0
    let new : ParamCopy := { effect := effect, block := block, bank := bank, cube := cube, seq := some seq, slot := slot }
    let d := d.graphMod h (fun g => g.stageMod m (fun s => { s with params := tput s.params ctx (new :: cs) }))
    (List.range 16).foldl (fun d w =>
      if s.pumps.getD w 0 = 0 then d else
        let base := tgetD s.cwin w 0 + (3 * ctx + slot) * block.length
        let cubePos := cubeSlot (tgetD s.cwin w 0) g.nctx block.length ctx slot
        let d := d.wellMod w (fun x => { x with cistern := mwrite x.cistern base block })
        let d := if cube.isEmpty then d else d.wellMod w (fun x => { x with cistern := mwrite x.cistern cubePos cube })
        if hasTables then (tgetD s.luts w []).zipIdx.foldl (fun d e => d.lutWrite w e.1 bank (tables.drop (8192 * e.2))) d
        else d) d

/-- A change whose effect frame will not be admitted, because its graph drains, carries NOT_APPLIED (R143). -/
def Graph.lateNote (g : Graph) : Nat := if g.st = .draining then noteNotApplied else 0

/-- The effect of SET PARAMETERS, or its wait for a bank: it changes nothing while it waits, so it has not reached its commit
point and later commands that name the graph wait behind it (R128, R370). -/
def Dev.setParams (d : Dev) (seq : Nat) (c : Ctx) : Dev :=
  let h := c.w10
  let m := c.w11 % 256
  let ctx := bits c.w11 9 8
  let tables := bit c.w11 16
  match d.graph h with
  | none => d.fail seq stBadHandle
  | some g => match g.stage m with
    | none => d.fail seq stBadParam
    | some s => match tget d.cores.programs s.prog with
      | none => d.fail seq stBadHandle
      | some p =>
        let block := c.data.take p.paramSize
        let want := p.paramSize + (if tables then p.nlut * 8192 else 0)
        let look := p.lib = some .look
        let cubeNew := look && bit (field block 2 1) 3
        let cubeVa := field block 8 8
        if g.nctx ≤ ctx || c.data.length ≠ want || !libBlockOk p.lib block then d.fail seq stBadParam
        else if cubeNew && s.cscratch < 647040 * g.nctx then d.fail seq stCisternFull
        else if cubeNew && (d.rangeFault false g.asid cubeVa 215680 false).isSome then
          let (va, sub) := (d.rangeFault false g.asid cubeVa 215680 false).getD (0, 0)
          (d.xlatFault .none false false g.asid va sub 0).fail seq stTranslation
        else
          let cur := (tgetD s.params ctx []).head?
          let effect := d.nextFrame g ctx
          let bank? := if tables then g.freeBank s ctx effect else some (s.bankInUse ctx effect)
          match (g.freeCopy s ctx effect).bind (fun _ => bank?) with
          | none => d.graphMod h (fun g => { g with
              waiting := if g.waiting.contains seq then g.waiting else g.waiting ++ [seq] })
          | some bank =>
            let d := (d.startCmd seq).graphMod h (fun g => { g with waiting := g.waiting.filter (· != seq) })
            -- R127: an earlier command's copy that no frame has used is replaced
            let d := match cur with
              | some p => if effect ≤ p.effect then (match p.seq with | some q => d.noteLater q noteSuperseded | none => d) else d
              | none => d
            let cube := if cubeNew then d.vread g.asid cubeVa 215680
              else match s.inUse ctx effect with | some p => p.cube | none => if look then identityCube else []
            let d := (d.putParams seq h m ctx effect block cube (c.data.drop p.paramSize) bank tables)
            let d := if cubeNew then d.used else d
            (d.markChanged kGraph h seq).finish seq {
              dw0 := effect % 4294967296, dg0 := effect, dg1 := h, dgData := c.data, notes := g.lateNote }

def setParameters (seq : Nat) (d : Dev) : Dev := d.run seq false 0x91 (fun d c => d.setParams seq c)

/-- A SET PARAMETERS that waits goes on once a bank is free (R128). -/
def setParamsBankFree (seq : Nat) (d : Dev) : Dev :=
  d.run seq false 0x91 (fun d c => if d.cores.graphs.any (fun e => e.2.waiting.contains seq) then d.setParams seq c else d)

/-! ## REPLACE PROGRAM (R129) -/

/-- Place new code beside the old in every well of a stage. -/
def Dev.placeCode (d : Dev) (h m : Nat) (s : Stage) (p : Program) : Except Nat (Dev × Tab Nat) :=
  (List.range 16).foldlM (fun acc w =>
    let (d, t) := acc
    if s.pumps.getD w 0 = 0 then .ok (d, t) else
      let wl := d.well w
      let dataLow := ((wl.pailAlloc.filter (fun a => a.2.2 % 2 == 1)).map (·.1)).foldl min saveArea
      match gapFor wl.pailAlloc 0 dataLow p.code.length 8 with
      | none => .error stPailFull
      | some co =>
        let d := d.wellMod w (fun x => { x with
          pailAlloc := x.pailAlloc ++ [(co, p.code.length, 4 * (64 * h + m))], codeLim := max x.codeLim (co + p.code.length) })
        .ok ((List.range 5).foldl (fun d u => d.coreMod (5 * w + u) (fun k => { k with mem := mwrite k.mem co p.code })) d,
          tput t w co)) (d, [])

def replaceProgram (seq : Nat) (d : Dev) : Dev :=
  d.run seq false 0xA0 (fun d c =>
    let h := c.w10
    let m := c.w11 % 256
    match d.graph h with
    | none => d.fail seq stBadHandle
    | some g => match g.stage m with
      | none => d.fail seq stBadParam
      | some s => match tget d.cores.programs s.prog, tget d.cores.programs c.sqe.cdw13.toNat with
        | some p, some q =>
          let holds := s.outs.zipIdx.all (fun e => match g.chan e.1 with
            | some ch => ch.items == 0 || q.outIpk.getD e.2 0 ≤ p.outIpk.getD e.2 0 ||
                slotItems g.stripH (((List.range g.nctx).map (fun k => g.spanW (d.srcGeom g k).1)).foldl max 0)
                  (q.outIpk.getD e.2 0) ≤ ch.items
            | none => true)
          if q.nin ≠ p.nin || q.nout ≠ p.nout || q.nlut ≠ p.nlut || q.paramSize ≠ p.paramSize || !holds
              || !(if s.rt then bit q.flags 0 else bit q.flags 1) then d.fail seq stBadTopology
          else match (d.startCmd seq).placeCode h m s q with
            | .error st => d.fail seq st
            | .ok (d, offs) =>
              let effects := (List.range g.nctx).map (d.nextFrame g)
              let effect := effects.headD 0
              let d := d.graphMod h (fun g => g.stageMod m (fun s => { s with
                newProgs := s.newProgs ++ [{ prog := c.sqe.cdw13.toNat, offs := offs, effects := effects, seq := seq }] }))
              (d.markChanged kGraph h seq).finish seq {
                dw0 := effect % 4294967296, dg0 := effect, dg1 := h, dgData := c.data, notes := g.lateNote }
        | _, _ => d.fail seq stBadHandle)

/-- The image and code offset that a strip of a frame of a context runs (R129). -/
def Stage.codeFor (s : Stage) (ctx frame w : Nat) : Nat × Nat :=
  s.newProgs.foldl (fun r e => if e.effects.getD ctx 0 ≤ frame then (e.prog, tgetD e.offs w 0) else r) (s.prog, tgetD s.codeOff w 0)

/-- Free the code of a stage at its offsets in every well. -/
def Dev.freeCode (d : Dev) (h m : Nat) (offs : Tab Nat) : Dev :=
  (List.range 16).foldl (fun d w => d.wellMod w (fun x => { x with
    pailAlloc := x.pailAlloc.filter (fun a => !(a.2.2 == 4 * (64 * h + m) && tget offs w == some a.1)) })) d

/-- Strips of frames before a replacement's effect frame may still run the code that it replaces: until the last one of its
stage has yielded, and for a background stage until its graph has stopped (R129). -/
def Graph.runsOld (g : Graph) (m : Nat) (rt : Bool) (e : NewProg) : Bool :=
  if rt then g.frames.any (fun f => f.frame < e.effects.getD f.ctx 0 && !g.stageDone m f) else g.runs

/-- The old code of each replacement in turn is freed once nothing runs it (R129). -/
def Dev.freeOld (d : Dev) (h m : Nat) (g : Graph) (rt : Bool) (cur : Tab Nat) : List NewProg → Dev × List NewProg
  | [] => (d, [])
  | e :: es =>
    if !e.freed && g.runsOld m rt e then (d, e :: es)
    else
      let d := if e.freed then d else d.freeCode h m cur
      let (d, es) := d.freeOld h m g rt e.offs es
      (d, { e with freed := true } :: es)

/-- Free old code; a replacement whose effect frame has started in every context is the stage's code from then on. -/
def Dev.freeOldCode (d : Dev) (h m : Nat) : Dev :=
  match (d.graph h).bind (fun g => (g.stage m).map (fun s => (g, s))) with
  | none => d
  | some (g, s) =>
    if s.newProgs.isEmpty then d else
    let (d, l) := d.freeOld h m g s.rt s.codeOff s.newProgs
    let begun := fun (e : NewProg) => e.freed && (!s.rt || e.effects.zipIdx.all (fun x => x.1 < d.nextFrame g x.2))
    let past := l.takeWhile begun
    d.graphMod h (fun g => g.stageMod m (fun s => { s with
      prog := (past.getLast?.map (·.prog)).getD s.prog, codeOff := (past.getLast?.map (·.offs)).getD s.codeOff,
      newProgs := l.drop past.length }))

/-! ## STOP and RELEASE (R140 to R143) -/

/-- The pilot path starts service into the SINK of a stopped graph (R265); a fallback that cannot start writes a sump
entry with the place of the pilot path and the reason. -/
def Dev.pilotFallback (d : Dev) (h : Nat) (g : Graph) (now : Bool) : Dev :=
  let sinks := g.chans.filter (fun c => c.kind == 2)
  (List.range g.nctx).foldl (fun d ctx =>
    match g.ingestOf ctx with
    | none => d
    | some i =>
      if !bit (d.fget fPipePltCtlFallback) i || !g.isRt || sinks.length != 1 then d
      else
        let pl := d.sns.pilot
        let blk := (tgetD pl.blocks i []).head?.map (·.2)
        let (w, hh, per) := d.srcGeom g ctx
        let bin2 := match blk with | some b => plBin2 b | none => false
        let free := pl.service.isNone && d.fget fPipePltCtlState != 3 && (pl.armed.isNone || pl.armed == some h)
        let rate := w * hh * 1000000000 ≤ (if bin2 then 32000000000 else 8000000000) * per
        let reason := if !free then 1 else if blk.isNone then 2 else if !rate then 3 else 0
        if reason ≠ 0 then d.sumpWrite (ioPlace 1 2 noSlice) 0x10 3 2 0 (le 1 i ++ le 1 reason)
        else
          let x := d.ing i
          let first := if now then x.count else (tget g.spill ctx).getD x.count
          let served := fun (n : Nat) => match d.frameRec i n with | some r => r.marks &&& mStale == 0 | none => false
          let live := fun (n : Nat) => x.inFrame && x.frameNo == n
          let fr := (((List.range (x.count - first)).map (first + ·)).filter served).map (fun n =>
            let ys := (x.rows.filter (fun r => r.frame == n)).map (·.row)
            let f : PilotFrame := {
              frame := n, width := x.width, height := x.height, depth := x.depth, nexp := x.nexp,
              row := ys.foldl min x.height, lo := ys.head?,
              hi := if live n then none else some (ys.foldl (fun m y => max m (y + 1)) 0), failed := d.absent ((sinks.map (·.target)).headD 0) }
            f)
          let sink := (sinks.map (fun c => c.target)).headD 0
          let svc : PilotService := { ctx := i, sink := sink, first := first, frames := fr }
          let d := d.pilotMod (fun p => { p with armed := none, cover := none, service := some svc })
          let d := fr.foldl (fun d f => if f.failed then d else d.lease kPilot 0 f.frame svc.sink) d
          let d := (d.fsets [(fPipePltCtlState, 1), (fPipePltCtlCtx, i), (fPipePltCtlBin2, bin2.toNat)]).journalFree 2
          fr.foldl (fun d f => d.pilotAdvance f.frame 16384) d) d

/-- The pilot path is no longer armed for a graph. -/
def Dev.disarmPilot (d : Dev) (h : Nat) : Dev :=
  if d.sns.pilot.armed = some h then (d.pilotMod (fun p => { p with armed := none, cover := none })).showPilot else d

/-- The spare joins every pump set of its well in the place of a pump that leaves (Table GS-11, event 2). -/
def Dev.spareJoin (d : Dev) (c : Nat) : Dev :=
  let w := wellOf c
  let u := c % 5
  let d := d.setRole c .testing
  -- the background tasks of the pump stay suspended in its pail
  let d := d.saveTask c .ready
  if !(d.well w).order.contains u then d else
  match d.spareOf w with
  | some s =>
    let d := d.wellMod w (fun x => { x with order := x.order.map (fun y => if y = u then s % 5 else y) })
    d.setRole s .substitute
  | none =>
    -- R138: no spare left: CAPACITY for each affected well above 100 per cent
    let d := d.wellMod w (fun x => { x with order := x.order.map (fun y => if y = u then 31 else y) })
    let gs := d.runningGraphs.map (·.2)
    (List.range 16).foldl (fun d x =>
      if gs.any (fun g => !(g.inWell w).isEmpty && !(g.inWell x).isEmpty) && d.overUtil d.pumpsLeft gs x 100 then
        let (a, b) := d.wellLoad d.pumpsLeft gs x
        d.post 0x05 0 0 (wellPlace x 15 noSlice) (le 8 (a * 100 / (b * ((d.activePumps x).length * 1500000000))))
      else d) d

/-- A task cut by a stop leaves its strip; a strip skip in progress ends without a record, and pending global loads are
dropped (R141, R142). -/
def Core.cutTask (k : Core) (i : Nat) (t : Task) (st : TaskSt) : Core :=
  let t' := { t with st := st, strip := none, src := [], input := [], skipDone := [], skipPost := false, discarded := 0 }
  if t.strip.isNone && t.rt then { k with tasks := tput k.tasks i t' }
  else
    let r := k.saved t
    k.putTask i t' { r.stSet stSKIPPING false with loads := [] }

/-- Tasks of a graph leave the pumps that run them; their save frames stay. -/
def Dev.cutTasks (d : Dev) (h : Nat) (st : TaskSt) : Dev :=
  (List.range 80).foldl (fun d c =>
    let k := d.core c
    if !k.tasks.any (fun e => e.2.graph == h) then d
    else
      let d := match k.task with
        | some (_, t) => if t.graph = h then d.saveTask c st else d
        | none => d
      let d := d.coreMod c (fun k => k.tasks.foldl (fun (k : Core) e => if e.2.graph = h then k.cutTask e.1 e.2 st else k) k)
      let d := d.coresMod (fun k => { k with service := k.service.filter (fun x => x != c ||
        (d.core c).tasks.any (fun e => e.2.graph != h && e.2.st == .suspended)) })
      -- a substitution in progress finishes (R143)
      if d.role c == .withdrawing && (d.core c).cur.isNone then d.spareJoin c else d.takeBg c) d

/-- First frame of a graph's context that has not been admitted. -/
def Dev.unadmitted (d : Dev) (g : Graph) (ctx : Nat) : Nat :=
  ((g.frames.filter (fun f => f.ctx == ctx && !f.admitted)).map (·.frame)).foldl min
    (if g.st = .draining then tgetD g.spill ctx (d.nextFrame g ctx) else d.nextFrame g ctx)

/-- Commands whose effect frame a stop leaves unadmitted (R143). -/
def Dev.notApplied (d : Dev) (g : Graph) : List Nat :=
  g.stages.flatMap (fun s =>
    (List.range g.nctx).flatMap (fun k => (tgetD s.params k []).filterMap (fun p =>
      if d.unadmitted g k ≤ p.effect then p.seq else none))
    ++ (s.newProgs.filter (fun n => s.rt && n.effects.zipIdx.all (fun e => d.unadmitted g e.2 ≤ e.1))).map (·.seq))

/-- Every stop command of a graph completes with the last frame published (Table SQ-7), and with RESTARTED where a
background task was restarted on another pump (Table GS-11). -/
def Dev.finishStops (d : Dev) (h : Nat) (seqs : List Nat) (notes : Nat) (lst : List Byte) (last : Option Nat) : Dev :=
  let notes := notes + (if (d.graph h).any (·.restarted) then noteRestarted else 0)
  seqs.foldl (fun d q => (d.markChanged kGraph h q).finish q {
    dw0 := last.getD allOnes32, dg0 := last.getD allOnes64, dg1 := h, notes := notes, list := lst }) d

/-- A graph's contexts enlist no helpers any more: a pump that no other one enlists is the spare again (log entry 125). -/
def Dev.dropHelpers (d : Dev) (gone : Nat × Nat → Bool) (cs : List Nat) : Dev :=
  cs.foldl (fun d c =>
    let left := (d.core c).helps.filter (fun e => !gone e)
    if (d.core c).helps.isEmpty then d
    else d.coreMod c (fun k => { k with helps := left, role := if k.role == .helper && left.isEmpty then .spare else k.role })) d

/-- A graph has stopped: its leases are returned, the pilot path is released or takes over, and commands that wait for a
bank end with NOT_APPLIED (R141, R143, R265). -/
def Dev.endGraph (d : Dev) (h : Nat) (now : Bool) : Dev :=
  match d.graph h with
  | none => d
  | some g =>
    let d := if g.st = .cutting then d else (d.notApplied g).foldl (fun d q => d.noteLater q noteNotApplied) d
    let d := d.graphMod h (fun g => { g with
      st := .stopped, frames := [], stops := [], waiting := [], warned := [],
      chans := g.chans.map (fun c => { c with slots := [] }) })
    let d := (d.dropLeases kGraph h).dropHelpers (fun e => e.1 == h) (List.range 80)
    let d := (List.range g.stages.length).foldl (fun d m => if ((g.stage m).map (·.rt)).getD true then d else d.freeOldCode h m) d
    let d := g.waiting.foldl (fun d q => d.finish q { notes := noteNotApplied, dw0 := allOnes32, dg0 := allOnes64, dg1 := h }) d
    let d := (d.pilotFallback h g now).disarmPilot h
    (List.range 5).foldl (fun d i => d.freeRows i) d

/-- A pump in one of a graph's wells is being withdrawn while a real-time task of it runs (Table GS-11, event 1). -/
def Dev.substituting (d : Dev) (g : Graph) : Bool :=
  (List.range 80).any (fun c => !(g.inWell (wellOf c)).isEmpty && d.role c == .withdrawing)

/-- A cut graph's slots are emptied and its STOP commands complete, once no substitution is in progress in its wells
(R143). -/
def Dev.finishCut (d : Dev) (h : Nat) : Dev :=
  match d.graph h with
  | none => d
  | some g =>
    if g.st != .cutting || d.substituting g then d
    else g.cuts.foldl (fun d e => d.finishStops h [e.1] e.2.1 e.2.2 g.lastPub)
      ((d.graphMod h (fun g => { g with cuts := [] })).endGraph h true)

/-- A substitution has finished (Table GS-11, event 2): graphs that it held up are cut. -/
def Dev.substituted (d : Dev) (c : Nat) : Dev :=
  (d.cores.graphs.map (·.1)).foldl (fun d h => d.finishCut h) (d.spareJoin c)

/-- PIPE_EPC of a background task that is cut: as its exception wrote it while it is suspended, else its resume point
(Table YI-12; log entry 122). -/
def Dev.cutEpc (d : Dev) (c i : Nat) (t : Task) : Nat :=
  let r := if (d.core c).cur = some i then (d.core c).regs else (d.core c).saved t
  if t.st = .suspended then (r.crget 2).toNat else r.pc.toNat % 2 ^ 32

/-- Items of a graph that a STOP_NOW discards: in its slots, and still to be read at SOURCE in-ports (R142). -/
def Dev.graphItems (d : Dev) (h : Nat) (g : Graph) : Nat :=
  (g.chans.map (fun c => ((tvals c.slots).map (fun s => s.items.length)).sum)).sum
    + ((List.range 80).flatMap (fun c => ((d.core c).tasks.filter (fun e => e.2.graph == h)).map (fun e =>
        ((tvals e.2.src).map List.length).sum))).sum

/-- STOP_NOW of a graph: dispatch ceases, every task is cut, its slots, ports and lines are emptied and unpublished
frames discarded (R141, R142). -/
def Dev.graphStopNow (d : Dev) (h : Nat) (earlier : List Nat) (earlierNote : Nat) (now : Option Nat) : Dev :=
  match d.graph h with
  | none => d
  | some g =>
    let frames := (List.range g.nctx).map (fun k =>
      let fs := (g.frames.filter (fun f => f.ctx == k)).map (·.frame)
      listEntry [k, fs.foldl min allOnes64, fs.foldl max 0, fs.length])
    let strips := (g.frames.map (fun f => (g.nstrips f.height) - (f.drained.length))).sum
    let items := d.graphItems h g
    let bg := (List.range 80).flatMap (fun c => (d.core c).tasks.filterMap (fun e =>
      if e.2.graph = h && !e.2.rt && (e.2.st = .running || e.2.st = .ready || e.2.st = .suspended) then
        some (listEntry [c, e.2.stage, d.cutEpc c e.1 e.2]) else none))
    let lst := frames.flatten ++ listEntry [strips, items] ++ bg.flatten
    let d := (d.notApplied g).foldl (fun d q => d.noteLater q noteNotApplied) (d.cutTasks h .ended)
    let d := d.graphMod h (fun g => { g with
      st := .cutting, frames := [], stops := [],
      stages := g.stages.map (fun s => g.frames.foldl (fun s f => s.obWithdraw f.ctx f.frame) s),
      cuts := g.cuts ++ earlier.map (fun q => (q, earlierNote, [])) ++ now.toList.map (fun q => (q, 0, lst)) })
    (d.cores.graphs.map (·.1)).foldl (fun d h => d.finishCut h) d

/-- A drained graph completes its stop commands (R141). -/
def Dev.settleDrain (d : Dev) (h : Nat) : Dev :=
  match d.graph h with
  | none => d
  | some g =>
    let busyBg := (List.range 80).any (fun c => (d.core c).tasks.any (fun e => e.2.graph == h && !e.2.rt
      && (e.2.st == .running || e.2.st == .ready || e.2.st == .suspended)))
    if g.st = .draining && g.frames.isEmpty && !busyBg then
      let last := g.lastPub
      ((d.cutTasks h .ended).endGraph h false).finishStops h g.stops 0 [] last
    else d

def stopGraph (seq : Nat) (d : Dev) : Dev :=
  d.runStop seq kGraph (fun d c =>
    let h := c.w11
    match d.graph h with
    | none => d.fail seq stBadHandle
    | some g =>
      if g.st = .built || g.st = .stopped then d.fail seq stBadHandle
      else if g.st = .cutting then
        ((d.startCmd seq).graphMod h (fun g => { g with cuts := g.cuts ++ [(seq, 0, [])] })).finishCut h
      else if c.stopNow then (d.startCmd seq).graphStopNow h g.stops noteSuperseded (some seq)
      else
        -- frames that have started are still admitted; no later frame start is
        let spill := (List.range g.nctx).map (fun k => (k, d.nextFrame g k))
        let d := (d.startCmd seq).graphMod h (fun g => { g with
          st := .draining, stops := g.stops ++ [seq], spill := if g.st = .draining then g.spill else spill })
        d.settleDrain h)

/-- The limit of a STOP_AT_BOUNDARY has passed: STOP_NOW with BOUNDARY_TIMEOUT (R141). -/
def Dev.graphTimeout (d : Dev) (h : Nat) : Dev :=
  match d.graph h with
  | none => d
  | some g => if g.st = .draining then d.graphStopNow h g.stops noteBoundaryTimeout none else d

/-- Remove a graph's tasks and allocations. -/
def Dev.unbindGraph (d : Dev) (h : Nat) : Dev :=
  let d := (List.range 80).foldl (fun d c =>
    if (d.core c).tasks.any (fun e => e.2.graph == h) then
      d.coreMod c (fun k => { k with tasks := k.tasks.filter (fun e => e.2.graph != h) }) else d) d
  let d := (List.range 16).foldl (fun d w => d.wellMod w (fun x =>
    let pail := x.pailAlloc.filter (fun a => a.2.2 / 256 != h)
    { x with
      alloc := x.alloc.filter (fun a => a.2.2 != gOwner h), pailAlloc := pail,
      codeLim := ((pail.filter (fun a => a.2.2 % 2 == 0)).map (fun a => a.1 + a.2.1)).foldl max 0,
      lutUse := x.lutUse.filter (fun e => e.2 != h) })) d
  d.coresMod (fun k => { k with graphs := terase k.graphs h })

def releaseGraph (seq : Nat) (d : Dev) : Dev :=
  d.runRelease seq kGraph (fun d c =>
    match d.graph c.w11 with
    | none => d.fail seq stBadHandle
    | some g =>
      if g.st = .armed || g.st = .draining || g.st = .cutting then d.fail seq stGraphRunning
      else ((d.startCmd seq).unbindGraph c.w11).okOther seq c 0)

/-- An unbound program is released; one that a stage is bound to is in use (R365). -/
def releaseProgram (seq : Nat) (d : Dev) : Dev :=
  d.runRelease seq 0x12 (fun d c =>
    let h := c.w11
    if (tget d.cores.programs h).isNone then d.fail seq stBadHandle
    else if (tvals d.cores.graphs).any (fun g => g.stages.any (fun s => s.prog == h ||
        s.newProgs.any (fun n => n.prog == h))) then d.fail seq stBusy
    else ((d.startCmd seq).coresMod (fun k => { k with programs := terase k.programs h })).okOther seq c 0)

end Sys2Proof.Machine
end

