-- ==== Sys2Proof/Machine/Sched.lean ====
section
/-!
DEFINITION. Strips at run time: frame starts and admission, dispatch, the end of strips, shedding and cover, SINK drains,
publishing, black tracking, task switches and the withdrawal of pumps (R115 to R139, R165, R169, R248).
-/
set_option autoImplicit false

namespace Sys2Proof.Machine

/-! ## Strips as sources and sinks hold them -/

/-- Input columns of a strip: first, and one past the last (R115). -/
def Graph.inputCols (g : Graph) (w h n : Nat) : Nat × Nat :=
  let (_, _, p0, pw) := g.strip w h n
  (p0 - g.apronX, min w (p0 + pw + g.apronX))

/-- Input lines of a strip, clipped to the rows that an ended frame has (R214: aprons are clipped as at a frame's edge). -/
def Graph.clippedLines (g : Graph) (f : GFrame) (n : Nat) : Nat × Nat :=
  let (a, b) := g.inputLines f.height n
  match f.rows with | some (lo, hi) => (max a lo, min b hi) | none => (a, b)

/-- Items of one input line: each run padded to whole items, then EOL (R243). -/
def lineItems (runs : List (List Nat)) (y : Nat) : List Item :=
  (itemWords (runs.flatMap runBytes)).map Item.data ++ [.mark (mkMark markEol false y)]

/-- A row of a frame in the ingest buffer. -/
def Dev.rowOf (d : Dev) (i frame y : Nat) : Option IngRow := (d.ing i).rows.find? (fun r => r.frame == frame && r.row == y)

/-- The bytes of a strip's input area in a frame in memory: for each line and plane, an address and a length. -/
def Graph.srcRanges (g : Graph) (f : GFrame) (n va a b : Nat) : List (Nat × Nat) :=
  let (x0, x1) := g.inputCols f.width f.height n
  (List.range (b - a)).flatMap (fun k => (List.range 3).map (fun c =>
    (va + (a + k) * rgbPitch f.width + 2 * (roundUp f.width 32 * c + x0), 2 * (x1 - x0))))

/-- The fault that abandons the fetch of a strip from a frame in memory (R169). -/
def Dev.srcFault (d : Dev) (g : Graph) (f : GFrame) (n : Nat) : Option (Nat × Nat × Nat) :=
  if g.source ≠ 2 then none else match f.src.bind (fun e => d.buf e.1) with
    | none => none
    | some m =>
      let (a, b) := g.clippedLines f n
      ((g.srcRanges f n m.va a b).findSome? (fun r => d.rangeFault true m.asid r.1 r.2 false)).map (fun e => (m.asid, e))

/-- A sample of a frame in memory: poisoned data enter the cistern as zeros (R156). -/
def Dev.srcSample (d : Dev) (asid va : Nat) : Nat :=
  if d.vpoison asid va 2 then 0 else leNat (d.vread asid va 2)

/-- Items of a strip's input area at a SOURCE: none while a line is still missing (R119). Frames in memory hold RGB16L
lines and are read at once by siphon 0 (R165); the marker carries P where poison was read (R156). -/
def Dev.sourceItems (d : Dev) (g : Graph) (f : GFrame) (n : Nat) : Option (List Item) :=
  let (a, b) := g.clippedLines f n
  let (x0, x1) := g.inputCols f.width f.height n
  let ys := (List.range (b - a)).map (a + ·)
  let eos := Item.mark (mkMark markEos false n)
  match g.ingestOf f.ctx with
  | some i =>
    let rows := ys.map (fun y => (d.rowOf i f.frame y).map (fun r => lineItems (r.lines.map (fun l => (l.take x1).drop x0)) y))
    if rows.all Option.isSome then some ((rows.filterMap id).flatten ++ [eos]) else none
  | none => match f.src.bind (fun e => d.buf e.1) with
    | none => none
    | some m =>
      let seen := (g.srcRanges f n m.va a b).any (fun r => d.vpoison m.asid r.1 r.2)
      some (ys.flatMap (fun y => lineItems ((List.range 3).map (fun c => (List.range (x1 - x0)).map (fun x =>
        d.srcSample m.asid (m.va + y * rgbPitch f.width + 2 * (roundUp f.width 32 * c + x0 + x))))) y)
        ++ [.mark (mkMark markEos seen n)])

/-- The slot of a channel that holds a strip. -/
def Chan.slotOf (ch : Chan) (s : StripRef) : Option (Nat × ChSlot) := ch.slots.find? (fun e => e.2.strip == s)

/-- A SOURCE channel feeds the strips of the context that its TARGET names (Table GS-6). -/
def Chan.feeds (ch : Chan) (ctx : Nat) : Bool := ch.kind == 1 && ch.target == ctx

/-- A stage takes strips of a context: it has no SOURCE, or one of that context. -/
def Graph.takes (g : Graph) (s : Stage) (ctx : Nat) : Bool :=
  let cs := s.ins.filterMap g.chan
  cs.all (fun ch => ch.kind != 1) || cs.any (fun ch => ch.feeds ctx)

/-- A strip is ready for a stage (R119). -/
def Dev.stripReady (d : Dev) (g : Graph) (f : GFrame) (m n : Nat) : Bool :=
  match g.stage m with
  | none => false
  | some s =>
    s.rt && f.admitted && g.takes s f.ctx && (tget f.strips (stripKey m n)).isNone
      && s.ins.all (fun k => match g.chan k with
          | none => true
          | some ch => if ch.kind = 1 then !ch.feeds f.ctx || (d.sourceItems g f n).isSome
              else (match ch.slotOf ⟨f.ctx, f.frame, n⟩ with | some e => e.2.complete | none => false))
      && s.outs.all (fun k => match g.chan k with
          | none => true
          | some ch => ch.slots.length < ch.nslots)

/-- Order of dispatch (R121): context priority, frame, depth, strip. -/
structure Rank where
  prio : Nat
  frame : Nat
  shallow : Nat
  strip : Nat
  deriving DecidableEq, Repr

def Rank.ahead (a b : Rank) : Bool :=
  a.prio < b.prio || (a.prio == b.prio && (a.frame < b.frame || (a.frame == b.frame && (a.shallow < b.shallow ||
    (a.shallow == b.shallow && a.strip < b.strip)))))

def Graph.rank (g : Graph) (ctx frame m n : Nat) : Rank :=
  { prio := g.prio.getD ctx 0, frame := frame, shallow := 65 - g.depth 65 m, strip := n }

/-- A ready strip with its place in the order. -/
structure Ready where
  rank : Rank
  ctx : Nat
  frame : Nat
  stage : Nat
  strip : Nat

/-- Ready strips of a graph. -/
def Dev.readyStrips (d : Dev) (g : Graph) : List Ready :=
  if g.st = .armed || g.st = .draining then
    g.frames.flatMap (fun f => (List.range g.stages.length).flatMap (fun m =>
      ((List.range (g.nstrips f.height)).filter (fun n => d.stripReady g f m n)).map (fun n =>
        { rank := g.rank f.ctx f.frame m n, ctx := f.ctx, frame := f.frame, stage := m, strip := n })))
  else []

/-- The rank of the strip that a stalled real-time task holds. -/
def Dev.taskRank (d : Dev) (t : Task) : Option Rank :=
  match t.strip, d.graph t.graph with
  | some s, some g => some (g.rank s.ctx s.frame t.stage s.strip)
  | _, _ => none

/-- A pump may take a strip now: idle or running a background task (R121). -/
def Dev.pumpFree (d : Dev) (c : Nat) : Bool :=
  match (d.core c).task with
  | none => true
  | some (_, t) => !t.rt

/-- A pump holds a strip of the stage for a task that it pre-empted in a stall (R123): it takes no other of that stage. -/
def Dev.holdsStrip (d : Dev) (c h m : Nat) : Bool :=
  (d.core c).tasks.any (fun e => e.2.graph == h && e.2.stage == m && e.2.strip.isSome)

/-- Pumps that may take a strip of a stage, the stage's own first by the order of R121, then helpers (R131). -/
def Dev.candidates (d : Dev) (h : Nat) (g : Graph) (m : Nat) (s : Stage) : List Nat :=
  let home := (s.ins.findSome? (fun k => (g.chan k).map (·.home))).getD 0
  let wells := home :: (List.range 16).filter (· != home)
  let own := wells.flatMap (fun w => ((List.range 5).map (5 * w + ·)).filter (fun c => (d.pumpSet s w).contains c
    && (d.role c == .active || d.role c == .substitute)))
  let help := (List.range 80).filter (fun c => d.role c == .helper && s.pumps.getD (wellOf c) 0 != 0)
  (own ++ help).filter (fun c => !d.holdsStrip c h m)

/-! ## Dispatch (R116, R121) -/

/-- PIPE_WDOG_LIM of a strip (R116). -/
def wdogLim (p : Program) (lines width : Nat) : Nat := min (2 * p.cost lines width) 0xFFFFFFFF

/-- MARKS and TSTART of a frame as known at dispatch (Table GS-7). -/
def Dev.marksOf (d : Dev) (g : Graph) (f : GFrame) : Nat × Nat :=
  match g.ingestOf f.ctx with
  | some i => match d.frameRec i f.frame with | some r => (r.marks, r.tstart.getD allOnes64) | none => (0, allOnes64)
  | none => match f.src with | some (_, p) => (p.marks, p.time) | none => (0, allOnes64)

/-- The newest sample time that counts as metadata of a frame (R483). -/
def Dev.metaTime (d : Dev) (i frame : Nat) : Nat :=
  match d.frameRec i frame with | some r => r.tstart.getD r.tacc | none => 0

def Dev.graphMetaTime (d : Dev) (g : Graph) (f : GFrame) : Nat :=
  match g.ingestOf f.ctx with
  | some i => d.metaTime i f.frame
  | none => match f.src with | some (_, p) => p.tmeta | none => 0

/-- The strip record (Table GS-7). -/
def Dev.stripRecord (d : Dev) (g : Graph) (f : GFrame) (s : Stage) (p : Program) (n : Nat) : List Byte :=
  let (l0, ls, p0, pw) := g.strip f.width f.height n
  let (a, b) := g.clippedLines f n
  let (x0, x1) := g.inputCols f.width f.height n
  let band := n / g.nspan
  let span := n % g.nspan
  let edge := (band == 0).toNat + 2 * (band + 1 == g.bands f.height).toNat + 4 * (span == 0).toNat
    + 8 * (span + 1 == g.nspan).toNat
  let slot := match copyFor (tgetD s.params f.ctx []) f.frame with | some q => q.slot | none => 0
  let (marks, t) := d.marksOf g f
  le 4 f.frame ++ le 2 n ++ le 1 f.ctx ++ le 1 edge ++ le 2 l0 ++ le 2 ls ++ le 2 (l0 - a) ++ le 2 (b - (l0 + ls))
    ++ le 2 p0 ++ le 2 pw ++ le 2 (p0 - x0) ++ le 2 (x1 - (p0 + pw)) ++ le 4 ((3 * f.ctx + slot) * p.paramSize)
    ++ le 4 marks ++ le 8 t ++ zeros 24

/-- Give each out-port of a stage a free slot for a strip, and answer the ports' channel and slot numbers. -/
def Graph.takeSlots (g : Graph) (outs : List Nat) (s : StripRef) : Graph × List (Nat × Nat × Nat) :=
  outs.zipIdx.foldl (fun acc e =>
    let (g, l) := acc
    match g.chan e.1 with
    | none => acc
    | some ch => match tfree ch.slots 0 ch.nslots with
      | none => acc
      | some k => (g.chanMod e.1 (fun ch => { ch with slots := tput ch.slots k { strip := s } }), l ++ [(4 + e.2, e.1, k)])) (g, [])

/-- The slots of a stage's in-ports that hold a strip. -/
def Graph.inSlots (g : Graph) (ins : List Nat) (s : StripRef) : List (Nat × Nat × Nat) :=
  ins.zipIdx.filterMap (fun e => (g.chan e.1).map (fun ch => (e.2, e.1, match ch.slotOf s with | some x => x.1 | none => 0)))

/-- Shed one strip: every stage counts it as done, and its area is repaired (R132, R134). -/
def Dev.shedStrip (d : Dev) (h : Nat) (ctx frame n : Nat) : Dev :=
  d.graphMod h (fun g => g.frameMod ctx frame (fun f => { g.endAll f n .shed with
    skipped := if f.repair.contains n then f.skipped else f.skipped + 1,
    repair := if f.repair.contains n then f.repair else f.repair ++ [n] }))

/-- A SOURCE fetch that faults is abandoned: its report is written and its strip counts as skipped (R169). -/
def Dev.srcAbandon (d : Dev) (h : Nat) (g : Graph) (ctx frame n asid va sub : Nat) : Dev :=
  let home := (g.chans.find? (fun c => c.kind == 1)).map (·.home)
  (d.xlatFault (.siphonRt (home.getD 0)) true false asid va sub 0).shedStrip h ctx frame n

/-- A pump that takes its first strip of a stage gets the stage's task. -/
def Dev.ensureTask (d : Dev) (c h m : Nat) : Dev :=
  if ((d.core c).slotFor h m).isSome then d
  else match (d.graph h).bind (fun g => (g.stage m).map (fun s => (g, s))) with
    | none => d
    | some (g, s) => match tget d.cores.programs s.prog with
      | none => d
      | some p => d.newTask c h m g s p .waiting

/-- Dispatch a ready strip to a pump: what runs there is saved, the strip record and registers are written, the ports
are pointed at the strip's slots, and the task starts at STRIP_ENTRY (R116). ENTRY of a real-time task is never run: Table
GS-1 calls it the first bundle of a task, and every strip starts at STRIP_ENTRY (DEDUCED, log entry 121). -/
def Dev.dispatch (d : Dev) (h : Nat) (r : Ready) (c : Nat) : Dev :=
  let d := d.ensureTask c h r.stage
  match d.graph h with
  | none => d
  | some g => match g.stage r.stage, g.frame r.ctx r.frame, (d.core c).slotFor h r.stage with
    | some s, some f, some slot =>
      let w := wellOf c
      let (ph, co) := s.codeFor r.ctx r.frame w
      match tget d.cores.programs ph with
      | none => d
      | some p =>
        let ref : StripRef := { ctx := r.ctx, frame := r.frame, strip := r.strip }
        let (_, ls, _, pw) := g.strip f.width f.height r.strip
        let src := (d.sourceItems g f r.strip).getD []
        let srcPorts := s.ins.zipIdx.filterMap (fun e => match g.chan e.1 with
          | some ch => if ch.kind = 1 then some (e.2, if ch.feeds r.ctx then src else []) else none | none => none)
        let inS := g.inSlots s.ins ref
        let inItems := if srcPorts.isEmpty then (match inS with
          | (_, ci, k) :: _ => (match (g.chan ci).bind (fun ch => tget ch.slots k) with | some x => x.items | none => [])
          | [] => []) else src
        let (g2, outS) := g.takeSlots s.outs ref
        let g2 := g2.frameMod r.ctx r.frame (fun f => { f with strips := tput f.strips (stripKey r.stage r.strip) (.running c) })
        let rec' := d.stripRecord g f s p r.strip
        let d := d.saveTask c .ready
        let d := d.graphMod h (fun _ => g2)
        let d := d.coreMod c (fun k => { k with
          mem := mwrite k.mem (tgetD s.dataOff w 0 + p.stripRec) rec',
          tasks := tadj k.tasks slot (fun t => { t with
            strip := some ref, src := srcPorts, input := inItems, skipDone := [], discarded := 0 }) })
        let d := d.restoreTask c slot
        d.regsMod c (fun q =>
          let q := q.crput 0x50 (BitVec.ofNat 32 (p.stripEntry + co))
          let q := q.crput 0x51 (BitVec.ofNat 32 r.strip)
          let q := (q.crput 0x30 (BitVec.ofNat 32 (wdogLim p ls pw))).kick
          let q := (inS ++ outS).foldl (fun q e => match g.chan e.2.1 with
            | some ch => q.crput (0x70 + e.1) (portWord ch e.2.1 e.2.2) | none => q) q
          { q with pc := bundlePc (BitVec.ofNat 32 (p.stripEntry + co)) })
    | _, _, _ => d

/-- The first ready strip of a graph, in the order of R121, for which a pump is free, with that pump. -/
def Dev.nextDispatch (d : Dev) (h : Nat) (g : Graph) : Option (Ready × Nat) :=
  (d.readyStrips g).foldl (fun best r =>
    let better := match best with | none => true | some (b, _) => r.rank.ahead b.rank
    if !better then best else match g.stage r.stage with
      | none => best
      | some s => match (d.candidates h g r.stage s).find? (fun c => d.pumpFree c) with
        | some c => some (r, c)
        | none => best) none

/-- Ready strips that a pump could take: strips of real-time stages bound in its well. -/
def Dev.readyFor (d : Dev) (c : Nat) : List Rank :=
  d.cores.graphs.flatMap (fun e => (d.readyStrips e.2).filterMap (fun r => match e.2.stage r.stage with
    | some s => if (d.candidates e.1 e.2 r.stage s).contains c then some r.rank else none | none => none))

/-- A pump without a real-time task takes back the stalled real-time task that ranks ahead of every ready strip (R123),
else its next background task. -/
def Dev.nextTask (d : Dev) (c : Nat) : Dev :=
  if !d.pumpFree c then d else
    let held := (d.core c).tasks.filterMap (fun e => if e.2.rt && e.2.st == .ready then (d.taskRank e.2).map (fun r => (e.1, r)) else none)
    let best := held.foldl (fun (m : Option (Nat × Rank)) e => match m with
      | none => some e | some b => if e.2.ahead b.2 then some e else some b) none
    match best with
    | some (slot, rank) =>
      if (d.readyFor c).any (fun r => r.ahead rank) then d.takeBg c
      else (d.saveTask c .ready).restoreTask c slot
    | none => d.takeBg c

def stripDispatch (h : Nat) (d : Dev) : Dev :=
  match d.graph h with
  | none => d
  | some g =>
    let d := match d.nextDispatch h g with
      | some (r, c) => match (g.frame r.ctx r.frame).bind (fun f => d.srcFault g f r.strip) with
        | some (asid, va, sub) => if g.sourceStages.contains r.stage then d.srcAbandon h g r.ctx r.frame r.strip asid va sub
            else d.dispatch h r c
        | none => d.dispatch h r c
      | none => d
    (List.range 80).foldl (fun d c => if (d.core c).tasks.isEmpty then d else d.nextTask c) d

/-! ## Library stages (R237 to R255) -/

/-- The frame that a strip's SOURCE items hold, by exposure and position of the frame. -/
def inputMosaic (lines : List (List Byte)) (a x0 wIn : Nat) : Mosaic := fun e x y =>
  field (lines.getD (y - a) []) (2 * (roundUp wIn 32 * e + (x - x0))) 2

/-- Output lines of a library stage for a strip. -/
def Dev.libLines (d : Dev) (c : Nat) (l : Lib) (q : ParamCopy) (g : Graph) (st : Stage) (f : GFrame) (n : Nat) (input : List Item) : List (List Byte) :=
  let (l0, ls, p0, pw) := g.strip f.width f.height n
  let (a, _) := g.clippedLines f n
  let (x0, x1) := g.inputCols f.width f.height n
  let lines := itemLines input []
  let lut := d.lutRead c
  let b := q.block
  let (lo, hi) := f.rows.getD (0, f.height)
  let v0 := frontV b lut f.nexp f.depth (inputMosaic lines a x0 (x1 - x0)) (q.black f.frame)
  -- rows that an ended frame lacks at its top are mirrored as at a frame's edge
  let v := fun x y => if y < lo then v0 x (2 * lo - y) else v0 x y
  -- a stage fed by a frame in memory finds its lines and pixels inside the apron of the input area (R115)
  let fromSource := (st.ins.filterMap g.chan).any (fun c => c.kind == 1)
  let px := fun k x ch => ((if fromSource then rgbSample (x1 - x0) (lines.getD (k + (l0 - a)) []) (x + (p0 - x0)) ch
    else rgbSample pw (lines.getD k []) x ch : Nat) : Int)
  match l with
  | .front => (List.range ls).map (fun k => runBytes ((List.range pw).map (fun x => (v (p0 + x) (l0 + k)).toNat)))
  | .develop => (List.range ls).map (fun k => rgbLine pw (fun x ch =>
      (demosaicAt (fbCfa b) f.width hi (greenAt (field b 0x40 1)) v (p0 + x) (l0 + k) ch).toNat))
  | .balance => (List.range ls).map (fun k => rgbLine pw (fun x ch => (balancePx b (px k x) ch).toNat))
  | .look => (List.range ls).map (fun k => rgbLine pw (fun x ch => (lookPx b q.cube lut (px k x) ch).toNat))

/-- At YIELD, the out-port data of a library stage are those of the library's arithmetic, whatever code stands in the
image: the spec gives the results and not the code (R237). -/
def Dev.imposeLibrary (d : Dev) (c : Nat) : Dev :=
  match d.curTask c with
  | none => d
  | some t => match t.strip, d.graph t.graph, d.programOf t with
    | some s, some g, some p => match p.lib, g.stage t.stage, g.frame s.ctx s.frame with
      | some l, some st, some f => match copyFor (tgetD st.params s.ctx []) s.frame with
        | none => d
        | some q =>
          if q.block.isEmpty then d else
            let ws := itemWords (d.libLines c l q g st f s.strip t.input).flatten
            ((d.core c).regs.boundPorts 4).foldl (fun d k =>
              let v := (d.core c).regs.port k
              d.graphMod t.graph (fun g => g.chanMod (portChan v) (fun ch => { ch with
                slots := tadj ch.slots (portSlot v) (fun x => { x with items := replaceData x.items ws }) }))) d
      | _, _, _ => d
    | _, _, _ => d

/-! ## The end of a strip (R117) -/

/-- The task of a pump has ended its strip in a state: the in-slots are freed, source lines released, the strip counted,
and the pump goes on (R117, R133). -/
def Dev.closeStrip (d : Dev) (c : Nat) (st : StripSt) : Dev :=
  match d.curTask c with
  | none => d
  | some t => match t.strip with
    | none => d
    | some s =>
      let d := d.graphMod t.graph (fun g =>
        let ins := match g.stage t.stage with | some x => x.ins | none => []
        let g := ins.foldl (fun g k => g.chanMod k (fun ch => match ch.slotOf s with
          | some e => { ch with slots := terase ch.slots e.1 } | none => ch)) g
        g.frameMod s.ctx s.frame (fun f => { f with strips := tput f.strips (stripKey t.stage s.strip) st }))
      let d := d.taskMod c (fun t => { t with strip := none, src := [], input := [], skipDone := [] })
      let d := d.saveTask c .waiting
      let d := match (d.graph t.graph).bind (fun g => g.ingestOf s.ctx) with | some i => d.freeRows i | none => d
      let d := d.freeOldCode t.graph t.stage
      if d.role c == .withdrawing then d.substituted c else d.nextTask c

/-- YIELD of a real-time task: missing end markers are appended as SKIP with a fault record; it stalls, which answers
none, while a channel is full (R117). -/
def Dev.endStrip (d : Dev) (c : Nat) : Option Dev :=
  match d.curTask c with
  | none => some d
  | some t =>
    let n := match t.strip with | some s => s.strip | none => 0
    let miss := ((d.core c).regs.boundPorts 4).filter (fun k => !d.portEnded c k)
    if miss.any (fun k => d.portRoom c k == 0) then none
    else if miss.isEmpty then
      some ((d.imposeLibrary c).closeStrip c .done)
    else
      let psn := (d.core c).regs.stBit stPSN
      let d := miss.foldl (fun d k => d.portPush c k (.mark (mkMark markSkip psn n))) d
      let d := d.taskMod c (fun t => { t with skipInfo := (0, ((d.core c).regs.crget 2).toNat, psn), discarded := 0 })
      let d := d.regsMod c (fun r => r.stSet stPSN false)
      match d.curTask c with
      | none => some d
      | some t => some (((d.countSkipped t).rtFault c 3 t).closeStrip c .skipped)

/-- YIELD: a real-time task ends its strip; a background task offers the pump to a ready task of its class, and stops
when its graph drains (R69, R117, Table GS-12). -/
def yieldEnd : Ender := fun d c =>
  match (d.core c).task with
  | none => some d
  | some (i, t) =>
    if t.rt then d.endStrip c
    else if ((d.graph t.graph).map (·.st)) == some .draining then
      some (((d.saveTask c .ended).settleDrain t.graph).nextTask c)
    else
      let others := { (d.core c) with tasks := (d.core c).tasks.filter (fun e => e.1 != i && !e.2.rt) }
      match others.nextBg with
      | some j => some ((d.saveTask c .ready).restoreTask c j)
      | none => some d

/-- HALT: the task ends (R69). -/
def haltEnd : Ender := fun d c =>
  match (d.core c).task with
  | none => some d
  | some (i, t) =>
    if t.rt then (d.endStrip c).map (fun d => d.coreMod c (fun k => { k with tasks := tadj k.tasks i (fun t => { t with st := .ended }) }))
    else some (((d.saveTask c .ended).settleDrain t.graph).nextTask c)

/-- Out-ports at which a task that skips its strip had stalled because their slots are full: those of a SOUT, SMARKW or
YIELD at its pc (R110). -/
def Dev.overPorts (d : Dev) (c : Nat) : List Nat :=
  let outs := ((d.core c).regs.boundPorts 4).filter (fun k => d.portRoom c k == 0)
  match d.fetch c with
  | some (w0, _) => match opOf w0 with
    | some .sout | some .smarkw => outs.filter (· == yPort w0)
    | some .yield => outs.filter (fun k => !d.portEnded c k)
    | _ => []
  | none => []

/-- A strip skip goes on; when it is complete, the strip has ended (R94). -/
def stripSkip (c : Nat) (d : Dev) : Dev :=
  if !(d.core c).regs.stBit stSKIPPING then d else
    let d := d.skipStep c (d.overPorts c)
    if (d.core c).regs.stBit stSKIPPING then d else d.closeStrip c .skipped

/-! ## Task switches (R96, R120, R123) -/

/-- A pump is pre-empted in favour of a ready task: a background task by a real-time one that holds a strip, or by one
of higher background priority (Table GS-8). -/
def preemptRequest (c slot : Nat) (d : Dev) : Dev :=
  match tget (d.core c).tasks slot with
  | none => d
  | some n =>
    if n.st != .ready then d else match (d.core c).task with
      | none => d.restoreTask c slot
      | some (_, t) => if !t.rt && (n.rt || n.prio < t.prio) then (d.saveTask c .ready).restoreTask c slot else d

def bgQuantumExpiry (c : Nat) (d : Dev) : Dev :=
  match (d.core c).task with
  | none => d
  | some (i, t) =>
    if t.rt then d else
      let eq := (d.core c).tasks.filter (fun e => e.1 != i && !e.2.rt && e.2.st == .ready && e.2.prio == t.prio)
      match (eq.find? (fun e => i < e.1)).orElse (fun _ => eq.head?) with
      | some (j, _) => (d.saveTask c .ready).restoreTask c j
      | none => d

/-- The bundle at the pc stalls at issue on a stream port or a pending global load (R123). -/
def Dev.stalledIssue (d : Dev) (c : Nat) : Bool :=
  match d.fetch c with
  | none => false
  | some (w0, w1) =>
    let old := (d.core c).regs
    if waitsLoad old w0 || (bit w0 31 && waitsLoad old w1) then true
    else match opOf w0 with
      | some op => (match op with
          | .sin | .sout | .smarkr | .smarkw | .ldg | .stg | .fence => (match d.semSlot0 c op w0 w1 old with | .error .stall => true | _ => false)
          | .yield => (d.endStrip c).isNone
          | _ => false)
      | none => false

/-- A real-time task stalled for more than 2 µs gives way to a ready strip of another real-time stage that ranks ahead of
its own when no other pump of that stage's set is free (R123). -/
def rtStallPreempt (c : Nat) (d : Dev) : Dev :=
  match d.curTask c with
  | none => d
  | some t =>
    if !t.rt || !d.stalledIssue c then d else match d.taskRank t with
      | none => d
      | some mine =>
        let cands := d.cores.graphs.flatMap (fun e => (d.readyStrips e.2).filterMap (fun r =>
          match e.2.stage r.stage with
          | some s => if r.rank.ahead mine && (e.1 != t.graph || r.stage != t.stage) && (d.candidates e.1 e.2 r.stage s).contains c
              && (d.candidates e.1 e.2 r.stage s).all (fun x => x == c || !d.pumpFree x) then some (e.1, r) else none
          | none => none))
        match cands.foldl (fun (m : Option (Nat × Ready)) e => match m with
            | none => some e | some b => if e.2.rank.ahead b.2.rank then some e else some b) none with
        | some (h, r) => d.dispatch h r c
        | none => d

/-! ## Shedding and cover (R131, R132) -/

/-- The pilot path is free to cover a strip of a graph. -/
def Dev.coverFree (d : Dev) (h : Nat) : Bool :=
  d.sns.pilot.armed == some h && d.sns.pilot.cover.isNone && d.fget fPipePltCtlState == 2

/-- The oldest source strip of a context that has not started. -/
def Graph.oldestWaiting (g : Graph) (ctx : Nat) : Option (GFrame × Nat) :=
  let fs := sortBy (fun a b => a.frame ≤ b.frame) (g.frames.filter (fun f => f.ctx == ctx))
  fs.findSome? (fun f => ((List.range (g.nstrips f.height)).find? (fun n =>
    g.sourceStages.any (fun m => ((g.stage m).map (·.rt)).getD false && (tget f.strips (stripKey m n)).isNone)
      && (List.range g.stages.length).all (fun m => (tget f.strips (stripKey m n)).isNone))).map (fun n => (f, n)))

/-- Send a strip to the pilot path: every stage counts it as done (R132). -/
def Dev.coverStrip (d : Dev) (h : Nat) (ctx frame n : Nat) : Dev :=
  let d := d.graphMod h (fun g => g.frameMod ctx frame (fun f => { g.endAll f n .covered with covered := f.covered + 1 }))
  let d := match (d.graph h).bind (fun g => g.ingestOf ctx) with | some i => d.fset fPipePltCtlCtx i | none => d
  d.pilotMod (fun p => { p with cover := some (h, { ctx := ctx, frame := frame, strip := n }) })

/-- Shed or cover strips of a graph's context while its occupancy is at SHED or above (R132). -/
def Dev.shedLoop (d : Dev) (i h ctx : Nat) : Nat → Dev
  | 0 => d
  | fuel + 1 => match d.graph h with
    | none => d
    | some g =>
      if (d.ing i).rows.length < g.shed then d else match g.oldestWaiting ctx with
        | none => d
        | some (f, n) =>
          let d := if d.coverFree h && (match g.ingestOf ctx with | some k => (d.pilotBlock k f.frame).isSome | none => false) then
            d.coverStrip h ctx f.frame n else d.shedStrip h ctx f.frame n
          (d.freeRows i).shedLoop i h ctx fuel

/-- Helpers of a graph's context: the spare of each well where it has a real-time stage, unless it substitutes or its last
test did not pass (R131). -/
def Dev.enlist (d : Dev) (h ctx : Nat) (g : Graph) : Dev :=
  (List.range 16).foldl (fun d w =>
    if g.stages.any (fun s => s.rt && s.pumps.getD w 0 != 0) then
      ((List.range 5).map (5 * w + ·)).foldl (fun d c =>
        if (d.role c == .spare || d.role c == .helper) && (d.core c).lastTestOk then
          d.coreMod c (fun k => { k with role := .helper, helps := if k.helps.contains (h, ctx) then k.helps else k.helps ++ [(h, ctx)] })
        else d) d
    else d) d

/-- The floats of a context as its occupancy rises (R131, R132, R135). -/
def Dev.checkLevels (d : Dev) (i : Nat) (before : Nat) : Dev :=
  (d.fedBy i).foldl (fun d e =>
    let (h, g, ctx) := e
    let occ := (d.ing i).rows.length
    let d := if before < g.warn && g.warn ≤ occ then
        let d := (d.graphMod h (fun g => { g with warned := if g.warned.contains ctx then g.warned else g.warned ++ [ctx] })).floatEvent 2 h i
        if bit g.flags 1 then d.enlist h ctx g else d
      else d
    if g.shed ≤ occ then
      let d := if before < g.shed then
          (d.graphMod h (fun g => { g with warned := if g.warned.contains ctx then g.warned else g.warned ++ [ctx] })).floatEvent 3 h i
        else d
      d.shedLoop i h ctx 4096
    else d) d

/-- An island of a graph's wells is throttled (SYS_ISL_STAT). -/
def Dev.graphThrottled (d : Dev) (g : Graph) : Bool :=
  (List.range 16).any (fun w => !(g.inWell w).isEmpty && d.fget (fSysIslStatState w) == 1)

/-- The helpers that a graph's context enlisted return to spare duty at its frame start when its occupancy is below WARN ÷ 2,
no island of the graph's wells is throttled and no pump of the graph is withdrawn (R131). -/
def Dev.returnHelpers (d : Dev) (i h ctx : Nat) (g : Graph) : Dev :=
  let ws := (List.range 16).filter (fun w => !(g.inWell w).isEmpty)
  let withdrawn := ws.any (fun w => (List.range 5).any (fun u =>
    d.role (5 * w + u) == .withdrawing || d.role (5 * w + u) == .testing))
  if 2 * (d.ing i).rows.length < g.warn && !d.graphThrottled g && !withdrawn then
    d.dropHelpers (· == (h, ctx)) (List.range 80)
  else d

/-- A frame of an ingest context has ended with the rows lo … hi − 1: every strip whose output area contains a missing
row is shed, and the others have their aprons clipped (R214). -/
def Dev.frameRows (d : Dev) (i frame lo hi : Nat) : Dev :=
  (d.fedBy i).foldl (fun d e =>
    let (h, g, ctx) := e
    match g.frame ctx frame with
    | none => d
    | some f =>
      let d := d.graphMod h (fun g => g.frameMod ctx frame (fun f => { f with rows := some (lo, hi) }))
      (List.range (g.nstrips f.height)).foldl (fun d n =>
        let (l0, ls, _, _) := g.strip f.width f.height n
        if (l0 < lo || hi < l0 + ls) && (List.range g.stages.length).all (fun m => (tget f.strips (stripKey m n)).isNone) then
          d.shedStrip h ctx frame n else d) d) d

/-! ## Frames of graphs (R130, R134, R158, R248) -/

/-- A frame of a graph's context starts: leases on its SINK buffers are taken, except on a buffer that is absent
(R158, R160). -/
def Dev.graphFrame (d : Dev) (h : Nat) (f : GFrame) : Dev :=
  match d.graph h with
  | none => d
  | some g =>
    if g.st != .armed || f.frame < tgetD g.first f.ctx 0 || (g.frame f.ctx f.frame).isSome then d
    else
      let d := d.graphMod h (fun g => { g with frames := g.frames ++ [f] })
      let d := match f.src with | some (b, _) => d.lease kGraph h f.frame b | none => d
      g.sinkHandles.foldl (fun d t => if d.absent t then d else d.lease kGraph h f.frame t) d

/-- A frame start of an ingest context reaches the graphs that it feeds. -/
def Dev.graphFrameStart (d : Dev) (i frame : Nat) : Dev :=
  let x := d.ing i
  (d.fedBy i).foldl (fun d e =>
    let d := d.returnHelpers i e.1 e.2.2 e.2.1
    d.graphFrame e.1 { ctx := e.2.2, frame := frame, width := x.width, height := x.height, depth := x.depth,
                       nexp := max 1 x.nexp }) d

/-- A frame that has come into a buffer starts the frames of the graphs that read what SRC_SEL names, unless the buffer
is absent for the frame (R109, R160). -/
def Dev.feedFrom (d : Dev) (sel handle : Nat) (p : Published) : Dev :=
  (d.cores.graphs.filter (fun e => e.2.source == 2 && e.2.srcSel == sel && !d.absent handle)).foldl (fun d e =>
    d.graphFrame e.1 { ctx := 0, frame := p.frame, src := some (handle, { p with image := [] }), width := p.width,
                       height := p.height, depth := 16 }) d

/-- Frames published into a buffer start the frames of the graphs that read it (SOURCE 2). -/
def Dev.feedGraphs (d : Dev) (handle : Nat) (p : Published) : Dev := d.feedFrom handle handle p

/-- A released composite starts the frames of the graphs that read it. -/
def Dev.feedComposite (d : Dev) (i : Nat) : Dev :=
  match (tget d.vid.mix i).bind (·.out) with
  | some o => d.feedFrom i o.buf (o.published i)
  | none => d

/-- Publish a frame into a frame buffer and start what reads it. -/
def Dev.publishFrame (d : Dev) (handle : Nat) (p : Published) (first : Bool) : Dev :=
  (d.publish handle p first).feedGraphs handle p

def frameAdmit (h ctx : Nat) (d : Dev) : Dev :=
  match d.graph h with
  | none => d
  | some g =>
    let fs := sortBy (fun a b => a.frame ≤ b.frame) (g.frames.filter (fun f => f.ctx == ctx))
    match fs.find? (fun f => !f.admitted) with
    | none => d
    | some f =>
      if (fs.filter (fun e => e.frame < f.frame && !g.frameDone e)).length ≤ 1 then
        d.graphMod h (fun g => g.frameMod ctx f.frame (fun f => { f with admitted := true }))
      else d

/-- The lookup table of a stage in one of its wells, by bank. -/
def Dev.stageLut (d : Dev) (s : Stage) (bank e i : Nat) : Nat :=
  match s.luts with
  | [] => 0
  | (w, own) :: _ =>
    let t := (d.well w).standIn (own.getD e 0)
    tgetD (d.well w).luts ((2 * t + bank) * 4096 + i) 0

/-- Strips of a frame that contain a row. -/
def Graph.stripsOf (g : Graph) (f : GFrame) (rows : Nat) : List Nat :=
  (List.range (g.nstrips f.height)).filter (fun n => (g.strip f.width f.height n).1 < rows)

/-- A strip was shed, skipped or covered at some stage, or its drain was abandoned. -/
def Graph.stripSpoiled (g : Graph) (f : GFrame) (n : Nat) : Bool :=
  f.repair.contains n || (List.range g.stages.length).any (fun m => match tget f.strips (stripKey m n) with
    | some .skipped | some .shed | some .covered => true | _ => false)

/-- A frame makes an update of the tracked black level (R248). -/
def Dev.obUpdates (d : Dev) (g : Graph) (f : GFrame) (m : Nat) (b : List Byte) : Bool :=
  let marks := (d.marksOf g f).1
  0 < fbObRows b && fbObRows b ≤ f.height && fbObCol0 b + fbObCols b ≤ f.width
    && marks &&& (mCheck + mShort + mOverflow + mStale + mCal) == 0 && !f.stale
    && (g.stripsOf f (fbObRows b)).all (fun n => !g.stripSpoiled f n
      && (match tget f.strips (stripKey m n) with | some .done => true | _ => false))

/-- Black tracking of one stage after a frame (R248). -/
def Dev.obStage (d : Dev) (h : Nat) (g : Graph) (f : GFrame) (m : Nat) : Dev :=
  match g.stage m with
  | none => d
  | some s =>
    let lib := (tget d.cores.programs s.prog).bind Program.lib
    let d := d.graphMod h (fun g => g.frameMod f.ctx f.frame (fun f => { f with obDone := f.obDone ++ [m] }))
    if !(lib == some .front || lib == some .develop) then d else
      match copyFor (tgetD s.params f.ctx []) f.frame with
      | none => d
      | some q =>
        if q.block.isEmpty || !fbObTrack q.block || !d.obUpdates g f m q.block then d else
          let mos : Mosaic := fun e x y => ((tgetD f.obRows y []).getD e []).getD x 0
          let mval := frontM q.block (d.stageLut s q.bank) f.nexp f.depth mos
          let mean := (List.range 4).map (obMean q.block mval)
          d.graphMod h (fun g => g.stageMod m (fun s => { s with
            params := tmod s.params f.ctx [] (fun l => l.map (fun p => if p.effect = q.effect then { p with ob := (f.frame, mean) :: p.ob } else p)) }))

/-- When a frame ends, its update stands at a stage only if the frame was published and nothing since its strips finished
bars it: a mark, or a strip that a SINK drain abandoned (R248, R258). -/
def Dev.obSettle (d : Dev) (h : Nat) (g : Graph) (f : GFrame) (published : Bool) : Dev :=
  (List.range g.stages.length).foldl (fun d m =>
    let keep := published && (match (g.stage m).bind (fun s => copyFor (tgetD s.params f.ctx []) f.frame) with
      | some q => d.obUpdates g f m q.block | none => true)
    if keep then d else d.graphMod h (fun g => g.stageMod m (fun s => s.obWithdraw f.ctx f.frame))) d

/-- The oldest frame of a context whose strips have all finished: the stages that track black are updated, once. -/
def obTrackUpdate (h ctx : Nat) (d : Dev) : Dev :=
  match d.graph h with
  | none => d
  | some g =>
    let fs := sortBy (fun a b => a.frame ≤ b.frame) (g.frames.filter (fun f => f.ctx == ctx))
    match fs.find? (fun f => f.obDone.length < g.stages.length) with
    | none => d
    | some f =>
      if !g.frameDone f then d else
        ((List.range g.stages.length).filter (fun m => !f.obDone.contains m)).foldl (fun d m => d.obStage h g f m) d

/-! ## SINK drains and publishing (R134, R165, R169) -/

/-- Planes in a line of a SINK: the producer's items per line over one item per 32 samples. -/
def Dev.sinkPlanes (d : Dev) (g : Graph) (ci : Nat) (ch : Chan) : Nat :=
  match (g.stage ch.prod).bind (fun s => (tget d.cores.programs s.prog).map (fun p => (s, p))) with
  | some (s, p) => max 1 (p.outIpk.getD ((s.outs.findIdx? (· == ci)).getD 0) 32 / 32)
  | none => 1

/-- The lease that a graph's frame holds on a SINK buffer. -/
def Dev.sinkLeased (d : Dev) (h frame : Nat) (m : Mapping) : Bool :=
  d.mem.leases.any (fun l => l.kind == kGraph && l.index == h && l.frame == frame && l.asid == m.asid && l.va == m.va)

/-- A strip of a frame counts as skipped because its transfer was abandoned (R169). -/
def Dev.skipArea (d : Dev) (h : Nat) (s : StripRef) : Dev :=
  d.graphMod h (fun g => g.frameMod s.ctx s.frame (fun f =>
    if f.repair.contains s.strip then f else { f with skipped := f.skipped + 1, repair := f.repair ++ [s.strip] }))

/-- The bytes of a strip's area in a SINK plane: for each line and run, an offset from the buffer's start and a length. The
last span's run includes the padding to a multiple of 32 samples (R243). -/
def stripArea (w h planes plane l0 ls p0 pw : Nat) : List (Nat × Nat) :=
  let pitch := planes * roundUp w 32 * 2
  let n := if w ≤ p0 + pw then (roundUp w 32 - p0) * 2 else pw * 2
  (List.range ls).flatMap (fun y => (List.range planes).map (fun c =>
    (plane * pitch * h + (l0 + y) * pitch + c * roundUp w 32 * 2 + p0 * 2, n)))

/-- The area of a strip of a frame in a graph's SINK. -/
def Dev.sinkArea (d : Dev) (g : Graph) (f : GFrame) (ci : Nat) (ch : Chan) (n : Nat) : List (Nat × Nat) :=
  let (l0, ls, p0, pw) := g.strip f.width f.height n
  stripArea f.width f.height (d.sinkPlanes g ci ch) ch.plane l0 ls p0 pw

/-- Bytes of a strip's lines, run by run in the order of its area; what a line lacks is zero. -/
def stripRuns (planes pw : Nat) (area : List (Nat × Nat)) (lines : List (List Byte)) : List (Nat × List Byte) :=
  area.zipIdx.map (fun e =>
    let line := lines.getD (e.2 / planes) []
    (e.1.1, padTo e.1.2 ((line.drop (e.2 % planes * roundUp pw 32 * 2)).take (pw * 2))))

/-- Write runs into a mapping, for a requester, up to the first that faults; the rest of the transfer is abandoned (R169). -/
def Dev.drainRuns (d : Dev) (r : Requester) (m : Mapping) : List (Nat × List Byte) → Dev × Option (Nat × Nat)
  | [] => (d, none)
  | (o, bs) :: l => match d.rangeFault true m.asid (m.va + o) bs.length true with
    | some f => (d, some f)
    | none => (d.vwrite r m.asid (m.va + o) bs).drainRuns r m l

/-- Drain one complete SINK slot (R165): a strip that carries SKIP writes nothing and is repaired. -/
def Dev.drainSlot (d : Dev) (h ci k : Nat) (w : Nat) : Dev :=
  match d.graph h with
  | none => d
  | some g => match g.chan ci, (g.chan ci).bind (fun ch => tget ch.slots k) with
    | some ch, some sl => match g.frame sl.strip.ctx sl.strip.frame with
      | none => d.graphMod h (fun g => g.chanMod ci (fun ch => { ch with slots := terase ch.slots k }))
      | some f =>
        let skip := sl.items.any (fun i => match i with | .mark m => markKind m == markSkip | .data _ => false)
        let (_, _, _, pw) := g.strip f.width f.height sl.strip.strip
        let free := fun (d : Dev) => d.graphMod h (fun g =>
          let g := g.chanMod ci (fun ch => { ch with slots := terase ch.slots k })
          g.frameMod f.ctx f.frame (fun f => { f with
            drained := if f.drained.contains sl.strip.strip || g.chans.any (fun c => c.kind == 2 && (c.slotOf sl.strip).isSome) then f.drained
              else f.drained ++ [sl.strip.strip] }))
        if skip then free (d.skipArea h sl.strip)
        else match d.buf ch.target with
          | none => free (d.skipArea h sl.strip)
          | some m =>
            if !d.sinkLeased h f.frame m then free (d.skipArea h sl.strip)
            else match d.drainRuns (.siphonRt w) m (stripRuns (d.sinkPlanes g ci ch) pw (d.sinkArea g f ci ch sl.strip.strip) (itemLines sl.items [])) with
              | (d, some (va, sub)) => free ((d.xlatFault (.siphonRt w) true true m.asid va sub 0).skipArea h sl.strip)
              | (d, none) => free d
    | _, _ => d

/-- The real-time work that siphon 0 of a well does next: the SINK slot first in the dispatcher's order (R121, R165), by graph,
channel and slot. -/
def Dev.rtDrain (d : Dev) (w : Nat) : Option (Nat × Nat × Nat) :=
  let cands := d.cores.graphs.flatMap (fun e => e.2.chans.zipIdx.flatMap (fun c =>
    if c.1.kind = 2 && c.1.home = w then (c.1.slots.filter (fun s => s.2.complete)).map (fun s =>
      (e.1, c.2, s.1, e.2.rank s.2.strip.ctx s.2.strip.frame c.1.prod s.2.strip.strip)) else []))
  (cands.foldl (fun (m : Option (Nat × Nat × Nat × Rank)) e => match m with
    | none => some e | some b => if e.2.2.2.ahead b.2.2.2 then some e else some b) none).map (fun e => (e.1, e.2.1, e.2.2.1))

/-- A frame of a graph can be published: every strip has finished, no SINK slot holds one and no cover of it runs. -/
def Dev.publishable (d : Dev) (h : Nat) (g : Graph) (f : GFrame) : Bool :=
  f.admitted && g.frameDone f
    && g.chans.all (fun c => c.kind != 2 || c.slots.all (fun s => !(s.2.strip.ctx == f.ctx && s.2.strip.frame == f.frame)))
    && (match d.sns.pilot.cover with | some (x, s) => !(x == h && s.ctx == f.ctx && s.frame == f.frame) | none => true)

/-- OUT_TF that a frame has as a stage writes it: the stage's own when it is LZL_LOOK, else what comes with the frame from
the stage before it (Table RP-6). -/
def Dev.stageTf (d : Dev) (g : Graph) (f : GFrame) : Nat → Nat → Nat
  | 0, _ => 0
  | n + 1, m => match g.stage m with
    | none => 0
    | some s => match (tget d.cores.programs s.prog).bind Program.lib, copyFor (tgetD s.params f.ctx []) f.frame with
      | some .look, some q => field q.block 3 1
      | _, _ => match (s.ins.filterMap g.chan).find? (fun c => c.kind == 0) with
        | some c => d.stageTf g f n c.prod
        | none => 0

/-- OUT_TF of the frames that a graph writes into a SINK. -/
def Dev.sinkTf (d : Dev) (g : Graph) (f : GFrame) (ch : Chan) : Nat := d.stageTf g f g.stages.length ch.prod

/-- Repair copies of a frame into a SINK: the areas of its skipped strips take the bytes of the frame published last into
the same buffer; where none was, they stay (R134). A copy that faults ends them (R169). -/
def Dev.repairSink (d : Dev) (g : Graph) (f : GFrame) (ci : Nat) (ch : Chan) (m : Mapping) : Dev × Option (Nat × Nat) :=
  match tget d.mem.published ch.target with
  | none => (d, none)
  | some p => d.drainRuns (.siphonRt ch.home) m ((f.repair.flatMap (d.sinkArea g f ci ch)).filterMap (fun r =>
      if r.1 + r.2 ≤ p.image.length then some (r.1, (p.image.drop r.1).take r.2) else none))

/-- The bytes of a frame that a graph has written into the planes of a buffer. -/
def Dev.sinkImage (d : Dev) (g : Graph) (f : GFrame) (target : Nat) (m : Mapping) : List Byte :=
  let ends := g.chans.zipIdx.filterMap (fun e => if e.1.kind = 2 && e.1.target = target then
    some ((e.1.plane + 1) * (d.sinkPlanes g e.2 e.1 * roundUp f.width 32 * 2) * f.height) else none)
  d.vread m.asid m.va (min m.len (ends.foldl max 0))

/-- Publish the oldest frame of a graph's context once it is complete (R134, R140, R141). -/
def framePublish (h ctx : Nat) (d : Dev) : Dev :=
  match d.graph h with
  | none => d
  | some g0 =>
    let fs := sortBy (fun a b => a.frame ≤ b.frame) (g0.frames.filter (fun f => f.ctx == ctx))
    match fs.head? with
    | none => d
    | some f0 =>
      if !d.publishable h g0 f0 then d else
        let d := obTrackUpdate h ctx d
        match d.graph h with
        | none => d
        | some g => match g.frame ctx f0.frame with
          | none => d
          | some f =>
            let extra := (if 0 < f.skipped then mSkipped else 0) ||| (if 0 < f.covered then mPilot else 0)
              ||| (if f.stale then mStale else 0)
            let d := match g.ingestOf ctx with
              | some i => d.openMod i f.frame (fun r => { r with
                  marks := r.marks ||| extra, skipped := min 65535 (r.skipped + f.skipped), pilot := min 65535 (r.pilot + f.covered) })
              | none => d
            let (marks, t) := d.marksOf g f
            let sinks := g.chans.zipIdx.filter (fun c => c.1.kind == 2)
            let (d, shown) := sinks.foldl (fun (acc : Dev × Bool) e => let (ch, ci) := e; let (d, shown) := acc; match d.buf ch.target with
              | none => (d, shown)
              | some m =>
                if !d.sinkLeased h f.frame m then (d, shown)
                else match d.repairSink g f ci ch m with
                  | (d, some (va, sub)) =>
                    -- R169: a repair copy that faults leaves the frame unpublished, and the last one is repeated STALE
                      ((d.xlatFault (.siphonRt ch.home) true true m.asid va sub 0).memMod (fun x => { x with
                        published := tadj x.published ch.target (fun p => { p with marks := p.marks ||| mStale }) }), shown)
                  | (d, none) => (d.publishFrame ch.target {
                      frame := f.frame, marks := marks ||| extra, producer := kGraph + 256 * h, tf := d.sinkTf g f ch,
                      width := f.width, height := f.height, time := t, tmeta := d.graphMetaTime g f,
                      image := d.sinkImage g f ch.target m } (!g.announced), true)) (d, sinks.isEmpty)
            let d := d.obSettle h g f shown
            let d := d.retireLeases kGraph h f.frame
            let d := d.graphMod h (fun g => { g with
              announced := true, lastPub := some f.frame,
              frames := g.frames.filter (fun x => !(x.ctx == ctx && x.frame == f.frame)) })
            let d := match g.ingestOf ctx with | some i => d.freeRows i | none => d
            let d := (List.range g.stages.length).foldl (fun d m => d.freeOldCode h m) d
            d.settleDrain h

/-! ## Withdrawal of pumps (R137, R138) -/

/-- A pump is withdrawn from dispatch; with no real-time task in progress, event 2 follows at once. -/
def Dev.withdraw (d : Dev) (c : Nat) : Dev :=
  if !(isPump c) then d
  else if d.role c == .active || d.role c == .substitute then
    let d := d.setRole c .withdrawing
    match d.curTask c with
    | some t => if t.rt then d else d.spareJoin c
    | none => d.spareJoin c
  else if d.role c == .spare || d.role c == .helper then
    match d.curTask c with
    | some t => if t.rt then d.setRole c .withdrawing else (d.saveTask c .ready).setRole c .testing
    | none => d.setRole c .testing
  else d

def pumpWithdraw (c : Nat) (d : Dev) : Dev := d.withdraw c

end Sys2Proof.Machine
end

