-- ==== Sys2Proof/Machine/Package.lean ====
section
/-!
DEFINITION. The ball map of the package (R559 to R564, Tables ET-13 to ET-15). It has no state: each ball's signal or supply is a
function of its row index and column, both from 1 to 55.
-/
set_option autoImplicit false

namespace Sys2Proof.Machine

/-- Signals at the low-speed positions of R563. -/
inductive LowSignal where
  | gpio (n : Nat) | pdmClk (k : Nat) | pdmDat (n : Nat)
  /-- Inputs of an axis: 0 A, 1 B, 2 index. -/
  | axis (a input : Nat)
  /-- FLASH_CLK, FLASH_CS_L, FLASH_DQS, FLASH_IO_0 to FLASH_IO_7 and FLASH_RESET_L, from 0. -/
  | flash (k : Nat)
  /-- PORST_L to AVS_SDATA, from 0 in the order of R563. -/
  | control (k : Nat)
  | sysRef (pos : Bool) | timeRef (pos : Bool)
  /-- Remote sense pair of a core rail. -/
  | sense (rail : Nat) (pos : Bool)
  deriving DecidableEq, Repr

/-- What a ball carries. -/
inductive Ball where
  | vss
  /-- A supply rail of Table ET-5. -/
  | supply (rail : Nat)
  /-- A half of the receive or transmit pair of a serial lane. -/
  | lane (n : Nat) (tx pos : Bool)
  | serRef (k : Nat) (pos : Bool)
  /-- A half of the pair at a position of a sensor port (R562). -/
  | sensor (port p : Nat) (pos : Bool)
  | sensorTrig (port n : Nat)
  | low (s : LowSignal)
  /-- A ball of the region of LPDDR5X controllers `c0` to `c1`, whose place within the region R560 leaves open. -/
  | ddr (c0 c1 : Nat)
  deriving DecidableEq, Repr

/-- Row names in the order of their indices (Table ET-13). -/
def rowLetters : List String := ["A", "B", "C", "D", "E", "F", "G", "H", "J", "K", "L", "M", "N", "P", "T", "U", "V", "W", "Y"]
def rowNames : List String := rowLetters ++ rowLetters.map ("A" ++ ·) ++ (rowLetters.take 17).map ("B" ++ ·)

/-- The name of a ball (R559). -/
def ballName (r c : Nat) : String := rowNames.getD (r - 1) "" ++ toString c

/-- Rows A to F of lane groups G0 to G5, and rows BV to BM of G6 to G11, counted from the package's edge (R561): rows 1 to 3 hold
the receive pairs, rows 4 to 6 the transmit pairs, in block columns of three lanes. -/
def laneBall (g0 edge c : Nat) : Ball :=
  let g := g0 + (c - 1) / 9
  let col := (c - 1) % 9
  let l := 3 * ((edge - 1) % 3) + col / 3
  if col % 3 = 2 || 8 ≤ l then .vss else .lane (8 * g + l) (3 < edge) (col % 3 == 0)

/-- A ball of a sensor port at a row and a column counted from the package's edge (R562). Column 3 holds the triggers: of port A at
row BL, of port B at rows BH to BL. -/
def sensorBall (port r edge : Nat) : Ball :=
  let p := 2 * (r - 7) + (if edge ≤ 2 then 0 else 1)
  if edge = 3 then
    if port = 0 then (if r = 49 then .sensorTrig 0 0 else .vss) else if 46 ≤ r then .sensorTrig 1 (r - 46) else .vss
  else .sensor port p (edge == 1 || edge == 4)

/-- The low-speed item at a position (R563). -/
def lowBall (n : Nat) : Ball :=
  if n < 64 then .low (.gpio n)
  else if n < 68 then .low (.pdmClk (n - 64))
  else if n < 84 then .low (.pdmDat (n - 68))
  else if n < 180 then .low (.axis ((n - 84) / 3) ((n - 84) % 3))
  else if n < 192 then .low (.flash (n - 180))
  else if n < 218 then .low (.control (n - 192))
  else if n < 220 then .low (.sysRef (n == 218))
  else if n < 222 then .low (.timeRef (n == 220))
  else if n < 228 then .low (.sense ((n - 222) / 2) (n % 2 == 0))
  else .vss

/-- The supply of a column of rows AC to BD; columns 26 to 30 are taken row by row (R564, Table ET-15). -/
def supplyBall (r c : Nat) : Ball :=
  if c ≤ 18 then .supply 0
  else if 38 ≤ c then .supply 1
  else if c = 20 || c = 36 then .supply 3
  else if (22 ≤ c && c ≤ 24) || (32 ≤ c && c ≤ 34) then .supply 2
  else if 26 ≤ c && c ≤ 30 then
    let k := 5 * (r - 22) + (c - 26)
    .supply (if k < 45 then 4 else if k < 70 then 5 else if k < 85 then 8 else if k < 97 then 9 else if k < 103 then 10 else 11)
  else .vss

/-- What the ball at a row index and column carries (R560, Table ET-14). -/
def ballAt (r c : Nat) : Ball :=
  if r ≤ 6 then if c = 55 then .serRef ((r - 1) / 2) (r % 2 == 1) else laneBall 0 r c
  else if 50 ≤ r then if c = 55 then .serRef (3 + (55 - r) / 2) (r % 2 == 1) else laneBall 6 (56 - r) c
  else if c ≤ 5 then sensorBall 0 r c
  else if 51 ≤ c then sensorBall 1 r (56 - c)
  else if r ≤ 13 then .ddr 0 3
  else if 43 ≤ r then .ddr 6 9
  else if 44 ≤ c then .ddr 4 5
  else if c ≤ 12 then .ddr 10 11
  else if r ≤ 21 then lowBall (31 * (r - 14) + (c - 13))
  else supplyBall r c

/-- How many balls of a list of rows and columns carry something. -/
def ballCount (rows cols : List Nat) (p : Ball → Bool) : Nat := (rows.flatMap (fun r => cols.filter (fun c => p (ballAt r c)))).length

end Sys2Proof.Machine
end

