-- ==== Sys2Proof/Machine/Thermal.lean ====
section
/-!
DEFINITION. Thermal sensors, throttling, shutdown and the non-volatile write gate (R534 to R544), supplies (R545 to
R548), pins and the package (R550 to R556).
-/
set_option autoImplicit false

namespace Sys2Proof.Machine

/-! ## Resets (R541, R550) -/

/-- What survives the reset of every island: boot flash and fuses, the SSDs' contents, memory cells, the thermal logic
and pins, the model's counter of free values. Everything else returns to its reset value. -/
def Dev.islandReset (d : Dev) : Dev :=
  let fused := [fSecStatLc, fSecStatRollback, fSecStatFkrev, fSecStatSlotb, fSecStatSerial]
  let keep : Dev := {
    nv := d.nv.cutOff d.commitStarted
    store := { d.store with waiting := [], flushes := [] }
    thm := d.thm, pins := d.pins, free := d.free, mem := { bytes := d.mem.bytes, poison := d.mem.poison } }
  let alwaysOn := [fThmMaxTemp, fThmMaxSensor, fThmGateOpen] ++ (List.range 28).flatMap (fun s => [fThmSensTemp s, fThmSensFault s])
  (fused ++ alwaysOn).foldl (fun k f => k.fset f (d.fget f)) keep

/-- PORST_L low: power-on reset, which does not clear a latched shutdown, fuses or boot flash contents (R550). -/
def Dev.powerOnReset (d : Dev) : Dev :=
  let k := d.islandReset
  let k := { k with thm := { trip := d.thm.trip } }
  let k := ([fThmMaxTemp, fThmMaxSensor, fThmGateOpen] ++ (List.range 28).flatMap (fun s => [fThmSensTemp s, fThmSensFault s])).foldl
    (fun k f => k.fset f f.rst) k
  { k with pins := { k.pins with porst := false, gpioSrc := [], gpioOn := [], snsTrig := [] } }

/-- Latch a thermal shutdown with its cause, sensor and reading: every island is held in reset, transmitters and receivers
are off, and THERM_TRIP_L is low (R540, R541). -/
def Dev.shutdown (d : Dev) (cause sensor : Nat) (reading : Int) : Dev :=
  if d.thm.trip.isSome then d else
  let k := d.islandReset
  { k with thm := { k.thm with trip := some (cause, sensor, reading) },
           pins := { k.pins with gpioSrc := [], gpioOn := [], snsTrig := [] } }

/-! ## Sensors and levels -/

def Dev.sensor (d : Dev) (s : Nat) : ThmSensor := tgetD d.thm.sens s {}
def Dev.setSensor (d : Dev) (s : Nat) (f : ThmSensor → ThmSensor) : Dev :=
  { d with thm := { d.thm with sens := tmod d.thm.sens s {} f } }

/-- Die of a sensor: 0 and 1 pixel dies, 2 the I/O die (Table ET-1). -/
def dieOfSensor (s : Nat) : Nat := if s < 16 then s / 8 else if s < 20 then (s - 16) / 2 else 2

def sensorsOfDie (die : Nat) : List Nat := (List.range 28).filter (fun s => dieOfSensor s == die)

/-- Place of a sensor (Table ET-1). -/
def sensorPlace (s : Nat) : Place :=
  if s < 16 then mkPlace (s / 8) (s / 4) (s % 4) 31 63 16383
  else if s < 20 then quadPlace (s - 16) 5
  else ioPlace 7 4 (s - 20)

/-- Wells that a sensor throttles (Table ET-1). -/
def Dev.wellsOf (d : Dev) (s : Nat) : List Nat :=
  if s < 16 then [s] else if s < 20 then (List.range 4).map (4 * (s - 16) + ·)
  else if d.flag fThmCtlXthrot then List.range 16 else []

/-- A level's TEMP clipped to 60 to 135, HYST with 0 as 3 and at most 20, and ACT with codes above 9 as 9 (R566). -/
def Dev.lvTemp (d : Dev) (k : Nat) : Nat := max 60 (min 135 (d.fget (fThmLevelTemp k)))
def Dev.lvHyst (d : Dev) (k : Nat) : Nat :=
  if d.fget (fThmLevelHyst k) = 0 then 3 else min 20 (d.fget (fThmLevelHyst k))
def Dev.lvAct (d : Dev) (k : Nat) : Nat := min 9 (d.fget (fThmLevelAct k))

/-- Levels in effect, lowest first: an enabled level whose TEMP is above that of the enabled level below it (R536). -/
def Dev.levels (d : Dev) : List Nat :=
  ((List.range 4).foldl (fun (acc : List Nat × Int) k =>
    if d.flag (fThmLevelEn k) && decide (acc.2 < (d.lvTemp k : Int)) then (acc.1 ++ [k + 1], (d.lvTemp k : Int)) else acc)
    ([], -1000)).1

/-- Highest level of a list that satisfies a test, or 0. -/
def highest (l : List Nat) (p : Nat → Bool) : Nat := ((l.filter p).getLast?).getD 0

/-- The action code of a level: none at level 0. -/
def Dev.levelAct (d : Dev) (l : Nat) : Nat := if l = 0 then 0 else d.lvAct (l - 1)

/-- The level that a sensor takes with a reading in 0.25 °C, from its present level held for `held` ns (R536). -/
def Dev.nextLevel (d : Dev) (r : Int) (l held : Nat) : Nat :=
  let ls := d.levels
  let up := highest ls (fun k => decide (4 * (d.lvTemp (k - 1) : Int) < r))
  if l < up then up
  else if l != 0 && !ls.contains l then highest ls (fun k => k < l)
  else if l != 0 && decide (100000000 ≤ held) && decide (r ≤ 4 * ((d.lvTemp (l - 1) : Int) - d.lvHyst (l - 1))) then
    highest ls (fun k => k < l && decide (4 * ((d.lvTemp (k - 1) : Int) - d.lvHyst (k - 1)) < r))
  else l

/-- A sump entry of class 0x0E with the content of R565. -/
def Dev.sumpThermal (d : Dev) (place : Place) (detail sev reading limit act cause : Nat) : Dev :=
  d.sumpWrite place 14 detail sev 0 (le 2 reading ++ le 2 limit ++ le 1 act ++ le 1 cause)

/-- A sensor's level changes: THM_SENS shows it, THERMAL_LEVEL is posted and a sump entry written (R537). -/
def Dev.setLevel (d : Dev) (s l : Nat) (r : Int) : Dev :=
  let old := d.fget (fThmSensLevel s)
  if old = l then d else
    let d := (d.fset (fThmSensLevel s) l).setSensor s (fun x => { x with levelAt := d.nowNs })
    let d := d.post 0x68 0 s (sensorPlace s) (le 1 s ++ le 1 old ++ le 1 l ++ le 2 (trunc 16 r))
    d.sumpThermal (sensorPlace s) s 0 (trunc 16 r) (if l = 0 then 0 else 4 * d.lvTemp (l - 1)) (d.levelAct l) 0

/-- Filter one raw reading of a sensor (Table PF-9, R535): it counts from −60 °C to +160 °C and within ±10 °C of the last
accepted one; 8 rejected in a row, or none for 100 µs, put the sensor in fault, and 8 steady ones end the fault. -/
def Dev.filterReading (d : Dev) (s : Nat) (raw : Option Int) : Dev :=
  let x := d.sensor s
  let fault := d.flag (fThmSensFault s)
  let enterFault (d : Dev) : Dev :=
    let d := (d.fset (fThmSensFault s) 1).setSensor s (fun x => { x with rejected := 0, missing := 0, good := 0, faultAt := d.nowNs })
    let d := d.post 0x6A 0 s (sensorPlace s) (le 1 s ++ le 1 0)
    d.sumpThermal (sensorPlace s) s 2 (trunc 16 (x.reading.getD 0)) 0 0 3
  match raw with
  | none =>
    if fault then d.setSensor s (fun x => { x with good := 0 })
    else if x.reading.isNone then d
    else if 10 ≤ x.missing + 1 then enterFault d
    else d.setSensor s (fun x => { x with missing := x.missing + 1 })
  | some v =>
    let range := decide (-240 ≤ v ∧ v ≤ 640)
    if fault then
      let near := x.good = 0 || decide ((v - x.lastRaw).natAbs ≤ 40)
      let g := if !range then 0 else if near then x.good + 1 else 1
      if 8 ≤ g then
        let d := (d.fset (fThmSensFault s) 0).setSensor s (fun x => { x with
          reading := some v, good := 0, rejected := 0, missing := 0, hist := [(d.nowNs, v)] })
        (d.post 0x6A 0 s (sensorPlace s) (le 1 s ++ le 1 1)).fset (fThmSensTemp s) (trunc 12 v)
      else d.setSensor s (fun x => { x with good := g, lastRaw := v })
    else
      let ok := range && (match x.reading with
        | none => true
        | some r => decide ((v - r).natAbs ≤ 40))
      if ok then
        let d := d.setSensor s (fun x => { x with
          reading := some v, rejected := 0, missing := 0, hist := if x.reading.isNone then [(d.nowNs, v)] else x.hist })
        d.fset (fThmSensTemp s) (trunc 12 v)
      else if x.reading.isNone then d
      else if 8 ≤ x.rejected + 1 then enterFault d
      else d.setSensor s (fun x => { x with rejected := x.rejected + 1, missing := 0 })

/-- The accepted reading of a sensor; a sensor in fault contributes the highest reading on its die (R535). -/
def Dev.reading (d : Dev) (s : Nat) : Option Int :=
  if d.flag (fThmSensFault s) then
    ((sensorsOfDie (dieOfSensor s)).filterMap (fun t =>
      if d.flag (fThmSensFault t) then none else (d.sensor t).reading)).max?
  else (d.sensor s).reading

/-- The maximum-sensor temperature and the lowest-numbered sensor that reads it (R535). -/
def Dev.maxTemp (d : Dev) : Option (Int × Nat) :=
  (List.range 28).foldl (fun acc s =>
    match d.reading s, acc with
    | some r, some (m, n) => if m < r then some (r, s) else some (m, n)
    | some r, none => some (r, s)
    | none, _ => acc) none

/-- Show the maximum in THM_MAX with its peak since the last read (R566). -/
def Dev.showMax (d : Dev) : Dev :=
  match d.maxTemp with
  | none => d
  | some (m, s) =>
    let d := (d.fset fThmMaxTemp (trunc 12 m)).fset fThmMaxSensor s
    if sext 12 (d.fget fThmMaxPeak) < m then d.fset fThmMaxPeak (trunc 12 m) else d

/-- Update every sensor's level from its reading (R536). -/
def Dev.updateLevels (d : Dev) : Dev :=
  (List.range 28).foldl (fun d s =>
    match d.reading s with
    | none => d
    | some r =>
      let l := d.fget (fThmSensLevel s)
      d.setLevel s (d.nextLevel r l (d.nowNs - (d.sensor s).levelAt)) r) d

/-! ## Actions on the well islands (R537 to R539) -/

/-- The action codes that the causes give a well: the levels and rise rules of its sensors, gradients, and the core-rail
rule. -/
def Dev.wellAction (d : Dev) (w : Nat) : Nat :=
  let sens := (List.range 28).map (fun s =>
    if (d.wellsOf s).contains w then
      let l := d.fget (fThmSensLevel s)
      max (d.levelAct l) (if d.flag (fThmSensRise s) then d.levelAct (min 4 (l + 1)) else 0)
    else 0)
  let grad := d.thm.grads.map (fun g => (g.acts.filter (·.1 == w)).foldl (fun m e => max m e.2) 0)
  let core := if d.thm.coreLow.contains (w / 8) then 8 else 0
  max core ((sens ++ grad).foldl max 0)

/-- Show the DRAM islands, of eight channels each: gated while every channel in use is in self-refresh (SYS_ISL_STAT). -/
def Dev.showDram (d : Dev) : Dev :=
  (List.range 3).foldl (fun d g =>
    let st := (List.range 8).map (fun k => d.fget (fMemChanStatState (8 * g + k)))
    if d.fget (fSysIslStatState (23 + g)) = 3 then d
    else d.fset (fSysIslStatState (23 + g)) (if st.contains 1 && !st.contains 0 then 2 else 0)) d

/-- Show each well island's division, skipping and state (R537, SYS_ISL_STAT). -/
def Dev.showWells (d : Dev) : Dev :=
  (List.range 16).foldl (fun d w =>
    let a := d.wellAction w
    let d := (d.fset (fSysIslStatSkip w) (if a ≤ 7 then a else 0)).fset (fSysIslStatDiv w) (if a = 8 then 1 else if a = 9 then 2 else 0)
    let st := d.fget (fSysIslStatState w)
    if st < 2 then d.fset (fSysIslStatState w) (if a = 0 then 0 else 1) else d) d

/-- Neighbour pairs (R539). -/
def neighbourPairs : List (Nat × Nat) :=
  (List.range 4).flatMap (fun q =>
    [(4 * q, 16 + q), (4 * q + 1, 16 + q), (4 * q + 2, 16 + q), (4 * q + 3, 16 + q),
     (4 * q, 4 * q + 1), (4 * q, 4 * q + 2), (4 * q + 1, 4 * q + 3), (4 * q + 2, 4 * q + 3)])

/-- Wells that a gradient with this hotter sensor throttles (R34, R539). -/
def gradWells (hot : Nat) : List Nat := if hot < 16 then [hot] else (List.range 4).map (4 * (hot - 16) + ·)

/-- Gradient rule of one pair at a sample: starts above 30 °C with THERMAL_GRADIENT, rises one code every 100 ms while
above 25 °C, ends at 25 °C or less (R34, R539). -/
def Dev.gradPair (d : Dev) (a b : Nat) : Dev :=
  match d.reading a, d.reading b with
  | some ra, some rb =>
    let hot := if rb ≤ ra then a else b
    let cold := if rb ≤ ra then b else a
    let diff := (ra - rb).natAbs
    let mine (g : Gradient) : Bool := (g.hot == a && g.cold == b) || (g.hot == b && g.cold == a)
    match d.thm.grads.find? mine with
    | some g =>
      if diff ≤ 100 then { d with thm := { d.thm with grads := d.thm.grads.filter (fun g => !mine g) } }
      else if g.since + 100000000 ≤ d.nowNs then
        let g' := { g with acts := g.acts.map (fun e => (e.1, min 9 (e.2 + 1))), since := d.nowNs }
        { d with thm := { d.thm with grads := d.thm.grads.map (fun h => if mine h then g' else h) } }
      else d
    | none =>
      if diff ≤ 120 then d else
        let g : Gradient := { hot := hot, cold := cold, since := d.nowNs,
                              acts := (gradWells hot).map (fun w => (w, min 9 (d.wellAction w + 1))) }
        let d := { d with thm := { d.thm with grads := d.thm.grads ++ [g] } }
        let d := d.post 0x11 0 hot (sensorPlace hot) (le 1 hot ++ le 2 diff)
        d.sumpThermal (sensorPlace hot) hot 0 (trunc 16 (max ra rb)) diff (d.wellAction (hot % 16)) 2
  | _, _ => d

/-- Gradient rules of every pair, with the GRAD flags. -/
def Dev.updateGrads (d : Dev) : Dev :=
  let d := neighbourPairs.foldl (fun d p => d.gradPair p.1 p.2) d
  (List.range 28).foldl (fun d s => d.fsetb (fThmSensGrad s) (d.thm.grads.any (fun g => g.hot == s))) d

/-! ## The write gate (R542, R543) -/

/-- Restart every commit that the gate cut off or held, from its first page (R543). -/
def Dev.restartCommits (d : Dev) : Dev :=
  let cs := d.nv.commits.map (fun c => { c with erased := false, pagesLeft := if c.body.isRecord then 512 else 257 })
  { d with nv := { d.nv with commits := cs } }

/-- The gate takes its state from the maximum-sensor temperature at a sample; each change but the first posts NV_GATE
(R542). -/
def Dev.updateGate (d : Dev) : Dev :=
  match d.maxTemp with
  | none => d
  | some (m, _) =>
    let wasOpen := d.gateOpen
    let inOpen := decide (-160 ≤ m ∧ m ≤ 460)
    let inReopen := decide (-152 ≤ m ∧ m ≤ 452)
    let now := if !d.thm.sampled then inOpen else if wasOpen then inOpen else inReopen
    let first := !d.thm.sampled
    let d := { d with thm := { d.thm with sampled := true } }
    if now == wasOpen then d
    else
      let erasing := d.nv.commits.any (fun c => !c.erased)
      let d := d.fsetb fThmGateOpen now
      let d := if now then (d.fset fThmGateSusp 0).restartCommits else d.fsetb fThmGateSusp erasing
      let d := d.showCommits
      if first then d
      else d.post 0x6B 0 0 (mkPlace 3 3 7 31 63 16383) (le 1 now.toNat ++ le 2 (trunc 16 m) ++ le 2 (d.fget fThmGateRefused))

/-! ## Meanings -/

/-- The sensor of a die that entered fault last. -/
def Dev.lastFault (d : Dev) (die : Nat) : Nat :=
  ((sensorsOfDie die).foldl (fun (b : Nat × Nat) s =>
    if b.2 ≤ (d.sensor s).faultAt then (s, (d.sensor s).faultAt) else b) (0, 0)).1

/-- Shutdown conditions of a sample: a reading of 140 °C, or every sensor of a die in fault (R535, R540). -/
def Dev.checkTrip (d : Dev) : Dev :=
  match (List.range 28).find? (fun s => !d.flag (fThmSensFault s) && decide (560 ≤ (d.sensor s).reading.getD 0)) with
  | some s => d.shutdown 1 s ((d.sensor s).reading.getD 0)
  | none =>
    match (List.range 3).find? (fun die => (sensorsOfDie die).all (fun s => d.flag (fThmSensFault s))) with
    | some die =>
      let s := d.lastFault die
      d.shutdown 3 s ((d.sensor s).reading.getD 0)
    | none => d

/-- Calibration measurements are abandoned when the maximum has moved by more than 3 °C since their start (R225). -/
def Dev.calTempMoved (d : Dev) : Dev :=
  match d.maxTemp with
  | none => d
  | some (m, _) => d.sns.cals.foldl (fun d e =>
    if e.2.phase = CalPhase.measuring && 12 < (m - e.2.temp).natAbs then
      ({ d with sns := { d.sns with cals := terase d.sns.cals e.1 } }).fail e.2.seq stTempMoved
    else d) d

/-- THERMAL_SAMPLE: the 28 sensors are sampled: readings and faults, the maximum, levels, gradients, the islands'
actions, the write gate and the shutdown limits (R535 to R543). After a latched shutdown only the readings follow. -/
def thermalSample (raw : List (Option Int)) (d : Dev) : Dev :=
  let d := (List.range 28).foldl (fun d s => d.filterReading s ((raw[s]?).getD none)) d
  let d := d.showMax
  if d.thm.trip.isSome then d
  else d.calTempMoved.updateLevels.updateGrads.showWells.updateGate.checkTrip

/-- RISE_LIMIT with 0 as 8, RISE_FLOOR clipped to 135 (R566). -/
def Dev.riseLimit (d : Dev) : Nat := if d.fget fThmCtlRiseLimit = 0 then 8 else d.fget fThmCtlRiseLimit
def Dev.riseFloor (d : Dev) : Nat := min 135 (d.fget fThmCtlRiseFloor)

/-- Reading 250 ms before a time, when the history reaches back that far. -/
def pastReading (h : List (Nat × Int)) (now : Nat) : Option Int :=
  (h.find? (fun e => decide (e.1 + 250000000 ≤ now))).map (·.2)

/-- One sensor's rise comparison (R538, R540). -/
def Dev.riseCheck (d : Dev) (s : Nat) : Dev :=
  if d.flag (fThmSensFault s) then d else
  match (d.sensor s).reading with
  | none => d
  | some r =>
    let past := pastReading (d.sensor s).hist d.nowNs
    let d := d.setSensor s (fun x => { x with hist := (d.nowNs, r) :: x.hist.filter (fun e => d.nowNs < e.1 + 260000000) })
    match past with
    | none => d
    | some r0 =>
      let rise := r - r0
      if decide (460 < r) && decide (25 < rise) then d.shutdown 2 s r
      else if d.flag (fThmSensRise s) then
        if rise ≤ (d.riseLimit : Int) then d.fset (fThmSensRise s) 0 else d
      else if decide ((d.riseLimit : Int) < rise) && decide (4 * (d.riseFloor : Int) < r) then
        let d := d.fset (fThmSensRise s) 1
        let d := d.post 0x69 0 s (sensorPlace s) (le 1 s ++ le 2 (trunc 16 rise) ++ le 2 (trunc 16 r))
        d.sumpThermal (sensorPlace s) s 0 (trunc 16 r) (4 * d.riseFloor) (d.levelAct (min 4 (d.fget (fThmSensLevel s) + 1))) 1
      else d

/-- THERMAL_RISE_CHECK: every 10 ms each sensor's reading is compared with its reading 250 ms earlier (R538, R540). -/
def thermalRiseCheck (d : Dev) : Dev :=
  if d.thm.trip.isSome then d else
  let d := (List.range 28).foldl (fun d s => if d.thm.trip.isSome then d else d.riseCheck s) d
  if d.thm.trip.isSome then d else d.showWells

/-- A sensor whose level a write has disabled leaves it at once (R536). -/
def Dev.dropDisabled (d : Dev) : Dev :=
  (List.range 28).foldl (fun d s =>
    let l := d.fget (fThmSensLevel s)
    if l != 0 && !d.levels.contains l then d.setLevel s (highest d.levels (fun k => k < l)) ((d.reading s).getD 0) else d) d

/-- THM_LEVEL_WRITE: EN, ACT, HYST and TEMP of a level take the word's values, clipped; a sensor in a level that this
disables leaves it at once (R536, R566). -/
def thmLevelWrite (k v : Nat) (d : Dev) : Dev :=
  let d := d.fsets [(fThmLevelEn k, bits v 31 31), (fThmLevelAct k, bits v 27 24),
    (fThmLevelHyst k, min 20 (bits v 23 16)), (fThmLevelTemp k, max 60 (min 135 (bits v 7 0)))]
  d.dropDisabled.showWells

/-- SHUTDOWN_LATCH_CLEAR: VDDIO_18 below 1.2 V clears the latched shutdown; the always-on logic has lost its power, so no
sensor has a reading (R535, R541, R542). -/
def shutdownLatchClear (d : Dev) : Dev :=
  let k := d.powerOnReset
  { k with thm := {} }

/-! ## Supplies (R545 to R548) -/

/-- Nominal voltage of a rail in mV (Table ET-5). -/
def railNominal (r : Nat) : Nat :=
  if r < 5 then 750 else if r = 5 then 1200 else if r = 6 then 500 else if r = 7 then 1050 else if r = 8 then 1200 else 1800

/-- Setpoint of a rail: PWR_RAIL.SET, and the nominal voltage until priming sets it. -/
def Dev.railSet (d : Dev) (r : Nat) : Nat :=
  if d.fget (fPwrRailSet r) = 0 then railNominal r else d.fget (fPwrRailSet r)

/-- Post SUPPLY and write the sump entry of a rail (Table ET-16, R565). -/
def Dev.supply (d : Dev) (r mv cause : Nat) (place : Place) : Dev :=
  let d := d.post 0x6C 0 r place (le 1 r ++ le 2 (d.railSet r) ++ le 2 mv ++ le 1 cause)
  d.sumpThermal place (128 + r) 2 mv (d.railSet r) (if cause = 5 then 8 else 0) cause

/-- Place of the lower island that R34 names. A rail feeds several islands and its monitor measures the rail: the entry names
the first well of a pixel die rail, and the Control group of the I/O die rail (DESIGN CHOICE, log entry 87). -/
def railIslandPlace (r : Nat) : Place :=
  if r < 2 then mkPlace r (2 * r) 0 31 63 16383 else ioPlace 0 31 noSlice

/-- RAIL_SAMPLE: a voltage monitor's sample in mV, or none when none came for 10 µs. Four samples in a row outside ±5 %
make the rail faulty; a core rail more than 5 % low throttles its die's wells to ÷2; two core rails more than 150 mV apart
for four samples are a supply fault; below 85 % for 10 µs is a brown-out, which acts as PORST_L low (R34, R511, R548). -/
def railSample (r : Nat) (mv : Option Nat) (d : Dev) : Dev :=
  if d.thm.trip.isSome then d else
  match mv with
  | none =>
    if d.fget (fPwrRailState r) = 3 then d
    else (d.fset (fPwrRailState r) 3).supply r 0 4 (railPlace r)
  | some v =>
    let set := d.railSet r
    let d := d.fset (fPwrRailMeas r) v
    let out := decide (100 * v < 95 * set) || decide (105 * set < 100 * v)
    let low := decide (100 * v < 95 * set)
    let brown := decide (100 * v < 85 * set)
    let runs := if out then tgetD d.power.outRun r 0 + 1 else 0
    let browns := if brown then tgetD d.power.brownRun r 0 + 1 else 0
    let d := { d with power := { d.power with outRun := tput d.power.outRun r (min 4 runs), brownRun := tput d.power.brownRun r (min 10 browns) } }
    if 10 ≤ browns then d.powerOnReset
    else
      let st := d.fget (fPwrRailState r)
      let d :=
        if 4 ≤ runs then
          if low && r < 2 then
            if st = 2 then d else
              let d := (d.fset (fPwrRailState r) 2).supply r v 5 (railPlace r)
              { d with thm := { d.thm with coreLow := (d.thm.coreLow ++ [r]).eraseDups } }
          else if st = 1 || st = 2 then d
          else (d.fset (fPwrRailState r) 1).supply r v 4 (railPlace r)
        else if out then d
        else if st = 2 then d else d.fset (fPwrRailState r) 0
      let d := d.showWells
      let far := if r < 3 then (List.range 3).find? (fun q => q != r && d.fget (fPwrRailMeas q) != 0
          && decide (150 < ((d.fget (fPwrRailMeas q) : Int) - v).natAbs)) else none
      let n := if far.isSome then min 5 (tgetD d.power.farRun r 0 + 1) else 0
      let d := { d with power := { d.power with farRun := tput d.power.farRun r n } }
      match far with
      | some q =>
        let lo := if d.fget (fPwrRailMeas q) < v then q else r
        if n = 4 then d.supply lo (d.fget (fPwrRailMeas lo)) 6 (railIslandPlace lo) else d
      | none => d

/-- CORE_RAIL_RECOVERED: a core rail has been within ±3 % for 1 ms, and its die's wells leave ÷2 (R548). -/
def coreRailRecovered (r : Nat) (d : Dev) : Dev :=
  let v := d.fget (fPwrRailMeas r)
  let set := d.railSet r
  if d.fget (fPwrRailState r) = 2 && decide (97 * set ≤ 100 * v) && decide (100 * v ≤ 103 * set) then
    ({ (d.fset (fPwrRailState r) 0) with thm := { d.thm with coreLow := d.thm.coreLow.filter (· != r) } }).showWells
  else d

/-- Islands that a core rail supplies (Table ET-5). -/
def railIslands (r : Nat) : List Nat :=
  if r = 0 then List.range 8 ++ [16, 17, 20] else if r = 1 then (List.range 8).map (8 + ·) ++ [18, 19, 21]
  else (List.range 18).map (22 + ·)

/-- Neighbouring islands: a well and its quadrant's other wells and fabric, the fabrics of a die and its link, the two links,
and a link and any island of the I/O die, among which all are neighbours (R33, R34: DEDUCED, log entry 87). -/
def islandsNear (a b : Nat) : Bool :=
  let die := fun (i : Nat) => if i < 16 then i / 8 else if i < 20 then (i - 16) / 2 else if i < 22 then i - 20 else 2
  let quad := fun (i : Nat) => if i < 16 then i / 4 else i - 16
  if a < 16 || b < 16 then a < 20 && b < 20 && quad a == quad b
  else die a == die b || (20 ≤ a && 20 ≤ b)

/-- No two neighbouring islands are set more than 150 mV apart (R34). -/
def Dev.islandsClose (d : Dev) : Bool :=
  (List.range 40).all (fun a => (List.range a).all (fun b => !islandsNear a b
    || decide (((d.fget (fSysIslStatVmv a) : Int) - d.fget (fSysIslStatVmv b)).natAbs ≤ 150)))

/-- AVS_SETPOINT_DONE: the regulator of a core rail reports a setpoint, the highest VMV of the rail's islands in 5 mV
steps; each island's VMV lies at most 150 mV below it, and no neighbour of another rail is left further away (R34). Under variant V1 of PM02 the device writes no setpoint (R546). -/
def avsSetpointDone (r mv : Nat) (vmv : List (Nat × Nat)) (d : Dev) : Dev :=
  let ok := !d.power.fixed && decide (2 < d.prime.next) && mv % 5 == 0 && decide (650 ≤ mv ∧ mv ≤ 850)
    && vmv.all (fun e => (railIslands r).contains e.1 && decide (e.2 ≤ mv ∧ mv ≤ e.2 + 150))
  let d' := vmv.foldl (fun d e => d.fset (fSysIslStatVmv e.1) e.2) d
  if ok && ((railIslands r).map (fun i => d'.fget (fSysIslStatVmv i))).foldl max 0 == mv && d'.islandsClose then d'.fset (fPwrRailSet r) mv
  else d

/-- PORST_L_FALL (R550). -/
def porstLFall (d : Dev) : Dev := d.powerOnReset

/-- PWRGD_FALL: a brown-out, which acts as PORST_L low (R548). -/
def pwrgdFall (d : Dev) : Dev :=
  let k := d.powerOnReset
  { k with pins := { k.pins with pwrgd := false } }

/-- SYS_REFCLK_WINDOW: a 100 µs check window of SYS_REFCLK ends with an offset in 0.1 ppm, or none when it was absent; outside ±500 ppm or absent, the core PLLs run from the
internal oscillator and the failure is logged once (R511). -/
def sysRefclkWindow (ppm : Option Int) (d : Dev) : Dev :=
  let good := match ppm with
    | some v => decide (-5000 ≤ v ∧ v ≤ 5000)
    | none => false
  if good then { d with power := { d.power with sysRef := none } }
  else if d.power.sysRef.isSome then d
  else ({ d with power := { d.power with sysRef := some d.nowNs } }).sumpInput (ioPlace 0 31 noSlice) 10 0
    (match ppm with | some v => trunc 64 v | none => allOnes64)

/-- A fatal fault: the retained record is committed, the journal checkpoint too once PM11 has restored the journal, and
the device re-primes when the commits are complete (R498, R510). -/
def Dev.fatal (d : Dev) : Dev :=
  if d.prime.waitReset then d else
  let d := d.commitRecord
  let d := if 11 < d.prime.next then d.checkpoint else d
  { d with prime := { d.prime with waitReset := true, waitSince := d.nowNs } }

/-- SYS_REFCLK_FATAL: a SYS_REFCLK failure that has lasted 10 s is fatal (R510, R511). -/
def sysRefclkFatal (d : Dev) : Dev :=
  match d.power.sysRef with
  | some t =>
    if t + 10000000000 ≤ d.nowNs && !d.prime.waitReset then
      (d.sumpWrite (ioPlace 0 31 noSlice) 10 10 3 0 (le 2 0 ++ le 8 (d.nowNs - t))).fatal
    else d
  | none => d

/-- Trip cause, sensor and reading for SMBus: zeros and 0xFF when there is no trip (R556). -/
def Dev.tripBytes (d : Dev) : List Byte :=
  match d.thm.trip with
  | some (c, s, r) => le 1 c ++ le 1 s ++ le 2 (trunc 16 r)
  | none => le 1 0 ++ le 1 255 ++ le 2 0

/-- SMBUS_READ: command code 0x00 returns 8 status bytes; any other code returns zeros (R556). -/
def smbusRead (code : Nat) (d : Dev) : Dev :=
  let b := if code = 0 then le 2 (d.fget fThmMaxTemp) ++ le 1 (d.fget fPrmStatState) ++ d.tripBytes ++ zeros 1 else zeros 8
  { d with pins := { d.pins with smb := b } }

/-- ALERT_L is low: a sensor at level 1 or above, the rise rule, a rail outside ±5 %, or a latched shutdown (R556). -/
def Dev.alertLow (d : Dev) : Bool :=
  d.thm.trip.isSome
    || (List.range 28).any (fun s => d.fget (fThmSensLevel s) != 0 || d.flag (fThmSensRise s))
    || (List.range 12).any (fun r => d.fget (fPwrRailState r) == 1 || d.fget (fPwrRailState r) == 2)

/-- THERM_TRIP_L is low (R541). -/
def Dev.thermTripLow (d : Dev) : Bool := d.thm.trip.isSome

/-- A reset output of the device is low: while PORST_L is low, until the priming step that releases it, and after a
shutdown (R541, Table ET-10). -/
def Dev.outLow (d : Dev) (step : Nat) : Bool := !d.pins.porst || d.thm.trip.isSome || decide (d.prime.next ≤ step)

/-- DDR_RESET_L_c, CXL_PERST_L and NVME_PERST_L, released by PM05, PM09 and PM10 (Table ET-10). -/
def Dev.ddrResetLow (d : Dev) : Bool := d.outLow 5
def Dev.cxlPerstLow (d : Dev) : Bool := d.outLow 9
def Dev.nvmePerstLow (d : Dev) : Bool := d.outLow 10

/-- FLASH_RESET_L is low, and FLASH_CS_L held high (Table ET-10). -/
def Dev.flashHeld (d : Dev) : Bool := !d.pins.porst || d.thm.trip.isSome

/-- The pairs of an ingest context's sensor port are terminated: from START SENSOR PORT until the port stops (Table ET-10). -/
def Dev.snsTerminated (d : Dev) (i : Nat) : Bool := !d.flashHeld && (tgetD d.sns.ctxs i {}).st != 0

/-- SENSA_TRIG or SENSB_TRIG_n of an ingest context is high: a genlock pulse is in progress (R233, Table ET-10). -/
def Dev.snsTrigHigh (d : Dev) (i : Nat) : Bool := !d.flashHeld && d.pins.snsTrig.contains i

/-- The priming step that owns a lane (Table PF-3). -/
def laneStep (n : Nat) : Nat := if 48 ≤ n && n < 64 then 3 else if 16 ≤ n && n < 48 then 9 else if 64 ≤ n && n < 80 then 10 else 12

/-- A lane is in electrical idle: with PORST_L low, until the step that owns its group, and after a shutdown (Table ET-10). -/
def Dev.laneIdle (d : Dev) (n : Nat) : Bool := d.flashHeld || decide (d.prime.next < laneStep n)

/-! ## Boundary scan (R555) -/

/-- The next state of the IEEE 1149.1 TAP, its 16 states numbered 0 Test-Logic-Reset, 1 Run-Test/Idle, 2 to 8 the DR
column (Select, Capture, Shift, Exit1, Pause, Exit2, Update) and 9 to 15 the IR column. -/
def tapNext (st : Nat) (tms : Bool) : Nat :=
  match st, tms with
  | 0, true => 0 | 0, false => 1
  | 1, true => 2 | 1, false => 1
  | 2, true => 9 | 2, false => 3
  | 3, true => 5 | 3, false => 4
  | 4, true => 5 | 4, false => 4
  | 5, true => 8 | 5, false => 6
  | 6, true => 7 | 6, false => 6
  | 7, true => 8 | 7, false => 4
  | 8, true => 2 | 8, false => 1
  | 9, true => 0 | 9, false => 10
  | 10, true => 12 | 10, false => 11
  | 11, true => 12 | 11, false => 11
  | 12, true => 15 | 12, false => 13
  | 13, true => 14 | 13, false => 13
  | 14, true => 15 | 14, false => 11
  | _, true => 2
  | _, false => 1

/-- BOUNDARY_SCAN: an edge on JTAG_TCK with TMS, TDI and TRST_L, and the pin levels that a capture would sample, drives
the TAP in every lifecycle state. JTAG reaches no device register or memory (R555). -/
def boundaryScan (e : JtagEdge) (d : Dev) : Dev :=
  let p := d.pins
  let p' :=
    if !e.trst then { p with tap := 0, tapIr := [], tapShift := [], tck := e.tck }
    else if e.tck && !p.tck then
      let sh := match p.tap with
        | 3 => if Config.tapBoundary p.tapIr then e.pins else [false]
        | 4 => p.tapShift.drop 1 ++ [e.tdi]
        | 10 => Config.tapIrCapture
        | 11 => p.tapShift.drop 1 ++ [e.tdi]
        | _ => p.tapShift
      let nx := tapNext p.tap e.tms
      { p with tap := nx, tapShift := sh, tck := true,
               tapIr := if nx = 15 then sh else if nx = 0 then [] else p.tapIr,
               boundary := if nx = 8 && Config.tapBoundary p.tapIr then sh else p.boundary }
    else if !e.tck && p.tck then { p with tck := false, tdo := (p.tapShift.head?).getD false }
    else p
  { d with pins := p' }

end Sys2Proof.Machine
end

