-- ==== Sys2Proof/Machine/TestOps.lean ====
section
/-!
DEFINITION. Errors of units and the start of targeted self-tests with their covers (R503, R506, R508 to R510, Table PF-8).
The end of a test is in the faults family.
-/
set_option autoImplicit false

namespace Sys2Proof
open Machine

/-- Place code of a unit (R22 to R24). The spec numbers no unit for a monitor raster: the place of its SDI
lane; nor for the sump writer: the Control group with UNIT all ones (log entry 31). Die-link endpoints 0 to 3: of P0 to X and
P1 to X on the pixel die, and of P0 to P1 on P0 and on P1 (R23). -/
def TUnit.place : TUnit → Place
  | .pump w u => wellPlace w u noSlice
  | .pailBank w u b => wellPlace w u (32 + b)
  | .cistern w b => wellPlace w 8 b
  | .lookup w t => wellPlace w 9 t
  | .cacheWay w k => wellPlace w 12 k
  | .siphon w n => wellPlace w (10 + n) noSlice
  | .wellControl w => wellPlace w 13 noSlice
  | .compositor c => quadPlace c 0
  | .spout s => quadPlace (s / 4) (1 + s % 4)
  | .raster r => lanePlace (80 + r)
  | .compressor k => ioPlace 2 k noSlice
  | .encoder n => ioPlace 2 (4 + n) noSlice
  | .decoder => ioPlace 2 6 noSlice
  | .pilot => ioPlace 1 2 noSlice
  | .dramRow ch _ _ => ioPlace 3 (ch / 2) (ch % 2)
  | .lane n => lanePlace n
  | .windlass k => ioPlace 0 k noSlice
  | .timeUnit => ioPlace 7 0 noSlice
  | .queueFront => qfPlace
  | .journal => qfPlace
  | .sumpWriter => ioPlace 0 31 noSlice
  | .secureElement => ioPlace 0 5 noSlice
  | .dieLinkLane l n => if 2 ≤ l then mkPlace (l - 2) (2 * (l - 2)) 5 1 n noCell else mkPlace l (2 * l) 5 0 n noCell

/-- Place of an error in a unit: for a pump with SLICE 0 to 31 for a SIMD lane, 48 for scalar and control logic (Table AR-3). -/
def TUnit.errorPlace (u : TUnit) (part : Nat) : Place :=
  match u with
  | .pump w n => wellPlace w n (if part < 32 || part = 48 then part else noSlice)
  | u => u.place

/-- The place that the retirement of a unit names: that of the pump for a pail (Table PF-8). -/
def TUnit.retirePlace : TUnit → Place
  | .pailBank w u _ => wellPlace w u noSlice
  | u => u.place

/-- Units with a row in Table PF-8. -/
def TUnit.tested : TUnit → Bool
  | .timeUnit | .queueFront | .journal | .sumpWriter | .secureElement | .dieLinkLane _ _ => false
  | _ => true

/-- The test of the unit starts with its cover; a pump is withdrawn first, and a cistern sub-bank or lookup table is
copied first (Table PF-8, Table GS-11). -/
def TUnit.testsAtOnce : TUnit → Bool
  | .pump _ _ | .pailBank _ _ _ | .cistern _ _ | .lookup _ _ => false
  | _ => true

/-- The well of a unit on a pixel die, whose island PS2 gates (R509). -/
def TUnit.onPixelDie : TUnit → Bool
  | .pump _ _ | .pailBank _ _ _ | .cistern _ _ | .lookup _ _ | .cacheWay _ _ | .siphon _ _ | .wellControl _
  | .compositor _ | .spout _ => true
  | _ => false

end Sys2Proof

namespace Sys2Proof.Machine

/-- A unit is under its targeted self-test. -/
def Dev.underTest (d : Dev) (u : TUnit) : Bool := d.test.running.any (fun t => t.unit == u)

/-- No empty sub-bank is left in a well. -/
def noBank : Nat := 64

/-- The strip that the pilot path was covering is shed instead (R268). -/
def Dev.coverLost (d : Dev) : Dev :=
  match d.sns.pilot.cover with
  | some (h, s) =>
    let d := (d.pilotMod (fun p => { p with cover := none })).showPilot
    let d := d.graphMod h (fun g => g.frameMod s.ctx s.frame (fun f => { g.endAll f s.strip .shed with
      covered := f.covered - 1, skipped := f.skipped + 1, repair := f.repair ++ [s.strip] }))
    (match (d.graph h).bind (fun g => g.ingestOf s.ctx) with | some i => d.freeRows i | none => d)
  | none => d

/-- The pilot path loses its work: the covered strip is shed and the frames in service will not be published (R268). -/
def Dev.pilotDrop (d : Dev) : Dev :=
  d.coverLost.pilotMod (fun p => { p with service := p.service.map (fun s => { s with
    frames := s.frames.map (fun f => { f with failed := true }) }) })

/-- The pilot path enters STATE 0b11 (R268). -/
def Dev.pilotDown (d : Dev) : Dev := d.pilotDrop.fset fPipePltCtlState 3

/-- Two tests that may not run at once in a well (R508): pumps and pails; cistern sub-banks. -/
def clash : TUnit → TUnit → Bool
  | .pump w _, .pump x _ | .pump w _, .pailBank x _ _ | .pailBank w _ _, .pump x _ | .pailBank w _ _, .pailBank x _ _ => w == x
  | .cistern w _, .cistern x _ => w == x
  | _, _ => false

/-- A test of the unit may start now (R508, R509; an ACTIVE lane is tested when it next leaves ACTIVE, Table PF-8). -/
def Dev.testMayStart (d : Dev) (u : TUnit) : Bool :=
  !(d.test.running.any (fun t => clash t.unit u)) && !(u.onPixelDie && d.fget fQfStatPstate == 2)
    && (match u with | .lane n => d.laneSt n != lsActive | _ => true)

/-- The cover of a unit takes over its work (Table PF-8): the device, and whether a spare or the pilot path covers. -/
def Dev.coverUnit (d : Dev) (u : TUnit) : Dev × Bool :=
  match u with
  | .pump w n => ((d.withdraw (5 * w + n)), (d.spareOf w).isSome)
  | .pailBank w n _ => ((d.withdraw (5 * w + n)), (d.spareOf w).isSome)
  | .cistern w b => (d.wellMod w (fun x => { x with copyBank := some b }), true)
  | .lookup w t =>
    if t < 8 && (d.well w).ninthFor.isNone && (d.well w).copying.isNone && !(d.well w).ninthFailed then (d.wellMod w (fun x => { x with copying := some t }), true)
    else (d, false)
  | .cacheWay w k => (d.wellMod w (fun x => { x with waysOff := if x.waysOff.contains k then x.waysOff else x.waysOff ++ [k] }), true)
  | .siphon w n => (d.wellMod w (fun x => { x with siphonOff := if x.siphonOff.contains n then x.siphonOff else x.siphonOff ++ [n] }),
      (d.well w).siphonOff.isEmpty)
  | .wellControl w =>
    -- the well's island is held for its BIST (SYS_ISL_STAT)
    (((List.range 5).foldl (fun d n => d.withdraw (5 * w + n)) d).fset (fSysIslStatState w) 2, d.sns.pilot.armed.isSome)
  | .pilot => (d.pilotDown, false)
  | .lane n => (d.startLaneTest n, false)
  | .compressor k =>
    -- it takes no band-plane during its compare run (R331)
    let d := (d.fset (fCmpStatState k) 2).finc (fCmpStatTests k)
    (d.fset fCmpPoolActive ((List.range 4).filter (fun j => d.fget (fCmpStatState j) < 2)).length, true)
  | .windlass k => (d.coreMod (80 + k) (fun c => { c with stopped := true }), true)
  | _ => (d, false)

/-- Start the test of a unit, its cover first. -/
def Dev.startTest (d : Dev) (u : TUnit) (cause errors : Nat) : Dev :=
  let (d, cov) := d.coverUnit u
  -- a table that the ninth cannot cover is marched at once
  let begun := u.testsAtOnce || (match u with | .lookup w t => (d.well w).copying != some t | _ => false)
  { d with test := { d.test with running := d.test.running ++
      [{ unit := u, cause := cause, errors := errors, start := d.nowNs, covered := cov, begun := begun }] } }

/-- A unit has passed a test within the last second (R508). -/
def Dev.passedLately (d : Dev) (u : TUnit) : Bool :=
  d.test.passes.any (fun e => e.1 == u && d.nowNs < e.2 + 1000000000)

/-- A cistern sub-bank test that finds no empty sub-bank is not run (R508). -/
def Dev.testPossible (d : Dev) (u : TUnit) : Bool :=
  match u with
  | .cistern w _ => (d.well w).emptyBank != noBank
  | _ => true

/-- A further error of a unit joins its test (R508). -/
def Test.join (u : TUnit) (t : Test) : Test := if t.unit = u then { t with errors := t.errors + 1 } else t

/-- A unit reports an error: it is logged, and the unit's test starts, waits, or is joined (R503, R506, R508, R510). An
uncorrected error of a unit without a test is fatal, but for a die-link lane. -/
def Dev.unitErrorAt (d : Dev) (u : TUnit) (place : Place) (cls detail sev : Nat) (payload : List Byte) : Dev :=
  let cause := cls * 256 + detail % 256
  if !u.tested then
    match u with
    | .dieLinkLane _ _ => d.sumpWrite place cls detail sev 0 payload
    | _ => if 2 ≤ sev then (d.sumpWrite place cls detail 3 0 payload).fatal else d.sumpWrite place cls detail sev 0 payload
  else if d.priming && d.prime.next ≤ 8 then
    let d := d.sumpWrite place cls detail sev 0 payload
    if d.prime.early.any (fun e => e.1 == u) then d
    else { d with prime := { d.prime with early := d.prime.early ++ [(u, cause)] } }
  else if d.underTest u then
    let d := { d with test := { d.test with running := d.test.running.map (Test.join u) } }
    d.sumpWrite place cls detail sev 1 payload
  else if d.test.waiting.any (fun t => t.unit == u) then
    let d := { d with test := { d.test with waiting := d.test.waiting.map (Test.join u) } }
    d.sumpWrite place cls detail sev 1 payload
  else if d.passedLately u then d.sumpAgain place cls detail sev payload
  else if d.isRetired u.retirePlace || !d.testPossible u then d.sumpWrite place cls detail sev 0 payload
  else if d.testMayStart u then
    let covered := (d.coverUnit u).2
    (d.sumpWrite place cls detail sev (1 + 2 * covered.toNat) payload).startTest u cause 1
  else
    let d := d.sumpWrite place cls detail sev 1 payload
    -- an error in the pump that covers withdraws the cover as well
    let d : Dev := match u with
      | .pump w n => if d.role (5 * w + n) == .substitute then d.withdraw (5 * w + n) else d
      | .pailBank w n _ => if d.role (5 * w + n) == .substitute then d.withdraw (5 * w + n) else d
      | _ => d
    { d with test := { d.test with waiting := d.test.waiting ++ [{ unit := u, cause := cause, start := d.nowNs }] } }

/-- A unit reports an error that names the unit as a whole. -/
def Dev.unitError (d : Dev) (u : TUnit) (cls detail sev : Nat) (payload : List Byte) : Dev :=
  d.unitErrorAt u u.place cls detail sev payload

/-- The firmware restarts the background tasks of a retired pump at ENTRY on another pump of their set, in the same well before
another (event 4b). -/
def Dev.restartTasks (d : Dev) (c : Nat) : Dev :=
  (d.core c).tasks.foldl (fun (d : Dev) e =>
    let t := e.2
    let d := d.coreMod c (fun k => { k with tasks := tadj k.tasks e.1 (fun t => if t.rt then t else { t with st := .ended }) })
    if t.rt || t.st == .ended || t.st == .waiting then d
    else match d.graph t.graph with
      | none => d
      | some g => match g.stage t.stage with
        | none => d
        | some s0 =>
          let s := s0.latest
          let wells := wellOf c :: (List.range 16).filter (· != wellOf c)
          match tget d.cores.programs s.prog, (wells.flatMap (d.pumpSet s)).find? (fun k => k != c && (d.core k).openSlot.isSome) with
          | some p, some k =>
            let d := d.newTask k t.graph t.stage g s p .ready
            (d.graphMod t.graph (fun g => { g with restarted := true })).takeBg k
          | _, _ => d) d

/-- The firmware restarts the background tasks of a retired pump; during a firmware activation that waits for its end (R509). -/
def Dev.restartOf (d : Dev) (c : Nat) : Dev :=
  if d.qf.fw.isSome then { d with test := { d.test with restarts := d.test.restarts ++ [c] } } else d.restartTasks c

/-- The restarts that waited for the end of a firmware activation (R509). -/
def Dev.restartHeld (d : Dev) : Dev :=
  d.test.restarts.foldl Dev.restartTasks { d with test := { d.test with restarts := [] } }

end Sys2Proof.Machine
end

