-- ==== Sys2Proof/Machine/Sensor.lean ====
section
/-!
DEFINITION. Sensor ports and ingest contexts: configuration, alignment, lines, frames, marks and the raw write-out
(R196 to R224, R233 to R236).
-/
set_option autoImplicit false

namespace Sys2Proof.Machine

/-! ## Ports, contexts and lanes (R196 to R198) -/

def snsPort (i : Nat) : Nat := if i = 0 then 0 else 1
def snsPlace (i : Nat) : Place := ioPlace 1 (snsPort i) noSlice
def Dev.wideMode (d : Dev) : Bool := d.fget (fSnsCtlMode 0) == 1
def Dev.splitMode (d : Dev) : Bool := d.fget (fSnsCtlMode 1) == 2
/-- EMB reads 1 in split mode (R236). -/
def Dev.embedded (d : Dev) (i : Nat) : Bool := d.flag (fSnsCtlEmb (snsPort i)) || (i != 0 && d.splitMode)

/-- Data lanes of an ingest context (Table SI-1). -/
def Dev.lanesOfCtx (d : Dev) (i : Nat) : List Nat :=
  let n := d.fget (fSnsFmtNlane i)
  if i = 0 then List.range (if d.wideMode then 160 else min n 80)
  else if d.splitMode then (List.range 20).map (80 + 20 * (i - 1) + ·)
  else (List.range (min n 80)).map (80 + ·)

/-- The context and clock that a forwarded clock belongs to: in wide mode the clocks of port B, which port B's context 1
names, are clocks 2 and 3 of context 0 (Table SI-1). -/
def Dev.clockOf (d : Dev) (i k : Nat) : Nat × Nat := if d.wideMode && i == 1 then (0, 2 + k) else (i, k)

/-- Lanes that a clock of a port serves: in split mode each sub-port has one clock; in normal mode clock 1 serves pairs
40 to 79 when CK2 is set; in wide mode each of the four clocks serves forty lanes. -/
def Dev.clockLanes (d : Dev) (i k : Nat) : List Nat :=
  let l := d.lanesOfCtx i
  let two := d.wideMode || d.flag (fSnsCtlCk2 (snsPort i))
  if (i != 0 && d.splitMode) || !two then (if k = 0 then l else [])
  else l.filter (fun n => (n - (l.headD 0)) / 40 == k)

/-- The context exists in the present mode: context 1 not in wide mode, 2 to 4 only in split mode (R197, R198). -/
def Dev.ctxExists (d : Dev) (i : Nat) : Bool := i = 0 || (!d.wideMode && (i = 1 || (i ≤ 4 && d.splitMode)))

/-- Bits of a sample. -/
def depthBits (code : Nat) : Nat := 10 + 2 * code
def Dev.ctxDepth (d : Dev) (i : Nat) : Nat := depthBits (d.fget (fSnsFmtDepth i))
/-- NEXP, with 0 treated as 1. -/
def Dev.ctxNexp (d : Dev) (i : Nat) : Nat := max 1 (d.fget (fSnsFmtNexp i))
/-- TOUT in sixteenths of PERIOD, with values outside 20 to 64 treated as 24. -/
def Dev.ctxTout (d : Dev) (i : Nat) : Nat :=
  let t := d.fget (fSnsLineTout i)
  if 20 ≤ t && t ≤ 64 then t else 24

/-- Show a port's STATE: of a split port, the highest of its sub-ports. -/
def Dev.showPort (d : Dev) (i : Nat) : Dev :=
  let st := if i = 0 then (d.ing 0).st
    else ((List.range 4).map (fun k => if d.ctxExists (k + 1) then (d.ing (k + 1)).st else 0)).foldl max 0
  d.fset (fSnsCtlState (snsPort i)) st

def Dev.setCtxState (d : Dev) (i st : Nat) : Dev := (d.ingMod i (fun g => { g with st := st })).showPort i

/-! ## Sync edges (R38, R208) -/

/-- The filter of a port's sync pairs confirms an edge; embedded codes have none. -/
def Dev.edgeCounts (d : Dev) (i : Nat) (e : SyncEdge) : Bool :=
  d.embedded i || decide (max 1 (d.fget (fSnsCtlFilt (snsPort i))) ≤ e.stable)

/-- The time of an edge: the last copy stamp in the 64 bit times before its confirmation, or a record time where there is none (R38).
Embedded codes have no stamp; the time at which they are taken serves the range check and the timeouts alone (log entry 54). -/
def Dev.edgeTime (d : Dev) (i : Nat) (e : SyncEdge) : Nat :=
  if d.embedded i then e.confirm
  else ((e.copies.filter (fun t => t ≤ e.confirm && (e.confirm - t) * d.fget (fSnsCtlRate (snsPort i)) ≤ 64000)).getLast?).getD d.recTime

/-- The end of a frame at an edge: without a stamp it is a record time (R38). -/
def Dev.endTime (d : Dev) (i : Nat) (e : SyncEdge) : Nat := if d.embedded i then d.recTime else d.edgeTime i e

/-! ## Interpolated settings (R229, R230) -/

/-- Calibration unit of a context (before R225): 0 port A, 1 port B in normal mode, 2 + k sub-port k. -/
def Dev.calUnit (d : Dev) (i : Nat) : Nat := if i = 0 then 0 else if d.splitMode then 1 + i else 1

def CalSet.degrees (c : CalSet) : Int := sext 8 c.temp
def CalSet.lane (c : CalSet) (n : Nat) : Option (Nat × Nat) := (c.lanes.find? (fun e => e.1 == n)).map (·.2)

/-- Sets of a unit by rising temperature. -/
def Dev.unitSets (d : Dev) (u : Nat) : List CalSet :=
  sortBy (fun a b => a.degrees ≤ b.degrees) ((List.range 8).filterMap (fun s => tget d.sns.sets (8 * u + s)))

/-- Linear interpolation, nearest, half towards plus infinity (R229). -/
def interp (a b : Int × Int) (t : Int) : Int :=
  let num := (b.2 - a.2) * (t - a.1)
  let den := b.1 - a.1
  a.2 + (2 * num + den) / (2 * den)

/-- A field of a lane at a temperature: the pseudocode of R229. -/
def interpolate (l : List (Int × Int)) (present : Int) (t : Int) : Int :=
  match l with
  | [] => present
  | first :: _ =>
    let last := l.getLastD first
    if t ≤ first.1 then first.2 else if last.1 ≤ t then last.2
    else match (l.zip (l.drop 1)).find? (fun p => p.1.1 ≤ t && t < p.2.1) with
      | some (lo, hi) => interp lo hi t
      | none => present

/-- The maximum-sensor temperature in whole degrees, rounded down. -/
def Dev.degrees (d : Dev) : Int := match d.maxTemp with | some (r, _) => r / 4 | none => 0

/-- Interpolated tap and threshold of a lane of a unit at a temperature. -/
def Dev.laneTarget (d : Dev) (u n : Nat) (t : Int) : Int × Int :=
  let sets := d.unitSets u
  let pts := fun (f : Nat × Nat → Int) => sets.filterMap (fun c => (c.lane n).map (fun e => (c.degrees, f e)))
  (interpolate (pts (fun e => e.1)) (d.fget (fSnsLaneCfgTap n)) t,
   interpolate (pts (fun e => sext 5 e.2)) (sext 5 (d.fget (fSnsLaneCfgThr n))) t)

def Dev.setTap (d : Dev) (n : Nat) (v : Int) : Dev := d.fset (fSnsLaneCfgTap n) (max 0 (min 63 v)).toNat
def Dev.setThr (d : Dev) (n : Nat) (v : Int) : Dev := d.fset (fSnsLaneCfgThr n) (trunc 5 (max (-16) (min 15 v)))

/-- One step of tracking: a value that differs by 2 or more moves by one (R230). -/
def track (have' want : Int) : Int := if want - have' ≥ 2 then have' + 1 else if have' - want ≥ 2 then have' - 1 else have'

/-- Tracking at a frame start, suspended during a measurement and during a window (R230). -/
def Dev.trackLanes (d : Dev) (i : Nat) : Dev :=
  let u := d.calUnit i
  let measuring := match tget d.sns.cals u with | some c => c.phase != CalPhase.pending | none => false
  if measuring || (d.ing i).window.isSome then d
  else
    let t := d.degrees
    (d.lanesOfCtx i).foldl (fun d n =>
      let (tap, thr) := d.laneTarget u n t
      (d.setTap n (track (d.fget (fSnsLaneCfgTap n)) tap)).setThr n (track (sext 5 (d.fget (fSnsLaneCfgThr n))) thr)) d

/-! ## CONFIGURE SENSOR PORT (Table SQ-8, R222, R223) -/

/-- The register fields that a port block writes, from its six words. -/
def portFields (i : Nat) (b : List Byte) : List (Fld × Nat) :=
  let w := fun k => field b (8 + 4 * k) 4
  [(fSnsFmtDepth i, bits (w 0) 31 30), (fSnsFmtNexp i, bits (w 0) 29 28), (fSnsFmtChk i, bits (w 0) 27 27),
   (fSnsFmtNlane i, bits (w 0) 23 16), (fSnsFmtWidth i, bits (w 0) 15 0),
   (fSnsFrameLines i, bits (w 1) 31 16), (fSnsFrameWell i, bits (w 1) 15 12), (fSnsFrameBuf i, bits (w 1) 7 0),
   (fSnsTimePeriod i, w 2), (fSnsLineTout i, bits (w 3) 31 24), (fSnsLineLine i, bits (w 3) 19 0),
   (fSnsGlEn i, bits (w 4) 31 31), (fSnsGlTrg i, bits (w 4) 28 24), (fSnsGlWin i, bits (w 4) 15 0), (fSnsGlLatLat i, w 5)]

/-- Fields that change only while the port is stopped (R222). -/
def stopOnly (i : Nat) : List Fld := [fSnsFrameWell i, fSnsFrameBuf i]

/-- The ranges of the line format and frame registers (R196, R201, R205, R218, R236). -/
def geomOk (i : Nat) (wide split : Bool) (nlane width lines buf period : Nat) : Bool :=
  (if wide then nlane == 160 else if split then nlane == 20 else nlane % 8 == 0 && 8 ≤ nlane && nlane ≤ 80)
    && nlane != 0 && width % nlane == 0 && 0 < width && width ≤ 32760 && 16 ≤ lines && lines ≤ 16384
    && 32 ≤ buf && buf ≤ (if i = 0 then 128 else 96) && 1000000 ≤ period && period ≤ 1000000000

/-- Bytes of the sub-banks that a started context holds in its well (R218). -/
def Dev.ingestHeld (d : Dev) (i : Nat) : Nat :=
  ((d.well (d.fget (fSnsFrameWell i))).alloc.find? (fun a => a.2.2 == iOwner i)).elim 0 (·.2.1)

/-- Rows that the buffer of a context holds at a geometry: BUF, or while it runs what its sub-banks hold of them. -/
def Dev.bufRows (d : Dev) (i nexp width buf : Nat) : Nat :=
  if (d.ing i).st = 0 then buf else min buf (d.ingestHeld i / (max 1 nexp * width * 2))

/-- Slots and BUF of the running graphs that a context feeds hold a geometry (R218, R223). -/
def Dev.geomFits (d : Dev) (i nexp width buf : Nat) : Bool :=
  (d.fedBy i).all (fun e =>
    let g := e.2.1
    g.stripH + 2 * g.apronY + 8 ≤ d.bufRows i nexp width buf && g.stages.zipIdx.all (fun s => match tget d.cores.programs s.1.prog with
      | none => true
      | some p => s.1.outs.zipIdx.all (fun o => match g.chan o.1 with
        | some ch => ch.items == 0 || slotItems g.stripH (g.spanW width) (p.outIpk.getD o.2 0) ≤ ch.items
        | none => true)))

def configureSensorPort (seq : Nat) (d : Dev) : Dev :=
  d.run seq false 0x95 (fun d c =>
    let i := c.w10 % 8
    let b := c.data
    let f := field b
    let pflag := bit (f 0x21 1) 0
    let p := snsPort i
    let ctl := f 0 4
    let mode := if pflag then bits ctl 29 28 else d.fget (fSnsCtlMode p)
    let wide := if i = 0 then mode == 1 else d.wideMode
    let split := i != 0 && mode == 2
    let nraw := f 0x20 1
    let raws := (List.range nraw).map (fun k => f (0x40 + 4 * k) 4)
    let fs := portFields i b
    let val := fun (x : Fld) => ((fs.find? (fun e => e.1.key == x.key)).map (·.2)).getD 0
    if 4 < i || b.length ≠ 96 || !allZero b 0x24 28 || 1 < f 0x21 1 || nraw < 2 || 8 < nraw
        || !allZero b (0x40 + 4 * nraw) (32 - 4 * nraw)
        || (pflag && (mode == 3 || (mode == 1 && p == 1) || (mode == 2 && p == 0) || 3 < bits ctl 31 30 || bits ctl 31 30 != 0
            || bits ctl 11 0 < 300 || 2400 < bits ctl 11 0 || bits ctl 21 12 != 0 || 65535 < f 4 4))
        || (i != 0 && wide) || (1 < i && !split)
        || !geomOk i wide split (val (fSnsFmtNlane i)) (val (fSnsFmtWidth i)) (val (fSnsFrameLines i)) (val (fSnsFrameBuf i))
            (val (fSnsTimePeriod i)) then d.fail seq stBadParam
    else if !d.mem.spaces.contains (f 0x22 2) || raws.any (fun h => (d.buf h).isNone) then d.fail seq stBadHandle
    else if (pflag && (List.range 5).any (fun k => (d.ing k).st != 0))
        || ((d.ing i).st != 0 && (stopOnly i).any (fun x => val x != d.fget x)) then d.fail seq stPortRunning
    else if !d.geomFits i (val (fSnsFmtNexp i)) (val (fSnsFmtWidth i)) (val (fSnsFrameBuf i)) then d.fail seq stGeometry
    else
      let d := d.startCmd seq
      let d := if pflag then d.fsets [(fSnsCtlMode p, mode), (fSnsCtlEmb p, bits ctl 27 27), (fSnsCtlCk2 p, bits ctl 26 26),
          (fSnsCtlFilt p, bits ctl 25 22), (fSnsCtlRate p, bits ctl 11 0), (fSnsTrainTrain p, f 4 4)] else d
      let d := d.ingMod i (fun g => { g with asid := f 0x22 2, raws := raws, rawNext := 0 })
      let d := if (d.ing i).st = 0 then (d.fsets fs).ingMod i (fun g => { g with staged := [] })
        else d.ingMod i (fun g => { g with staged := g.staged ++ fs.map (fun e => (e.1.key, e.2)) })
      (d.markChanged kIngest i seq).okEffect seq c (d.ing i).count i)

/-- The lanes of a started context carry USED, and those of `old` no longer (R236). -/
def Dev.showUsed (d : Dev) (i : Nat) (old : List Nat) : Dev :=
  (d.lanesOfCtx i).foldl (fun d n => d.fset (fSnsLaneCfgUsed n) 1) (old.foldl (fun d n => d.fset (fSnsLaneCfgUsed n) 0) d)

/-- Staged values take effect (R222). -/
def Dev.applyPort (d : Dev) (i : Nat) : Dev :=
  let l := (d.ing i).staged
  let old := d.lanesOfCtx i
  let d := (portFields i []).foldl (fun d e => match (l.filter (fun x => x.1 == e.1.key)).getLast? with
    | some (_, v) => d.fset e.1 v | none => d) d
  let d := if d.lanesOfCtx i = old then d else d.showUsed i old
  d.ingMod i (fun g => { g with staged := [] })

/-! ## Starting and aligning (R206) -/

/-- Sub-banks of an ingest buffer (R218). -/
def Dev.ingestBytes (d : Dev) (i : Nat) : Nat :=
  roundUp (d.fget (fSnsFrameBuf i) * d.ctxNexp i * d.fget (fSnsFmtWidth i) * 2) 131072

/-- Alignment begins from the interpolated calibration sets (R206, R207). -/
def Dev.beginAlign (d : Dev) (i : Nat) : Dev :=
  let u := d.calUnit i
  let t := d.degrees
  let d := (d.lanesOfCtx i).foldl (fun d n =>
    let (tap, thr) := d.laneTarget u n t
    (d.setTap n tap).setThr n thr) d
  (d.ingMod i (fun g => { g with bad := [] })).setCtxState i 1

def startSensorPort (seq : Nat) (d : Dev) : Dev :=
  d.runStart seq 0xA4 (fun d c =>
    let i := c.w10 % 8
    let w := d.fget (fSnsFrameWell i)
    if 4 < i || !d.ctxExists i || !geomOk i (i == 0 && d.wideMode) (i != 0 && d.splitMode) (d.fget (fSnsFmtNlane i))
        (d.fget (fSnsFmtWidth i)) (d.fget (fSnsFrameLines i)) (d.fget (fSnsFrameBuf i)) (d.fget (fSnsTimePeriod i)) then
      d.fail seq stBadParam
    else if (d.ing i).st = 1 || (d.ing i).st = 2 then d.fail seq stBusy
    else if i = 0 && d.wideMode && (d.ing 1).st != 0 then d.fail seq stPortRunning
    else match gapFor ((d.well w).alloc.filter (fun a => a.2.2 != iOwner i)) 0 cisternLimit (d.ingestBytes i) 131072 with
      | none => d.fail seq stCisternFull
      | some a =>
        let d := (d.startCmd seq).wellMod w (fun x => { x with
          alloc := x.alloc.filter (fun e => e.2.2 != iOwner i) ++ [(a, d.ingestBytes i, iOwner i)] })
        let d := (d.showUsed i []).ingMod i (fun g => { g with
          startSeq := some seq, lastStart := none, stales := 0, rejected := false, fv := false, inFrame := false, dropping := false })
        (d.beginAlign i).markCreated kIngest i seq)

/-- ALIGNMENT_DONE: every lane has shown the training word; `lanes` are the tap and the bit offset found for each lane of
the context. -/
def alignmentDone (i : Nat) (lanes : List (Nat × Nat)) (d : Dev) : Dev :=
  if (d.ing i).st ≠ 1 then d
  else
    let d := ((d.lanesOfCtx i).zip lanes).foldl (fun d e =>
      (d.setTap e.1 (e.2.1 % 64 : Nat)).fset (fSnsLaneCfgSlip e.1) (min 16 e.2.2)) d
    let seq := (d.ing i).startSeq
    let d := (d.ingMod i (fun g => { g with startSeq := none, bad := [] })).setCtxState i 2
    match seq with
    | some q => (match tget d.qf.ctxs q with | some c => d.okOther q c 0 | none => d)
    | none => d

/-- ALIGNMENT_TIMEOUT: not aligned within 2,048 line times. -/
def alignmentTimeout (i : Nat) (failing : List Nat) (d : Dev) : Dev :=
  if (d.ing i).st ≠ 1 then d
  else
    let seq := (d.ing i).startSeq
    let d := (d.ingMod i (fun g => { g with startSeq := none })).setCtxState i 3
    let d := d.sumpInput (snsPlace i) 3 (failing.headD 0) failing.length
    match seq with
    | some q => d.finish q { sct := 7, sc := stNoAlign, list := (failing.map (fun n => listEntry [n])).flatten }
    | none => d

/-! ## Frame records (R213, R217) -/

/-- Strips of an ingest frame that the graphs have shed or skipped so far, and those covered (Table SI-5). -/
def Dev.stripCounts (d : Dev) (i frame : Nat) : Nat × Nat :=
  let fs := (tvals d.cores.graphs).flatMap (fun g => g.frames.filter (fun f => f.frame == frame && g.ingestOf f.ctx == some i))
  ((fs.map (·.skipped)).sum, (fs.map (·.covered)).sum)

/-- The counts and marks of strips as they stand when a record becomes final (R213, R217). -/
def FrameRec.settle (r : FrameRec) (n : Nat × Nat) : FrameRec :=
  { r with marks := r.marks ||| (if n.1 = 0 then 0 else mSkipped) ||| (if n.2 = 0 then 0 else mPilot),
           skipped := min 65535 (r.skipped + n.1), pilot := min 65535 (r.pilot + n.2) }

/-- The open record becomes final; the newest 1,024 are kept. -/
def Dev.closeRecord (d : Dev) (i : Nat) : Dev :=
  d.ingMod i (fun g => match g.cur with
    | some r => { g with cur := none, recs := (g.recs ++ [r.settle (d.stripCounts i r.frame)]).drop (g.recs.length + 1 - 1024) }
    | none => g)

def Dev.curMod (d : Dev) (i : Nat) (f : FrameRec → FrameRec) : Dev := d.ingMod i (fun g => { g with cur := g.cur.map f })

/-- Change the record of the frame in progress, or of the last one, while it is open (R217). -/
def Dev.liveMod (d : Dev) (i : Nat) (f : FrameRec → FrameRec) : Dev :=
  d.ingMod i (fun g => { g with cur := g.cur.map (fun r => if r.frame = g.frameNo then f r else r) })

/-- Raw frame leases retire when the last row of a frame has been written. -/
def Dev.retireRaw (d : Dev) (i : Nat) : Dev :=
  let g := d.ing i
  let busy := fun (n : Nat) => (g.inFrame && g.frameNo == n) || g.rows.any (fun r => r.frame == n && !r.written)
  let gone := (g.rawBuf.filter (fun e => !busy e.1)).map (·.1)
  let d := gone.foldl (fun d n => d.retireLeases kIngest i n) d
  d.ingMod i (fun g => { g with rawBuf := g.rawBuf.filter (fun e => busy e.1) })

/-- STOP commands of a port complete and the port stops. -/
def Dev.endPort (d : Dev) (i : Nat) (seqs : List Nat) (notes : Nat) (lst : List Byte) : Dev :=
  let last := if (d.ing i).count = 0 then none else some ((d.ing i).count - 1)
  -- the leases return at once, so that rows not yet written stay unwritten (R158, R220)
  let d := ((d.ing i).rawBuf.filter (fun e => (d.ing i).rows.any (fun r => r.frame == e.1 && !r.written))).foldl
    (fun d e => d.recMod i e.1 (fun r => r.mark mRawlost)) d
  let d := d.closeRecord i
  let d := (d.lanesOfCtx i).foldl (fun d n => d.fset (fSnsLaneCfgUsed n) 0) d
  let d := d.ingMod i (fun g => { g with stops := [], startSeq := none, inFrame := false, rawBuf := [] })
  let d := (List.range 16).foldl (fun d w => if (d.well w).alloc.any (fun a => a.2.2 == iOwner i) then
    d.wellMod w (fun x => { x with alloc := x.alloc.filter (fun a => a.2.2 != iOwner i) }) else d) d
  let d := ((d.dropLeases kIngest i).freeStartUp kIngest i).setCtxState i 0
  seqs.foldl (fun d q => d.finish q { dw0 := last.getD allOnes32, dg0 := last.getD allOnes64, dg1 := i, notes := notes, list := lst }) d

/-- Each lane of a unit whose tap differs from its new value moves one tap towards it (Table SI-6). -/
def Dev.stepTaps (d : Dev) (c : Cal) : Dev :=
  c.new.foldl (fun d e =>
    let t := d.fget (fSnsLaneCfgTap e.1)
    if t < e.2.1 then d.setTap e.1 (t + 1 : Nat) else if e.2.1 < t then d.setTap e.1 (t - 1 : Nat) else d) d

/-- The calibration window of a context opens as its frame ends: thresholds take their new values and the first tap step
is taken (R228). -/
def Dev.openWindow (d : Dev) (i : Nat) : Dev :=
  let u := d.calUnit i
  match tget d.sns.cals u with
  | none => d
  | some c =>
    if c.phase ≠ CalPhase.pending then d
    else
      let d : Dev := { d with sns := { d.sns with cals := tput d.sns.cals u { c with
        phase := .window
        old := c.new.map (fun e => (e.1, d.fget (fSnsLaneCfgTap e.1), sext 5 (d.fget (fSnsLaneCfgThr e.1)))) } } }
      let d := c.new.foldl (fun d e => d.setThr e.1 e.2.2) d
      (d.stepTaps c).ingMod i (fun g => { g with window := some 0, winAt := some d.nowNs, calMark := true })

/-- The frame in progress ends (R211): `overflow` and `lost lock` endings have marks of their own. -/
def Dev.endFrame (d : Dev) (i : Nat) (tend : Option Nat) (check : Bool) : Dev :=
  let g := d.ing i
  if !g.inFrame then d else
      let n := g.rowsIn
      let lost := g.height - n
      let short := n + g.winLost < g.height && !g.dropping
      let d := d.liveMod i (fun r => { r with
        lost := lost, tend := tend,
        marks := r.marks ||| (if short then mShort else 0) ||| (if check then mCheck else 0) })
      let d := d.ingMod i (fun g => { g with inFrame := false, part := [] })
      let lo := if n = 0 then 0 else g.winLost
      let d := (d.frameRows i g.frameNo lo (lo + n)).pilotRowsEnd i g.frameNo (lo + n)
      let d := (d.openWindow i).freeRows i
      let d := d.retireRaw i
      if g.stops.isEmpty || (tget d.sns.cals (d.calUnit i)).isSome then d else d.endPort i g.stops 0 []

/-- A loss of lock on some lanes (R207): the frame ends with CHECK and SHORT, and the port realigns. A calibration
measurement is abandoned by the calibration family's rule (R232). -/
def Dev.lockLoss (d : Dev) (i : Nat) (lanes : List Nat) : Dev :=
  let d := lanes.foldl (fun d n => d.finc (fSnsLaneStatLockloss n)) d
  let d := d.endFrame i (some d.recTime) true
  let u := d.calUnit i
  let d : Dev := match tget d.sns.cals u with
    | some c => if c.phase = CalPhase.measuring then
        ({ d with sns := { d.sns with cals := terase d.sns.cals u } }).fail c.seq stLockLost else d
    | none => d
  if (d.ing i).st = 2 then d.beginAlign i else d

/-- SENSOR_CLOCK_WINDOW: a forwarded clock's window ends with a deviation in ppm, or none when it was absent (R200). -/
def sensorClockWindow (i k : Nat) (ppm : Option Int) (d : Dev) : Dev :=
  let good := match ppm with | some v => decide (-20000 ≤ v ∧ v ≤ 20000) | none => false
  if good || (d.ing i).st = 0 || (d.clockLanes i k).isEmpty then d
  else
    let d := d.sumpInput (snsPlace i) 1 i (match ppm with | some v => trunc 64 v | none => allOnes64)
    if (d.ing i).st = 2 then d.lockLoss i (d.clockLanes i k) else d

/-- BLANKING_CHECK: the training word is checked on every lane; `bad` are the lanes that fail (R207). -/
def blankingCheck (i : Nat) (bad : List Nat) (d : Dev) : Dev :=
  if (d.ing i).st ≠ 2 then d
  else
    let ls := d.lanesOfCtx i
    let counts := ls.map (fun n => (n, if bad.contains n then tgetD (d.ing i).bad n 0 + 1 else 0))
    let d := d.ingMod i (fun g => { g with bad := counts.filter (fun e => e.2 != 0) })
    let u := d.calUnit i
    -- the check of event 4 of Table SI-6
    let d := if 44 ≤ (d.ing i).window.getD 0 && bad.any (fun n => ls.contains n) then
        { d with sns := { d.sns with cals := tadj d.sns.cals u (fun c => { c with failed := true }) } } else d
    let lost := (counts.filter (fun e => 8 ≤ e.2)).map (·.1)
    if lost.isEmpty then d else
      (lost.foldl (fun d n => d.sumpInput (snsPlace i) 3 n 8) d).lockLoss i lost

/-! ## Frame starts (R208 to R212, R216, R220, R233 to R235) -/

/-- The expected frame start of genlock (R234). -/
def Dev.expectedStart (d : Dev) (i stamp : Nat) : Option Nat :=
  if !d.flag (fSnsGlEn i) then none
  else (d.ing i).lastTrig.map (fun t =>
    (if stamp ≤ t + d.fget (fSnsTimePeriod i) then t else t + d.fget (fSnsTimePeriod i)) + d.fget (fSnsGlLatLat i))

/-- A new record with the next number; the previous one becomes final. With the open one 1,024 are kept (R217, R569). -/
def Dev.newRecord (d : Dev) (i : Nat) (r : FrameRec) : Dev :=
  let d := d.closeRecord i
  d.ingMod i (fun g => { g with
    cur := some { r with frame := g.count, ctx := i, tacc := d.nowNs }, count := g.count + 1, recs := g.recs.drop (g.recs.length - 1023) })

/-- The raw frame buffer of a frame: the next in rotation, unless it is still leased or absent (R160, R220). -/
def Dev.takeRaw (d : Dev) (i frame : Nat) : Dev :=
  let g := d.ing i
  match g.raws[g.rawNext]? with
  | none => d.curMod i (fun r => r.mark mRawlost)
  | some h =>
    if d.leased h || d.absent h then d.curMod i (fun r => r.mark mRawlost)
    else (d.lease kIngest i frame h).ingMod i (fun g => { g with
      rawBuf := tput g.rawBuf frame h, rawNext := (g.rawNext + 1) % g.raws.length })

/-- GLERR as recorded, saturating in 32 bits. -/
def clipGl (v : Int) : Int := max (-2147483648) (min 2147483647 v)

/-- SENSOR_FRAME_START: FV rises or a frame-start code arrives; an edge that the filter does not confirm is dropped (R208). -/
def Dev.sensorFrameStart (d : Dev) (i : Nat) (e : SyncEdge) : Dev :=
  if !d.edgeCounts i e then d else
  let stamp := d.edgeTime i e
  let g := d.ing i
  let d := d.ingMod i (fun g => { g with fv := true })
  if g.st ≠ 2 || !g.stops.isEmpty then d
  else if (match g.lastStart with | some t => decide (2 * (stamp - t) < d.fget (fSnsTimePeriod i)) | none => false) then
    (d.ingMod i (fun g => { g with rejected := true })).sumpInput (snsPlace i) 2 i (stamp - g.lastStart.getD 0)
  else
    let d := d.endFrame i (some (d.endTime i e)) false
    let d := d.applyPort i
    let d := d.trackLanes i
    let emb := d.embedded i
    let exp := d.expectedStart i stamp
    let err := exp.map (fun e => (stamp : Int) - e)
    let gl := !emb && (match err with | some e => decide ((d.fget (fSnsGlWin i) : Int) < e.natAbs) | none => false)
    let trig := if d.flag (fSnsGlEn i) then (d.ing i).lastTrig else none
    let cal := (d.ing i).calMark
    let rec' : FrameRec := {
      frame := 0, ctx := i, nexp := d.ctxNexp i, marks := (if gl then mGenlock else 0) ||| (if cal then mCal else 0),
      tstart := if emb then exp else some stamp,
      texp := g.nextExp.orElse (fun _ => trig), expx := g.nextExpx,
      glerr := if emb then none else err.map clipGl }
    let d := d.newRecord i rec'
    let n := (d.ing i).count - 1
    let d := d.ingMod i (fun g => { g with
      inFrame := true, frameNo := n, rowsIn := 0, lines := 0, part := [], rejected := false, lastStart := some stamp, stales := 0, nextExp := none, nextExpx := 0, expSeen := g.nextExp.isSome, calMark := false,
      dropping := false, width := d.fget (fSnsFmtWidth i), height := d.fget (fSnsFrameLines i), depth := d.ctxDepth i,
      nexp := d.ctxNexp i, chk := d.flag (fSnsFmtChk i), nlane := (d.lanesOfCtx i).length, winLost := 0 })
    let d := d.takeRaw i n
    (d.graphFrameStart i n).pilotFrameStart i n

/-- The reference of the frame timeout (R212): the last accepted start, or with genlock the expected start of R234 that it
has not answered yet, a start less than PERIOD ÷ 2 before which answers it. -/
def Dev.timeoutRef (d : Dev) (i : Nat) : Option Nat :=
  let g := d.ing i
  let per := d.fget (fSnsTimePeriod i)
  if d.flag (fSnsGlEn i) then g.lastTrig.map (fun t =>
    let e := t + d.fget (fSnsGlLatLat i)
    match g.lastStart with
    | some s => if 2 * e < 2 * s + per then e + per else e
    | none => e)
  else g.lastStart

/-- The part of the frame timeout that lies after the expected start. -/
def Dev.lateBy (d : Dev) (i : Nat) : Nat := (d.ctxTout i - 16) * d.fget (fSnsTimePeriod i) / 16

/-- When the next STALE period is due (R212): the first at the frame timeout, a further one every PERIOD. -/
def Dev.staleDue (d : Dev) (i : Nat) : Option Nat :=
  let g := d.ing i
  let per := d.fget (fSnsTimePeriod i)
  if g.stales ≠ 0 then some (g.staleAt + per)
  else (d.timeoutRef i).map (fun r => if d.flag (fSnsGlEn i) then r + d.lateBy i else r + d.ctxTout i * per / 16)

/-- The genlock trigger that an expected start answers, for TEXP: within PERIOD ÷ 2 of it. -/
def Dev.trigOf (d : Dev) (i exp : Nat) : Option Nat :=
  if !d.flag (fSnsGlEn i) then none
  else (d.ing i).lastTrig.filter (fun t =>
    decide (2 * ((t + d.fget (fSnsGlLatLat i) : Nat) - (exp : Int)).natAbs < d.fget (fSnsTimePeriod i)))

/-- FRAME_TIMEOUT: a STALE period opens, and a further one every PERIOD (R212); outputs repeat the last published frame,
marked STALE (R214). -/
def frameTimeout (i : Nat) (d : Dev) : Dev :=
  let g := d.ing i
  match d.staleDue i with
  | none => d
  | some due =>
    -- after a realignment that failed, missed starts go on as STALE periods (R207); a START that failed has had none
    if g.st = 0 || (g.st = 3 && g.lastStart.isNone) || !g.stops.isEmpty || d.nowNs < due then d
    else
      let exp := due - d.lateBy i
      -- without sync pairs and without genlock nothing gives an expected start (R235)
      let known := !d.embedded i || d.flag (fSnsGlEn i)
      let d := d.newRecord i { frame := 0, ctx := i, nexp := d.ctxNexp i, marks := mStale,
                               tstart := if known then some exp else none, texp := d.trigOf i exp }
      let d := d.ingMod i (fun g => { g with stales := g.stales + 1, staleAt := due })
      let d := d.sumpInput (snsPlace i) 2 i (d.nowNs - exp)
      (d.fedBy i).foldl (fun d e => e.2.1.sinkHandles.foldl (fun d h =>
        d.memMod (fun m => { m with published := tadj m.published h (fun p => { p with marks := p.marks ||| mStale }) })) d) d

/-- SENSOR_EXP_EDGE: the exposure start of the frame in progress, or of the next frame when FV is low; later edges of a
frame are ignored and counted (R203, R209). -/
def sensorExpEdge (i : Nat) (e : SyncEdge) (d : Dev) : Dev :=
  let g := d.ing i
  let stamp := d.edgeTime i e
  if g.st ≠ 2 || d.embedded i || !d.edgeCounts i e then d
  else if g.fv && g.inFrame then
    if g.expSeen then (d.liveMod i (fun r => { r with expx := min 65535 (r.expx + 1) })).sumpInput (snsPlace i) 2 i stamp
    else (d.liveMod i (fun r => { r with texp := some stamp })).ingMod i (fun g => { g with expSeen := true })
  else if g.nextExp.isSome then
    (d.ingMod i (fun g => { g with nextExpx := min 65535 (g.nextExpx + 1) })).sumpInput (snsPlace i) 2 i stamp
  else d.ingMod i (fun g => { g with nextExp := some stamp })

/-- SENSOR_FRAME_END: FV falls, or a frame-end code arrives (R211). -/
def sensorFrameEnd (i : Nat) (e : SyncEdge) (d : Dev) : Dev :=
  if !d.edgeCounts i e then d else
  let d := d.ingMod i (fun g => { g with fv := false })
  if (d.ing i).st ≠ 2 then d else d.endFrame i (some (d.endTime i e)) false

/-- LINE_TIMEOUT: no line start for 4 line times while rows are outstanding (R211). -/
def lineTimeout (i : Nat) (d : Dev) : Dev :=
  if (d.ing i).st ≠ 2 || !(d.ing i).inFrame then d
  else (d.sumpInput (snsPlace i) 2 i (d.ing i).lines).endFrame i (some d.recTime) false

/-! ## Lines (R201 to R205, R209, R219) -/

/-- Bits of a sample, most significant first. -/
def sampleBits (depth v : Nat) : List Bool := (List.range depth).reverse.map (bit v)

/-- A lane's check word agrees with its payload (R202). -/
def laneGood (depth : Nat) (l : List Nat × Nat) : Bool := (crc16 (l.1.flatMap (sampleBits depth))).toNat == l.2 % 65536

/-- Pixels of a line: pixel p on lane p mod NLANE (R201). A sample that did not arrive is a free value. -/
def Dev.linePixels (d : Dev) (g : Ingest) (lanes : List (List Nat × Nat)) : List Nat :=
  (List.range g.width).map (fun p =>
    match (lanes[p % g.nlane]?).bind (fun l => l.1[p / g.nlane]?) with
    | some v => v % 2 ^ g.depth
    | none => (Config.freeValue (d.free + p)).toNat % 2 ^ g.depth)

/-- A row has arrived: it takes its place in the buffer, or it and the rest of the frame are dropped (R219). -/
def Dev.rowArrives (d : Dev) (i : Nat) (row : Nat) (lines : List (List Nat)) (tend : Nat) : Dev :=
  let g := d.ing i
  if d.bufRows i g.nexp g.width (d.fget (fSnsFrameBuf i)) ≤ g.rows.length then
    let d := (d.liveMod i (fun r => r.mark mOverflow)).finc (fSnsOccOvf i)
    (d.ingMod i (fun g => { g with dropping := true })).endFrame i (some tend) false
  else
    let before := g.rows.length
    let d := d.ingMod i (fun g => { g with
      rows := g.rows ++ [{ frame := g.frameNo, row := row, lines := lines, depth := g.depth, written := false }], rowsIn := g.rowsIn + 1 })
    let d := (d.liveMod i (fun r => { r with rows := r.rows + 1, row0 := some (r.row0.getD row) })).showOcc i
    let d := if row < 64 then (d.fedBy i).foldl (fun d e => d.graphMod e.1 (fun x => x.frameMod e.2.2 g.frameNo (fun f =>
      { f with obRows := tput f.obRows row lines }))) d else d
    (d.pilotRowIn i g.frameNo row).checkLevels i before

/-- A time lies in the calibration window of a context: 48 line times from its opening (R228). -/
def Dev.inWindow (d : Dev) (i t : Nat) : Bool :=
  (d.ing i).winAt.any (fun w => decide (10 * t < 10 * w + 48 * d.fget (fSnsLineLine i)))

/-- A line of the frame in progress. -/
def Dev.frameLine (d : Dev) (i : Nat) (l : SnsLine) : Dev :=
  let g := d.ing i
  let bitsWant := g.width / g.nlane * g.depth + (if g.chk then 16 else 0)
  let wrong := if g.chk then ((l.lanes.take g.nlane).zipIdx.filter (fun e => !laneGood g.depth e.1)).map (·.2) else []
  let first := (d.lanesOfCtx i).headD 0
  let expBad := d.embedded i && l.exposure != g.lines % g.nexp
  let failed := !wrong.isEmpty || l.bitTimes != bitsWant || l.gap < 32 || l.disagree || expBad
  let d := wrong.foldl (fun d n => (d.finc (fSnsLaneStatCrcerr (first + n))).sumpInput (snsPlace i) 3 (first + n) g.lines) d
  let d := if failed && wrong.isEmpty then d.sumpInput (snsPlace i) 2 i l.bitTimes else d
  let d := if failed then d.liveMod i (fun r => { (r.mark mCheck) with chk := min 65535 (r.chk + 1) }) else d
  let px := d.linePixels g l.lanes
  let d := { d with free := d.free + g.width }
  let n := g.lines
  let row := n / g.nexp
  let d := d.ingMod i (fun g => { g with lines := n + 1 })
  let d :=
    if d.inWindow i (d.edgeTime i l.rise) || row < g.winLost then
      -- lines that start inside a calibration window are discarded, and their row is lost (R228)
      d.ingMod i (fun g => { g with part := [], winLost := row + 1 })
    else if (n + 1) % g.nexp = 0 then (d.ingMod i (fun g => { g with part := [] })).rowArrives i row (g.part ++ [px]) (d.endTime i l.fall)
    else d.ingMod i (fun g => { g with part := g.part ++ [px] })
  if (d.ing i).inFrame && (d.ing i).lines = g.height * g.nexp then d.endFrame i (some (d.endTime i l.fall)) false else d

/-- SENSOR_LINE: a line arrives whole, where the filter confirms LV. Outside a frame it is a LONG line while FV is high, else a
stray one (R211); the rest of a frame that overflowed is dropped (R219). -/
def sensorLine (i : Nat) (l : SnsLine) (d : Dev) : Dev :=
  let g := d.ing i
  if g.st ≠ 2 || !d.edgeCounts i l.rise then d
  else if g.rejected then d.curMod i (fun r => { r with stray := min 65535 (r.stray + 1) })
  else if g.inFrame then d.frameLine i l
  else if g.fv && g.dropping && g.lines < g.height * g.nexp then d.ingMod i (fun g => { g with lines := g.lines + 1 })
  else if g.fv && g.cur.isSome then d.liveMod i (fun r => { (r.mark mLong) with extra := min 65535 (r.extra + 1) })
  else (d.curMod i (fun r => { r with stray := min 65535 (r.stray + 1) })).sumpInput (snsPlace i) 2 i l.bitTimes

/-! ## Raw write-out (R220) -/

/-- A line packed as a bit string, padded to whole 64-byte blocks. -/
def packLine (depth : Nat) (px : List Nat) : List Byte :=
  let v := px.reverse.foldl (fun acc s => acc * 2 ^ depth + s % 2 ^ depth) 0
  le (roundUp ((px.length * depth + 7) / 8) 64) v

/-- Bytes of a packed line. -/
def packPitch (depth width : Nat) : Nat := roundUp ((width * depth + 7) / 8) 64

/-- RAW_ROW_VISIBLE: the write-out of a context takes the oldest row that it has not taken. -/
def rawRowVisible (i : Nat) (d : Dev) : Dev :=
  let g := d.ing i
  match g.rows.find? (fun r => !r.written) with
  | none => d
  | some row =>
    let taken := fun (d : Dev) => ((d.ingMod i (fun g => { g with rows := g.rows.map (fun r =>
      if r.frame = row.frame ∧ r.row = row.row then { r with written := true } else r) })).freeRows i).retireRaw i
    match (tget g.rawBuf row.frame).bind d.buf with
    | none => taken d
    | some m =>
      let bytes := (row.lines.map (packLine row.depth)).flatten
      let at' := m.va + row.row * bytes.length
      match d.rangeFault true m.asid at' bytes.length true with
      | some (va, sub) =>
        let d := (d.xlatFault (.ingest i) true true m.asid va sub 0).recMod i row.frame (fun r => r.mark mRawlost)
        taken ((d.retireLeases kIngest i row.frame).ingMod i (fun g => { g with rawBuf := terase g.rawBuf row.frame }))
      | none => taken (d.vwrite (.ingest i) m.asid at' bytes)

/-! ## STOP SENSOR PORT (R224, R232) -/

/-- STOP_NOW: the frame ends SHORT at its last complete row; the completion lists its number and the rows discarded. -/
def Dev.portStopNow (d : Dev) (i : Nat) (earlier : List Nat) (note : Nat) (now : Option Nat) : Dev :=
  let g := d.ing i
  let lst := if g.inFrame then listEntry [g.frameNo, g.height - g.rowsIn] else []
  let d := d.ingMod i (fun g => { g with stops := [] })
  -- a calibration keeps the old values, which return where its window is open (R232)
  let u := d.calUnit i
  let d : Dev := match tget d.sns.cals u with
    | some c =>
      let d := if c.phase = CalPhase.window then c.old.foldl (fun d e => (d.setTap e.1 (e.2.1 : Nat)).setThr e.1 e.2.2) d else d
      ({ d with sns := { d.sns with cals := terase d.sns.cals u } }).fail c.seq stStopped
    | none => d
  let d := d.ingMod i (fun g => { g with window := none, winAt := none })
  let d := d.endFrame i (some d.recTime) false
  let d := match g.startSeq with | some q => d.fail q stStopped | none => d
  let d := d.endPort i earlier note (if note = noteBoundaryTimeout then lst else [])
  match now with
  | some q => d.finish q { dw0 := if g.count = 0 then allOnes32 else g.count - 1, dg0 := if g.count = 0 then allOnes64 else g.count - 1,
                           dg1 := i, list := lst }
  | none => d

def stopSensorPort (seq : Nat) (d : Dev) : Dev :=
  d.runStop seq kIngest (fun d c =>
    let i := c.w11
    let g := d.ing i
    if 4 < i || g.st = 0 then d.fail seq stBadHandle
    else
      let d := d.startCmd seq
      let u := d.calUnit i
      let cal := tget d.sns.cals u
      if c.stopNow || g.st ≠ 2 then d.portStopNow i g.stops noteSuperseded (some seq)
      else
        -- a measurement is abandoned; a stop that meets a pending window completes after it (R232)
        let d := match cal with
          | some k => if k.phase = CalPhase.measuring then
              ({ d with sns := { d.sns with cals := terase d.sns.cals u } }).fail k.seq stStopped else d
          | none => d
        if g.inFrame || (tget d.sns.cals u).isSome then d.ingMod i (fun g => { g with stops := g.stops ++ [seq] })
        else d.endPort i (g.stops ++ [seq]) 0 [])

/-- The frame has not ended within 2 × PERIOD of STOP_AT_BOUNDARY (R224). -/
def Dev.portTimeout (d : Dev) (i : Nat) : Dev :=
  if (d.ing i).stops.isEmpty then d else d.portStopNow i (d.ing i).stops noteBoundaryTimeout none

end Sys2Proof.Machine
end

