-- ==== Sys2Proof/Machine/Calib.lean ====
section
/-!
DEFINITION. Calibration of sensor port receivers (R225 to R232).
-/
set_option autoImplicit false

namespace Sys2Proof.Machine

/-- The calibration units of the present mode (before R225). -/
def Dev.unitExists (d : Dev) (u : Nat) : Bool :=
  match u with
  | 0 => true
  | 1 => !d.wideMode && !d.splitMode
  | u => u ≤ 5 && !d.wideMode && d.splitMode

/-- The ingest context of a unit. -/
def unitCtx (u : Nat) : Nat := if u = 0 then 0 else if u = 1 then 1 else u - 1

def Dev.calMod (d : Dev) (u : Nat) (f : Cal → Cal) : Dev := { d with sns := { d.sns with cals := tadj d.sns.cals u f } }
def Dev.calEnd (d : Dev) (u : Nat) : Dev := { d with sns := { d.sns with cals := terase d.sns.cals u } }

/-- The maximum-sensor reading in 0.25 °C. -/
def Dev.maxReading (d : Dev) : Int := match d.maxTemp with | some (r, _) => r | none => 0

def calibrateSensorPort (seq : Nat) (d : Dev) : Dev :=
  d.run seq false 0xA8 (fun d c =>
    let u := c.w10 % 8
    if !d.unitExists u then d.fail seq stBadParam
    else if (tget d.sns.cals u).isSome then d.fail seq stBusy
    else if (d.ing (unitCtx u)).st ≠ 2 then d.fail seq stNoSignal
    else
      let cal : Cal := { seq := seq, phase := .measuring, temp := d.maxReading }
      let d := d.startCmd seq
      { d with sns := { d.sns with cals := tput d.sns.cals u cal } })

/-- The longest run of error-free taps: its length and first tap, the lowest of equal runs. -/
def longestRun (m : Nat) : Nat × Nat :=
  ((List.range 64).foldl (fun (a : (Nat × Nat) × Nat) t =>
    let cur := if bit m t then a.2 + 1 else 0
    (if a.1.1 < cur then (cur, t + 1 - cur) else a.1, cur)) ((0, 0), 0)).1

/-- Thresholds of a measurement: the prior value and that ±2 and ±4 steps, clipped to the range (R225). -/
def eyeThresholds (prior : Int) : List Int := ([-4, -2, 0, 2, 4] : List Int).map (fun o => max (-16) (min 15 (prior + o)))

/-- A lane's eye: its width in taps, the new tap and the new threshold. -/
structure EyeFit where
  taps : Nat
  tap : Nat
  thr : Int
  deriving DecidableEq, Repr

/-- The threshold with the longest run, then the one nearer 0, then the lower; the tap is the middle of the run, rounded
down (R226). -/
def fitEye (prior : Int) (e : LaneEye) : EyeFit :=
  (((eyeThresholds prior).zip e.free).map (fun p => (p.1, longestRun p.2.toNat))).foldl (fun (b : EyeFit) p =>
    let (t, n, first) := p
    let new : EyeFit := { taps := n, tap := first + (n - 1) / 2, thr := t }
    if b.taps < n || (b.taps == n && n != 0 && (t.natAbs < b.thr.natAbs || (t.natAbs == b.thr.natAbs && t < b.thr))) then new
    else b) { taps := 0, tap := 0, thr := prior }

/-- The limit that a lane's measured eye fails: 1 its width, below 0.35 UI, 2 its step, above 12 taps; 0 none (R227). -/
def Dev.eyeFails (d : Dev) (u n : Nat) (temp : Int) (e : EyeFit) : Nat :=
  let prior := (d.laneTarget u n temp).1
  if e.taps * d.fget fSnsTapPsTapps * d.fget (fSnsCtlRate (snsPort (unitCtx u))) < 3500000 then 1
  else if 12 < ((e.tap : Int) - prior).natAbs then 2 else 0

/-- CAL_MEASUREMENT_DONE: the measurement ends with the error-free taps of each lane of the unit (R226, R227). -/
def calMeasurementDone (u : Nat) (eyes : List LaneEye) (d : Dev) : Dev :=
  match tget d.sns.cals u with
  | none => d
  | some cal =>
    if cal.phase ≠ CalPhase.measuring then d
    else if 12 < (d.maxReading - cal.temp).natAbs then (d.calEnd u).fail cal.seq stTempMoved
    else
      let t := cal.temp / 4
      let ls := ((d.lanesOfCtx (unitCtx u)).zip eyes).map (fun e => (e.1, fitEye (d.laneTarget u e.1 t).2 e.2))
      let res := ls.map (fun e => (e.1, e.2, d.eyeFails u e.1 t e.2))
      let lst := (res.map (fun r => listEntry [r.2.1.taps * d.fget fSnsTapPsTapps, r.2.1.tap, trunc 64 r.2.1.thr, r.2.2])).flatten
      if res.any (fun r => r.2.2 == 1) then (d.calEnd u).finish cal.seq { sct := 7, sc := stRejectedEye, list := lst }
      else if res.any (fun r => r.2.2 == 2) then (d.calEnd u).finish cal.seq { sct := 7, sc := stRejectedStep, list := lst }
      else d.calMod u (fun c => { c with
        phase := .pending,
        new := ls.map (fun e => (e.1, e.2.tap % 64, e.2.thr)),
        old := ls.map (fun e => (e.1, d.fget (fSnsLaneCfgTap e.1), sext 5 (d.fget (fSnsLaneCfgThr e.1)))) })

/-- CAL_TAP_STEP: every 4 line times of the window, up to 44, each lane's tap moves one step (Table SI-6). -/
def calTapStep (u : Nat) (d : Dev) : Dev :=
  match tget d.sns.cals u with
  | none => d
  | some cal =>
    if cal.phase ≠ CalPhase.window || (d.ing (unitCtx u)).window.any (44 ≤ ·) then d
    else (d.stepTaps cal).ingMod (unitCtx u) (fun g => { g with window := g.window.map (· + 4) })

/-- The place of a new set: one within 5 °C, else a free one, else the nearest in temperature (R229). -/
def Dev.setPlace (d : Dev) (u : Nat) (t : Int) : Nat :=
  let at' := fun s => (tget d.sns.sets (8 * u + s)).map CalSet.degrees
  let dist := fun s => match at' s with | some x => (x - t).natAbs | none => 1000
  let near := (List.range 8).foldl (fun b s => if dist s < dist b then s else b) 0
  if dist near ≤ 5 then near
  else match (List.range 8).find? (fun s => (at' s).isNone) with
    | some s => s
    | none => near

/-- Show a set in SNS_CALSET. -/
def Dev.showSet (d : Dev) (k : Nat) (c : CalSet) : Dev :=
  d.fsets [(fSnsCalsetValid k, 1), (fSnsCalsetSaved k, c.saved.toNat), (fSnsCalsetTemp k, c.temp)]

/-- CAL_WINDOW_CLOSE: after 48 line times the set is stored, and saved where the non-volatile write gate allows it; or the
old values return when a training check failed (R228, R229, R231). -/
def calWindowClose (u : Nat) (d : Dev) : Dev :=
  match tget d.sns.cals u with
  | none => d
  | some cal =>
    let i := unitCtx u
    if cal.phase ≠ CalPhase.window || d.inWindow i d.nowNs then d
    else
      let g := d.ing i
      let frame := match g.cur with
        | some r => if g.calMark then g.count else r.frame
        | none => g.count
      let d := (d.ingMod i (fun g => { g with window := none })).calEnd u
      let d :=
        if cal.failed then
          (cal.old.foldl (fun d e => (d.setTap e.1 (e.2.1 : Nat)).setThr e.1 e.2.2) d).fail cal.seq stRejectedLock
        else
          let t := cal.temp / 4
          let saved := d.gateOpen
          let k := 8 * u + d.setPlace u t
          let set : CalSet := { temp := trunc 8 t, saved := saved, lanes := cal.new.map (fun e => (e.1, e.2.1, trunc 5 e.2.2)) }
          let d := ({ d with sns := { d.sns with sets := tput d.sns.sets k set } }).showSet k set
          let d := d.rrModGated (fun r => { r with calSets := tput r.calSets k set })
          let d := if saved then d.commitRecord else d
          (d.markChanged kIngest i cal.seq).finish cal.seq { dw0 := frame % 4294967296, dg0 := frame, dg1 := u, notes := if saved then 0 else noteNotSaved }
      -- a STOP_AT_BOUNDARY that met the window completes after it (R232)
      if (d.ing i).stops.isEmpty || (d.ing i).inFrame then d else d.endPort i (d.ing i).stops 0 []

end Sys2Proof.Machine
end

