-- ==== Sys2Proof/Machine/Pilot.lean ====
section
/-!
DEFINITION. The pilot path's commands and the ends of its work: START and STOP PILOT, a service frame, a covered strip
and an uncorrected error (R261 to R268).
-/
set_option autoImplicit false

namespace Sys2Proof.Machine

/-- W × H ÷ PERIOD of a context within the pilot path's rate (R261); PERIOD is in nanoseconds. -/
def Dev.pilotRate (d : Dev) (i : Nat) (bin2 : Bool) : Bool :=
  d.fget (fSnsFmtWidth i) * d.fget (fSnsFrameLines i) * 1000000000
    ≤ (if bin2 then 32000000000 else 8000000000) * d.fget (fSnsTimePeriod i)

/-- A running graph writes a frame buffer. -/
def Dev.sinkRunning (d : Dev) (h : Nat) : Bool := d.runningGraphs.any (fun g => g.2.sinkHandles.contains h)

/-- Start service of a context into a buffer. -/
def Dev.pilotServe (d : Dev) (i sink : Nat) (bin2 : Bool) : Dev :=
  (d.pilotMod (fun p => { p with service := some { ctx := i, sink := sink, first := (d.ing i).count } })).fsets
    [(fPipePltCtlState, 1), (fPipePltCtlCtx, i), (fPipePltCtlBin2, bin2.toNat)]

def startPilot (seq : Nat) (d : Dev) : Dev :=
  d.runStart seq 0xAC (fun d c =>
    let i := c.w10 % 8
    match (tgetD d.sns.pilot.blocks i []).head? with
    | none => d.fail seq stBadParam
    | some (_, b) =>
      if 4 < i then d.fail seq stBadParam
      else if (d.buf c.w11).isNone then d.fail seq stBadHandle
      else if d.ownedBusy 8 then d.fail seq stBusy
      else if d.fget fPipePltCtlState != 0 then d.fail seq stPilotBusy
      else if !d.pilotRate i (plBin2 b) then d.fail seq stOverRate
      else if d.sinkRunning c.w11 then d.fail seq stSinkBusy
      else
        let first := (d.ing i).count
        (((d.startCmd seq).pilotServe i c.w11 (plBin2 b)).markCreated kPilot 0 seq).okEffect seq c first i)

def stopPilot (seq : Nat) (d : Dev) : Dev :=
  d.runStop seq kPilot (fun d c =>
    match d.sns.pilot.service with
    | none => d.fail seq stBadHandle
    | some s =>
      let d := d.startCmd seq
      if c.stopNow then
        let lst := (s.frames.map (fun f => listEntry [f.frame])).flatten
        let d := (d.pilotMod (fun p => { p with service := none })).showPilot
        let d := ((d.dropLeases kPilot 0).freeRows s.ctx).freeStartUp kPilot 0
        let last := s.lastPub
        let d := s.stops.foldl (fun d q => d.finish q { dw0 := last.getD allOnes32, dg0 := last.getD allOnes64, notes := noteSuperseded }) d
        d.finish seq { dw0 := last.getD allOnes32, dg0 := last.getD allOnes64, list := lst }
      else (d.pilotMod (fun p => { p with service := some { s with stops := s.stops ++ [seq] } })).pilotSettle)

/-- The limit of STOP_AT_BOUNDARY has passed: the frame in progress is discarded (R141, R268). -/
def Dev.pilotTimeout (d : Dev) : Dev :=
  match d.sns.pilot.service with
  | none => d
  | some s =>
    if s.stops.isEmpty then d
    else
      let d := (d.pilotMod (fun p => { p with service := none })).showPilot
      let d := ((d.dropLeases kPilot 0).freeRows s.ctx).freeStartUp kPilot 0
      s.stops.foldl (fun d q => d.finish q {
        dw0 := s.lastPub.getD allOnes32, dg0 := s.lastPub.getD allOnes64, notes := noteBoundaryTimeout }) d

/-- PILOT_FRAME_DONE: the oldest frame in service has ended; it is published with the mark PILOT, unless it failed
(R263, R267, R268). -/
def pilotFrameDone (d : Dev) : Dev :=
  match d.sns.pilot.service with
  | none => d
  | some s => match s.frames with
    | [] => d
    | f :: rest =>
      if f.hi.isNone then d
      else
        let d := d.pilotMod (fun p => { p with service := some { s with frames := rest } })
        let d :=
          if f.failed then d
          else
            let d := d.openMod s.ctx f.frame (fun r => { r with marks := r.marks ||| mPilot, pilot := 65535 })
            let (marks, t) := match d.frameRec s.ctx f.frame with
              | some r => (r.marks ||| mPilot, r.tstart.getD allOnes64) | none => (mPilot, allOnes64)
            let tf := match d.pilotBlock s.ctx f.frame with | some b => field b 0x40 1 | none => 0
            let d := (d.finc fPipePltStatFrames).pilotMod (fun p => { p with
              service := some { s with frames := rest, lastPub := some f.frame, announced := true } })
            d.publishFrame s.sink {
              frame := f.frame, marks := marks, producer := kPilot, tf := tf, width := f.width, height := f.height, time := t,
              tmeta := d.metaTime s.ctx f.frame,
              image := match d.buf s.sink with
                | some m => d.vread m.asid m.va (min m.len (rgbPitch f.width * f.height)) | none => [] }
              (!s.announced)
        ((d.retireLeases kPilot 0 f.frame).freeRows s.ctx).pilotSettle

/-- Rows that a covered strip needs are present: all of them, or those that its ended frame has. -/
def Dev.coverRows (d : Dev) (i : Nat) (g : Graph) (f : GFrame) (n : Nat) : Bool :=
  let (l0, ls, _, _) := g.strip f.width f.height n
  let (lo, hi) := f.rows.getD (0, f.height)
  (List.range (ls + 4)).all (fun k =>
    let y := l0 + k - 2
    y < lo || hi ≤ y || (d.rowOf i f.frame y).isSome)

/-- PILOT_COVER_STRIP_DONE: the covered strip is written into the graph's single SINK by the arithmetic of R259, never
binned (R260), and further strips are shed or covered while the occupancy stays at SHED (R132). -/
def pilotCoverStripDone (d : Dev) : Dev :=
  match d.sns.pilot.cover with
  | none => d
  | some (h, s) => match d.graph h with
    | none => d
    | some g => match g.frame s.ctx s.frame, g.ingestOf s.ctx, g.chans.find? (fun c => c.kind == 2) with
      | some f, some i, some ch =>
        let (l0, ls, p0, pw) := g.strip f.width f.height s.strip
        let (lo, hi) := f.rows.getD (0, f.height)
        if d.fget fPipePltCtlState == 3 || !d.coverRows i g f s.strip then d
        else
          let d :=
            match d.pilotBlock i s.frame, d.buf ch.target with
            | some b, some m =>
              if l0 < lo || hi < l0 + ls || !d.sinkLeased h f.frame m then d.coverLost
              else
                let mos := d.frameMosaic i s.frame lo
                let lines := (List.range ls).map (fun k => rgbLine pw (fun x c =>
                  pilotPx b false f.nexp f.depth f.width hi mos (p0 + x) (l0 + k) c))
                match d.drainRuns .pilot m (stripRuns 3 pw (stripArea f.width f.height 3 ch.plane l0 ls p0 pw) lines) with
                | (d, some (va, sub)) => (d.xlatFault .pilot true true m.asid va sub 0).coverLost
                | (d, none) => ((d.finc fPipePltStatStrips).pilotMod (fun p => { p with cover := none })).showPilot
            | _, _ => d.coverLost
          (d.freeRows i).shedLoop i h s.ctx 4096
      | _, _, _ => d

/-- PILOT_ERROR: an uncorrected error of the pilot path, with the check that found it and the state of the unit, starts
its test (R268, R506). -/
def pilotError (check : Nat) (state : List Byte) (d : Dev) : Dev := (d.unitError .pilot 3 check 2 (padTo 16 state)).pilotDrop

end Sys2Proof.Machine
end

