-- ==== Sys2Proof/Machine/TimeUnit.lean ====
section
/-!
DEFINITION. Triggers and their compares (R452 to R456), and the time unit (R440 to R451): the counter, steps, PTP and
the servo.
-/
set_option autoImplicit false

namespace Sys2Proof.Machine

/-! ## Trigger units: periods, targets and the LATE rule -/

def Dev.trig (d : Dev) (t : Nat) : Trig := tgetD d.trg t {}
def Dev.setTrig (d : Dev) (t : Nat) (f : Trig → Trig) : Dev := { d with trg := tmod d.trg t {} f }

/-- PER_D with 0 treated as 1, and PER_R with a value not below PER_D treated as 0 (R461). -/
def Dev.perD (d : Dev) (t : Nat) : Nat := max 1 (d.fget (fTrgPerRdPerD t))
def Dev.perR (d : Dev) (t : Nat) : Nat :=
  if d.fget (fTrgPerRdPerR t) < d.perD t then d.fget (fTrgPerRdPerR t) else 0
/-- PER_N clipped to 1,000 to 2,000,000,000 (R461). -/
def Dev.perN (d : Dev) (t : Nat) : Nat := max 1000 (min 2000000000 (d.fget (fTrgPerNPerN t)))

/-- The period in units of 1 ÷ PER_D ns (R454). -/
def Dev.period (d : Dev) (t : Nat) : Nat := d.perN t * d.perD t + d.perR t

/-- The period in units of 1 ÷ den ns, for a den that PER_D divides. -/
def Dev.periodIn (d : Dev) (t den : Nat) : Nat := d.perN t * den + d.perR t * den / d.perD t

/-- TRG_WIDTH clipped to 8 ns to half the period (R456, R461). -/
def Dev.trgWidth (d : Dev) (t : Nat) : Nat :=
  max 8 (min (d.period t / (2 * d.perD t)) (d.fget (fTrgWidthWidth t)))

/-- The present time in units of 1 ÷ den ns, rounded up. -/
def Dev.nowUp (d : Dev) (den : Nat) : Nat := (d.time.count.toNat * den + 4294967295) / 4294967296

/-- Whether the count has reached a target of `tq ÷ den` ns (R452). -/
def Dev.reached (d : Dev) (tq den : Nat) : Bool := decide (tq * 4294967296 ≤ d.time.count.toNat * den)

/-- The smallest k × P + phase, for any integer k, at or after a time, in units of 1 ÷ den ns (R454). -/
def gridAt (p phase lim : Nat) : Nat :=
  if phase ≤ lim then phase + (lim - phase + (p - 1)) / p * p else phase - (phase - lim) / p * p

/-- The 64-bit target of a 32-bit view S at count N: N + d with d = (S − N[31:0]) mod 2³² read as signed (R452). -/
def viewTarget (s n : Nat) : Int := (n : Int) + sext 32 (s + 4294967296 - n % 4294967296)

/-- d of R452 is not positive: the compare fires at the next tick with LATE (R453). -/
def viewLate (s n : Nat) : Bool := decide (sext 32 (s + 4294967296 - n % 4294967296) ≤ 0)

/-- Show a unit's new LATE: the flag, TRG_LATE with the trigger time and the targets counted MISSED (R453, Table TT-6). -/
def Dev.raiseLate (d : Dev) (t tns missed : Nat) : Dev :=
  let d := d.fset (fTrgCtlLate t) 1
  d.post 0x4A 0 t (ioPlace 7 0 noSlice) (le 1 t ++ le 8 tns ++ le 4 missed)

/-- Enabling a unit sets its first target (R454): ABS by the 32-bit view, ALIGN on the grid at least 1 µs ahead. -/
def Dev.trgArm (d : Dev) (t : Nat) : Dev :=
  let den := d.perD t
  let start := d.fget (fTrgStartStart t)
  let n := d.nowNs
  if d.flag (fTrgCtlAlign t) then
    let tq := gridAt (d.period t) (start * den) (d.nowUp den + 1000 * den)
    d.setTrig t (fun u => { u with target := some tq, den := den, late := false, pulse := false, missed := 0,
                                   staged := [], ripe := [], fired := 0 })
  else
    d.setTrig t (fun u => { u with target := some ((viewTarget start n).toNat * den), den := den,
                                   late := viewLate start n, pulse := false, missed := 0,
                                   staged := [], ripe := [], fired := 0 })


/-- The first point of a sequence after the present time, and how many points before it have passed (R455). -/
def nextAfter (tq p now : Nat) : Nat × Nat :=
  if now < tq then (tq, 0) else
    let k := (now - tq) / p + 1
    (tq + k * p, k)

/-- A step's effect on a running unit (R455): a periodic unit moves to the first point of its own sequence after the new
time and, after a forward step past unfired targets, fires the latest of them at once with LATE while the others count
in MISSED; a one-shot unit keeps its target and fires with LATE when a forward step carries time past it. -/
def Dev.stepTrig (d : Dev) (t : Nat) (forward : Bool) : Dev :=
  let u := d.trig t
  match u.target with
  | none => d
  | some tq =>
    if !d.flag (fTrgCtlEn t) then d else
    if d.flag (fTrgCtlPeriodic t) then
      let now := d.time.count.toNat * u.den / 4294967296
      let p := d.periodIn t u.den
      if now < tq then
        if forward then d else
          -- backward: the first point of the sequence after the new time
          let k := (tq - now - 1) / p
          d.setTrig t (fun u => { u with target := some (tq - k * p) })
      else if forward then
        let (nx, k) := nextAfter tq p now
        let d := d.fadd (fTrgCtlMissed t) (k - 1)
        d.setTrig t (fun u => { u with target := some (nx - p), late := true, missed := k - 1 })
      else d
    else if forward && d.reached tq u.den then d.setTrig t (fun u => { u with late := true }) else d

/-- A step moves the count and leaves the length of the pulses in progress. -/
def Dev.shiftPulses (d : Dev) (ns : Int) : Dev :=
  { d with trg := tmap d.trg (fun _ u => { u with ends := (ns + u.ends).toNat }) }

/-- Every unit's answer to a step (R455). -/
def Dev.stepTriggers (d : Dev) (forward : Bool) : Dev :=
  (List.range 32).foldl (fun d t => d.stepTrig t forward) d

/-! ## The counter (R440, R441, R443) -/

def incLow : Nat := 0x1FFBE76C9
def incHigh : Nat := 0x200418937

/-- An increment clipped to 1.999 ns to 2.001 ns (R441). -/
def clipInc (v : Nat) : Nat := max incLow (min incHigh v)

/-- Apply an increment at one tick and show it (R441). -/
def Dev.setInc (d : Dev) (v : Nat) : Dev :=
  let v := clipInc v
  let d := { d with time := { d.time with inc := BitVec.ofNat 64 v, incLo := v % 4294967296, incHi := v / 4294967296 } }
  d.fsets [(fTimeIncLoInc, v), (fTimeIncHiInc, v / 4294967296)]

/-- Advance the count by a number of ticks (R440). -/
def Dev.ticks (d : Dev) (n : Nat) : Dev :=
  { d with time := { d.time with count := d.time.count + BitVec.ofNat 96 (n * d.time.inc.toNat) } }

/-- Apply a step of whole nanoseconds: the fraction does not change, TIME_STEP is raised with its source (0 servo,
1 host), it counts in STEPS, and running triggers respond (R443, R455). -/
def Dev.applyStep (d : Dev) (ns : Int) (source : Nat) : Dev :=
  let d := { d with time := { d.time with count := d.time.count + BitVec.ofInt 96 (ns * 4294967296) } }
  let d := d.finc fTimeStatSteps
  let d := d.post 0x49 0 0 (ioPlace 7 0 noSlice) (le 8 (trunc 64 ns) ++ le 1 source)
  (d.shiftPulses ns).stepTriggers (decide (0 < ns))

/-- TIME_STAT states (R447). -/
def tsFree : Nat := 0
def tsAcquire : Nat := 1
def tsLocked : Nat := 2
def tsHoldover : Nat := 3

/-- Change the servo state: TIME_STATE with the old and the new state and the selected port (Table TT-6). -/
def Dev.timeState (d : Dev) (st : Nat) : Dev :=
  let old := d.fget fTimeStatState
  if old = st then d else
    let port := if d.fget fTimeStatPort = 7 then 255 else d.fget fTimeStatPort
    let d := d.fset fTimeStatState st
    d.post 0x48 0 0 (ioPlace 7 0 noSlice) (le 1 old ++ le 1 st ++ le 1 port)

/-- The time that each increment of a history, newest first, held between `lo` and `hi` ns, and its sum over that time. -/
def incSpan (lo : Nat) : Nat → List (Nat × Nat) → Nat × Nat
  | _, [] => (0, 0)
  | hi, (t, v) :: rest =>
    if t ≤ lo then (hi - lo, (hi - lo) * v)
    else
      let (n, m) := incSpan lo t rest
      (n + (hi - t), m + (hi - t) * v)

/-- A history cut to what the last 64 s need: the entries since then and the one in force before them. -/
def cutHist (lo : Nat) : List (Nat × Nat) → List (Nat × Nat)
  | [] => []
  | e :: rest => if e.1 ≤ lo then [e] else e :: cutHist lo rest

/-- Enter HOLDOVER: the increment is held at its mean over the last 64 s, rounded down (R447, log entry 21). -/
def Dev.holdover (d : Dev) : Dev :=
  if d.fget fTimeStatState = tsHoldover then d else
  let (n, m) := incSpan (d.nowNs - 64000000000) d.nowNs d.time.incHist
  let d := d.timeState tsHoldover
  if n = 0 || (d.fget fTimeCtlSrc != 1 && d.fget fTimeCtlSrc != 3) then d else d.setInc (m / n)

/-- TIME_COUNT_BROADCAST: 32 ns pass, 16 ticks of the counter, and every island receives the count (R37, R38, R440). -/
def timeCountBroadcast (d : Dev) : Dev :=
  let d := d.ticks 16
  { d with time := { d.time with bcast := max d.time.bcast d.nowNs } }

/-- The tick comes from firmware or the host: TIME_CTL.SRC with 0b11 treated as 0b01 (R460). -/
def Dev.timeSrc (d : Dev) : Nat := if d.fget fTimeCtlSrc = 3 then 1 else d.fget fTimeCtlSrc

/-- TIME_INC_WRITE: a write of one half of TIME_INC; the write of the upper half applies the pair at the next tick,
clipped. The register is read-only unless SRC is 0b00 or 0b10 (R441, R449, R460). -/
def timeIncWrite (hi : Bool) (v : Nat) (d : Dev) : Dev :=
  if d.timeSrc = 1 then d
  else if hi then d.setInc (v % 4294967296 * 4294967296 + d.time.incLo)
  else { d with time := { d.time with incLo := v % 4294967296 } }

/-- TIME_STEP_WRITE: a write of one half of TIME_STEP; the upper half applies the step, when SRC is 0b10 (R443, R460). -/
def timeStepWrite (hi : Bool) (v : Nat) (d : Dev) : Dev :=
  if hi then
    if d.timeSrc = 2 then d.applyStep (sext 64 (v % 4294967296 * 4294967296 + d.time.stepLo)) 1 else d
  else { d with time := { d.time with stepLo := v % 4294967296 } }

/-- TIME_NOW_SNAPSHOT: a read of TIME_NOW_LO takes a snapshot of the whole count; TIME_NOW_HI then returns its upper
half (R460). -/
def timeNowSnapshot (d : Dev) : Dev :=
  d.fsets [(fTimeNowLoNow, d.nowNs), (fTimeNowHiNow, d.nowNs / 4294967296)]

/-! ## PTP (R444 to R451) -/

def Dev.ptp (d : Dev) (p : Nat) : PtpPort := tgetD d.time.ports p {}
def Dev.setPtp (d : Dev) (p : Nat) (f : PtpPort → PtpPort) : Dev :=
  { d with time := { d.time with ports := tmod d.time.ports p {} f } }

/-- PTP runs: PM13 has ended with PTP started. -/
def Dev.ptpOn (d : Dev) : Bool := decide (13 < d.prime.next)

/-- Of some ports, the one of the best master, ties to the lower number (R445). -/
def Dev.bestOf (d : Dev) (ps : List Nat) : Option Nat :=
  ps.foldl (fun b p =>
    match (d.ptp p).master, b with
    | some m, some q =>
      match (d.ptp q).master with
      | some n => if m.rank < n.rank then some p else b
      | none => some p
    | some _, none => some p
    | none, _ => b) none

/-- The port of the best master across the ports (R445): one passed over for want of samples only where no other has a master. -/
def Dev.bestPort (d : Dev) : Option Nat :=
  match d.bestOf ((List.range 6).filter (fun p => !(d.ptp p).silent)) with
  | some p => some p
  | none => d.bestOf (List.range 6)

/-- Show each port's role: 0b10 selected, 0b11 standby with a master, 0b01 listening, 0b00 no master (R460). -/
def Dev.showRoles (d : Dev) : Dev :=
  let sel := d.fget fTimeStatPort
  (List.range 6).foldl (fun d p =>
    d.fset (fTimePortStatRole p)
      (if sel = p then 2 else if (d.ptp p).master.isSome then 3
       else if d.fget (fEthPortStatState p) = 2 then 1 else 0)) d

/-- Select the port of the best master. When the selected port's master is lost no step is taken: the servo keeps its
state (R445). -/
def Dev.selectPort (d : Dev) : Dev :=
  let d := match d.bestPort with
    | some p => d.fset fTimeStatPort p
    | none => d.fset fTimeStatPort 7
  d.showRoles

/-- PTP_ANNOUNCE: an Announce of the domain with every field in range updates the port's best master and the selection;
any other is dropped and counted (R445, Table TT-2). -/
def ptpAnnounce (p : Nat) (a : PtpAnnounce) (d : Dev) : Dev :=
  if !d.ptpOn then d else
  if a.domain != d.fget fTimeCtlDomain || !a.inRange then
    d.setPtp p (fun x => { x with dropped := x.dropped + 1 }) |>.sumpInput (ioPlace 5 p noSlice) 7 p a.ident
  else
    let better := match (d.ptp p).master with
      | some m => m.ident == a.ident || decide (a.rank < m.rank)
      | none => true
    let d := if better then d.setPtp p (fun x => { x with master := some { rank := a.rank, ident := a.ident } }) else d
    d.selectPort

/-- ANNOUNCE_SEND: a port sends its own Announce with clockClass 255; it never becomes master (R444). -/
def announceSend (p : Nat) (d : Dev) : Dev :=
  if d.ptpOn && d.fget (fEthPortStatState p) == 2 then
    d.setPtp p (fun x => { x with announceSeq := (x.announceSeq + 1) % 65536, announces := x.announces + 1 })
  else d

/-- The median of the accepted path-delay samples (R446). -/
def medianOf (l : List Int) : Option Int :=
  let s := sortBy (fun a b => decide (a ≤ b)) l
  let n := s.length
  if n = 0 then none
  else if n % 2 = 1 then s[n / 2]?
  else match s[n / 2 - 1]?, s[n / 2]? with
    | some a, some b => some (Config.evenMedian a b)
    | _, _ => none

/-- meanPathDelay of a port, 0 before the first sample (log entry 21). -/
def Dev.pathDelay (d : Dev) (p : Nat) : Int := (medianOf (d.ptp p).delays).getD 0

/-- Saturate to a signed 32-bit number. -/
def sat32 (v : Int) : Int := max (-2147483648) (min 2147483647 v)

/-- The increment that the servo law gives from the samples since ACQUIRE, clipped (R441, R447). -/
def Dev.servo (d : Dev) : Dev :=
  let v := if d.time.slew then
      (match d.time.samples with
       | o :: _ => if o > 0 then incLow else incHigh
       | [] => d.time.inc.toNat)
    else (Config.servoLaw (d.fget fTimeServoKp) (d.fget fTimeServoKi) d.time.samples).toNat
  let d := d.setInc v
  { d with time := { d.time with incHist := (d.nowNs, d.time.inc.toNat) :: cutHist (d.nowNs - 64000000000) d.time.incHist } }

/-- STEP_MAX with 0 treated as 1,000 (R460). -/
def Dev.stepMax (d : Dev) : Nat := if d.fget fTimeCtlStepMax = 0 then 1000 else d.fget fTimeCtlStepMax

/-- An accepted sample of the selected port: the servo's states (R447). While REFOK is clear the unit stays in HOLDOVER. -/
def Dev.servoSample (d : Dev) (o : Int) : Dev :=
  let d := { d with time := { d.time with lastSample := d.nowNs } }
  if d.timeSrc != 1 || !d.flag fTimeStatRefok then d else
  let st := d.fget fTimeStatState
  if st = tsLocked then
    ({ d with time := { d.time with samples := o :: d.time.samples, rejects := [] } }).servo
  else
    let fresh := st != tsAcquire
    let d := if fresh then
        ({ d with time := { d.time with samples := [], goodRun := 0, rejects := [], first := false, slew := false } }).timeState tsAcquire
      else d
    if !d.time.first && !d.time.slew && decide (1000 < o.natAbs) then
      ({ d with time := { d.time with first := true, goodRun := 0 } }).applyStep (-o) 0
    else
      let good := decide (o.natAbs ≤ d.fget fTimeServoLock)
      let run := if good then d.time.goodRun + 1 else 0
      let d := { d with time := { d.time with first := true, goodRun := run, samples := o :: d.time.samples } }
      let d := d.servo
      if 16 ≤ run then
        ({ d with time := { d.time with slew := false } }).timeState tsLocked
      else d

/-- A rejected sample while LOCKED counts; 16 in a row that agree within STEP_MAX mean that the master has moved: the
servo steps when STEP_EN is 1, and otherwise returns to ACQUIRE and slews (R447). -/
def Dev.servoReject (d : Dev) (o : Int) : Dev :=
  let d := d.finc fTimeStatReject
  let r := (o :: d.time.rejects).take 16
  let d := { d with time := { d.time with rejects := r } }
  let agree := r.length = 16 && r.all (fun a => r.all (fun b => decide ((a - b).natAbs ≤ d.stepMax)))
  if !agree || d.timeSrc != 1 then d
  else if d.flag fTimeCtlStepEn then
    ({ d with time := { d.time with rejects := [], samples := [] } }).applyStep (-o) 0
  else
    ({ d with time := { d.time with rejects := [], samples := [], goodRun := 0, first := true, slew := true } }).timeState tsAcquire

/-- One offset sample of a port (R446, R447): o = t2 − t1 − meanPathDelay − correctionField, in whole ns, rounded down. While LOCKED, a sample
outside STEP_MAX is rejected. Samples are discarded during firmware activation (R448). -/
def Dev.offsetSample (d : Dev) (p : Nat) (t1 t2 corr : Int) : Dev :=
  if d.qf.fw.isSome then d else
  let o := (t2 - t1 - d.pathDelay p - corr) / 65536
  let d := d.setPtp p (fun x => { x with last := some (t1 + corr, t2), silent := false })
  let d := if d.fget fTimeStatPort = 7 && d.bestPort == some p then (d.fset fTimeStatPort p).showRoles else d
  if d.fget fTimeStatPort != p then d else
  let d := d.fset fTimeOffsetOffset (trunc 32 (sat32 o))
  if d.fget fTimeStatState = tsLocked && decide (d.stepMax < o.natAbs) then
    (d.servoReject o).sumpInput (ioPlace 5 p noSlice) 7 p (trunc 64 o)
  else d.servoSample o

/-- Signed picoseconds in units of 2⁻¹⁶ ns, rounded down. -/
def psUnits (ps : Int) : Int := ps * 65536 / 1000

/-- The ingress stamp: the raw stamp minus TIME_ASYM_RX (R450). -/
def Dev.ingress (d : Dev) (p : Nat) (raw : Int) : Int := raw - psUnits (sext 32 (d.fget (fTimeAsymRxAsym p)))

/-- The egress stamp: the raw stamp plus TIME_ASYM_TX (R450). -/
def Dev.egress (d : Dev) (p : Nat) (raw : Int) : Int := raw + psUnits (sext 32 (d.fget (fTimeAsymTxAsym p)))

/-- A Delay_Req with an egress stamp written into it (R451). -/
def delayReqOf (seqId : Nat) (t3 : Int) : DelayReq :=
  let ns := (t3 / 65536).toNat
  { seqId := seqId, sec := ns / 1000000000, ns := ns % 1000000000, corr := (t3 % 65536).toNat }

/-- PTP_SYNC: a Sync from the port's master. A one-step Sync forms an offset sample; a two-step one waits for its
Follow_Up (R446). Any other Sync is ignored. -/
def ptpSync (p : Nat) (m : PtpSyncMsg) (d : Dev) : Dev :=
  match (d.ptp p).master with
  | some ms =>
    if !d.ptpOn || ms.ident != m.source then d
    else if m.twoStep then d.setPtp p (fun x => { x with sync := some (m.seqId, d.ingress p m.raw) })
    else d.offsetSample p m.t1 (d.ingress p m.raw) m.corr
  | none => d

/-- PTP_FOLLOW_UP: the Follow_Up with the sequenceId of the waiting Sync completes its sample (R446). -/
def ptpFollowUp (p source seqId : Nat) (t1 corr : Int) (d : Dev) : Dev :=
  match (d.ptp p).master, (d.ptp p).sync with
  | some ms, some (sid, t2) =>
    if ms.ident = source && sid = seqId && d.ptpOn then
      (d.setPtp p (fun x => { x with sync := none })).offsetSample p t1 t2 corr
    else d
  | _, _ => d

/-- DELAY_REQ_SEND: a port with a master sends a one-step Delay_Req; the egress stamp is written into it (R446, R451). -/
def delayReqSend (p : Nat) (raw : Int) (d : Dev) : Dev :=
  if d.ptpOn && (d.ptp p).master.isSome && d.fget (fEthPortStatState p) == 2 then
    d.setPtp p (fun x =>
      let k := (x.seqOut + 1) % 65536
      { x with seqOut := k, req := some (k, d.egress p raw), sent := some (delayReqOf k (d.egress p raw)) })
  else d

/-- PTP_DELAY_RESP: a Delay_Resp that answers the port's last Delay_Req gives a path-delay sample from t1 to t4; a
sample outside 0 to 4 × the present median is rejected, and 16 are kept (R446, Table TT-2). -/
def ptpDelayResp (p seqId : Nat) (t4 corr : Int) (d : Dev) : Dev :=
  match (d.ptp p).req, (d.ptp p).last with
  | some (sid, t3), some (t1, t2) =>
    if sid != seqId || !d.ptpOn then d else
    let delay := ((t2 - t1) + (t4 - corr - t3)) / 2
    let ok := decide (0 ≤ delay) && (match medianOf (d.ptp p).delays with
      | some m => decide (delay ≤ 4 * m)
      | none => true)
    let d := d.setPtp p (fun x => { x with req := none })
    if ok then
      let d := d.setPtp p (fun x => { x with delays := (delay :: x.delays).take 16 })
      d.fset (fTimePortStatPath p) (min 16777215 (d.pathDelay p / 65536).toNat)
    else d.sumpInput (ioPlace 5 p noSlice) 7 p (trunc 64 delay)
  | _, _ => d

/-- ANNOUNCE_TIMEOUT: no Announce in the receipt timeout: the port's master is lost. When that
port was selected, the best standby port becomes selected at its next accepted Sync (R445, R446). -/
def announceTimeout (p : Nat) (d : Dev) : Dev :=
  match (d.ptp p).master with
  | some ms =>
    let d := d.setPtp p (fun x => { x with master := none, sync := none, req := none })
    let d := d.sumpInput (ioPlace 5 p noSlice) 7 p ms.ident
    if d.fget fTimeStatPort = p then (d.fset fTimeStatPort 7).showRoles else d.showRoles
  | none => d

/-- A standby port gives samples: it has a master, and an offset sample came within the last 1 s (R447). -/
def Dev.ptpGives (d : Dev) (q : Nat) : Bool :=
  (d.ptp q).master.isSome && (match (d.ptp q).last with
    | some (_, t2) => decide ((d.nowNs : Int) < t2 / 65536 + 1000000000)
    | none => false)

/-- SYNC_TIMEOUT: no accepted sample on the selected port for 1 s: the best other port that gives samples, or HOLDOVER when no
port does (R446, R447, Table TT-2). While firmware is activated, samples are discarded and nothing times out (R448). -/
def syncTimeout (p : Nat) (d : Dev) : Dev :=
  if d.fget fTimeStatPort != p || decide (d.nowNs < d.time.lastSample + 1000000000) || d.qf.fw.isSome then d else
  let d := (d.setPtp p (fun x => { x with silent := true })).sumpInput (ioPlace 5 p noSlice) 7 p 0
  match d.bestOf ((List.range 6).filter (fun q => q != p && d.ptpGives q)) with
  | some q => (d.fset fTimeStatPort q).showRoles
  | none => if d.fget fTimeStatState = tsFree then d else d.holdover

/-- TIME_REFCLK_WINDOW: a 100 µs window of TIME_REFCLK ends with an offset in 0.1 ppm, or none when it was absent. A bad one clears REFOK, moves the tick to the internal
oscillator and enters HOLDOVER; REFOK is set after 10 good windows (R442, R511). -/
def timeRefclkWindow (ppm : Option Int) (d : Dev) : Dev :=
  let good := match ppm with
    | some v => decide (-10000 ≤ v ∧ v ≤ 10000)
    | none => false
  if good then
    let g := d.time.refGood + 1
    let d := { d with time := { d.time with refGood := min 10 g } }
    if 10 ≤ g && !d.flag fTimeStatRefok then
      ({ d with time := { d.time with internal := false } }).fset fTimeStatRefok 1
    else d
  else
    let was := d.flag fTimeStatRefok
    let d := ({ d with time := { d.time with refGood := 0, internal := true } }).fset fTimeStatRefok 0
    let d := if was then d.sumpInput (ioPlace 7 0 noSlice) 9 0 (match ppm with | some v => trunc 64 v | none => allOnes64) else d
    d.holdover

end Sys2Proof.Machine
end

