-- ==== Sys2Proof/Machine/VideoOps.lean ====
section
/-!
DEFINITION. The arithmetic of the output side: the fixed curves, layer pixels and blending, scaling, tone mapping,
Y'CbCr conversion, pgroups and signatures (R275 to R277, R284 to R291).
-/
set_option autoImplicit false

namespace Sys2Proof.Machine

/-! ## Fixed curves (R287)

Entries are nearest integers to values of real functions. They are computed in binary fixed point with 128 fraction bits,
whose error is far below what decides the nearest integer. -/

def fxOne : Int := 2 ^ 128
def fxMul (a b : Int) : Int := a * b / fxOne
def fxDiv (a b : Int) : Int := a * fxOne / b

/-- Twice the inverse hyperbolic tangent of `z`, by its series: `p` is the running power of `z`. -/
def fxAtanh2 (z2 : Int) : Nat → Nat → Int → Int
  | 0, _, _ => 0
  | n + 1, i, p => 2 * p / (2 * i + 1 : Nat) + fxAtanh2 z2 n (i + 1) (fxMul p z2)

def fxLn2 : Int := fxAtanh2 (fxOne / 9) 60 0 (fxOne / 3)

/-- Natural logarithm of a positive fixed-point number. -/
def fxLn (x : Int) : Int :=
  let k : Int := (Nat.log2 x.toNat : Int) - 128
  let m := if 0 ≤ k then x / 2 ^ k.toNat else x * 2 ^ (-k).toNat
  let z := fxDiv (m - fxOne) (m + fxOne)
  k * fxLn2 + fxAtanh2 (fxMul z z) 60 0 z

/-- The exponential series of `r`: `t` is the running term. -/
def fxExpSeries (r : Int) : Nat → Nat → Int → Int
  | 0, _, _ => 0
  | n + 1, i, t => t + fxExpSeries r n (i + 1) (fxMul t r / (i + 1 : Nat))

def fxExp (y : Int) : Int :=
  let k := y / fxLn2
  let e := fxExpSeries (y - k * fxLn2) 50 0 fxOne
  if 0 ≤ k then e * 2 ^ k.toNat else e / 2 ^ (-k).toNat

/-- `x` to the power `p ÷ q`, 0 at 0. -/
def fxPow (x : Int) (p q : Nat) : Int := if x ≤ 0 then 0 else fxExp (fxLn x * p / q)

/-- The nearest integer to 65,535 × F. -/
def fxEntry (f : Int) : Nat := ((65535 * f * 2 + fxOne) / (2 * fxOne)).toNat

/-- E of entry k: 16k ÷ 65,535. -/
def fxE (k : Nat) : Int := 16 * k * fxOne / 65535

def pqEntry (peak k : Nat) : Nat :=
  let t := fxPow (fxE k) 32 2523
  let n := max 0 (t - 3424 * fxOne / 4096)
  let y := fxPow (fxDiv n (2413 * fxOne / 128 - 2392 * t / 128)) 8192 1305
  fxEntry (min fxOne (10000 * y / peak))

def hlgEntry (k : Nat) : Nat :=
  let e := fxE k
  if 2 * e ≤ fxOne then fxEntry (fxMul e e / 3)
  else
    let y := (e * 100000000 - 55991073 * fxOne) / 17883277
    fxEntry ((fxExp y + 28466892 * fxOne / 100000000) / 12)

def oetfEntry (k : Nat) : Nat :=
  let l := fxE k
  if l * 1000 < 18 * fxOne then fxEntry (l * 9 / 2) else fxEntry ((1099 * fxPow l 9 20 - 99 * fxOne) / 1000)

/-- The EOTF table of a composite's tag (Table CF-6). -/
def eotf (tag peak k : Nat) : Nat := if tag = 1 then pqEntry peak k else if tag = 2 then hlgEntry k else 16 * k

/-! ## Layers (Tables CF-3 and CF-4, R276, R277) -/

def leFmt (b : List Byte) : Nat := field b 0 1
def leGa (b : List Byte) : Nat := field b 2 2
def leX (b : List Byte) : Int := sext 16 (field b 4 2)
def leY (b : List Byte) : Int := sext 16 (field b 6 2)
def leW (b : List Byte) : Nat := field b 8 2
def leH (b : List Byte) : Nat := field b 0x0A 2
def leStride (b : List Byte) : Nat := field b 0x0C 4
def leVa (b : List Byte) : Nat := field b 0x10 8
def leVa2 (b : List Byte) : Nat := field b 0x18 8
def leOn (b : List Byte) : Bool := leFmt b != 255
def fmt420 (f : Nat) : Bool := f == 4 || f == 6
def fmtYuv (f : Nat) : Bool := 3 ≤ f

/-- Bytes that a line of a layer occupies in its first plane, and in its chroma plane. -/
def lineBytes1 (f w : Nat) : Nat :=
  match f with | 0 => rgbPitch w | 1 => 4 * w | 2 => 8 * w | 3 | 4 => w | _ => 2 * w
def lineBytes2 (f w : Nat) : Nat := if f = 3 ∨ f = 4 then w else if fmtYuv f then 2 * w else 0

/-- Layer bytes per frame, for the rate of R273: the pixels' own bytes. -/
def layerBytes (b : List Byte) : Nat :=
  let n := leW b * leH b
  match leFmt b with | 0 => 6 * n | 1 => 4 * n | 2 => 8 * n | 3 => 2 * n | 4 => n + n / 2 | 5 => 4 * n | 6 => 3 * n | _ => 0

/-- A layer entry is well formed (Table CF-3). -/
def layerOk (base : Bool) (w h : Nat) (b : List Byte) : Bool :=
  if !leOn b then true
  else leFmt b ≤ 6 && field b 1 1 < 2 && 2 ≤ leW b && leW b ≤ 17280 && leW b % 2 == 0 && 2 ≤ leH b && leH b ≤ 9120
    && leH b % 2 == 0 && leStride b % 64 == 0 && leVa b % 64 == 0 && (if fmtYuv (leFmt b) then leVa2 b % 64 == 0 else leVa2 b == 0)
    && (!base || (leFmt b == 0 && leX b == 0 && leY b == 0 && leW b == w && leH b == h))

/-- Byte ranges (address, length) that line `y` of a layer reads. -/
def lineRanges (b : List Byte) (va va2 y : Nat) : List (Nat × Nat) :=
  let f := leFmt b
  let c := if fmt420 f then y / 2 else y
  (va + y * leStride b, lineBytes1 f (leW b)) ::
    (if fmtYuv f then [(va2 + c * leStride b, lineBytes2 f (leW b))] else [])

/-- All bytes of a layer. -/
def layerRanges (b : List Byte) (va va2 : Nat) : List (Nat × Nat) :=
  let f := leFmt b
  (va, leStride b * leH b) :: (if fmtYuv f then [(va2, leStride b * (if fmt420 f then leH b / 2 else leH b))] else [])

/-- BT.709 narrow-range Y'CbCr to red, green and blue (R276). -/
def ycToRgb (y cb cr : Nat) (ch : Nat) : Int :=
  let yy : Int := y - 64
  let b : Int := cb - 512
  let r : Int := cr - 512
  sat16u (rshr (if ch = 0 then 19152 * yy + 29487 * r else if ch = 1 then 19152 * yy - 3507 * b - 8765 * r
    else 19152 * yy + 34745 * b) 8)

/-- Colour and alpha of a layer's pixel from memory. -/
def Dev.layerPixel (d : Dev) (asid : Nat) (b : List Byte) (va va2 x y : Nat) : (Nat → Int) × Nat :=
  let rd := fun a n => leNat (d.vread asid a n)
  let at' := va + y * leStride b
  match leFmt b with
  | 0 => (fun ch => (rd (at' + 2 * (roundUp (leW b) 32 * ch + x)) 2 : Int), 65535)
  | 1 => (fun ch => (rd (at' + 4 * x + ch) 1 * 257 : Nat), rd (at' + 4 * x + 3) 1 * 257)
  | 2 => (fun ch => (rd (at' + 8 * x + 2 * ch) 2 : Int), rd (at' + 8 * x + 6) 2)
  | f =>
    let c := va2 + (if fmt420 f then y / 2 else y) * leStride b
    if f = 3 ∨ f = 4 then
      (ycToRgb (4 * rd (at' + x) 1) (4 * rd (c + x / 2 * 2) 1) (4 * rd (c + x / 2 * 2 + 1) 1), 65535)
    else (ycToRgb (rd (at' + 2 * x) 2 % 1024) (rd (c + x / 2 * 4) 2 % 1024) (rd (c + x / 2 * 4 + 2) 2 % 1024), 65535)

def expand16 (x : Nat) : Nat := x + x / 32768

/-- One layer pixel over the value below it (R277). -/
def blend (premul : Bool) (ga a16 : Nat) (s d : Int) : Int :=
  let aeff : Int := (expand16 a16 * expand16 ga / 65536 : Nat)
  if premul then
    let s := s * expand16 ga / 65536
    sat16u (s + rshr (d * (65536 - aeff)) 16)
  else d + rshr ((s - d) * aeff) 16

/-! ## Scaling (R284) -/

/-- Source position of output sample j: index and phase. -/
def srcPos (crop step j : Nat) : Int × Nat :=
  let p : Int := crop * 65536 + j * step + ((step : Int) - 65536) / 2
  (p / 65536, (p / 1024 % 64).toNat)

/-- A filter at one position; `s` gives the input sample at a position, mirrored by its own rule. -/
def filt (taps : Nat) (c : List Int) (pos : Int × Nat) (s : Int → Int) : Int :=
  sat16u (rshr ((List.range taps).foldl (fun acc t => acc + c.getD (pos.2 * taps + t) 0 * s (pos.1 - taps / 2 + 1 + t)) 0) 12)

/-! ## Flow descriptors (Table CF-5) -/

def fdSrc (b : List Byte) : Nat := field b 0 1
def fdTrg (b : List Byte) : Nat := field b 1 1
def fdDest (b : List Byte) : Nat := field b 2 1
def fdTonemap (b : List Byte) : Bool := bit (field b 3 1) 0
def fdGamut (b : List Byte) : Bool := bit (field b 3 1) 1
def fdHold (b : List Byte) : Bool := bit (field b 3 1) 2
def fdAnc (b : List Byte) : Bool := bit (field b 3 1) 3
def fdCropX (b : List Byte) : Nat := field b 4 2
def fdCropY (b : List Byte) : Nat := field b 6 2
def fdCropW (b : List Byte) : Nat := field b 8 2
def fdCropH (b : List Byte) : Nat := field b 0x0A 2
def fdOutW (b : List Byte) : Nat := field b 0x0C 2
def fdOutH (b : List Byte) : Nat := field b 0x0E 2
def fdStepX (b : List Byte) : Nat := field b 0x10 4
def fdStepY (b : List Byte) : Nat := field b 0x14 4
def fdSprof (b : List Byte) : Nat := field b 0x18 1
def fdTprof (b : List Byte) : Nat := field b 0x19 1
def fdSamp (b : List Byte) : Nat := field b 0x1A 1
def fdDepth (b : List Byte) : Nat := field b 0x1B 1
def fdPort (b : List Byte) : Nat := field b 0x1C 1
def fdSecPort (b : List Byte) : Nat := field b 0x1D 1
def fdStreams (b : List Byte) : List Byte := (b.drop 0x20).take 32
def fdNbuf (b : List Byte) : Nat := field b 0x20 1
def fdBufs (b : List Byte) : List Nat := (List.range (fdNbuf b)).map (fun k => field b (0x24 + 4 * k) 4)

/-! ## Flow samples (R284, R286, R288, R289) -/

/-- The scaled pixel of a flow from a picture of red, green and blue samples. -/
def scaledPx (b : List Byte) (s : ScaleProfile) (w h : Nat) (px : Nat → Nat → Nat → Int) (x y ch : Nat) : Int :=
  let px' := srcPos (fdCropX b) (fdStepX b) x
  let py := srcPos (fdCropY b) (fdStepY b) y
  filt s.tv s.cv py (fun j => filt s.th s.ch px' (fun i => px (mirror w i) (mirror h j) ch))

def g709 : List Int := [13603, -4815, -596, -1021, 9281, -68, -149, -824, 9165]

/-- Tone mapping of a pixel (R286). -/
def tonePx (gamut : Bool) (tag : Nat) (t : ToneProfile) (p : Nat → Int) (k : Nat) : Int :=
  let lin : Nat → Int := fun c => (vluti (eotf tag t.peak) (p c).toNat : Nat)
  let x := if gamut then
      sat16u (rshr ((List.range 3).foldl (fun acc j => acc + g709.getD (3 * k + j) 0 * lin j) 0) 13) else lin k
  (vluti oetfEntry (vluti (fun i => t.tone.getD i 0) x.toNat) : Nat)

def clipI (v lo hi : Int) : Int := max lo (min hi v)

/-- Row Y (0), Cb (1) or Cr (2) of Table CF-7. -/
def ycRow (bt709 : Bool) (row : Nat) : List Int :=
  if bt709 then [[47678, 160390, 16192], [-26280, -88410, 114690], [114690, -104173, -10517]].getD row []
  else [[58913, 152048, 13299], [-32028, -82662, 114690], [114690, -105466, -9224]].getD row []

/-- A component of a pixel at depth d (R288). -/
def ycOf (bt709 : Bool) (depth row : Nat) (p : Nat → Int) : Int :=
  let s := (List.range 3).foldl (fun acc j => acc + (ycRow bt709 row).getD j 0 * p j) 0
  let u : Int := 2 ^ (depth - 8)
  clipI ((if row = 0 then 16 else 128) * u + rshr s (34 - depth)) u (2 ^ depth - u - 1)

/-- A component of an RGB flow (R288). A rounded value of 2^depth does not fit its d bits and the rule states no result
for it: that sample is a free value. -/
def rgbOut (depth : Nat) (v : Int) : Int :=
  let r := rshr v (16 - depth)
  if 2 ^ depth ≤ r then ((Config.rgbOver depth).toNat % 2 ^ depth : Nat) else r

/-- Samples of one line of a flow, or of one pair of lines for 4:2:0, in pgroup order; `p` gives the pixels of the output
(R288, R289). Pgroup order is that of ST 2110-20: Cb Y Cr Y; Y Y Y Y Cb Cr over two lines; Cb Y Cr; R G B. -/
def lineSamples (samp depth w : Nat) (bt709 : Bool) (p : Nat → Nat → Nat → Int) (l : Nat) : List Nat :=
  let yc := fun (row x y : Nat) => ycOf bt709 depth row (p x y)
  let c2 := fun (row k y : Nat) => rshr (yc row (mirror w (2 * k - 1 : Int)) y + 2 * yc row (2 * k) y + yc row (mirror w (2 * k + 1 : Int)) y) 2
  (if samp = 0 then (List.range (w / 2)).flatMap (fun k => [c2 1 k l, yc 0 (2 * k) l, c2 2 k l, yc 0 (2 * k + 1) l])
  else if samp = 1 then (List.range (w / 2)).flatMap (fun k =>
    [yc 0 (2 * k) (2 * l), yc 0 (2 * k + 1) (2 * l), yc 0 (2 * k) (2 * l + 1), yc 0 (2 * k + 1) (2 * l + 1),
     rshr (c2 1 k (2 * l) + c2 1 k (2 * l + 1)) 1, rshr (c2 2 k (2 * l) + c2 2 k (2 * l + 1)) 1])
  else if samp = 2 then (List.range w).flatMap (fun x => [yc 1 x l, yc 0 x l, yc 2 x l])
  else (List.range w).flatMap (fun x => (List.range 3).map (fun c => rgbOut depth (p x l c)))).map Int.toNat

/-- Black samples of a line (R302). The rule names Y'CbCr values only: black of an RGB flow is a free value. -/
def blackSamples (samp depth w : Nat) : List Nat :=
  let y := 16 * 2 ^ (depth - 8)
  let c := 128 * 2 ^ (depth - 8)
  let unit := if samp = 0 then [c, y, c, y] else if samp = 1 then [y, y, y, y, c, c] else if samp = 2 then [c, y, c]
    else List.replicate 3 ((Config.rgbBlack depth).toNat % 2 ^ depth)
  (List.range (if samp < 2 then w / 2 else w)).flatMap (fun _ => unit)

/-- Samples of a line (or pair) that lie in columns x to x + w − 1: first and count. -/
def sampleSpan (samp x w : Nat) : Nat × Nat :=
  if samp = 0 then (2 * x, 2 * w) else if samp = 1 then (3 * x, 3 * w) else (3 * x, 3 * w)

/-- Bytes of a bit string, most significant bit first, padded with zeros. -/
def packBits : List Bool → Nat → List Byte
  | _, 0 => []
  | l, n + 1 => BitVec.ofNat 8 ((padBits (l.take 8)).foldl (fun a b => 2 * a + b.toNat) 0) :: packBits (l.drop 8) n
where
  padBits (l : List Bool) : List Bool := l ++ List.replicate (8 - l.length) false

/-- Pgroup bytes of samples at a depth. -/
def packSamples (depth : Nat) (l : List Nat) : List Byte :=
  packBits (l.flatMap (sampleBits depth)) ((l.length * depth + 7) / 8)

/-- Samples read back from pgroup bytes. -/
def unpackSamples (depth n : Nat) (bs : List Byte) : List Nat :=
  let v := bs.foldl (fun a b => a * 256 + b.toNat) 0
  let total := bs.length * 8
  (List.range n).map (fun i => v / 2 ^ (total - depth * (i + 1)) % 2 ^ depth)

/-- Bytes of a packed line, or line pair, and their number in a frame. -/
def lineLen (samp depth w : Nat) : Nat := ((if samp = 0 then 2 * w else 3 * w) * depth + 7) / 8
def lineCount (samp h : Nat) : Nat := if samp = 1 then h / 2 else h
/-- Bytes of a packed frame. -/
def frameLen (b : List Byte) : Nat :=
  lineLen (fdSamp b) (fdDepth b) (fdOutW b) * lineCount (fdSamp b) (fdOutH b)

/-- Packets per line: 1,200 bytes or the line remainder (Table CF-9), and per frame. -/
def linePackets (b : List Byte) : Nat := (lineLen (fdSamp b) (fdDepth b) (fdOutW b) + 1199) / 1200
def framePackets (b : List Byte) : Nat := linePackets b * fdOutH b

/-! ## Guarded regions (R290, R291) -/

def regionOf (b : List Byte) : Region :=
  { x := field b 0 2, y := field b 2 2, w := field b 4 2, h := field b 6 2, action := field b 8 1, mode := field b 9 1,
    expect := field b 0x0C 4, subst := field b 0x10 8 }

def Region.learn (r : Region) : Bool := bit r.mode 0
def Region.latch (r : Region) : Bool := bit r.mode 1

/-- The bytes that a region's samples occupy in a packed line. -/
def regionSlice (samp depth : Nat) (r : Region) (line : List Byte) : List Byte :=
  let (s, n) := sampleSpan samp r.x r.w
  let a := s * depth / 8
  let e := ((s + n) * depth + 7) / 8
  (line.drop a).take (e - a)

/-- Lines, or line pairs, of a region. -/
def regionLines (samp : Nat) (r : Region) : List Nat :=
  if samp = 1 then (List.range (r.h / 2)).map (r.y / 2 + ·) else (List.range r.h).map (r.y + ·)

/-- Signature of a region of a flow whose packed lines are given (R291). -/
def flowSig (samp depth : Nat) (r : Region) (line : Nat → List Byte) : Nat :=
  (crc32c ((regionLines samp r).flatMap (fun l => regionSlice samp depth r (line l)))).toNat

/-- Signature of a region of a composite (R291). -/
def compSig (r : Region) (px : Nat → Nat → Nat → Nat) : Nat :=
  (crc32c ((List.range r.h).flatMap (fun j => (List.range 3).flatMap (fun c =>
    (List.range r.w).flatMap (fun i => le 2 (px (r.x + i) (r.y + j) c)))))).toNat

/-! ## Access to units and output records -/

def Dev.vidMod (d : Dev) (f : Video → Video) : Dev := { d with vid := f d.vid }
def Dev.mix (d : Dev) (c : Nat) : Compositor := tgetD d.vid.mix c {}
def Dev.mixMod (d : Dev) (c : Nat) (f : Compositor → Compositor) : Dev := d.vidMod (fun v => { v with mix := tmod v.mix c {} f })
def Dev.flow (d : Dev) (n : Nat) : Flow := tgetD d.vid.flow n {}
def Dev.flowMod (d : Dev) (n : Nat) (f : Flow → Flow) : Dev := d.vidMod (fun v => { v with flow := tmod v.flow n {} f })
def Dev.spout (d : Dev) (s : Nat) : Spout := tgetD d.vid.spout s {}
def Dev.spoutMod (d : Dev) (s : Nat) (f : Spout → Spout) : Dev := d.vidMod (fun v => { v with spout := tmod v.spout s {} f })
def Dev.ras (d : Dev) (r : Nat) : Raster := tgetD d.vid.ras r {}
def Dev.rasMod (d : Dev) (r : Nat) (f : Raster → Raster) : Dev := d.vidMod (fun v => { v with ras := tmod v.ras r {} f })

/-- Bits of Table CF-2. -/
def oRepeat : Nat := 1
def oLayerAbsent : Nat := 2
def oLayerFault : Nat := 4
def oGuard : Nat := 8
def oSubst : Nat := 16
def oSafe : Nat := 32
def oUnderrun : Nat := 64
def oAborted : Nat := 128
def oStopped : Nat := 256
def oLate : Nat := 512

/-- Keep the last 1,024 records (R271). -/
def addRec (l : List OutRec) (r : OutRec) : List OutRec := (l ++ [r]).drop (l.length + 1 - 1024)
def modRec (l : List OutRec) (n : Nat) (f : OutRec → OutRec) : List OutRec := l.map (fun r => if r.oframe = n then f r else r)
def OutRec.set (r : OutRec) (f : Nat) : OutRec := { r with flags := r.flags ||| f }

/-- Frame period of a trigger unit: numerator and denominator in ns (R454). -/
def Dev.tframe (d : Dev) (t : Nat) : Nat × Nat := (d.period t, d.perD t)

/-- The buffer that a mapping names by its first address. -/
def Dev.bufAt (d : Dev) (asid va : Nat) : Option Nat :=
  (d.mem.maps.find? (fun e => e.2.asid == asid && e.2.va == va)).map (·.1)

end Sys2Proof.Machine
end

