-- ==== Sys2Proof/Machine/Guards.lean ====
section
/-!
DEFINITION. Guarded regions: how a signature is learned or checked and what a mismatch does (R290 to R293).
-/
set_option autoImplicit false

namespace Sys2Proof.Machine

/-- A frame from which a region may learn: no mark STALE, SKIPPED or PILOT, no flag REPEAT, LAYER_ABSENT or LAYER_FAULT. -/
def mayLearn (marks flags : Nat) : Bool :=
  marks &&& (mStale + mSkipped + mPilot) == 0 && flags &&& (oRepeat + oLayerAbsent + oLayerFault) == 0

/-- The outcome of a check: the region after it, whether it mismatched, the value expected, and whether the mismatch is
the first after a match. -/
structure Check where
  region : Region
  bad : Bool := false
  expect : Nat := 0
  first : Bool := false

/-- Check one signature (R292, R293). -/
def Region.check (r : Region) (sig : Nat) (learnable : Bool) : Check :=
  match (if r.learn then r.learned else some r.expect) with
  | none => { region := if learnable then { r with learned := some sig } else r }
  | some e =>
    if sig = e then { region := { r with bad := false } }
    else { region := { r with bad := true, latched := r.latched || r.latch }, bad := true, expect := e, first := !r.bad }

/-- Report a mismatch: the sump entry always, the GUARD event at the first mismatch after a match (R293). -/
def Dev.guardReport (d : Dev) (kind index g : Nat) (place : Place) (c : Check) (sig : Nat) : Dev :=
  let data := le 1 g ++ le 4 c.expect ++ le 4 sig
  let d := d.sumpWrite place 0x10 kind 0 0 (le 4 index ++ data)
  if c.first then d.post 0x08 kind index place data else d

/-- Arm: every LEARN region forgets its value and every action ends (R292, R293). -/
def Guards.arm (g : Guards) : Guards :=
  { g with
    armed := true, epoch := g.epoch + 1,
    regions := g.regions.map (fun r => { r with learned := none, bad := false, latched := false }) }

/-- The arming that a frame which starts now is checked under. -/
def Guards.startEpoch (g : Guards) : Option Nat := if g.armed then some g.epoch else none

def Region.ok (r : Region) : Bool := 2 ≤ r.w && 2 ≤ r.h && r.action ≤ 2 && r.mode < 4 && (r.action == 1 || r.subst == 0)

/-- Entries of SET GUARDS whose reserved bytes are 0. -/
def regionEntriesOk (b : List Byte) (n : Nat) : Bool :=
  b.length == 32 * n && (List.range n).all (fun k => allZero b (32 * k + 0x0A) 2 && allZero b (32 * k + 0x18) 8)

def regionsOf (b : List Byte) (n : Nat) : List Region := (List.range n).map (fun k => regionOf (b.drop (32 * k)))

end Sys2Proof.Machine
end

