-- ==== Sys2Proof/Machine/Compositor.lean ====
section
/-!
DEFINITION. Compositors: start, layers, frame starts at trigger pulses, composition and release, stop (R270 to R279,
R294, R308, R309).
-/
set_option autoImplicit false

namespace Sys2Proof.Machine

def mixPlace (c : Nat) : Place := quadPlace c 0

/-- Composite pixels and layer bytes per second within R273. -/
def Dev.mixRate (d : Dev) (w h trg : Nat) (layers : List (List Byte)) : Bool :=
  let (p, q) := d.tframe trg
  w * h * 1000000000 * q ≤ 24000000000 * p
    && ((layers.map (fun b => if leOn b then layerBytes b else 0)).sum) * 1000000000 * q ≤ 160000000000 * p

/-- A unit may not be started: its step of priming has not ended, its test runs, or it is retired. -/
def Dev.unitBusy (d : Dev) (u : TUnit) (step : Nat) : Bool := d.ownedBusy step || d.underTest u || d.isRetired u.place

def startCompositor (seq : Nat) (d : Dev) : Dev :=
  d.runStart seq 0x9D (fun d c =>
    let i := c.w10 % 4
    let b := c.data
    let w := field b 0 2
    let h := field b 2 2
    let nbuf := field b 0x0A 1
    let trg := field b 0x0B 1
    let asid := field b 0x0C 2
    let bufs := (List.range nbuf).map (fun k => field b (0x10 + 4 * k) 4)
    let layers := (List.range 16).map (fun k => (b.drop (0x40 + 32 * k)).take 32)
    let x := d.mix i
    if b.length ≠ 576 || w < 2 || 17280 < w || h < 2 || 9120 < h || nbuf < 3 || 6 < nbuf || 31 < trg
        || !allZero b 0x0E 2 || !allZero b (0x10 + 4 * nbuf) (24 - 4 * nbuf) || !allZero b 0x28 24
        || !(layers.zipIdx.all (fun e => layerOk (e.2 == 0) w h e.1)) then d.fail seq stBadParam
    else if !d.mem.spaces.contains asid || bufs.any (fun k => match d.buf k with
        | some m => m.asid != asid || m.len < rgbPitch w * h | none => true) then d.fail seq stBadHandle
    else if x.running || d.unitBusy (.compositor i) 7 then d.fail seq stBusy
    else if !d.mixRate w h trg layers then d.fail seq stOverRate
    else
      let d := (d.startCmd seq).mixMod i (fun x => { x with
        running := true, block := b, width := w, height := h, bg := (List.range 3).map (fun k => field b (4 + 2 * k) 2),
        trg := trg, asid := asid, bufs := bufs, layers := layers, staged := [], lastBase := none, stops := [] })
      let d := (d.fset (fMixStatState i) 1).markCreated kCompositor i seq
      d.okEffect seq c x.next i)

/-- Layers with the staged entries applied. -/
def Compositor.newLayers (x : Compositor) : List (List Byte) := x.staged.foldl (fun l e => l.set e.1 e.2) x.layers

def setLayers (seq : Nat) (d : Dev) : Dev :=
  d.run seq false 0xA1 (fun d c =>
    let i := c.w10 % 4
    let x := d.mix i
    let mask := c.w11 % 65536
    let ks := (List.range 16).filter (bit mask)
    let new := ks.zipIdx.map (fun e => (e.1, (c.data.drop (32 * e.2)).take 32))
    if !x.running then d.fail seq stBadHandle
    else if c.data.length ≠ 32 * ks.length || !(new.all (fun e => layerOk (e.1 == 0) x.width x.height e.2)) then
      d.fail seq stBadParam
    else
      let after := new.foldl (fun l e => l.set e.1 e.2) x.newLayers
      if !d.mixRate x.width x.height x.trg after then d.fail seq stOverRate
      else
        let d := (d.startCmd seq).mixMod i (fun x => { x with staged := x.staged ++ new })
        (d.markChanged kCompositor i seq).okEffect seq c x.next i)

/-! ## Frame starts (R270, R274, R278, R279) -/

/-- The producer of a published frame has stopped (R309). -/
def Dev.producerStopped (d : Dev) (p : Published) : Bool :=
  if p.producer % 256 = kGraph then
    match d.graph (p.producer / 256) with | some g => !(g.st = .armed || g.st = .draining) | none => true
  else d.sns.pilot.service.isNone

/-- The addresses of a layer's planes. A layer that names a buffer of the decoder's ring shows its newest complete picture
(R355). -/
def Dev.layerVa (d : Dev) (asid : Nat) (b : List Byte) : Nat × Nat :=
  match d.bufAt asid (leVa b) with
  | some h =>
    if d.vid.dec.ring.contains h then
      match d.vid.dec.newest.bind (fun o => d.buf o.buf) with
      | some m => (m.va, m.va + (leVa2 b - leVa b))
      | none => (leVa b, leVa2 b)
    else (leVa b, leVa2 b)
  | none => (leVa b, leVa2 b)

/-- A range is absent: an unmap or remap of it is pending, or it lies in CXL memory that is unavailable (R160, R193). -/
def Dev.rangeGone (d : Dev) (asid : Nat) (r : Nat × Nat) : Bool :=
  d.invPending asid r.1 r.2
    || (!d.mem.cxlDown.isEmpty && (d.pagesOf asid).any (fun p => p.kind == 1 && overlap p.va p.size r.1 r.2
      && (match p.pa with | some a => d.behind a == 3 | none => false)))

/-- A frame start of a compositor. -/
def Dev.mixStart (d : Dev) (i t : Nat) : Dev :=
  let x := d.mix i
  let n := x.next
  let layers := x.newLayers
  let d := d.mixMod i (fun x => { x with next := n + 1, layers := layers, staged := [] })
  let aborted := fun (d : Dev) => (d.finc (fMixStatAbort i)).mixMod i (fun x => { x with
    recs := addRec x.recs { oframe := n, flags := oAborted, tstart := t } })
  if x.cur.isSome then (aborted d).mixMod i (fun x => { x with cur := x.cur.map (fun f => { f with late := true }) })
  else match (if d.underTest (.compositor i) then none else x.bufs.find? (fun h => !d.leased h && !d.absent h)) with
  | none => aborted d
  | some buf =>
    let l0 := layers.getD 0 []
    let gone := (List.range 16).filter (fun k =>
      let b := layers.getD k []
      let (va, va2) := d.layerVa x.asid b
      leOn b && (layerRanges b va va2).any (fun r => d.rangeGone x.asid r))
    let base := if leOn l0 && !gone.contains 0 then d.bufAt x.asid (leVa l0) else none
    let pub := base.bind (fun h => tget d.mem.published h)
    let stopped := match pub with | some p => d.producerStopped p | none => false
    let cur : Option (Nat × Nat) := base.bind (fun h => pub.map (fun p => (h, p.frame)))
    let rep := cur.isSome && cur == x.lastBase
    let f : CompFrame := {
      oframe := n, buf := buf, base := if pub.isSome then base else none, src := pub.map (fun p => p.frame % 4294967296),
      tf := (pub.map (·.tf)).getD 0, marks := (pub.map (·.marks)).getD 0, tstart := t, time := (pub.map (·.time)).getD allOnes64,
      tmeta := (pub.map (·.tmeta)).getD 0, layers := layers, absent := gone,
      epoch := x.guards.startEpoch }
    let flags := (if rep then oRepeat else 0) + (if stopped then oStopped else 0) + (if gone.isEmpty then 0 else oLayerAbsent)
    let d := d.mixMod i (fun x => { x with
      cur := some f, bufs := writtenLast x.bufs buf, lastBase := cur,
      recs := addRec x.recs { oframe := n, src := f.src, marks := f.marks, flags := flags,
                              detail := (gone.map (2 ^ ·)).sum, tstart := t } })
    let d := d.fset (fMixStatState i) (if stopped then 2 else 1)
    let d := d.lease kCompositor i n buf
    (List.range 16).foldl (fun d k =>
      let b := layers.getD k []
      let (va, va2) := d.layerVa x.asid b
      if leOn b && !gone.contains k then d.leaseRange kCompositor i n x.asid (layerRanges b va va2) else d) d

/-- A pulse of its trigger unit reaches a compositor (R270). -/
def Dev.mixPulse (d : Dev) (i t : Nat) : Dev :=
  let x := d.mix i
  if x.running && x.stops.isEmpty then d.mixStart i t else d

/-! ## Composition and release (R277, R278, R294) -/

/-- The first line of a layer inside the composite whose reads fault, with the fault. -/
def Dev.layerFault (d : Dev) (asid h : Nat) (b : List Byte) (va va2 : Nat) : Option (Nat × Nat × Nat) :=
  (List.range (leH b)).findSome? (fun (y : Nat) =>
    let cy := leY b + y
    if cy < 0 || (h : Int) ≤ cy then none
    else (lineRanges b va va2 y).findSome? (fun r => (d.rangeFault true asid r.1 r.2 false).map (fun e => (y, e.1, e.2))))

/-- A pixel of a layer lies in a poisoned block. -/
def Dev.pixelPoison (d : Dev) (asid : Nat) (b : List Byte) (va va2 x y : Nat) : Bool :=
  let p := fun a => match d.phys asid a with | some pa => d.poisoned pa | none => false
  let f := leFmt b
  let at' := va + y * leStride b
  if fmtYuv f then
    let s := if f = 3 ∨ f = 4 then 1 else 2
    p (at' + s * x) || p (va2 + (if fmt420 f then y / 2 else y) * leStride b + 2 * s * (x / 2))
  else if f = 0 then (List.range 3).any (fun c => p (at' + 2 * (roundUp (leW b) 32 * c + x)))
  else p (at' + (if f = 1 then 4 else 8) * x)

/-- What one layer shows in a composite: its entry, plane addresses and first faulting line. -/
structure Shown where
  entry : List Byte
  va : Nat
  va2 : Nat
  cut : Nat

/-- Some pixel of a layer that the composite shows lies in a poisoned block. -/
def Dev.layerPoison (d : Dev) (asid w h : Nat) (l : Shown) : Bool :=
  let inside := fun (p : Int) (k n : Nat) => decide (0 ≤ p + k ∧ p + k < (n : Int))
  (List.range (min l.cut (leH l.entry))).any (fun y => inside (leY l.entry) y h
    && (List.range (leW l.entry)).any (fun x => inside (leX l.entry) x w && d.pixelPoison asid l.entry l.va l.va2 x y))

/-- A composite pixel (R277). -/
def Dev.mixPixel (d : Dev) (asid : Nat) (bg : List Nat) (ls : List Shown) (x y c : Nat) : Int :=
  ls.foldl (fun below l =>
    let lx := (x : Int) - leX l.entry
    let ly := (y : Int) - leY l.entry
    if lx < 0 || (leW l.entry : Int) ≤ lx || ly < 0 || (leH l.entry : Int) ≤ ly || (l.cut : Int) ≤ ly then below
    else
      let lx := lx.toNat
      let ly := ly.toNat
      if d.pixelPoison asid l.entry l.va l.va2 lx ly then below
      else
        let (s, a) := d.layerPixel asid l.entry l.va l.va2 lx ly
        blend (bit (field l.entry 1 1) 0) (leGa l.entry) a (s c) below) (bg.getD c 0 : Int)

/-- Check every region of a composite in turn where the frame is checked, and act (R293, R294): the device, the substitutions
and whether the frame is safe, and the number of mismatches. A latched action applies until the next ARM, also after DISARM. -/
def Dev.mixGuards (d : Dev) (i : Nat) (f : CompFrame) (px : Nat → Nat → Nat → Nat) : Dev × List Region × Bool × List Nat :=
  let x := d.mix i
  let flags := match x.recs.find? (fun r => r.oframe = f.oframe) with | some r => r.flags | none => 0
  let checks := f.epoch == some x.guards.epoch
  x.guards.regions.zipIdx.foldl (fun acc e =>
    let (d, sub, safe, bad) := acc
    let (r, g) := e
    let sig := compSig r px
    let k := if checks then r.check sig (mayLearn f.marks flags) else { region := r }
    let d := d.mixMod i (fun x => { x with guards := { x.guards with regions := x.guards.regions.set g k.region } })
    let d := if k.bad then d.guardReport kCompositor i g (mixPlace i) k sig else d
    let acts := k.bad || r.latched
    (d, if acts && r.action = 1 then sub ++ [r] else sub, safe || (acts && r.action = 2), if k.bad then bad ++ [g] else bad))
    (d, [], false, [])

/-- A stopped compositor: its leases are returned and its stop commands complete (R308). -/
def Dev.mixEnd (d : Dev) (i : Nat) (seqs : List Nat) (notes : Nat) (lst : List Byte) : Dev :=
  let x := d.mix i
  let d := d.mixMod i (fun x => { x with running := false, cur := none, stops := [], staged := [] })
  let d := ((d.fset (fMixStatState i) 0).dropLeases kCompositor i).freeStartUp kCompositor i
  seqs.foldl (fun d q => d.finish q { dw0 := x.lastDone.getD allOnes32, dg0 := x.lastDone.getD allOnes64, dg1 := i,
                                      notes := notes, list := lst }) d

/-- A die link of the compositor's die is down: its composites are not released, so that outputs repeat their last good
frame (R27). -/
def Dev.mixCut (d : Dev) (i : Nat) : Bool := d.lanes.dieDown.any (fun l => l = 2 || l = i / 2)

/-- COMPOSITE_RELEASE: the composite in progress is complete; it is written, guarded and released to its readers. -/
def compositeRelease (i : Nat) (d : Dev) : Dev :=
  let x := d.mix i
  match x.cur with
  | none => d
  | some f =>
    if d.mixCut i then
      let d := (d.mixMod i (fun x => { x with cur := none, recs := modRec x.recs f.oframe (fun r => r.set oAborted) })).finc (fMixStatAbort i)
      let d := d.retireLeases kCompositor i f.oframe
      if x.stops.isEmpty then d else d.mixEnd i x.stops 0 []
    else
    let on := (List.range 16).filter (fun k => leOn (f.layers.getD k []) && !f.absent.contains k && (k != 0 || f.base.isSome))
    -- reads that fault: one report each, and the layer is transparent from that line on
    let (d, faults) := on.foldl (fun (acc : Dev × List (Nat × Nat)) k =>
      let b := f.layers.getD k []
      let (va, va2) := acc.1.layerVa x.asid b
      match acc.1.layerFault x.asid x.height b va va2 with
      | some (y, a, sub) => (acc.1.xlatFault (.compositor i k) true false x.asid a sub 0, acc.2 ++ [(k, y)])
      | none => acc) (d, [])
    let shown := on.map (fun k =>
      let b := f.layers.getD k []
      let (va, va2) := d.layerVa x.asid b
      let s : Shown := { entry := b, va := va, va2 := va2, cut := (tget faults k).getD (leH b) }
      s)
    let poisoned := (on.zip shown).filterMap (fun e => if d.layerPoison x.asid x.width x.height e.2 then some e.1 else none)
    let bad := (faults.map (·.1) ++ poisoned.filter (fun k => (tget faults k).isNone))
    let px := fun (X Y c : Nat) => (d.mixPixel x.asid x.bg shown X Y c).toNat
    let detail := (bad.map (2 ^ ·)).sum
    let d := if bad.isEmpty then d else d.mixMod i (fun x => { x with recs := modRec x.recs f.oframe (fun r =>
      { (r.set oLayerFault) with detail := r.detail ||| detail }) })
    let absentOrBad := !bad.isEmpty || !f.absent.isEmpty
    let d := if absentOrBad then d.finc (fMixStatLayerf i) else d
    let (d, sub, safe, bads) := d.mixGuards i f px
    let mism := !bads.isEmpty
    let d := if mism then d.finc (fMixStatGuard i) else d
    let img := fun (r : Region) => match tget d.vid.images r.subst with | some m => m.data | none => []
    let final := fun (X Y c : Nat) =>
      match sub.find? (fun r => r.x ≤ X && X < r.x + r.w && r.y ≤ Y && Y < r.y + r.h) with
      | some r => field (img r) ((Y - r.y) * rgbPitch r.w + 2 * (roundUp r.w 32 * c + (X - r.x))) 2
      | none => px X Y c
    let flags := (if mism then oGuard else 0) + (if sub.isEmpty then 0 else oSubst) + (if safe then oSafe else 0)
      + (if f.late then oLate else 0)
    let d := d.mixMod i (fun x => { x with cur := none, recs := modRec x.recs f.oframe (fun r => r.set flags) })
    let d := match d.buf f.buf with
      | none => d
      | some m =>
        match d.rangeFault true m.asid m.va (rgbPitch x.width * x.height) true with
        | some (va, s) =>
          -- writes that fault are dropped, and the composite is not released
          let d := (d.xlatFault (.compositor i 255) true true m.asid va s 0).finc (fMixStatAbort i)
          d.mixMod i (fun x => { x with recs := modRec x.recs f.oframe (fun r => r.set oAborted) })
        | none =>
          let d := (List.range x.height).foldl (fun (d : Dev) y =>
            d.vwrite (.compositor i 255) m.asid (m.va + y * rgbPitch x.width) (rgbLine x.width (fun X c => final X y c))) d
          d.mixMod i (fun x => { x with
            lastDone := some f.oframe,
            out := some { buf := f.buf, oframe := f.oframe, src := f.src, marks := f.marks, oflags := flags, tf := f.tf,
                          width := x.width, height := x.height, safe := safe, time := f.time, tmeta := f.tmeta } })
    let d : Dev := if (Dev.mix d i).lastDone = some f.oframe then Dev.feedComposite d i else d
    let d := d.retireLeases kCompositor i f.oframe
    if x.stops.isEmpty then d else d.mixEnd i x.stops 0 []

/-- STOP_NOW of a compositor: the composite in progress is discarded and listed (Table CF-11). -/
def Dev.mixStopNow (d : Dev) (i : Nat) (earlier : List Nat) (note : Nat) (now : Option Nat) : Dev :=
  let x := d.mix i
  let lst := match x.cur with | some f => listEntry [f.oframe] | none => []
  let d := match x.cur with
    | some f => d.mixMod i (fun x => { x with recs := modRec x.recs f.oframe (fun r => r.set oAborted) })
    | none => d
  let d := d.mixEnd i earlier note (if now.isNone then lst else [])
  match now with
  | some q => d.finish q { dw0 := x.lastDone.getD allOnes32, dg0 := x.lastDone.getD allOnes64, dg1 := i, list := lst }
  | none => d

def stopCompositor (seq : Nat) (d : Dev) : Dev :=
  d.runStop seq kCompositor (fun d c =>
    let i := c.w11
    let x := d.mix i
    if 3 < i || !x.running then d.fail seq stBadHandle
    else
      let d := d.startCmd seq
      if c.stopNow then d.mixStopNow i x.stops noteSuperseded (some seq)
      else if x.cur.isSome then d.mixMod i (fun x => { x with stops := x.stops ++ [seq] })
      else d.mixEnd i (x.stops ++ [seq]) 0 [])

/-- Two frame periods have passed since STOP_AT_BOUNDARY (R308). -/
def Dev.mixTimeout (d : Dev) (i : Nat) : Dev :=
  if (d.mix i).stops.isEmpty then d else d.mixStopNow i (d.mix i).stops noteBoundaryTimeout none

end Sys2Proof.Machine
end

