-- ==== Sys2Proof/Machine/FlowOps.lean ====
section
/-!
DEFINITION. What the flow commands share: rates and placement on ports, the samples of a frame, and its records
(R280, R284 to R289, R297 to R302, R407).
-/
set_option autoImplicit false

namespace Sys2Proof.Machine

def flowPlace (n : Nat) : Place := quadPlace (n / 128) (1 + n / 32 % 4)
def spoutUnit (n : Nat) : TUnit := .spout (n / 32)
def Dev.flowSt (d : Dev) (n : Nat) : Nat := d.fget (fSptFlowCfgState n)
def Dev.flowDesc (d : Dev) (n : Nat) : List Byte := (d.flow n).desc.getD []
def Dev.runningFlows (d : Dev) : List Nat := (tkeys d.vid.flow).filter (fun n => d.flowSt n != 0)

/-! ## Rates (R280, R298) and members (R407) -/

def fracSum (l : List (Nat × Nat)) : Nat × Nat := l.foldl fracAdd (0, 1)

/-- The load of a flow in pixels per second (R280). -/
def Dev.flowLoad (d : Dev) (b : List Byte) : Nat × Nat :=
  let (p, q) := d.tframe (fdTrg b)
  ((4 * (fdOutW b * fdOutH b) + fdCropW b * fdCropH b) * 1000000000 * q, 4 * p)

/-- The load that a running flow has, or will have once its staged descriptor applies, whichever is larger. -/
def Dev.heldLoad (d : Dev) (m : Nat) : Nat × Nat :=
  let a := d.flowLoad (d.flowDesc m)
  match (d.flow m).staged with
  | some b => let s := d.flowLoad b; if a.1 * s.2 ≤ s.1 * a.2 then s else a
  | none => a

/-- The load of a spout, flow `n` counted with the descriptor given. -/
def Dev.spoutLoad (d : Dev) (s : Nat) (n : Nat) (b : Option (List Byte)) : Nat × Nat :=
  fracSum ((((d.runningFlows).filter (fun m => m / 32 == s && m != n)).map d.heldLoad)
    ++ (match b with | some b => [d.flowLoad b] | none => []))

def loadFits (l : Nat × Nat) : Bool := l.1 ≤ 4500000000 * l.2

def Dev.showLoad (d : Dev) (s : Nat) : Dev :=
  let (a, b) := d.spoutLoad s 512 none
  d.fset (fSptLoadLoad s) (a / (b * 1000000))

/-- Bytes of an ST 291 packet with `n` user data words in RFC 8331 form. -/
def st291Bytes (n : Nat) : Nat := 4 + (10 * (n + 4) + 31) / 32 * 4

/-- Axes whose samples go into frame metadata (R483). -/
def Dev.metaAxes (d : Dev) : List Nat := (List.range 32).filter (fun a => d.flag (fAxCfgMeta a))

/-- Wire bytes of a packet with a payload: Ethernet, IPv4, UDP, RTP, payload header, FCS, preamble and gap, and the tag. -/
def wireBytes (tag : Bool) (payload : Nat) : Nat := 86 + payload + (if tag then 4 else 0)

/-- Wire bytes of a frame's video packets, and of its ancillary packet. -/
def videoWire (b : List Byte) (tag : Bool) : Nat :=
  let len := lineLen (fdSamp b) (fdDepth b) (fdOutW b)
  fdOutH b * (len / 1200 * wireBytes tag 1200 + (if len % 1200 = 0 then 0 else wireBytes tag (len % 1200)))
def Dev.ancWire (d : Dev) (tag : Bool) : Nat :=
  let m := d.metaAxes.length
  wireBytes tag (st291Bytes 16 + st291Bytes 20 + (if m = 0 then 0 else st291Bytes (8 + 5 * m)))

/-- Peak rate in bits per second of wire bytes per frame: RACTIVE is 0.96 for every height (R297, R298). -/
def Dev.peak (d : Dev) (b : List Byte) (bytes : Nat) : Nat × Nat :=
  let (p, q) := d.tframe (fdTrg b)
  (bytes * 8 * 1000000000 * q * 100, p * 96)

/-- Streams of a flow: port and peak rate, video before ancillary, primary before secondary. -/
def Dev.flowStreams (d : Dev) (b : List Byte) : List (Nat × (Nat × Nat)) :=
  let tagP := bit (field b 0x38 2) 15
  let tagS := bit (field b 0x3A 2) 15
  let s := fdSecPort b
  if fdDest b ≠ 0 then []
  else [(fdPort b, d.peak b (videoWire b tagP))]
    ++ (if s = 255 then [] else [(s, d.peak b (videoWire b tagS))])
    ++ (if fdAnc b then (fdPort b, d.peak b (d.ancWire tagP)) ::
          (if s = 255 then [] else [(s, d.peak b (d.ancWire tagS))]) else [])

/-- Members of a port and 95 % of a member's rate in bits per second. -/
def Dev.portMembers (d : Dev) (p : Nat) : Nat × Nat :=
  match d.proto (firstLane p) with | 1 => (1, 380000000000) | 2 => (4, 95000000000) | 3 => (4, 23750000000) | _ => (0, 0)

/-- Rates placed on a member of a port by flows and audio streams. -/
def Dev.placed (d : Dev) (skip : Nat) : List (Nat × Nat × Nat × Nat) :=
  ((d.vid.flow.filter (fun e => e.1 != skip)).flatMap (fun e => e.2.place)) ++ (tvals d.aud.stream).flatMap (·.place)

def memberSum (l : List (Nat × Nat × Nat × Nat)) (p m : Nat) : Nat × Nat :=
  fracSum ((l.filter (fun e => e.1 == p && e.2.1 == m)).map (fun e => e.2.2))

def fracLe (a : Nat × Nat) (cap : Nat) : Bool := a.1 ≤ cap * a.2

/-- Place streams one after the other: on the member held already, or on the lowest-numbered member with room; none when
one finds no room (R407). -/
def Dev.placeStreams (d : Dev) (others : List (Nat × Nat × Nat × Nat)) :
    List (Nat × (Nat × Nat)) → List Nat → List (Nat × Nat × Nat × Nat) → Option (List (Nat × Nat × Nat × Nat))
  | [], _, acc => some acc
  | (p, r) :: rest, held, acc =>
    let (n, cap) := d.portMembers p
    let ms := match held with | m :: _ => [m] | [] => List.range n
    match ms.find? (fun m => fracLe (fracAdd (memberSum (others ++ acc) p m) r) cap) with
    | some m => d.placeStreams others rest held.tail (acc ++ [(p, m, r.1, r.2)])
    | none => none

/-- A placed path may send: its member has been up for 100 ms (R424). -/
def Dev.pathUp (d : Dev) (e : Nat × Nat × Nat × Nat) : Bool := (d.portX e.1).resumed.contains e.2.1

/-- The video paths of a flow: 0 primary, 1 secondary. -/
def Flow.paths (f : Flow) : List (Nat × (Nat × Nat × Nat × Nat)) :=
  let b := f.desc.getD []
  (f.place.take (if fdSecPort b = 255 then 1 else 2)).zipIdx.map (fun e => (e.2, e.1))

/-! ## Registers -/

/-- Show a flow's configuration in SPT_FLOW_CFG. -/
def Dev.showFlow (d : Dev) (n : Nat) : Dev :=
  let f := d.flow n
  let b := f.desc.getD []
  d.fsets [(fSptFlowCfgDest n, fdDest b), (fSptFlowCfgHold n, (fdHold b && fdDest b == 0).toNat), (fSptFlowCfgPort n, fdPort b),
    (fSptFlowCfgSecport n, if f.desc.isNone || fdSecPort b = 255 then 7 else fdSecPort b), (fSptFlowCfgSrc n, fdSrc b),
    (fSptFlowCfgTrg n, fdTrg b), (fSptFlowCfgSafeimg n, f.safeImg.isSome.toNat), (fSptFlowCfgArmed n, f.guards.armed.toNat),
    (fSptFlowCfgNguard n, f.guards.regions.length)]

/-! ## Samples of a frame -/

/-- First and last column or row of the composite that a direction's filter reads, mirrored at the edges (R284). -/
def readSpan (taps crop step out n : Nat) : Nat × Nat :=
  let lo := (srcPos crop step 0).1 - taps / 2 + 1
  let hi := (srcPos crop step (out - 1)).1 - taps / 2 + taps
  let last : Int := n - 1
  ((max 0 (min lo (2 * last - hi))).toNat, (min last (max hi (-lo))).toNat)

/-- The rows of the composite that output line `y` reads. -/
def readRows (taps crop step n y : Nat) : List Nat :=
  (List.range taps).map (fun (t : Nat) => mirror n ((srcPos crop step y).1 - taps / 2 + 1 + (t : Nat)))

/-- The first output line for which the spout's reads of the composite fault, with the address and the subcause. -/
def Dev.flowFault (d : Dev) (b : List Byte) (s : ScaleProfile) (o : Released) (m : Mapping) : Option (Nat × Nat × Nat) :=
  let (lo, hi) := readSpan s.th (fdCropX b) (fdStepX b) (fdOutW b) o.width
  (List.range (fdOutH b)).findSome? (fun y => (readRows s.tv (fdCropY b) (fdStepY b) o.height y).findSome? (fun r =>
    (List.range 3).findSome? (fun c =>
      (d.rangeFault true m.asid (m.va + r * rgbPitch o.width + 2 * (roundUp o.width 32 * c + lo)) (2 * (hi + 1 - lo)) false).map
        (fun e => (y, e.1, e.2)))))

/-- A pixel of a composite as a spout reads it for an output line: from the line of a fault on, and in poisoned blocks, zero
(R156). -/
def Dev.flowSrcPx (d : Dev) (f : FlowFrame) (line x y c : Nat) : Int :=
  match f.src with
  | none => 0
  | some o => match d.buf o.buf with
    | none => 0
    | some m =>
      let a := m.va + y * rgbPitch o.width + 2 * (roundUp o.width 32 * c + x)
      if (match f.fault with | some k => decide (k ≤ line) | none => false) || (match d.phys m.asid a with | some pa => d.poisoned pa | none => true) then 0
      else (leNat (d.vread m.asid a 2) : Int)

/-- A pixel of a flow's output: scaled, then tone-mapped where the descriptor says so (R284, R286). -/
def Dev.flowPx (d : Dev) (f : FlowFrame) (x y c : Nat) : Int :=
  match f.src, f.scale with
  | some o, some s =>
    let px := fun (i j k : Nat) => d.flowSrcPx f y i j k
    let out := fun k => scaledPx f.desc s o.width o.height px x y k
    if fdTonemap f.desc then (match f.tone with | some t => tonePx (fdGamut f.desc) o.tf t out c | none => 0)
    else out c
  | _, _ => 0

/-- Transfer-function tag of a flow's frame (R286). -/
def FlowFrame.tag (f : FlowFrame) : Nat := if fdTonemap f.desc then 3 else (f.src.map (·.tf)).getD 0

/-- Put a substitute image over a region of one line of samples. -/
def splice (samp depth : Nat) (r : Region) (img : List Byte) (l : Nat) (line : List Nat) : List Nat :=
  match (regionLines samp r).findIdx? (· == l) with
  | none => line
  | some j =>
    let (s, n) := sampleSpan samp r.x r.w
    let bytes := (n * depth + 7) / 8
    line.take s ++ unpackSamples depth n ((img.drop (j * bytes)).take bytes) ++ line.drop (s + n)

/-- Samples of line (or line pair) `l` of a frame as produced from its composite. -/
def Dev.flowBase (d : Dev) (f : FlowFrame) (l : Nat) : List Nat :=
  lineSamples (fdSamp f.desc) (fdDepth f.desc) (fdOutW f.desc) (f.tag == 3) (fun x y c => d.flowPx f x y c) l

/-- Samples of a line as the flow sends or writes it: of its safe image, of black, or with its substitutes. -/
def Dev.flowLine (d : Dev) (n : Nat) (f : FlowFrame) (l : Nat) : List Nat :=
  let b := f.desc
  let (s, dep, w) := (fdSamp b, fdDepth b, fdOutW b)
  let count := (if s = 0 then 2 * w else 3 * w)
  if f.safe then
    match ((d.flow n).safeImg).bind (tget d.vid.images) with
    | some m => unpackSamples dep count ((m.data.drop (l * lineLen s dep w)).take (lineLen s dep w))
    | none => blackSamples s dep w
  else if f.src.isNone then blackSamples s dep w
  else
    f.subst.foldl (fun line r =>
      splice s dep r (match tget d.vid.images r.subst with | some m => m.data | none => []) l line) (d.flowBase f l)

/-- The packed bytes of a line: those of the hold buffer, or as produced. -/
def Dev.flowBytes (d : Dev) (n : Nat) (f : FlowFrame) (l : Nat) : List Byte :=
  match f.held with
  | some ls => ls.getD l []
  | none => packSamples (fdDepth f.desc) (d.flowLine n f l)

/-- The bytes of a line with the packets from the first black one on black (R302). -/
def blackFrom (f : FlowFrame) (l : Nat) (bs : List Byte) : List Byte :=
  match f.black with
  | none => bs
  | some k =>
    let n := (k - l * linePackets f.desc) * 1200
    bs.take n ++ (packSamples (fdDepth f.desc) (blackSamples (fdSamp f.desc) (fdDepth f.desc) (fdOutW f.desc))).drop n

/-! ## Records and ends of frames -/

def Dev.flowRec (d : Dev) (n o : Nat) (f : OutRec → OutRec) : Dev :=
  d.flowMod n (fun x => { x with recs := modRec x.recs o f })

/-- A NETWORK frame is over: lost frames are counted (R299) and its leases return. -/
def Dev.flowFrameOver (d : Dev) (n : Nat) (f : FlowFrame) : Dev :=
  let prot := fdSecPort f.desc != 255
  let d := if f.lost.isEmpty then d else d.finc (fSptFlowStatPathlost n)
  let d := if f.lost.isEmpty || prot then d else d.finc (fSptFlowStatMissed n)
  (d.retireLeases kFlow n f.oframe).flowMod n (fun x => { x with lastDone := some f.oframe })

/-- The staged configuration comes into force, with its SDP (R281, R301). A MEMORY flow takes the ring that it names. -/
def Flow.applyStaged (x : Flow) : Flow :=
  match x.staged with
  | none => x
  | some b => { x with desc := some b, staged := none, sdp := x.sdpStaged,
                       bufs := if fdDest b = 1 && x.desc.map fdBufs != some (fdBufs b) then fdBufs b else x.bufs }

/-- A flow has stopped: its leases and placements return and its stop commands complete (R308). -/
def Dev.flowEnd (d : Dev) (n : Nat) (seqs : List Nat) (notes : Nat) (lst : List Byte) : Dev :=
  let last := (d.flow n).lastDone
  let d := d.flowMod n (fun x => { x with cur := none, send := none, stops := [], place := [], nextAct := [],
                                           good := none }.applyStaged)
  let d := (((d.fset (fSptFlowCfgState n) 0).dropLeases kFlow n).freeStartUp kFlow n).showFlow n
  let d := d.showLoad (n / 32)
  seqs.foldl (fun d q => d.finish q { dw0 := last.getD allOnes32, dg0 := last.getD allOnes64, dg1 := n, notes := notes, list := lst }) d

end Sys2Proof.Machine
end

