-- ==== Sys2Proof/Machine/Motion.lean ====
section
/-!
DEFINITION. Capture units (R457, R458), GPIO lines (R554) and motion axes (R474 to R484).
-/
set_option autoImplicit false

namespace Sys2Proof.Machine

/-! ## GPIO lines (R554)

A source is a trigger unit `t` (number t) or an axis compare `a` (number 32 + a). A line is driven while a source names
it; the polarity is that of the source that enabled it first. -/

/-- Name a line by a source with its polarity, or take the source's name off every line. -/
def Dev.gpioName (d : Dev) (src : Nat) (line : Option (Nat × Bool)) : Dev :=
  let off := tmap d.pins.gpioSrc (fun n l => if line.map (·.1) == some n then l else l.filter (fun e => e.1 != src))
  let src' := match line with
    | some (n, pol) =>
      let l := tgetD off n []
      tput off n (if l.any (fun e => e.1 == src) then l.map (fun e => if e.1 = src then (src, pol) else e) else l ++ [(src, pol)])
    | none => off
  let old := tmap d.pins.gpioOn (fun n l => if line.map (·.1) == some n then l else l.filter (· != src))
  { d with pins := { d.pins with gpioSrc := src', gpioOn := old } }

/-- A pulse of a source begins or ends on the line that it names. -/
def Dev.gpioPulse (d : Dev) (src line : Nat) (on : Bool) : Dev :=
  let l := (tgetD d.pins.gpioOn line []).filter (· != src)
  { d with pins := { d.pins with gpioOn := tput d.pins.gpioOn line (if on then l ++ [src] else l) } }

/-- A pulse that a source began still lasts: that of a trigger unit until TRIGGER_PULSE_END, that of the compare of
axis `src - 32` for WIDTH × 10 ns after it fired (AX_CMP_CTL, R481). -/
def Dev.gpioLasts (d : Dev) (src : Nat) : Bool :=
  src < 32 || decide (d.nowNs < (tgetD d.axes (src - 32) {}).cmpTime + 10 * d.fget (fAxCmpCtlWidth (src - 32)))

/-- The level of a driven line: the OR of the pulses of the sources that name it, inverted when the first source's POL
says so; none when the line is not driven (R554). -/
def Dev.gpioLevel (d : Dev) (line : Nat) : Option Bool :=
  match tgetD d.pins.gpioSrc line [] with
  | [] => none
  | (_, pol) :: _ => some ((tgetD d.pins.gpioOn line []).any d.gpioLasts != pol)

/-! ## Capture units -/

def Dev.capU (d : Dev) (c : Nat) : CapUnit := tgetD d.cap c {}
def Dev.setCap (d : Dev) (c : Nat) (f : CapUnit → CapUnit) : Dev := { d with cap := tmod d.cap c {} f }

/-- SRC selects a source (Table TT-5). -/
def capSrcValid (s : Nat) : Bool := s < 0x44 || (0x50 ≤ s && s < 0x91)

/-- EDGE takes rising (bit 0) or falling (bit 1) edges. -/
def capEdgeOn (edge : Nat) (rising : Bool) : Bool := if rising then bit edge 0 else bit edge 1

/-- CAPTURE_EDGE: a source shows a new level, held for `held` ticks so far. It counts once held for FILT ticks, is
stamped at the tick of the new level, dropped under MINGAP or when 16 stamps are held (R457, R458). -/
def captureEdge (c : Nat) (rising : Bool) (held : Nat) (d : Dev) : Dev :=
  if !d.flag (fCapCfgEn c) || !capSrcValid (d.fget (fCapCfgSrc c)) || !capEdgeOn (d.fget (fCapCfgEdge c)) rising
      || held < d.fget (fCapCfgFilt c) then d
  else
    let t := ((d.time.count - BitVec.ofNat 96 (held * d.time.inc.toNat)) >>> 32).toNat
    let u := d.capU c
    let gap := d.fget (fCapCfgMingap c) * 1000
    let early := match u.lastAccepted with
      | some l => decide (t < l + gap)
      | none => false
    if early && gap != 0 then
      (d.finc (fCapStatGap c)).sumpInput (ioPlace 7 0 noSlice) 13 c t
    else
      let d := d.setCap c (fun u => { u with lastAccepted := some t, timedOut := false })
      if 16 ≤ u.stamps.length then d.finc (fCapStatOvf c)
      else
        let d := d.setCap c (fun u => { u with stamps := u.stamps ++ [(t, rising)] })
        d.fset (fCapStatLevel c) (u.stamps.length + 1)

/-- CAPTURE_POP: a read of CAP_TS_LO removes the oldest stamp and latches its upper half with the edge; an empty unit
reads 0 (R458). The registers then show the stamp that the read returned. -/
def capturePop (c : Nat) (d : Dev) : Dev :=
  match (d.capU c).stamps with
  | [] => d.fsets [(fCapTsLoTs c, 0), (fCapTsHiTs c, 0)]
  | (t, rising) :: rest =>
    let d := d.setCap c (fun u => { u with stamps := rest })
    let hi := (if rising then 2147483648 else 0) + t / 4294967296 % 2147483648
    d.fsets [(fCapTsLoTs c, t), (fCapTsHiTs c, hi), (fCapStatLevel c, rest.length)]

/-- CAP_TIMEOUT: no edge has been accepted within CAP_TOUT ns: the event is raised once until a further edge (R458). -/
def capTimeout (c : Nat) (d : Dev) : Dev :=
  let u := d.capU c
  let tout := d.fget (fCapToutTout c)
  let ref := u.lastAccepted.getD u.since
  if !d.flag (fCapCfgEn c) || tout == 0 || u.timedOut || decide (d.nowNs < ref + tout) then d else
  let d := d.setCap c (fun u => { u with timedOut := true })
  let d := d.post 0x4B 0 c (ioPlace 7 0 noSlice) (le 1 c ++ le 8 ref)
  d.sumpInput (ioPlace 7 0 noSlice) 13 c ref

/-! ## Motion axes -/

def axPlace : Place := ioPlace 7 2 noSlice
def Dev.axis (d : Dev) (a : Nat) : Axis := tgetD d.axes a {}
def Dev.setAxis (d : Dev) (a : Nat) (f : Axis → Axis) : Dev := { d with axes := tmod d.axes a {} f }

/-- HYST with 0 treated as 4, AVG with larger values treated as 4, FILT with 0 treated as 1, STILL with 0 as 1 (R488). -/
def Dev.axHyst (d : Dev) (a : Nat) : Nat := if d.fget (fAxCfgHyst a) = 0 then 4 else d.fget (fAxCfgHyst a)
def Dev.axAvg (d : Dev) (a : Nat) : Nat := min 4 (d.fget (fAxCfgAvg a))
def Dev.axFilt (d : Dev) (a : Nat) : Nat := max 1 (d.fget (fAxCfgFilt a))
def Dev.axStillUs (d : Dev) (a : Nat) : Nat := max 1 (d.fget (fAxStillStill a))

def Dev.axCounting (d : Dev) (a : Nat) : Bool := d.fget (fAxCfgState a) == 1

/-- A speed of magnitude `m`, signed by DIR and saturating (R478). -/
def Dev.setSpeed (d : Dev) (a m : Nat) : Dev :=
  d.fset (fAxSpeedSpeed a) (if d.flag (fAxStatDir a) then trunc 32 (-(min m 2147483648 : Nat)) else min m 2147483647)

/-- Magnitude of AX_SPEED. -/
def Dev.speedMag (d : Dev) (a : Nat) : Nat := (sext 32 (d.fget (fAxSpeedSpeed a))).natAbs

/-- What software makes of a read of AX_POS: the extended position from the last one and the last read (R476). -/
def axExtend (ext : Int) (last now : Nat) : Int := ext + sext 32 (now + 4294967296 - last)

/-- The compare fires: ARM clears, FIRED sets, the time of the count is latched, AX_CMP is raised and the line is
driven (R481). -/
def Dev.axFire (d : Dev) (a t : Nat) : Dev :=
  let target := (d.axis a).armed.getD 0
  let d := d.setAxis a (fun x => { x with armed := none, fireNow := false, cmpTime := t })
  let d := d.fsets [(fAxCmpCtlArm a, 0), (fAxCmpCtlFired a, 1), (fAxCmpTimeLoTime a, t)]
  let d := d.post 0x5A kAxis a axPlace (le 1 a ++ le 4 target ++ le 8 t)
  if d.flag (fAxCmpCtlPinEn a) then d.gpioPulse (32 + a) (d.fget (fAxCmpCtlPin a)) true else d

/-- A run edge at time t (R478): edge 1 clears the speed; later edges set it over min(2^AVG, n − 1) intervals. -/
def Dev.runEdge (d : Dev) (a t : Nat) (first : Bool) : Dev :=
  let x := d.axis a
  let n := if first then 1 else x.edges + 1
  let run := if first then [t] else (t :: x.run).take 17
  let d := d.setAxis a (fun x => { x with run := run, edges := n })
  if n = 1 then (d.fset (fAxSpeedSpeed a) 0).fset (fAxStatValid a) 0
  else
    let m := min (2 ^ d.axAvg a) (n - 1)
    match run[m]? with
    | some t0 => (d.setSpeed a (m * 1000000000 / (t - t0))).fset (fAxStatValid a) 1
    | none => d

/-- One count of an axis, +1 or −1, at time t: position, direction and run, and the compare (R475, R477, R479, R481). -/
def Dev.axCount (d : Dev) (a : Nat) (neg : Bool) (t : Nat) : Dev :=
  let pos := (d.fget (fAxPosPos a) + (if neg then 4294967295 else 1)) % 4294967296
  let d := d.fset (fAxPosPos a) pos
  let still := d.flag (fAxStatStill a)
  let d := (d.fset (fAxStatStill a) 0).setAxis a (fun x => { x with lastCount := t })
  let agrees := d.flag (fAxStatDir a) == neg
  let d :=
    if agrees then
      let d := d.setAxis a (fun x => { x with opp := 0 })
      d.runEdge a t still
    else
      let opp := (d.axis a).opp + 1
      if d.axHyst a ≤ opp then
        let d := d.setAxis a (fun x => { x with opp := 0, idxVoid := true })
        let d := d.fsetb (fAxStatDir a) neg
        let d := d.finc (fAxStatReversals a)
        d.runEdge a t true
      else
        let d := d.setAxis a (fun x => { x with opp := opp, run := if still then [] else x.run, edges := if still then 0 else x.edges })
        d
  if (d.axis a).armed == some pos then d.axFire a t else d

/-- AXIS_COUNT: filtered edges are confirmed on one filter clock, at time t: in mode 0 a rising edge of A with the level
of B, in mode 1 rising edges of A and B; both on one clock cancel and count in COLL (R474, R475, R485). -/
def axisCount (a : Nat) (e : AxisEdge) (t : Nat) (d : Dev) : Dev :=
  if !d.axCounting a then d else
  let d := if (d.axis a).fireNow then d.axFire a t else d
  if !d.flag (fAxCfgMode a) then
    if e.aRise then d.axCount a (e.bLevel != d.flag (fAxCfgDirinv a)) t else d
  else if e.aRise && e.bRise then
    (((d.axCount a false t).axCount a true t).finc (fAxStatColl a)).sumpInput axPlace 6 a (d.fget (fAxPosPos a))
  else if e.aRise then d.axCount a false t
  else if e.bRise then d.axCount a true t
  else d

/-- SPEED_DECAY: every 1 µs, while no run edge has arrived for longer than the mean interval, the magnitude falls to
floor(10⁹ ÷ (now − tₙ)) (R478). -/
def speedDecay (a now : Nat) (d : Dev) : Dev :=
  let x := d.axis a
  if !d.axCounting a || !d.flag (fAxStatValid a) then d else
  let m := min (2 ^ d.axAvg a) (x.edges - 1)
  match x.run[0]?, x.run[m]? with
  | some tn, some t0 =>
    if (tn - t0) < m * (now - tn) then d.setSpeed a (min (d.speedMag a) (1000000000 / (now - tn))) else d
  | _, _ => d

/-- AXIS_STANDSTILL: no count for STILL µs: STILL, speed 0, VALID and OPP clear, DIR kept (R479); it is the timeout
of the inputs and is logged as one (R511; its value is the time of the last count, log entry 77). -/
def axisStandstill (a now : Nat) (d : Dev) : Dev :=
  if !d.axCounting a || d.flag (fAxStatStill a) || decide (now < (d.axis a).lastCount + d.axStillUs a * 1000) then d else
  let d := d.setAxis a (fun x => { x with opp := 0, run := [], edges := 0, idxVoid := true })
  (d.fsets [(fAxStatStill a, 1), (fAxSpeedSpeed a, 0), (fAxStatValid a, 0)]).sumpInput axPlace 6 a (d.axis a).lastCount

/-- AXIS_INDEX_EDGE: with EN set, an index edge latches the position and the signed count since the previous edge, which
is checked against NOM ± TOL unless a reversal or standstill came between (R480, R485). -/
def axisIndexEdge (a : Nat) (d : Dev) : Dev :=
  if !d.flag (fAxIdxCfgEn a) || !d.axCounting a then d else
  let pos := d.fget (fAxPosPos a)
  let x := d.axis a
  let d := d.fset (fAxIdxPosValue a) pos
  let d := d.setAxis a (fun x => { x with idx := some pos, idxVoid := false })
  match x.idx with
  | none => d
  | some prev =>
    let cnt := sext 32 (pos + 4294967296 - prev)
    let d := d.fset (fAxIdxCntValue a) (trunc 32 cnt)
    let nom := d.fget (fAxIdxCfgNom a)
    let tol := d.fget (fAxIdxCfgTol a)
    let ok := decide (nom ≤ cnt.natAbs + tol) && decide (cnt.natAbs ≤ nom + tol)
    if x.idxVoid || ok then d else
      let d := (d.fset (fAxStatIdxerr a) 1).finc (fAxStatIdxerrs a)
      let d := d.post 0x58 kAxis a axPlace (le 1 a ++ le 4 (trunc 32 cnt) ++ le 4 nom)
      d.sumpInput axPlace 6 a (trunc 64 cnt)

/-- AXIS_COMPARE_ARM: ARM = 1 arms the compare with AX_CMP as Table AM-4 says: at the target it fires at the next filter
clock; with the target behind a moving axis it is LATE at once and stays armed (R481). -/
def axisCompareArm (a : Nat) (d : Dev) : Dev :=
  if !d.axCounting a then d else
  let target := d.fget (fAxCmpTarget a)
  let pos := d.fget (fAxPosPos a)
  let dd := sext 32 (target + 4294967296 - pos)
  let d := (d.fset (fAxCmpCtlArm a) 1).setAxis a (fun x => { x with armed := some target, fireNow := decide (dd = 0) })
  if dd = 0 || d.flag (fAxStatStill a) || (decide (dd < 0) == d.flag (fAxStatDir a)) then d
  else
    let d := d.fset (fAxCmpCtlLate a) 1
    d.post 0x59 kAxis a axPlace (le 1 a ++ le 4 target ++ le 4 pos)

/-- The flags of a sample: VALID, DIR, STILL, IDXERR in bits 0 to 3 (AX_SMP_FLAGS). -/
def Dev.axFlags (d : Dev) (a : Nat) : Nat :=
  d.fget (fAxStatValid a) + 2 * d.fget (fAxStatDir a) + 4 * d.fget (fAxStatStill a) + 8 * d.fget (fAxStatIdxerr a)

/-- An axis latches its sample at a pulse of its trigger unit (R482). -/
def Dev.axSample (d : Dev) (a t : Nat) : Dev :=
  let s := (d.fget (fAxPosPos a), d.axFlags a, t)
  (d.setAxis a (fun x => { x with sample := some s, history := (s :: x.history).take 64 })).fset (fAxSmpPosPos a) s.1

/-- AXIS_SAMPLE_READ: a read of AX_SMP_POS latches the matching time and flags (R482, R488). -/
def axisSampleRead (a : Nat) (d : Dev) : Dev :=
  match (d.axis a).sample with
  | none => d
  | some (p, f, t) =>
    d.fsets [(fAxSmpPosPos a, p), (fAxSmpTimeLoTime a, t), (fAxSmpTimeHiTime a, t / 4294967296),
      (fAxSmpFlagsValid a, f), (fAxSmpFlagsDir a, f / 2), (fAxSmpFlagsStill a, f / 4), (fAxSmpFlagsIdxerr a, f / 8)]

/-- AX_CMP_TIME_READ: a read of the lower half latches the upper half (R488). -/
def axCmpTimeRead (a : Nat) (d : Dev) : Dev := d.fset (fAxCmpTimeHiTime a) ((d.axis a).cmpTime / 4294967296)

/-- START PERIPHERAL of an axis: counting resumes from the held position at standstill, STILL set
(R479, R484). -/
def startMotionAxis (seq : Nat) (d : Dev) : Dev :=
  d.runStart seq 0xC8 (fun d c =>
    let a := c.sqe.cdw11.toNat
    if c.sqe.cdw10.toNat % 256 != kAxis then d
    else if 32 ≤ a then d.fail seq stBadHandle
    else if d.axCounting a then d.fail seq stBusy
    else
      let d := d.fsets [(fAxCfgState a, 1), (fAxStatStill a, 1), (fAxSpeedSpeed a, 0), (fAxStatValid a, 0)]
      let d := d.setAxis a (fun x => { x with run := [], edges := 0, opp := 0, idx := none, idxVoid := false, lastCount := d.nowNs })
      ((d.startCmd seq).markCreated kAxis a seq).okOther seq c 0)

/-- An axis stops: position held, compare disarmed, and each completion lists the last position (R484). -/
def Dev.axStop (d : Dev) (a : Nat) (seqs : List Nat) (notes : Nat) : Dev :=
  let pos := d.fget (fAxPosPos a)
  let d := (d.fset (fAxCfgState a) 0).fset (fAxCmpCtlArm a) 0
  let d := d.setAxis a (fun x => { x with armed := none, fireNow := false, stops := [] })
  seqs.foldl (fun d q => (d.markChanged kAxis a q).finish q { dw0 := allOnes32, notes := notes, list := padTo 64 (le 4 pos),
                                                              dg0 := allOnes64, dg1 := a }) d

/-- STOP of an axis (R484): STOP_NOW at once; STOP_AT_BOUNDARY at its next sample. -/
def stopMotionAxis (seq : Nat) (d : Dev) : Dev :=
  d.runStop seq kAxis (fun d c =>
    let a := c.w11
    if 31 < a || !d.axCounting a then d.fail seq stBadHandle
    else
      let d := d.startCmd seq
      if c.stopNow then (d.axStop a (d.axis a).stops noteSuperseded).axStop a [seq] 0
      else d.setAxis a (fun x => { x with stops := x.stops ++ [seq] }))

/-- Two periods of TRG have passed since STOP_AT_BOUNDARY (R484). -/
def Dev.axTimeout (d : Dev) (a : Nat) : Dev :=
  if (d.axis a).stops.isEmpty then d else d.axStop a (d.axis a).stops noteBoundaryTimeout

/-- An axis latches its sample at a pulse of its trigger unit, and then stops when a STOP_AT_BOUNDARY waits (R482, R484). -/
def Dev.axPulse (d : Dev) (a t : Nat) : Dev :=
  if !d.axCounting a then d
  else
    let d := d.axSample a t
    if (d.axis a).stops.isEmpty then d else d.axStop a (d.axis a).stops 0

end Sys2Proof.Machine
end

