-- ==== Sys2Proof/Machine/FlowRun.lean ====
section
/-!
DEFINITION. Flows at work: frame starts at trigger pulses, packets, region signatures and memory frames (R270, R295,
R297, R299 to R303, R309).
-/
set_option autoImplicit false

namespace Sys2Proof.Machine

/-- Paths of a flow that are down. -/
def Dev.pathsDown (d : Dev) (n : Nat) : List Nat :=
  ((d.flow n).paths.filter (fun p => !d.pathUp p.2)).map (·.1)

/-- The frame in progress is over at the next pulse: packets that have not left are not sent any more, a HOLD frame passes
to the sender with its lines, and a memory frame that is not complete carries ABORTED. -/
def Dev.flowClose (d : Dev) (n t : Nat) : Dev :=
  let x := d.flow n
  let d := match x.send with
    | some f => (if f.pkt < framePackets f.desc then d.flowFrameOver n f else d).flowMod n (fun x => { x with send := none })
    | none => d
  match x.cur with
  | none => d
  | some f =>
    let d := d.flowMod n (fun x => { x with cur := none })
    if fdDest f.desc = 1 then
      let d := (d.retireLeases kFlow n f.oframe).finc (fSptFlowStatMissed n)
      d.flowRec n f.oframe (fun r => r.set oAborted)
    else if fdHold f.desc then
      let ls := (List.range (lineCount (fdSamp f.desc) (fdOutH f.desc))).map (fun l => blackFrom f l (d.flowBytes n f l))
      (d.retireLeases kFlow n f.oframe).flowMod n (fun x => { x with
        send := some { f with held := some ls, tsend := t, pkt := 0, black := none, lost := d.pathsDown n } })
    else if f.pkt < framePackets f.desc then d.flowFrameOver n f
    else d

/-- Regions whose action applies to the frame that starts (R293, R295). -/
def Flow.acting (x : Flow) : List (Nat × Region) :=
  (x.guards.regions.zipIdx.filter (fun e => e.1.latched || x.nextAct.contains e.2)).map (fun e => (e.2, e.1))

/-- A die link between a NETWORK flow's composite, its spout and the packet engine is down (R27). -/
def Dev.flowCut (d : Dev) (n : Nat) : Bool :=
  let b := d.flowDesc n
  fdDest b == 0 && d.lanes.dieDown.any (fun l => l == n / 256 || (l == 2 && fdSrc b / 2 != n / 256))

/-- A frame of a flow cut off by a die link: its last good frame once more, or black without one (R27). -/
def Dev.flowRepeat (d : Dev) (n t : Nat) : Dev :=
  let x := d.flow n
  let b := d.flowDesc n
  let f : FlowFrame := match x.good with
    | some g => { g with oframe := x.next, tstart := t, tsend := t, pkt := 0, lost := d.pathsDown n, epoch := none }
    | none => { oframe := x.next, src := none, desc := b, tstart := t, tsend := t, black := some 0, lost := d.pathsDown n }
  let d := d.flowMod n (fun x => { x with
    next := x.next + 1, cur := some f,
    recs := addRec x.recs { oframe := x.next, src := f.src.bind (·.src), marks := (f.src.map (·.marks)).getD 0,
                            flags := if x.good.isSome then oRepeat else oUnderrun, tstart := t } })
  if x.good.isSome then d else d.finc (fSptFlowStatUnder n)

/-- A frame start of a flow: staged settings apply, and it takes the newest composite (R270, R281, R283). -/
def Dev.flowStart (d : Dev) (n t : Nat) : Dev :=
  let d := d.flowMod n Flow.applyStaged
  let d := (d.showFlow n).showLoad (n / 32)
  if d.flowCut n then d.flowRepeat n t else
  let x := d.flow n
  let b := d.flowDesc n
  let o := x.next
  let sp := d.spout (n / 32)
  let src := ((d.mix (fdSrc b)).out).filter (fun r => !d.absent r.buf)
  let stopped := src.isSome && !(d.mix (fdSrc b)).running
  let key := src.map (fun r => (fdSrc b, r.oframe))
  let rep := key.isSome && key == x.lastSrc
  let mem := fdDest b == 1
  let buf := if mem then x.bufs.find? (fun h => !d.leased h && !d.absent h) else none
  let testing := d.underTest (spoutUnit n)
  let aborted := mem && (buf.isNone || src.isNone || testing)
  let acts := x.acting
  let emerg := !mem && d.flag fSysEmergStatSafe
  let before := emerg || (match src with | some r => r.safe | none => false)
  let safe := before || acts.any (fun e => e.2.action == 2)
  let subst := if safe then [] else (acts.filter (fun e => e.2.action == 1)).map (·.2)
  let noInput := !mem && !safe && (src.isNone || testing)
  let flags := (if rep then oRepeat else 0) + (if stopped then oStopped else 0) + (if safe then oSafe else 0)
    + (if subst.isEmpty then 0 else oSubst) + (if noInput then oUnderrun else 0) + (if aborted then oAborted else 0)
  let scale := tget sp.scale (fdSprof b)
  let fault := match src.bind (fun r => (d.buf r.buf).map (fun m => (r, m))), scale with
    | some (r, m), some s => if safe then none else (d.flowFault b s r m).map (fun e => (m.asid, e))
    | _, _ => none
  let d := match fault with
    | some (asid, _, a, s) => d.xlatFault (.spout n) true false asid a s 0
    | none => d
  let f : FlowFrame := {
    oframe := o, src := src, desc := b, scale := scale, tone := tget sp.tone (fdTprof b), tstart := t,
    tsend := t, black := if noInput then some 0 else none, safe := safe, subst := subst, unchecked := before,
    epoch := x.guards.startEpoch, lost := d.pathsDown n, fault := fault.map (·.2.1), buf := buf }
  let d := d.flowMod n (fun x => { x with
    next := o + 1, nextAct := [], lastSrc := key, cur := if aborted then none else some f,
    bufs := match buf with | some h => if aborted then x.bufs else ringAfter x.bufs h | none => x.bufs,
    recs := addRec x.recs { oframe := o, src := src.bind (·.src), marks := (src.map (·.marks)).getD 0, flags := flags,
                            tstart := t } })
  let d := d.fset (fSptFlowCfgState n) (if stopped then 3 else 1)
  let d := if noInput then d.finc (fSptFlowStatUnder n) else d
  if aborted then d.finc (fSptFlowStatMissed n)
  else
    let d := match src with | some r => d.lease kFlow n o r.buf | none => d
    match buf with | some h => d.lease kFlow n o h | none => d

/-- A pulse of its trigger unit reaches a flow (R270). A flow that stops starts no frame; its HOLD frame is sent first. -/
def Dev.flowPulse (d : Dev) (n t : Nat) : Dev :=
  if d.flowSt n = 0 then d
  else
    let d := d.flowClose n t
    let x := d.flow n
    if x.stops.isEmpty then d.flowStart n t
    else if x.send.isSome then d else d.flowEnd n x.stops 0 []

/-! ## Packets (R297, R299, R300, R302) -/

def rtpStamp (ns : Nat) : Nat := ns * 90000 / 1000000000 % 4294967296

/-- Destination address of a path: video primary and secondary, then ancillary primary and secondary. -/
def streamDst (b : List Byte) (k : Nat) : Nat := field b (0x20 + 4 * k) 4

def unicast (ip : Nat) : Bool := ip / 2 ^ 28 != 14

/-- A destination whose link address is known: multicast, or resolved (R433). -/
def Dev.resolved (d : Dev) (p ip : Nat) : Bool := !unicast ip || (tget (d.portX p).arp ip).isSome

/-- Places of the ancillary streams of a flow, by path. -/
def Flow.ancPaths (x : Flow) : List (Nat × (Nat × Nat × Nat × Nat)) := (x.place.drop x.paths.length).zipIdx.map (fun e => (e.2, e.1))

/-- An ST 291 packet in RFC 8331 form: its 10-bit words are DID, SDID, DATA_COUNT, the data words and a checksum. -/
def ancPacket (did sdid : Nat) (ws : List Byte) : List Byte :=
  let par := fun (v : Nat) => (List.range 8).foldl (fun p i => p != bit v i) false
  let w10 := fun (v : Nat) => v + (if par v then 0x100 else 0x200)
  let words := w10 did :: w10 sdid :: w10 (ws.length % 256) :: ws.map (fun b => w10 b.toNat)
  let sum := words.foldl (fun a w => (a + w % 512) % 512) 0
  let words := words ++ [sum + (if bit sum 8 then 0 else 512)]
  le 4 0 ++ padTo (st291Bytes ws.length - 4) (packBits (words.flatMap (sampleBits 10)) ((words.length * 10 + 7) / 8))

/-- Metadata words of a base frame: the newest sample of each axis at or before its time (R483). -/
def Dev.metaWords (d : Dev) (t : Nat) : List Byte :=
  let ss := d.metaAxes.filterMap (fun a => (((d.axis a).history).find? (fun s => s.2.2 ≤ t)).map (fun s => (a, s)))
  if d.metaAxes.isEmpty then [] else
    le 8 ((ss.map (fun e => e.2.2.2)).foldl max 0) ++ ss.flatMap (fun e =>
      le 1 (e.1 + 32 * (e.2.2.1 % 4) + 128 * (e.2.2.1 / 8 % 2)) ++ le 4 e.2.1)

/-- The payload of a frame's ancillary packet (R300). -/
def Dev.ancData (d : Dev) (f : FlowFrame) (r : OutRec) : List Byte :=
  let m := match f.src with | some o => d.metaWords o.tmeta | none => []
  ancPacket 0x60 0x60 (Config.atcWords ((f.src.map (·.time)).getD allOnes64))
    ++ ancPacket 0x51 0x07 (le 4 f.oframe ++ le 4 (r.src.getD allOnes32) ++ le 4 r.marks ++ le 4 r.flags ++ le 4 r.detail)
    ++ (if m.isEmpty then [] else ancPacket 0x51 0x08 m)

/-- Headers of a packet on a path: video, or with `anc` ancillary (R282, R296). -/
def Dev.pathHead (d : Dev) (b : List Byte) (anc : Bool) (p : Nat × (Nat × Nat × Nat × Nat)) : PathHead :=
  let v := field b (if p.1 = 0 then 0x38 else 0x3A) 2
  { port := p.2.1, member := p.2.2.1, src := d.fget (fEthIpAddr p.2.1), dst := streamDst b (2 * anc.toNat + p.1),
    udpSrc := field b 0x34 2, udpDst := field b (if anc then 0x32 else 0x30) 2,
    tag := if bit v 15 then some (v % 32768) else none, dscp := field b (if p.1 = 0 then 0x3C else 0x3D) 1 }

/-- The frame that a NETWORK flow sends. -/
def Flow.sending (x : Flow) : Option FlowFrame :=
  match x.send with
  | some f => some f
  | none => match x.cur with
    | some f => if fdDest f.desc = 1 || fdHold f.desc then none else some f
    | none => none

/-- Change the frame being sent. -/
def Flow.setSending (x : Flow) (f : FlowFrame) : Flow :=
  if x.send.isSome then { x with send := some f } else { x with cur := some f }

/-- Packets on a path that is down are dropped and counted at its port (R423). -/
def Dev.dropPackets (d : Dev) (ps : List (Nat × (Nat × Nat × Nat × Nat))) : Dev :=
  ps.foldl (fun d p => d.setPortX p.2.1 (fun x => { x with dropped := x.dropped + 1 })) d

/-- PACKET_SEND: the next packet of the frame leaves, or with its line not ready it and all later ones are black; with the
first packet goes the ancillary packet, and the last one ends the frame. -/
def packetSend (n : Nat) (ready : Bool) (d : Dev) : Dev :=
  match (d.flow n).sending with
  | none => d
  | some f =>
    let total := framePackets f.desc
    if total ≤ f.pkt then d
    else
      let under := !ready && f.black.isNone && !f.safe
      let d := if under then (d.finc (fSptFlowStatUnder n)).flowRec n f.oframe (fun r => r.set oUnderrun) else d
      let f := if under then { f with black := some f.pkt } else f
      let x := d.flow n
      let lost := (f.lost ++ (x.paths.filter (fun p => !d.pathUp p.2)).map (·.1)).eraseDups
      let f := { f with lost := lost }
      let up := x.paths.filter (fun p => !lost.contains p.1 && d.resolved p.2.1 (streamDst f.desc p.1))
      let l := f.pkt / linePackets f.desc
      let off := f.pkt % linePackets f.desc * 1200
      let data := ((blackFrom f l (d.flowBytes n f l)).drop off).take 1200
      let pkt : Packet := { paths := up.map (·.1), heads := up.map (d.pathHead f.desc false), pt := field f.desc 0x36 1, ts := rtpStamp f.tsend, line := l, off := off, data := data }
      let d := d.dropPackets (x.paths.filter (fun p => lost.contains p.1))
      let d := if f.pkt = 0 && fdAnc f.desc then
          let r := (x.recs.find? (fun r => r.oframe = f.oframe)).getD { oframe := f.oframe, tstart := f.tstart }
          let anc := x.ancPaths.filter (fun p => !lost.contains p.1 && d.pathUp p.2 && d.resolved p.2.1 (streamDst f.desc (2 + p.1)))
          d.flowMod n (fun x => { x with
            ancSeq := (x.ancSeq + 1) % 4294967296,
            anc := some { paths := anc.map (·.1), heads := anc.map (d.pathHead f.desc true), pt := field f.desc 0x37 1, ts := rtpStamp f.tsend, line := 0, off := 0,
                          data := d.ancData f r } })
        else d
      let d := d.flowMod n (fun x => { x.setSending { f with pkt := f.pkt + 1 } with
        rtp := (x.rtp + 1) % 4294967296, last := some pkt })
      if f.pkt + 1 < total then d
      else
        let d := d.flowFrameOver n f
        let x := d.flow n
        -- a frame sent whole from its composite is what an outage of a die link repeats (R27)
        let whole := f.black.isNone && !f.safe && f.src.isSome && f.held.isNone
        let ls := (List.range (lineCount (fdSamp f.desc) (fdOutH f.desc))).map (d.flowBytes n f)
        let kept : Option FlowFrame := if f.black.isSome || f.safe then x.good else if f.held.isSome then some f
          else if whole then some ({ f with held := some ls } : FlowFrame) else x.good
        let d := d.flowMod n (fun x => { x with send := none, good := kept })
        if !x.stops.isEmpty && (x.send.isNone || x.cur.isNone) then d.flowEnd n x.stops 0 [] else d

/-! ## Region signatures (R291 to R295) -/

/-- FLOW_REGION_SIGNATURE: the last line of region g has been produced; the signature of the lines as produced is learned or
checked, once in a frame. The action applies to a frame in the hold buffer itself, and otherwise to the next frame. A frame
that was safe before is not checked again (R293). -/
def flowRegionSignature (n g : Nat) (d : Dev) : Dev :=
  let x := d.flow n
  match x.cur, x.guards.regions[g]? with
  | some f, some r =>
    if f.epoch != some x.guards.epoch || f.checked.contains g || f.unchecked then d
    else
      let b := f.desc
      let line := fun l => blackFrom f l (packSamples (fdDepth b)
        (if f.src.isNone then blackSamples (fdSamp b) (fdDepth b) (fdOutW b) else d.flowBase f l))
      let sig := flowSig (fdSamp b) (fdDepth b) r line
      let rec' := (x.recs.find? (fun r => r.oframe = f.oframe)).getD { oframe := f.oframe, tstart := f.tstart }
      let k := r.check sig (mayLearn rec'.marks (rec'.flags ||| (f.src.map (·.oflags)).getD 0))
      let held := fdHold b && fdDest b == 0
      let d := d.flowMod n (fun x => { x with
        guards := { x.guards with regions := x.guards.regions.set g k.region },
        cur := some { f with checked := g :: f.checked } })
      if !k.bad then d
      else
        let d := d.guardReport kFlow n g (flowPlace n) k sig
        let d := if rec'.flags &&& oGuard == 0 then d.finc (fSptFlowStatGuard n) else d
        let d := d.flowRec n f.oframe (fun r => { (r.set oGuard) with detail := r.detail ||| 2 ^ g })
        if r.action = 0 then d
        else if !held then d.flowMod n (fun x => { x with nextAct := x.nextAct ++ [g] })
        else if r.action = 1 then
          (d.flowRec n f.oframe (fun r => r.set oSubst)).flowMod n (fun x => { x with
            cur := x.cur.map (fun f => { f with subst := if f.safe || f.subst.contains r then f.subst else f.subst ++ [r] }) })
        else
          (d.flowRec n f.oframe (fun r => r.set oSafe)).flowMod n (fun x => { x with
            cur := x.cur.map (fun f => { f with safe := true }) })
  | _, _ => d

/-! ## Memory frames (R303) -/

/-- Luma and chroma containers of line (or line pair) `l`: offset in the buffer and values. An RGB frame has one plane per
colour (log entry 68: the rule names a luma plane and a chroma plane only). -/
def planeLines (b : List Byte) (l : Nat) (s : List Nat) : List (Nat × List Nat) :=
  let w := fdOutW b
  let h := fdOutH b
  let at' := fun (k : Nat) => s.getD k 0
  let c0 := 2 * w * h
  match fdSamp b with
  | 0 => [(2 * w * l, (List.range w).map (fun i => at' (2 * i + 1))), (c0 + 2 * w * l, (List.range w).map (fun i => at' (2 * i)))]
  | 1 => [(2 * w * (2 * l), (List.range w).map (fun i => at' (6 * (i / 2) + i % 2))),
          (2 * w * (2 * l + 1), (List.range w).map (fun i => at' (6 * (i / 2) + 2 + i % 2))),
          (c0 + 2 * w * l, (List.range w).map (fun i => at' (6 * (i / 2) + 4 + i % 2)))]
  | 2 => [(2 * w * l, (List.range w).map (fun i => at' (3 * i + 1))),
          (c0 + 4 * w * l, (List.range (2 * w)).map (fun i => at' (3 * (i / 2) + 2 * (i % 2))))]
  | _ => (List.range 3).map (fun c => (c0 * c + 2 * w * l, (List.range w).map (fun i => at' (3 * i + c))))

/-- A write of a range meets memory that is fenced or unavailable, where every access is poison (R187, R193). -/
def Dev.writePoison (d : Dev) (asid va n : Nat) : Bool :=
  (burstsOf va n).any (fun a => match d.phys asid a with | some pa => d.behind pa != 0 && d.behind pa != 4 | none => false)

/-- Write runs of containers until one faults or meets poison: `some` its translation fault, or `some none` (R303). -/
def Dev.writeRuns (d : Dev) (r : Requester) (m : Mapping) : List (Nat × List Nat) → Dev × Option (Option (Nat × Nat))
  | [] => (d, none)
  | (o, vs) :: rest =>
    match d.rangeFault true m.asid (m.va + o) (2 * vs.length) true with
    | some e => (d, some (some e))
    | none =>
      let d' := d.vwrite r m.asid (m.va + o) (vs.flatMap (le 2))
      if d.writePoison m.asid (m.va + o) (2 * vs.length) then (d', some none) else d'.writeRuns r m rest

/-- MEMORY_FLOW_FRAME_DONE: the last line of the frame is visible in its ring buffer. -/
def memoryFlowFrameDone (n : Nat) (d : Dev) : Dev :=
  let x := d.flow n
  match x.cur with
  | none => d
  | some f =>
    match f.buf.bind (fun h => (d.buf h).map (fun m => (h, m))) with
    | none => d
    | some (h, m) =>
      let b := f.desc
      let line := fun l => if f.black.isSome then blackSamples (fdSamp b) (fdDepth b) (fdOutW b) else d.flowLine n f l
      let runs := (List.range (lineCount (fdSamp b) (fdOutH b))).flatMap (fun l => planeLines b l (line l))
      let (d, e) := d.writeRuns (.spout n) m runs
      let flags := match x.recs.find? (fun r => r.oframe = f.oframe) with | some r => r.flags | none => 0
      let d := match e with
        | some e =>
          let d := match e with | some (a, s) => d.xlatFault (.spout n) true true m.asid a s 0 | none => d
          (d.finc (fSptFlowStatMissed n)).flowRec n f.oframe (fun r => r.set oAborted)
        | none => d.flowMod n (fun x => { x with
            lastDone := some f.oframe,
            out := f.src.map (fun (o : Released) => { o with
              buf := h, oframe := f.oframe, oflags := flags, tf := f.tag, width := fdOutW b, height := fdOutH b,
              safe := f.safe }) })
      let d := (d.retireLeases kFlow n f.oframe).flowMod n (fun x => { x with cur := none })
      if x.stops.isEmpty then d else d.flowEnd n x.stops 0 []

end Sys2Proof.Machine
end

