-- ==== Sys2Proof/Machine/Flow.lean ====
section
/-!
DEFINITION. The commands of flows: configuration, start and stop, profiles, guards, images and the SDP (R280 to R286,
R290 to R295, R298, R301, R308).
-/
set_option autoImplicit false

namespace Sys2Proof.Machine

/-! ## Session description (R301) -/

def txt (s : String) : List Byte := s.toList.map (fun c => BitVec.ofNat 8 c.toNat)
def dec (n : Nat) : String := String.ofList (Nat.toDigits 10 n)
def crlf : String := "\r\n"

def ipText (v : Nat) : String :=
  dec (v / 16777216 % 256) ++ "." ++ dec (v / 65536 % 256) ++ "." ++ dec (v / 256 % 256) ++ "." ++ dec (v % 256)

def hex2 (b : Nat) : String := String.ofList [hexD (b / 16 % 16), hexD (b % 16)]
where
  hexD (k : Nat) : Char := (Nat.digitChar k).toUpper

/-- A clock or MAC identity of n bytes in hexadecimal, joined by hyphens. -/
def idText (n v : Nat) : String := String.intercalate "-" ((List.range n).map (fun k => hex2 (v / 256 ^ (n - 1 - k) % 256)))

/-- Frames per second of a flow: an integer or a reduced fraction. -/
def fpsText (p q : Nat) : String :=
  let a := 1000000000 * q
  let g := Nat.gcd a p
  if p / g ≤ 1 then dec (a / g) else dec (a / g) ++ "/" ++ dec (p / g)

/-- The reference clock of the time unit's port (R301), or the device's own MAC address where it has no master. -/
def Dev.refclkText (d : Dev) : String :=
  match (tgetD d.time.ports (d.fget fTimeStatPort) {}).master with
  | some m => "a=ts-refclk:ptp=IEEE1588-2008:" ++ idText 8 m.ident ++ ":" ++ dec (d.fget fTimeCtlDomain)
  | none => "a=ts-refclk:localmac=" ++ idText 6 Config.macBase.toNat

def Dev.fmtpText (d : Dev) (b : List Byte) : String :=
  let (p, q) := d.tframe (fdTrg b)
  let tag := if fdTonemap b then 3 else match (d.mix (fdSrc b)).out with | some o => o.tf | none => 0
  let samp := if fdSamp b = 0 then "YCbCr-4:2:2" else if fdSamp b = 2 then "YCbCr-4:4:4" else "RGB"
  let tcs := if tag = 3 then "SDR" else if tag = 1 then "PQ" else if tag = 2 then "HLG" else "LINEAR"
  let h := fdOutH b
  let tro := (if h < 1440 then 43 * p / (1125 * q) else 90 * p / (2250 * q)) / 1000
  "a=fmtp:" ++ dec (field b 0x36 1) ++ " sampling=" ++ samp ++ "; width=" ++ dec (fdOutW b) ++ "; height=" ++ dec h
    ++ "; exactframerate=" ++ fpsText p q ++ "; depth=" ++ dec (fdDepth b) ++ "; TCS=" ++ tcs ++ "; colorimetry="
    ++ (if tag = 3 then "BT709" else "BT2100") ++ "; PM=2110GPM; SSN=ST2110-20:2017; TP=2110TPN"
    ++ (if h = 1080 || h = 2160 then "" else "; TROFF=" ++ dec tro)

/-- One media description: its essence, path, and the attributes that it carries. -/
def Dev.mediaText (d : Dev) (b : List Byte) (anc sec : Bool) : List String :=
  let k := 2 * anc.toNat + sec.toNat
  let dst := streamDst b k
  let src := d.fget (fEthIpAddr (if sec then fdSecPort b else fdPort b))
  let pt := dec (field b (if anc then 0x37 else 0x36) 1)
  let mid := (if anc then "A" else "") ++ (if sec then "S" else "P")
  ["m=video " ++ dec (field b (if anc then 0x32 else 0x30) 2) ++ " RTP/AVP " ++ pt,
   "c=IN IP4 " ++ ipText dst ++ (if unicast dst then "" else "/32"),
   "a=source-filter: incl IN IP4 " ++ ipText dst ++ " " ++ ipText src,
   "a=rtpmap:" ++ pt ++ (if anc then " smpte291/90000" else " raw/90000")]
    ++ (if anc then [] else [d.fmtpText b])
    ++ [d.refclkText, "a=mediaclk:direct=0"] ++ (if fdSecPort b = 255 then [] else ["a=mid:" ++ mid])

/-- The SDP of a NETWORK configuration, with its version number. -/
def Dev.sdpText (d : Dev) (n : Nat) (b : List Byte) (version : Nat) : List Byte :=
  if fdDest b = 1 then [] else
  let sec := fdSecPort b != 255
  let head := ["v=0", "o=- " ++ dec (Config.sdpSession n) ++ " " ++ dec version ++ " IN IP4 " ++ ipText (d.fget (fEthIpAddr (fdPort b))),
    "s=LZ9680 flow " ++ dec n, "t=0 0"]
    ++ (if sec then ["a=group:DUP P S"] else []) ++ (if sec && fdAnc b then ["a=group:DUP AP AS"] else [])
  let media := d.mediaText b false false ++ (if sec then d.mediaText b false true else [])
    ++ (if fdAnc b then d.mediaText b true false ++ (if sec then d.mediaText b true true else []) else [])
  (head ++ media).flatMap (fun s => txt (s ++ crlf))

/-! ## Configuration (R281, R282, R285) -/

/-- Ranges of Table CF-5. A 4:2:0 frame has an even height, as its lines go in pairs. -/
def fdShapeOk (b : List Byte) : Bool :=
  b.length == 64 && fdSrc b < 4 && fdTrg b < 32 && fdDest b < 2 && field b 3 1 < 16
    && 2 ≤ fdCropW b && fdCropW b ≤ 17280 && 2 ≤ fdCropH b && fdCropH b ≤ 9120
    && fdOutW b % 2 == 0 && 2 ≤ fdOutW b && fdOutW b ≤ 8192 && 2 ≤ fdOutH b && fdOutH b ≤ 8640
    && fdStepX b == fdCropW b * 65536 / fdOutW b && fdStepY b == fdCropH b * 65536 / fdOutH b
    && fdSprof b < 8 && fdTprof b < 8 && fdSamp b < 4 && (fdSamp b != 1 || (fdDest b == 1 && fdOutH b % 2 == 0))
    && [8, 10, 12].contains (fdDepth b) && fdPort b < 6 && (fdSecPort b < 6 || fdSecPort b == 255) && allZero b 0x1E 2

def vlanOk (v : Nat) : Bool := !bit v 15 || (1 ≤ v % 4096 && v % 4096 ≤ 4094)
def ptOk (v : Nat) : Bool := 96 ≤ v && v < 128

/-- Ranges of Table CF-12. -/
def Dev.fdStreamsOk (d : Dev) (b : List Byte) : Bool :=
  if fdDest b = 1 then
    2 ≤ fdNbuf b && fdNbuf b ≤ 6 && allZero b 0x21 3 && allZero b (0x24 + 4 * fdNbuf b) (28 - 4 * fdNbuf b)
      && (fdBufs b).all (fun h => (d.buf h).isSome)
  else
    let sec := fdSecPort b != 255
    let anc := fdAnc b
    field b 0x20 4 != 0 && (field b 0x24 4 != 0) == sec && (field b 0x28 4 != 0) == anc
      && (field b 0x2C 4 != 0) == (anc && sec) && ptOk (field b 0x36 1)
      && ptOk (field b 0x37 1) && vlanOk (field b 0x38 2) && vlanOk (field b 0x3A 2)
      && field b 0x3C 1 < 64 && field b 0x3D 1 < 64 && allZero b 0x3E 2

/-- Tone mapping of a composite that is BT.709 already (R286). -/
def Dev.toneRefused (d : Dev) (b : List Byte) : Bool :=
  fdTonemap b && (match (d.mix (fdSrc b)).out with | some o => o.tf == 3 | none => false)

/-- The limits of scaling: 8:1 and 4:1 for any profile, and those by taps of the profile named once it is loaded (R285). -/
def Dev.scaleRefused (d : Dev) (n : Nat) (b : List Byte) : Bool :=
  fdStepX b < 4096 || fdStepY b < 4096 || 64 * 8192 < fdStepX b || 32 * 8192 < fdStepY b || (match tget (d.spout (n / 32)).scale (fdSprof b) with
    | some s => s.th * 8192 < fdStepX b || s.tv * 8192 < fdStepY b
    | none => false)

/-- Streams of every other flow and of audio. -/
def Dev.planFlow (d : Dev) (n : Nat) (b : List Byte) (held : List Nat) : Option (List (Nat × Nat × Nat × Nat)) :=
  d.placeStreams (d.placed n) (d.flowStreams b) held []

/-- What may change on a running flow (R281). -/
def sameStreams (a b : List Byte) : Bool :=
  fdDest a == fdDest b && fdPort a == fdPort b && fdSecPort a == fdSecPort b
    && (fdDest a == 1 || (fdStreams a).take 16 == (fdStreams b).take 16)

/-- CONFIGURE FLOW. The SDP of a configuration is made with it, under the next version number (R301, log entry 69). -/
def configureFlow (seq : Nat) (d : Dev) : Dev :=
  d.run seq false 0xA5 (fun d c =>
    let n := c.w10 % 512
    let b := c.data
    let x := d.flow n
    let old := x.staged.orElse (fun _ => x.desc)
    let same := old == some b
    let ver := if same then x.version else x.version + 1
    let text := if same then (if x.staged.isSome then x.sdpStaged else x.sdp) else d.sdpText n b ver
    if !fdShapeOk b || !d.fdStreamsOk b || d.toneRefused b then d.fail seq stBadParam
    else if d.scaleRefused n b then d.fail seq stScaleRange
    else if d.flowSt n = 0 then
      let d := ((d.startCmd seq).flowMod n (fun x => { x with desc := some b, version := ver, sdp := text })).showFlow n
      (d.markChanged kFlow n seq).okEffect seq c 0 n
    else if !sameStreams (d.flowDesc n) b then d.fail seq stFlowRunning
    else if !loadFits (d.spoutLoad (n / 32) n (some b)) then d.fail seq stOverRate
    else match d.planFlow n b (x.place.map (·.2.1)) with
      | none => d.fail seq stPortFull
      | some place =>
        let d := (d.startCmd seq).flowMod n (fun x => { x with staged := some b, version := ver, sdpStaged := text, place := place })
        (d.markChanged kFlow n seq).okEffect seq c x.next n)

/-! ## Start and stop (R280, R294, R298, R308) -/

/-- A running or starting flow on this compositor would have no safe image while its guards hold a SAFE_FRAME region. -/
def Dev.safeMissing (d : Dev) (i n : Nat) : Bool :=
  (d.mix i).guards.armed && (d.mix i).guards.regions.any (fun r => r.action == 2) && (d.flow n).safeImg.isNone

def startFlow (seq : Nat) (d : Dev) : Dev :=
  d.runStart seq 0xB0 (fun d c =>
    let n := c.w10 % 512
    let x := d.flow n
    let b := d.flowDesc n
    let sp := d.spout (n / 32)
    if x.desc.isNone then d.fail seq stBadParam
    else if d.flowSt n ≠ 0 || d.unitBusy (spoutUnit n) 7 then d.fail seq stBusy
    else if d.fget fQfStatPstate = 1 && 128 ≤ d.runningFlows.length then d.fail seq stPowerState
    else if !loadFits (d.spoutLoad (n / 32) n (some b)) then d.fail seq stOverRate
    else if (tget sp.scale (fdSprof b)).isNone || (fdTonemap b && (tget sp.tone (fdTprof b)).isNone) || d.toneRefused b then
      d.fail seq stBadParam
    else if d.scaleRefused n b then d.fail seq stScaleRange
    else if fdDest b = 1 && (fdBufs b).any (fun h => (d.buf h).isNone) then d.fail seq stBadHandle
    else if d.safeMissing (fdSrc b) n then d.fail seq stNoSafeImage
    else match d.planFlow n b [] with
      | none => d.fail seq stPortFull
      | some place =>
        let d := (d.startCmd seq).flowMod n (fun x => { x with
          place := place, bufs := if fdDest b = 1 then fdBufs b else [], cur := none, send := none, nextAct := [], lastSrc := none })
        let d := ((d.fset (fSptFlowCfgState n) 1).showFlow n).showLoad (n / 32)
        let ask := fun (d : Dev) (p ip : Nat) => if ip = 0 || d.resolved p ip then d else
          d.setPortX p (fun y => { y with arpAsked := (y.arpAsked ++ [ip]).eraseDups })
        let d := if fdDest b = 1 then d else
          [0, 2].foldl (fun d k => ask (ask d (fdPort b) (streamDst b k)) (fdSecPort b) (streamDst b (k + 1))) d
        (d.markCreated kFlow n seq).okEffect seq c x.next n)

/-- A frame of a flow that is not over. -/
def Flow.busy (x : Flow) : Bool :=
  (match x.send with | some f => decide (f.pkt < framePackets f.desc) | none => false)
    || (match x.cur with | some f => fdDest f.desc == 1 || fdHold f.desc || decide (f.pkt < framePackets f.desc) | none => false)

/-- What STOP_NOW lists: OFRAME and the packets not sent (Table CF-11). -/
def Flow.unsent (x : Flow) : List Byte :=
  let one := fun (o : Option FlowFrame) => match o with
    | none => []
    | some f =>
      if fdDest f.desc = 1 then listEntry [f.oframe]
      else if f.pkt < framePackets f.desc then listEntry [f.oframe, framePackets f.desc - f.pkt] else []
  one x.send ++ one x.cur

/-- STOP_NOW of a flow (Table CF-11); earlier stops of it end with a note. -/
def Dev.flowStopNow (d : Dev) (n : Nat) (earlier : List Nat) (note : Nat) (now : Option Nat) : Dev :=
  let x := d.flow n
  let lst := x.unsent
  let d := match x.cur with
    | some f => if fdDest f.desc = 1 then (d.finc (fSptFlowStatMissed n)).flowRec n f.oframe (fun r => r.set oAborted) else d
    | none => d
  let d := d.flowEnd n earlier note (if now.isNone then lst else [])
  match now with
  | some q => d.finish q { dw0 := x.lastDone.getD allOnes32, dg0 := x.lastDone.getD allOnes64, dg1 := n, list := lst }
  | none => d

def stopFlow (seq : Nat) (d : Dev) : Dev :=
  d.runStop seq kFlow (fun d c =>
    let n := c.w11
    let x := d.flow n
    if 511 < n || d.flowSt n = 0 then d.fail seq stBadHandle
    else
      let d := d.startCmd seq
      if c.stopNow then d.flowStopNow n x.stops noteSuperseded (some seq)
      else if x.busy then (d.flowMod n (fun x => { x with stops := x.stops ++ [seq] })).fset (fSptFlowCfgState n) 2
      else d.flowEnd n (x.stops ++ [seq]) 0 [])

/-- Two frame periods have passed since STOP_AT_BOUNDARY (R308). -/
def Dev.flowTimeout (d : Dev) (n : Nat) : Dev :=
  if (d.flow n).stops.isEmpty then d else d.flowStopNow n (d.flow n).stops noteBoundaryTimeout none

/-! ## Profiles (R283, R286) -/

/-- Coefficients of one direction: signed 16-bit, phase 0 first. -/
def coeffs (b : List Byte) (off n : Nat) : List Int := (List.range n).map (fun k => sext 16 (field b (off + 2 * k) 2))

def phasesOk (taps : Nat) (c : List Int) : Bool :=
  (List.range 64).all (fun p => ((c.drop (p * taps)).take taps).foldl (· + ·) 0 == 4096)

def loadScalingProfile (seq : Nat) (d : Dev) : Dev :=
  d.run seq false 0xA9 (fun d c =>
    let b := c.data
    let th := field b 0 1
    let tv := field b 1 1
    let s : ScaleProfile := { th := th, tv := tv, ch := coeffs b 4 (64 * th), cv := coeffs b (4 + 128 * th) (64 * tv) }
    if th % 8 ≠ 0 || th < 8 || 64 < th || tv % 8 ≠ 0 || tv < 8 || 32 < tv || !allZero b 2 2 || b.length ≠ 4 + 128 * (th + tv)
        || !phasesOk th s.ch || !phasesOk tv s.cv then d.fail seq stBadParam
    else
      ((d.startCmd seq).spoutMod (c.w10 % 16) (fun x => { x with scale := tput x.scale (c.w10 / 16 % 8) s })).okOther seq c 0)

def loadToneProfile (seq : Nat) (d : Dev) : Dev :=
  d.run seq false 0xAD (fun d c =>
    let b := c.data
    let peak := field b 0 2
    let t : ToneProfile := { peak := peak, tone := (List.range 4096).map (fun k => field b (4 + 2 * k) 2) }
    if b.length ≠ 8196 || !allZero b 2 2 || peak < 100 || 10000 < peak then d.fail seq stBadParam
    else ((d.startCmd seq).spoutMod (c.w10 % 16) (fun x => { x with tone := tput x.tone (c.w10 / 16 % 8) t })).okOther seq c 0)

/-! ## Guards (R290, R292, R294) -/

/-- Guards of a compositor or flow, as CDW10 names it. -/
def Dev.guardsOf (d : Dev) (c : Ctx) : Guards := if bit c.w10 9 then (d.flow (c.w10 % 512)).guards else (d.mix (c.w10 % 512)).guards

def Dev.guardsMod (d : Dev) (c : Ctx) (f : Guards → Guards) : Dev :=
  if bit c.w10 9 then (d.flowMod (c.w10 % 512) (fun x => { x with guards := f x.guards })).showFlow (c.w10 % 512)
  else d.mixMod (c.w10 % 512) (fun x => { x with guards := f x.guards })

/-- Next output frame of the unit that CDW10 names. -/
def Dev.guardNext (d : Dev) (c : Ctx) : Nat := if bit c.w10 9 then (d.flow (c.w10 % 512)).next else (d.mix (c.w10 % 512)).next

def guardKind (c : Ctx) : Nat := if bit c.w10 9 then kFlow else kCompositor

/-- Bytes of a substitute image for a region: RGB16L on a composite, pgroups on a flow (R294, R295). -/
def substLen (flow : Bool) (samp depth : Nat) (r : Region) : Nat :=
  if flow then ((sampleSpan samp r.x r.w).2 * depth + 7) / 8 * (regionLines samp r).length else rgbPitch r.w * r.h

/-- A region fits its composite or flow output (R290). -/
def regionFits (flow : Bool) (samp w h : Nat) (r : Region) : Bool :=
  r.ok && r.x + r.w ≤ w && r.y + r.h ≤ h
    && (!flow || ((2 ≤ samp || (r.x % 2 == 0 && r.w % 2 == 0)) && (samp != 1 || (r.y % 2 == 0 && r.h % 2 == 0))))

def setGuards (seq : Nat) (d : Dev) : Dev :=
  d.run seq false 0xB1 (fun d c =>
    let i := c.w10 % 512
    let flow := bit c.w10 9
    let n := c.w11 % 128
    let b := (d.flow i).staged.getD (d.flowDesc i)
    let (w, h) := if flow then (fdOutW b, fdOutH b) else ((d.mix i).width, (d.mix i).height)
    let rs := regionsOf c.data n
    let others := ((List.range 32).filter (fun k => i / 32 * 32 + k != i)).map (fun k => (d.flow (i / 32 * 32 + k)).guards.regions.length)
    if (!flow && 3 < i) then d.fail seq stBadHandle
    else if (if flow then 32 else 64) < n || !regionEntriesOk c.data n || !rs.all (regionFits flow (fdSamp b) w h)
        || (flow && 512 < others.sum + n) then d.fail seq stBadParam
    else if rs.any (fun r => r.action == 1 && (tget d.vid.images r.subst).isNone) then d.fail seq stBadHandle
    else if rs.any (fun r => r.action == 1 && (match tget d.vid.images r.subst with
        | some m => m.data.length < substLen flow (fdSamp b) (fdDepth b) r | none => true)) then d.fail seq stBadParam
    else
      let d := (d.startCmd seq).guardsMod c (fun g => { g with regions := rs, armed := false, epoch := g.epoch + 1 })
      let d := if flow then d.flowMod i (fun x => { x with nextAct := [] }) else d
      (d.markChanged (guardKind c) i seq).okOther seq c 0)

def armGuards (seq : Nat) (d : Dev) : Dev :=
  d.run seq false 0xB4 (fun d c =>
    let i := c.w10 % 512
    let flow := bit c.w10 9
    let missing := !flow && (d.guardsOf c).regions.any (fun r => r.action == 2)
      && d.runningFlows.any (fun n => fdSrc (d.flowDesc n) == i && (d.flow n).safeImg.isNone)
    if !flow && 3 < i then d.fail seq stBadHandle
    else if missing then d.fail seq stNoSafeImage
    else
      let n := d.guardNext c
      let d := (d.startCmd seq).guardsMod c Guards.arm
      let d := if flow then d.flowMod i (fun x => { x with nextAct := [] }) else d
      (d.markChanged (guardKind c) i seq).okEffect seq c n i)

def disarmGuards (seq : Nat) (d : Dev) : Dev :=
  d.run seq false 0xB8 (fun d c =>
    let i := c.w10 % 512
    if !bit c.w10 9 && 3 < i then d.fail seq stBadHandle
    else
      let n := d.guardNext c
      let last := if n = 0 || !(d.guardsOf c).armed then allOnes64 else n - 1
      let d := (d.startCmd seq).guardsMod c (fun g => { g with armed := false })
      (d.markChanged (guardKind c) i seq).okEffect seq c last i)

/-! ## Images (R294, R295, R365) -/

def loadSafeImage (seq : Nat) (d : Dev) : Dev :=
  d.run seq false 0xD0 (fun d c =>
    let n := c.w10 % 512
    let sub := n == 511
    match d.buf c.w11 with
    | none => d.fail seq stBadHandle
    | some m =>
      let need := if sub then m.len else frameLen (d.flowDesc n)
      if !sub && (d.flow n).desc.isNone || m.len < need then d.fail seq stBadParam
      else match d.rangeFault false m.asid m.va need false with
        | some (a, s) => (d.xlatFault (.spout n) false false m.asid a s 0).fail seq stTranslation
        | none =>
          let (h, d) := (d.startCmd seq).newHandle
          let img : Image := { flow := if sub then none else some n, data := d.vread m.asid m.va need }
          let d := d.vidMod (fun v => { v with images := tput v.images h img })
          let d := if sub then d else ((d.flowMod n (fun x => { x with safeImg := some h })).showFlow n).markChanged kFlow n seq
          (d.markCreated kImage h seq).okCreate seq c h 0)

/-- An image is held by a running flow, or named by a region (R365). -/
def Dev.imageHeld (d : Dev) (h : Nat) : Bool :=
  d.runningFlows.any (fun n => (d.flow n).safeImg == some h)
    || (tvals d.vid.flow).any (fun x => x.guards.regions.any (fun r => r.action == 1 && r.subst == h))
    || (tvals d.vid.mix).any (fun x => x.guards.regions.any (fun r => r.action == 1 && r.subst == h))

def releaseImage (seq : Nat) (d : Dev) : Dev :=
  d.runRelease seq kImage (fun d c =>
    match tget d.vid.images c.w11 with
    | none => d.fail seq stBadHandle
    | some m =>
      if d.imageHeld c.w11 then d.fail seq stBusy
      else
        let d := (d.startCmd seq).vidMod (fun v => { v with images := terase v.images c.w11 })
        let d := match m.flow with
          | some n => (d.flowMod n (fun x => { x with safeImg := if x.safeImg == some c.w11 then none else x.safeImg })).showFlow n
          | none => d
        d.okOther seq c 0)

def getFlowSdp (seq : Nat) (d : Dev) : Dev :=
  d.run seq false 0x82 (fun d c =>
    let n := c.w10 % 512
    let x := d.flow n
    let b := (if bit c.w10 16 then x.staged.orElse (fun _ => x.desc) else x.desc).getD []
    if x.desc.isNone || fdDest b = 1 then d.fail seq stBadParam
    else
      let t := if bit c.w10 16 && x.staged.isSome then x.sdpStaged else x.sdp
      (d.startCmd seq).finish seq { dw0 := t.length, dg1 := c.w10, out := t })

end Sys2Proof.Machine
end

