-- ==== Sys2Proof/Machine/Raster.lean ====
section
/-!
DEFINITION. Monitor rasters: start, frames, read-back, stop and release (R304 to R309).
-/
set_option autoImplicit false

namespace Sys2Proof.Machine

/-- The lane that a raster drives (Table SL-1). -/
def rasLane (r : Nat) : Nat := 80 + r

def Dev.rasSt (d : Dev) (r : Nat) : Nat := d.fget (fRasCtlState r)
def Dev.rasRuns (d : Dev) (r : Nat) : Bool := d.rasSt r == 1 || d.rasSt r == 3

/-- LINK, FRAC and the timing registers: active, front porch, sync and back porch, horizontal then vertical. -/
def Dev.rasTiming (d : Dev) (r : Nat) : List Nat :=
  [d.fget (fRasCtlLink r), d.fget (fRasCtlFrac r), d.fget (fRasHaActive r), d.fget (fRasHaFp r), d.fget (fRasHbSync r),
   d.fget (fRasHbBp r), d.fget (fRasVaActive r), d.fget (fRasVaFp r), d.fget (fRasVbSync r), d.fget (fRasVbBp r)]

/-- A row of Table CF-10: frame rate without FRAC and the timing after FRAC; FRAC belongs to the rows with 59.94. -/
def rasRows : List (Nat × Nat × List Nat) :=
  [(0, 60, [3840, 176, 88, 296, 2160, 8, 10, 72]), (0, 50, [3840, 1056, 88, 296, 2160, 8, 10, 72]),
   (1, 60, [1920, 88, 44, 148, 1080, 4, 5, 36]), (1, 50, [1920, 528, 44, 148, 1080, 4, 5, 36])]

/-- The timing registers match a row at the rate of the trigger unit. -/
def Dev.rasTimingOk (d : Dev) (r t : Nat) : Bool :=
  match d.rasTiming r with
  | link :: frac :: tm =>
    let (p, q) := d.tframe t
    rasRows.any (fun e => e.1 == link && e.2.2 == tm && (frac == 0 || e.2.1 == 60)
      && p * e.2.1 * (if frac = 1 then 1000 else 1) == 1000000000 * q * (if frac = 1 then 1001 else 1))
  | _ => false

/-- A clone's source: not itself a clone, with the same timing (R307). -/
def Dev.cloneOk (d : Dev) (r : Nat) : Bool :=
  let s := d.fget (fRasCtlSrc r)
  s != r && !d.flag (fRasCtlClone s) && d.rasTiming s == d.rasTiming r

/-- The flow that a raster reads writes 10-bit 4:2:2 or 4:2:0 frames of the raster's size to memory (R304). -/
def Dev.rasFlowOk (d : Dev) (r : Nat) : Bool :=
  let b := d.flowDesc (d.fget (fRasCtlFlow r))
  (d.flow (d.fget (fRasCtlFlow r))).desc.isSome && fdDest b == 1 && fdDepth b == 10 && fdSamp b < 2
    && fdOutW b == d.fget (fRasHaActive r) && fdOutH b == d.fget (fRasVaActive r)

def startRaster (seq : Nat) (d : Dev) : Dev :=
  d.runStart seq 0xBC (fun d c =>
    let r := c.w10 % 16
    let t := c.w11 % 32
    let clone := d.flag (fRasCtlClone r)
    if !d.isSdi (rasLane r) then d.fail seq stBadHandle
    else if d.rasRuns r || d.unitBusy (.raster r) 12 then d.fail seq stBusy
    else if !d.rasTimingOk r t || (clone && !d.cloneOk r) || (!clone && !d.rasFlowOk r) then d.fail seq stBadTiming
    else
      let d := (d.startCmd seq).rasMod r (fun x => { x with
        trg := t, cur := none, lastBuf := none, waiting := clone, badRun := 0, stops := [] })
      -- the lane's rate: 12G or 3G, or either over 1.001 (R405, R437)
      let rate := (if d.fget (fRasCtlLink r) = 0 then 10 else 8) + d.fget (fRasCtlFrac r)
      (((d.fset (fRasCtlState r) 1).fset (fLaneStatRate (rasLane r)) rate).markCreated kRaster r seq).okEffect seq c (d.ras r).next r)

/-! ## Frames (R270, R305, R307) -/

/-- Running clones of a raster. -/
def Dev.clonesOf (d : Dev) (r : Nat) : List Nat :=
  (List.range 16).filter (fun k => k != r && d.rasRuns k && d.flag (fRasCtlClone k) && d.fget (fRasCtlSrc k) == r)

/-- A frame of a raster or clone with its record and counts. -/
def Dev.rasFrame (d : Dev) (r t flags : Nat) (src : Option Released) (black : Bool) : Dev :=
  let x := d.ras r
  let d := d.rasMod r (fun x => { x with
    next := x.next + 1, cur := some (x.next, if black then none else src), waiting := false,
    recs := addRec x.recs { oframe := x.next, src := src.bind (·.src), marks := (src.map (·.marks)).getD 0, flags := flags,
                            tstart := t } })
  let d := if flags &&& oRepeat != 0 then d.finc (fRasStatRepeat r) else d
  let d := if flags &&& oUnderrun != 0 then d.finc (fRasStatAbort r) else d
  let d := d.fset (fRasCtlState r) (if black then 3 else 1)
  match src with
  | some o => if black then d else d.lease kRaster r x.next o.buf
  | none => d

/-- The frame in progress of a raster is over. -/
def Dev.rasOver (d : Dev) (r : Nat) : Dev :=
  match (d.ras r).cur with
  | none => d
  | some (o, src) =>
    (d.retireLeases kRaster r o).rasMod r (fun x => { x with
      cur := none, lastDone := if src.isSome then some o else x.lastDone })

/-- A raster has stopped: it sends black until released, its leases return and its stops complete (R308). -/
def Dev.rasEnd (d : Dev) (r : Nat) (seqs : List Nat) (notes : Nat) (lst : List Byte) : Dev :=
  let last := (d.ras r).lastDone
  let d := d.rasMod r (fun x => { x with cur := none, stops := [], waiting := false })
  let d := (d.fset (fRasCtlState r) 2).dropLeases kRaster r
  seqs.foldl (fun d q => (d.markChanged kRaster r q).finish q { dw0 := last.getD allOnes32, dg0 := last.getD allOnes64, dg1 := r, notes := notes, list := lst }) d

/-- A frame start of a raster that reads a ring: the newest complete frame, and its clones with it (R305, R307). -/
def Dev.rasStart (d : Dev) (r t : Nat) : Dev :=
  let n := d.fget (fRasCtlFlow r)
  let src := ((d.flow n).out).filter (fun o => !d.absent o.buf)
  let key := src.map (fun o => (n, o.oframe))
  let safe := d.flag fSysEmergStatSafe
  let testing := d.underTest (.raster r)
  let none' := !safe && (src.isNone || testing)
  let stopped := src.isSome && (d.flowSt n == 0 || d.flowSt n == 3)
  let flags := (if key.isSome && key == (d.ras r).lastBuf then oRepeat else 0) + (if stopped then oStopped else 0)
    + (if none' then oUnderrun else 0) + (if none' || safe then oAborted else 0)
  let d := match src.bind (fun o => (d.buf o.buf).map (fun m => (o, m))) with
    | some (o, m) => match d.rangeFault true m.asid m.va (o.width * o.height * (if fdSamp (d.flowDesc n) = 1 then 3 else 4)) false with
      | some (a, s) => d.xlatFault (.raster r) true false m.asid a s 0
      | none => d
    | none => d
  let d := d.rasMod r (fun x => { x with lastBuf := key })
  (r :: d.clonesOf r).foldl (fun d k => (d.rasOver k).rasFrame k t flags src (none' || safe || d.underTest (.raster k))) d

/-- A raster that stops at its boundary ends now, its clones with it, which the completion lists (R307). -/
def Dev.rasEndAll (d : Dev) (r : Nat) (seqs : List Nat) (notes : Nat) (lst : List Byte) : Dev :=
  let cs := d.clonesOf r
  let d := cs.foldl (fun d k => (d.rasOver k).rasEnd k (d.ras k).stops 0 []) d
  d.rasEnd r seqs notes (lst ++ cs.flatMap (fun k => listEntry [k]))

/-- A pulse of its trigger unit reaches a raster (R270). -/
def Dev.rasPulse (d : Dev) (r t : Nat) : Dev :=
  if !d.rasRuns r || d.flag (fRasCtlClone r) then d
  else
    let d := d.rasOver r
    let d := (d.clonesOf r).foldl (fun d k => if (d.ras k).stops.isEmpty then d else (d.rasOver k).rasEnd k (d.ras k).stops 0 []) d
    if (d.ras r).stops.isEmpty then d.rasStart r t else d.rasEndAll r (d.ras r).stops 0 []

/-- RASTER_UNDERRUN: a line is not in the line buffer when it is due; the frame goes on as black (R305). -/
def rasterUnderrun (r : Nat) (d : Dev) : Dev :=
  match (d.ras r).cur with
  | some (_, some _) =>
    let one := fun (d : Dev) (k : Nat) => match (d.ras k).cur with
      | some (o', some _) =>
        let d := d.rasMod k (fun x => { x with cur := some (o', none), recs := modRec x.recs o' (fun q => q.set (oUnderrun + oAborted)) })
        ((d.finc (fRasStatAbort k)).fset (fRasCtlState k) 3).retireLeases kRaster k o'
      | _ => d
    if d.flag (fRasCtlClone r) then one d r else (r :: d.clonesOf r).foldl one d
  | _ => d

/-- The near-end receiver of a raster's lane has bit lock and alignment (R430). -/
def Dev.readsBack (d : Dev) (r : Nat) : Bool := d.flag (fLaneStatBitlock (rasLane r)) && d.flag (fLaneStatBlklock (rasLane r))

/-- RASTER_LINE_READBACK: the CRC of a line read back matches or not, and does not without lock (R430); sixteen mismatches in a row raise PIN_FAULT, and the
raster goes on (R306). -/
def rasterLineReadback (r : Nat) (ok : Bool) (d : Dev) : Dev :=
  if d.rasSt r = 0 then d
  else if ok && d.readsBack r then d.rasMod r (fun x => { x with badRun := 0 })
  else
    let n := (d.ras r).badRun + 1
    let d := (d.finc (fRasStatPinerr r)).rasMod r (fun x => { x with badRun := n })
    if n = 16 then
      let p := lanePlace (rasLane r)
      (d.sumpWrite p 0x10 kRaster 2 0 (le 4 r)).post 0x09 kRaster r p (le 4 r)
    else d

/-! ## Stop and release (R307, R308) -/

/-- STOP_NOW: black from the next line; the completion lists the frame in progress and the clones. -/
def Dev.rasStopNow (d : Dev) (r : Nat) (earlier : List Nat) (note : Nat) (now : Option Nat) : Dev :=
  let x := d.ras r
  let cs := d.clonesOf r
  let lst := (match x.cur with | some (o, _) => listEntry [o] | none => []) ++ cs.flatMap (fun k => listEntry [k])
  let d := (r :: cs).foldl (fun d k => match (d.ras k).cur with
    | some (o, _) => d.rasMod k (fun x => { x with recs := modRec x.recs o (fun q => q.set oAborted) })
    | none => d) d
  let d := cs.foldl (fun d k => d.rasEnd k (d.ras k).stops noteSuperseded []) d
  let d := d.rasEnd r earlier note (if now.isNone then lst else [])
  match now with
  | some q => (d.markChanged kRaster r q).finish q { dw0 := x.lastDone.getD allOnes32, dg0 := x.lastDone.getD allOnes64, dg1 := r, list := lst }
  | none => d

def stopRaster (seq : Nat) (d : Dev) : Dev :=
  d.runStop seq kRaster (fun d c =>
    let r := c.w11
    let x := d.ras r
    if 15 < r || !d.rasRuns r then d.fail seq stBadHandle
    else
      let d := d.startCmd seq
      if c.stopNow then d.rasStopNow r x.stops noteSuperseded (some seq)
      else if x.cur.isSome then d.rasMod r (fun x => { x with stops := x.stops ++ [seq] })
      else d.rasEndAll r (x.stops ++ [seq]) 0 [])

/-- Two frame periods have passed since STOP_AT_BOUNDARY (R308). -/
def Dev.rasTimeout (d : Dev) (r : Nat) : Dev :=
  if (d.ras r).stops.isEmpty then d else d.rasStopNow r (d.ras r).stops noteBoundaryTimeout none

/-- RELEASE RASTER: a stopped raster stops sending black (R308). -/
def releaseRaster (seq : Nat) (d : Dev) : Dev :=
  d.runRelease seq kRaster (fun d c =>
    let r := c.w11
    if 15 < r || d.rasSt r = 0 then d.fail seq stBadHandle
    else if d.rasRuns r then d.fail seq stBusy
    else ((d.startCmd seq).fset (fRasCtlState r) 0).okOther seq c 0)

end Sys2Proof.Machine
end

