-- ==== Sys2Proof/Machine/BlockCode.lean ====
section
/-!
DEFINITION. The lossless coding of a block: prediction, residues, Rice groups, headers, and their decoding (R314, R317 to R321).
-/
set_option autoImplicit false

namespace Sys2Proof.Machine

/-- The prediction of a sample from its neighbours in the block (R317); column i, line j. -/
def pred (depth : Nat) (x : Nat → Nat → Nat) (i j : Nat) : Nat :=
  if i = 0 ∧ j = 0 then 2 ^ (depth - 1)
  else if j = 0 then x (i - 1) 0
  else if i = 0 then x 0 (j - 1)
  else
    let a := x (i - 1) j
    let b := x i (j - 1)
    let c := x (i - 1) (j - 1)
    if max a b ≤ c then min a b else if c ≤ min a b then max a b else a + b - c

/-- The residue of a sample (R317). -/
def residue (depth x p : Nat) : Nat :=
  let e := (x + 2 ^ depth - p) % 2 ^ depth
  if e < 2 ^ (depth - 1) then 2 * e else 2 * (2 ^ depth - e) - 1

/-- Residues of a block in raster order. -/
def residues (depth wb hb : Nat) (x : Nat → Nat → Nat) : List Nat :=
  (List.range (wb * hb)).map (fun t => residue depth (x (t % wb) (t / wb)) (pred depth x (t % wb) (t / wb)))

/-- Groups of 16, the last maybe shorter (R318). -/
def groups16 : List Nat → Nat → List (List Nat)
  | _, 0 => []
  | [], _ => []
  | l, n + 1 => l.take 16 :: groups16 (l.drop 16) n

/-- A number in n bits, least significant first. -/
def lsb (n v : Nat) : List Bool := (List.range n).map (bit v)

/-- The code of a residue under parameter k (R318). -/
def riceCode (depth k u : Nat) : List Bool :=
  let q := u / 2 ^ k
  if q < 24 then List.replicate q true ++ [false] ++ lsb k u else List.replicate 24 true ++ lsb depth u

def riceLen (depth k u : Nat) : Nat := if u / 2 ^ k < 24 then u / 2 ^ k + 1 + k else 24 + depth

/-- The code for a change of k (Table CC-1). -/
def kCode (prev k : Nat) : List Bool :=
  if k = prev then [false] else if k = prev + 1 then [true, false] else if k + 1 = prev then [true, true, false]
  else [true, true, true] ++ lsb 4 k

/-- The parameter of a group: the fewest bits, ties to the smaller k (R319). -/
def chooseK (depth : Nat) (prev : Option Nat) (g : List Nat) : Nat :=
  let cost := fun (k : Nat) => (g.map (riceLen depth k)).sum + (match prev with | some p => (kCode p k).length | none => 0)
  (List.range depth).foldl (fun b k => if cost k < cost b then k else b) 0

/-- The bits of a block from its groups: KSTART and the payload. -/
def codeGroups (depth : Nat) : Option Nat → List (List Nat) → List Bool
  | _, [] => []
  | prev, g :: rest =>
    let k := chooseK depth prev g
    (match prev with | some p => kCode p k | none => []) ++ g.flatMap (riceCode depth k) ++ codeGroups depth (some k) rest

/-- A bit string as bytes, bit t in bit t mod 8 of byte t ÷ 8, padded to whole 64-bit words (R318). -/
def lsbBytes (bs : List Bool) : List Byte :=
  le (roundUp bs.length 64 / 8) (bs.reverse.foldl (fun a b => 2 * a + b.toNat) 0)

/-- A block: its header and payload (R320). -/
def blockBytes (flags plane col band wb hb depth kstart : Nat) (payload : List Byte) : List Byte :=
  let h := le 2 0x5B1C ++ le 1 flags ++ le 1 plane ++ le 2 col ++ le 2 band ++ le 1 (wb - 1)
    ++ le 1 (hb - 1 + 16 * ((depth - 10) / 2)) ++ le 2 (2 + payload.length / 8 + 4096 * kstart)
  h ++ le 4 (crc32c (h ++ payload)).toNat ++ payload

/-- RAW length in 8-byte units (R319). -/
def rawUnits (wb hb depth : Nat) : Nat := 2 + (wb * hb * depth + 63) / 64

def rawPayload (depth wb hb : Nat) (x : Nat → Nat → Nat) : List Byte :=
  lsbBytes ((List.range (wb * hb)).flatMap (fun t => lsb depth (x (t % wb) (t / wb))))

/-- Code a block: its bytes and whether it is RAW under R319. -/
def codeBlock (plane col band wb hb depth : Nat) (x : Nat → Nat → Nat) : List Byte × Bool :=
  let gs := groups16 (residues depth wb hb x) (wb * hb)
  let bits := codeGroups depth none gs
  if rawUnits wb hb depth ≤ 2 + (bits.length + 63) / 64 then
    (blockBytes 1 plane col band wb hb depth 0 (rawPayload depth wb hb x), true)
  else (blockBytes 0 plane col band wb hb depth (match gs with | g :: _ => chooseK depth none g | [] => 0) (lsbBytes bits), false)

/-- A block stored RAW with VERIFY (bit 1) or CATCHUP (bit 2) (R322, R329). -/
def rawBlock (flag plane col band wb hb depth : Nat) (x : Nat → Nat → Nat) : List Byte :=
  blockBytes (1 + flag) plane col band wb hb depth 0 (rawPayload depth wb hb x)

/-! ## Decoding (R321) -/

/-- The number that bits spell, least significant first. -/
def lsbNat (bs : List Bool) : Nat := bs.foldr (fun b a => b.toNat + 2 * a) 0

/-- One-bits up to `fuel` of them, and the bits after them; a zero-bit that ends them is read as well. -/
def readOnes : Nat → List Bool → Option (Nat × List Bool)
  | 0, bs => some (0, bs)
  | _ + 1, [] => none
  | _ + 1, false :: bs => some (0, bs)
  | fuel + 1, true :: bs => (readOnes fuel bs).map (fun e => (e.1 + 1, e.2))

/-- A field of n bits. -/
def readField (n : Nat) (bs : List Bool) : Option (Nat × List Bool) :=
  if bs.length < n then none else some (lsbNat (bs.take n), bs.drop n)

/-- The parameter of a later group (Table CC-1); one outside 0 to D − 1 makes the block invalid. -/
def readK (depth k : Nat) (bs : List Bool) : Option (Nat × List Bool) :=
  (match bs with
    | false :: r => some (k, r)
    | true :: false :: r => some (k + 1, r)
    | true :: true :: false :: r => if k = 0 then none else some (k - 1, r)
    | true :: true :: true :: r => readField 4 r
    | _ => none).filter (fun e => e.1 < depth)

/-- A residue under parameter k. -/
def readResidue (depth k : Nat) (bs : List Bool) : Option (Nat × List Bool) :=
  match readOnes 24 bs with
  | none => none
  | some (q, bs) => if q = 24 then readField depth bs else (readField k bs).map (fun e => (q * 2 ^ k + e.1, e.2))

/-- The residues of a block from residue `t` on: `n` of them. -/
def readResidues (depth : Nat) : Nat → Nat → Nat → List Bool → Option (List Nat)
  | 0, _, _, _ => some []
  | n + 1, t, k, bs =>
    match (if 0 < t ∧ t % 16 = 0 then readK depth k bs else some (k, bs)) with
    | none => none
    | some (k, bs) =>
      match readResidue depth k bs with
      | none => none
      | some (u, bs) => (readResidues depth n (t + 1) k bs).map (u :: ·)

/-- A sample from its prediction and residue. -/
def restore (depth p u : Nat) : Nat :=
  if u % 2 = 0 then (p + u / 2) % 2 ^ depth else (p + 2 ^ depth - (u + 1) / 2) % 2 ^ depth

/-- Samples in raster order from the residues, line after line of `wb` columns. -/
def restoreAll (depth wb : Nat) (us : List Nat) : List Nat :=
  us.foldl (fun (xs : List Nat) u =>
    let t := xs.length
    xs ++ [restore depth (pred depth (fun i j => xs.getD (j * wb + i) 0) (t % wb) (t / wb)) u]) []

/-- A coded block's samples from its payload bits (R321); none where the block is invalid. -/
def decodeBits (depth wb hb kstart : Nat) (bs : List Bool) : Option (List Nat) :=
  if depth ≤ kstart then none else (readResidues depth (wb * hb) 0 kstart bs).map (restoreAll depth wb)

/-- The bits of a payload, bit t in bit t mod 8 of byte t ÷ 8. -/
def payloadBits (bs : List Byte) : List Bool := bs.flatMap (fun b => lsb 8 b.toNat)

/-- A block's samples (R321): MAGIC and CRC are checked before the block is trusted. -/
def decodeBlock (blk : List Byte) : Option (List Nat) :=
  let h := blk.take 12
  let body := blk.drop 16
  let flags := field blk 2 1
  let wb := field blk 8 1 + 1
  let hb := field blk 9 1 % 16 + 1
  let depth := 10 + 2 * (field blk 9 1 / 16 % 4)
  if field blk 0 2 ≠ 0x5B1C ∨ field blk 0x0C 4 ≠ (crc32c (h ++ body)).toNat ∨ field blk 0x0A 2 % 4096 * 8 ≠ blk.length then none
  else if bit flags 0 then
    if (payloadBits body).length < wb * hb * depth then none
    else some ((List.range (wb * hb)).map (fun t => lsbNat (((payloadBits body).drop (t * depth)).take depth)))
  else decodeBits depth wb hb (field blk 0x0A 2 / 4096) (payloadBits body)

end Sys2Proof.Machine
end

