-- ==== Sys2Proof/Machine/StoreOps.lean ====
section
/-!
DEFINITION. What recording, the store commands and priming share: clips, extents and slots (R386 to R394, R530, R531).
-/
set_option autoImplicit false

namespace Sys2Proof.Machine

/-- Payload bytes of an extent (R389), and the bytes of a slot (R392). -/
def extPay : Nat := 67104768
def slotBytes : Nat := 67108864

def Dev.storeMod (d : Dev) (f : Store → Store) : Dev := { d with store := f d.store }
/-- The clip in a slot. -/
def Dev.clip (d : Dev) (slot : Nat) : Clip := tgetD d.store.clips slot {}
def Dev.clipMod (d : Dev) (slot : Nat) (f : Clip → Clip) : Dev := d.storeMod (fun s => { s with clips := tmod s.clips slot {} f })

/-- A clip ID: slot in [15:0], generation in [31:16] (Table SQ-21). -/
def Dev.clipId (d : Dev) (slot : Nat) : Nat := slot + 65536 * (d.clip slot).gen
/-- The slot that a clip ID names, where that clip exists. -/
def Dev.clipSlot (d : Dev) (id : Nat) : Option Nat :=
  let s := id % 65536
  if (d.clip s).st != 0 && d.clipId s == id % 4294967296 then some s else none

/-- Flags of a clip record. -/
def cfProtected : Nat := 1
def cfMediaFull : Nat := 2
def cfCxlLost : Nat := 4
def cfGaps : Nat := 8
def cfStoppedNow : Nat := 16
/-- A mark of the model beside the flags of a recording: it ended for want of an extent (R394). -/
def cfNoExtent : Nat := 256

def Dev.freeExts (d : Dev) : Nat := d.store.nextents - d.store.extents.length

/-- Bytes of the write buffer in use, and its slots that are free. -/
def Store.wbUsed (s : Store) : Nat := s.wbSlots.length * slotBytes + s.wbHost.length * 4096
def Store.wbFree (s : Store) : Nat := (s.wb * gib - s.wbUsed) / slotBytes

/-- Show the free extents and the use of the write buffer. -/
def Dev.showStore (d : Dev) : Dev :=
  d.fsets [(fStoFreeFree, d.freeExts), (fStoStatWbUsed, (d.store.wbUsed + gib - 1) / gib)]

/-- The store can record: SSDs with agreeing superblocks, and CXL memory (R386, R393, R396). -/
def Dev.storeUsable (d : Dev) : Bool :=
  d.fget fStoStatState == 1 && d.store.superOk && d.cxlBytes != 0 && !d.wbLost && !d.ringLost

/-- An extent of a clip's data stream takes a slot of the write buffer, where one is free. -/
def Store.takeWb (s : Store) (slot seq : Nat) : Store :=
  if s.wbFree = 0 || s.wbSlots.any (fun e => e.clip == slot && e.seq == seq) then s
  else { s with wbSlots := s.wbSlots ++ [{ clip := slot, seq := seq }] }

/-- It takes a slot of the replay ring, which reuses its oldest slot (R392). -/
def Store.takeRing (s : Store) (slot seq : Nat) : Store :=
  let l := s.ringSlots ++ [{ clip := slot, seq := seq }]
  { s with ringSlots := l.drop (l.length - 16 * s.ring) }

/-- Open an extent of a stream, 0 data and 1 index, on the lowest-numbered free extent (R389); none where none is free. -/
def Dev.openExtent (d : Dev) (slot stream : Nat) (ringOnly : Bool) : Option Dev :=
  match tfree d.store.extents 0 d.store.nextents with
  | none => none
  | some e =>
    let seq := (d.clip slot).dataExt.length
    let d := d.storeMod (fun s => { s with extents := tput s.extents e slot })
    let d := if stream = 0 then
        (d.clipMod slot (fun c => { c with dataExt := c.dataExt ++ [e] })).storeMod
          (fun s => (if ringOnly then s else s.takeWb slot seq).takeRing slot seq)
      else d.clipMod slot (fun c => { c with indexExt := c.indexExt ++ [e] })
    some d.showStore

/-- Free the extents and slots of a clip. -/
def Dev.dropClip (d : Dev) (slot : Nat) : Dev :=
  (d.storeMod (fun s => { s with
    extents := s.extents.filter (fun e => e.2 != slot),
    wbSlots := s.wbSlots.filter (fun e => e.clip != slot), ringSlots := s.ringSlots.filter (fun e => e.clip != slot) })).showStore

/-- The lowest clip slot that is free and not spent (R389, R393). -/
def Dev.freeSlot (d : Dev) : Option Nat :=
  (List.range 65536).find? (fun s => match tget d.store.clips s with | some c => c.st == 0 && !c.spent | none => true)

/-! ## Clip records and manifests (Tables SQ-21 and SY-7) -/

/-- The clip record head, 64 bytes. -/
def Dev.clipHead (d : Dev) (slot : Nat) : List Byte :=
  let c := d.clip slot
  if c.st = 0 then
    let h := le 4 0x4C5A4352 ++ le 4 (d.clipId slot) ++ zeros 0x34
    h ++ le 4 (crc32c h).toNat
  else
    let h := le 4 0x4C5A4352 ++ le 4 (d.clipId slot) ++ le 1 c.st ++ le 1 c.ctx ++ le 1 c.flags ++ zeros 5 ++ le 8 c.first
      ++ le 8 c.last ++ le 8 c.dataLen ++ le 8 c.tstart ++ le 8 c.closeSeq ++ zeros 4
    h ++ le 4 (crc32c h).toNat

def d384 (v : BitVec 384) : List Byte := le 48 v.toNat

/-- Frames of a closed clip. -/
def Clip.frames (c : Clip) : Nat := if c.last < c.first || c.last = allOnes64 then 0 else c.last - c.first + 1

/-- The digest of an extent of the data stream: zeros where it holds part of a ring-only unit (R530). -/
def Clip.extDigest (c : Clip) (s : Nat) : List Byte :=
  if c.ringOnly.any (fun r => overlap r.1 r.2 (s * extPay) extPay) then zeros 48
  else d384 (Config.sha3_384 (mread c.stream (s * extPay) extPay))

/-- The manifest body (Table SY-7); `digests` are those of the extents in order. -/
def Dev.manifestBody (d : Dev) (slot : Nat) (recovered : Bool) (digests : List Byte) : List Byte :=
  let c := d.clip slot
  let lc := d.fget fSecStatLc
  let flags := recovered.toNat + (if c.flags &&& cfGaps != 0 then 2 else 0) + (if c.flags &&& cfCxlLost != 0 then 4 else 0)
    + (if c.flags &&& cfMediaFull != 0 then 8 else 0) + (if c.flags &&& cfStoppedNow != 0 then 16 else 0) + (if lc = 1 then 32 else 0)
  le 4 0x4C5A4D46 ++ le 2 1 ++ le 2 flags ++ le 4 (d.clipId slot) ++ le 1 c.ctx ++ le 1 lc ++ le 2 d.prime.boots
    ++ le 16 Config.uid.toNat ++ le 16 d.store.storeId ++ le 8 c.first ++ le 8 c.last ++ le 8 c.dataLen ++ le 8 c.tstart
    ++ le 4 c.dataExt.length ++ zeros 4 ++ le 8 c.closeSeq ++ d384 (Config.sha3_384 (mread c.index 0 (c.frames * 32)))
    ++ d384 d.prime.activeMeas ++ zeros 64 ++ digests

def manifestContext : List Byte := [0x4C, 0x5A, 0x2D, 0x43, 0x4C, 0x49, 0x50]

/-- Open index extents until the index stream holds `n` bytes; `fuel` bounds their number. -/
def Dev.growIndex (d : Dev) (slot n : Nat) : Nat → Dev
  | 0 => d
  | fuel + 1 =>
    if n ≤ (d.clip slot).indexExt.length * extPay then d
    else match d.openExtent slot 1 false with
      | some d => d.growIndex slot n fuel
      | none => d

/-- Sign the manifest and write it with its signature block at MOFF of the index stream; in RETURNED none is signed (R519,
R530, R531). -/
def Dev.signManifest (d : Dev) (slot : Nat) (recovered : Bool) (digests : List Byte) : Dev :=
  if d.fget fSecStatLc = 3 then d.clipMod slot (fun c => { c with mstate := 3 })
  else
    let body := d.manifestBody slot recovered digests
    let all := body ++ dkBlock manifestContext body
    let off := roundUp ((d.clip slot).frames * 32) 4096
    let d := d.growIndex slot (off + all.length) 16
    d.clipMod slot (fun c => { c with
      mstate := 2, moff := off, mlen := body.length, mdigest := (d384 (Config.sha3_384 body)).take 40, manifest := all,
      index := mwrite c.index off all, indexLen := off + all.length, indexOnMedia := off + all.length })

end Sys2Proof.Machine
end

