-- ==== Sys2Proof/Machine/RecordOps.lean ====
section
/-!
DEFINITION. The compressor pool at work: frame units, band-planes, the data and index streams (R312 to R331, R391).
-/
set_option autoImplicit false

namespace Sys2Proof.Machine

def Dev.poolMod (d : Dev) (f : Pool → Pool) : Dev := d.vidMod (fun v => { v with pool := f v.pool })
def Dev.recOf (d : Dev) (i : Nat) : Option Recording := tget d.vid.pool.recs i
def Dev.recChange (d : Dev) (i : Nat) (f : Recording → Recording) : Dev := d.poolMod (fun p => { p with recs := tadj p.recs i f })
def Dev.unitMod (d : Dev) (i frame : Nat) (f : FrameUnit → FrameUnit) : Dev :=
  d.recChange i (fun r => { r with units := r.units.map (fun u => if u.frame = frame then f u else u) })

/-! ## Geometry (R314, R315) -/

def FrameUnit.nband (u : FrameUnit) : Nat := (u.lines + 31) / 32
def FrameUnit.ncol (u : FrameUnit) : Nat := (u.width + 511) / 512

/-- Rows received in the frame, from its record. -/
def Dev.unitRows (d : Dev) (i : Nat) (u : FrameUnit) : Nat := match d.frameRec i u.frame with | some r => r.rows | none => 0

/-- Band-planes of a unit: none for a STALE period or a frame with no received row (R327). -/
def Dev.unitPlanes (d : Dev) (i : Nat) (u : FrameUnit) : Nat :=
  if u.stale || (u.final && d.unitRows i u == 0) then 0 else u.nband * u.nexp * 4

/-- The received rows of a band in a phase, from the top. -/
def FrameUnit.bandRows (u : FrameUnit) (band phase : Nat) : List Nat :=
  ((List.range 16).map (fun j => 32 * band + 2 * j + phase / 2)).filter (fun r => r < u.lines && u.visible.contains r)

/-- The frame of a unit is still in progress. -/
def Dev.unitLive (d : Dev) (i : Nat) (u : FrameUnit) : Bool :=
  (d.ing i).inFrame && (d.ing i).frameNo == u.frame

/-- A received row of a band has not been made visible yet. -/
def Dev.bandLate (d : Dev) (i : Nat) (u : FrameUnit) (band : Nat) : Bool :=
  u.raw.isSome && (d.ing i).rows.any (fun r => r.frame == u.frame && !r.written && r.row / 32 == band)

/-- A band is ready: every row of it is visible, or the frame has ended and none of its received rows is outstanding. -/
def Dev.bandReady (d : Dev) (i : Nat) (u : FrameUnit) (band : Nat) : Bool :=
  let rows := (List.range 32).map (32 * band + ·) |>.filter (· < u.lines)
  !u.stale && band < u.nband && !u.bands.contains band
    && ((u.raw.isSome && rows.all (u.visible.contains ·)) || (!d.unitLive i u && !d.bandLate i u band))

/-! ## Pool (R316, R329, R331) -/

def compPlace (k : Nat) : Place := ioPlace 2 k noSlice

/-- Backlog of every recording. -/
def Dev.backlog (d : Dev) : Nat := ((tvals d.vid.pool.recs).map (fun r => (r.units.map (fun u => u.ready.length)).sum)).sum

/-- CATCH_ON and CATCH_OFF as they act (R333). -/
def Dev.catchOn (d : Dev) : Nat := max 4 (d.fget fCmpCtlCatchOn)
def Dev.catchOff (d : Dev) : Nat := if d.fget fCmpCtlCatchOff < d.catchOn then d.fget fCmpCtlCatchOff else d.catchOn / 2

/-- Show the backlog, and enter or leave catch-up (R329). -/
def Dev.showBacklog (d : Dev) : Dev :=
  let n := d.backlog
  let d := d.fsets [(fCmpPoolBacklog, min 255 n), (fCmpPoolWorst, max (d.fget fCmpPoolWorst) (min 255 n))]
  if d.flag fCmpPoolCatchup then (if n ≤ d.catchOff then d.fset fCmpPoolCatchup 0 else d)
  else if d.catchOn ≤ n then (d.fset fCmpPoolCatchup 1).finc fCmpPoolEntries else d

/-- The free compressor with the lowest number. -/
def Dev.freeComp (d : Dev) : Option Nat :=
  (List.range 4).find? (fun k => d.fget (fCmpStatState k) == 0 && (tget d.vid.pool.work k).isNone)

/-- The next band-plane to start: the lowest ready position of the oldest unit of a recording, the lowest context first (R316, log
entry 71). The planes of a later frame wait in the backlog until the unit before it is closed (R391). -/
def Dev.nextPlane (d : Dev) : Option (Nat × FrameUnit × Nat) :=
  d.vid.pool.recs.findSome? (fun e => e.2.units.head?.bind (fun u => u.ready.head?.map (fun p => (e.1, u, p))))

/-- Dispatch ready band-planes to free compressors; `fuel` bounds their number. -/
def Dev.poolDispatch (d : Dev) : Nat → Dev
  | 0 => d.showBacklog
  | fuel + 1 =>
    match d.freeComp, d.nextPlane with
    | some k, some (i, u, p) =>
      let d := d.unitMod i u.frame (fun u => { u with ready := u.ready.tail })
      let d := d.poolMod (fun q => { q with work := tput q.work k { ctx := i, frame := u.frame, bp := p, catchup := d.flag fCmpPoolCatchup } })
      ((d.fset (fCmpStatState k) 1).showBacklog).poolDispatch fuel
    | _, _ => d.showBacklog

/-- Show the compressors in the pool and not in test. -/
def Dev.showPool (d : Dev) : Dev :=
  d.fset fCmpPoolActive ((List.range 4).filter (fun k => d.fget (fCmpStatState k) < 2)).length

/-! ## Frame units (R323 to R328) -/

/-- First received row of a unit's frame, from its record (R315); 0 where none was received. -/
def Dev.unitRow0 (d : Dev) (i : Nat) (u : FrameUnit) : Nat := ((d.frameRec i u.frame).bind (·.row0)).getD 0

/-- Positions of a unit. -/
def Dev.unitPos (d : Dev) (i : Nat) (u : FrameUnit) : Nat := d.unitPlanes i u * u.ncol

/-- The frame header (R324, Table CC-4). -/
def Dev.unitHeader (d : Dev) (i : Nat) (u : FrameUnit) : List Byte :=
  le 4 0x4C5A4631 ++ le 2 1 ++ le 1 i ++ le 1 u.nexp ++ le 8 u.frame ++ le 2 u.width ++ le 2 u.lines
    ++ le 1 ((u.depth - 10) / 2) ++ le 1 u.stale.toNat ++ le 2 (d.unitRow0 i u) ++ le 8 u.tstart ++ le 2 u.nband ++ le 2 u.ncol
    ++ le 4 (d.unitPos i u) ++ zeros 24

/-- Bytes of the block index, its pad included (R325). -/
def indexBytes (u : FrameUnit) (npos : Nat) : List Byte :=
  (List.range npos).flatMap (fun p => le 4 ((tget u.index p).getD allOnes32)) ++ (if npos % 2 = 1 then zeros 4 else [])

/-- The rest of a unit after its last block: index, padding and trailer (R323, R326, Table CC-5). `len` is its length so far. -/
def Dev.unitTail (d : Dev) (i : Nat) (u : FrameUnit) (len : Nat) : List Byte :=
  let npos := d.unitPos i u
  let idx := indexBytes u npos
  let pad := roundUp (len + idx.length) 64 - (len + idx.length)
  let r := (d.frameRec i u.frame).getD { frame := u.frame, ctx := i }
  let t := le 4 0x4C5A4654 ++ le 4 u.frame ++ le 4 r.marks ++ le 2 r.rows ++ le 2 r.lost ++ le 4 (len / 8)
    ++ le 4 (len + idx.length + pad + 64) ++ le 4 u.nraw ++ le 4 u.nverify ++ le 4 u.ncatch ++ le 4 (npos - u.index.length)
    ++ le 2 (u.truncated.toNat + 2 * u.srcFault.toNat + 4 * u.ringOnly.toNat) ++ zeros 2 ++ le 4 (crc32c idx).toNat
    ++ le 8 (r.tend.getD allOnes64) ++ zeros 4
  idx ++ zeros pad ++ t ++ le 4 (crc32c (t ++ d.unitHeader i u)).toNat

/-- Bytes fit into the extents that a clip's stream holds. -/
def Dev.fits (d : Dev) (slot stream n : Nat) : Bool :=
  let c := d.clip slot
  if stream = 0 then c.dataLen + n ≤ c.dataExt.length * extPay else c.indexLen + n ≤ c.indexExt.length * extPay

/-- Append bytes to a clip's data stream. -/
def Dev.append (d : Dev) (slot : Nat) (bs : List Byte) : Dev :=
  d.clipMod slot (fun c => { c with stream := mwrite c.stream c.dataLen bs, dataLen := c.dataLen + bs.length })

/-- Write the header of a unit where it has none yet. -/
def Dev.unitBegin (d : Dev) (i slot : Nat) (u : FrameUnit) : Dev :=
  if u.start.isSome then d
  else
    let at' := (d.clip slot).dataLen
    (d.append slot (d.unitHeader i u)).unitMod i u.frame (fun u => { u with start := some at', len := 64 })

/-- Append the blocks of one band-plane, in position order. -/
def Dev.unitBlocks (d : Dev) (i slot frame : Nat) (bs : List (Nat × Option (List Byte))) : Dev :=
  bs.foldl (fun d e => match e.2 with
    | none => d
    | some b => (d.append slot b).unitMod i frame (fun u => { u with index := tput u.index e.1 (u.len / 8), len := u.len + b.length })) d

/-- Close a unit: its index and trailer, its index entry and, for a ring-only unit, GAPS (R323, R391, R392); an index page
that is full reaches media. -/
def Dev.unitClose (d : Dev) (i slot frame : Nat) : Dev :=
  match (d.recOf i).bind (fun r => r.units.find? (fun u => u.frame == frame)) with
  | none => d
  | some u =>
    let tail := d.unitTail i u u.len
    let d := d.append slot tail
    let start := u.start.getD 0
    let total := u.len + tail.length
    let marks := match d.frameRec i frame with | some r => r.marks | none => 0
    let entry := le 8 frame ++ le 8 (start + (if u.ringOnly then 2 ^ 63 else 0)) ++ le 4 total ++ le 4 marks ++ le 8 u.tstart
    let d := d.clipMod slot (fun c => { c with
      index := mwrite c.index ((frame - c.first) * 32) entry, indexLen := (frame - c.first) * 32 + 32, last := c.last,
      indexOnMedia := max c.indexOnMedia (((frame - c.first) * 32 + 32) / 4096 * 4096),
      flags := if u.ringOnly then c.flags ||| cfGaps else c.flags,
      ringOnly := if u.ringOnly then c.ringOnly ++ [(start, total)] else c.ringOnly,
      tstart := if frame = c.first then u.tstart else c.tstart })
    let d := d.retireLeases kRecording i frame
    d.recChange i (fun r => { r with units := r.units.filter (fun u => u.frame != frame), lastDone := some frame })

/-- What the first unit of a recording writes next and cannot for want of an extent: stream and bytes. -/
inductive NextWrite where
  | nothing
  | blocks (bs : List (Nat × Option (List Byte)))
  | close
  deriving DecidableEq, Repr

def Dev.unitNext (d : Dev) (i : Nat) (u : FrameUnit) : NextWrite :=
  if u.next < d.unitPlanes i u then (match tget u.done u.next with | some bs => .blocks bs | none => .nothing)
  else if u.final then .close else .nothing

/-- Bytes that a write needs in the data stream. -/
def Dev.nextBytes (d : Dev) (i : Nat) (u : FrameUnit) (w : NextWrite) : Nat :=
  let head := if u.start.isNone then 64 else 0
  match w with
  | .nothing => 0
  | .blocks bs => let n := (bs.filterMap (·.2)).map (·.length) |>.sum; if n = 0 then 0 else head + n
  | .close => head + (d.unitTail i u (u.len + head)).length

/-- The stream, 0 data or 1 index, that must grow before a write. -/
def Dev.wantsExtent (d : Dev) (i : Nat) : Option Nat :=
  match d.recOf i with
  | none => none
  | some r => match r.units with
    | [] => none
    | u :: _ =>
      let w := d.unitNext i u
      if !d.fits (r.clip % 65536) 0 (d.nextBytes i u w) then some 0
      else if w == .close && !d.fits (r.clip % 65536) 1 32 then some 1 else none

/-- Write what is complete, in order, as far as the extents reach; `fuel` bounds the number of writes. -/
def Dev.recAdvance (d : Dev) (i : Nat) : Nat → Dev
  | 0 => d
  | fuel + 1 =>
    match d.recOf i with
    | none => d
    | some r => match r.units with
      | [] => d
      | u :: _ =>
        let slot := r.clip % 65536
        if (d.wantsExtent i).isSome then d
        else match d.unitNext i u with
          | .nothing => d
          | .blocks bs =>
            let d := if bs.any (fun e => e.2.isSome) then d.unitBegin i slot u else d
            let d := (d.unitBlocks i slot u.frame bs).unitMod i u.frame (fun u => { u with done := terase u.done u.next, next := u.next + 1 })
            let d := if u.next + 1 = d.unitPlanes i u then d.retireLeases kRecording i u.frame else d
            d.recAdvance i fuel
          | .close => (((d.unitBegin i slot u).unitClose i slot u.frame).poolDispatch 4).recAdvance i fuel

/-- Bound on the writes of one step: band-planes of the largest frame and its close. -/
def recFuel : Nat := 8192

/-! ## Coding of a band-plane (R317 to R322, R329, R330) -/

/-- A sample of a raw frame (R220): packed lines of the exposures of a row one after the other. -/
def Dev.rawSample (d : Dev) (u : FrameUnit) (m : Mapping) (row e col : Nat) : Nat :=
  let pitch := roundUp ((u.width * u.depth + 7) / 8) 64
  let a := m.va + (row * u.nexp + e) * pitch + col * u.depth / 8
  leNat (d.vread m.asid a 3) / 2 ^ (col * u.depth % 8) % 2 ^ u.depth

/-- The bytes of a raw line that a block covers. -/
def FrameUnit.span (u : FrameUnit) (m : Mapping) (row e c : Nat) : Nat × Nat :=
  let pitch := roundUp ((u.width * u.depth + 7) / 8) 64
  let wb := min 256 (u.width / 2 - 256 * c)
  (m.va + (row * u.nexp + e) * pitch + 512 * c * u.depth / 8, (2 * wb * u.depth + 7) / 8)

/-- The outcome of a band-plane: its blocks, counts of RAW, VERIFY and CATCHUP blocks, the fault that ended it, and whether
poison did. -/
structure Coded where
  blocks : List (Nat × Option (List Byte)) := []
  nraw : Nat := 0
  nverify : Nat := 0
  ncatch : Nat := 0
  fault : Option (Nat × Nat × Nat) := none
  poison : Bool := false

/-- Code a band-plane; `bad` are the column blocks whose verification fails. -/
def Dev.codePlane (d : Dev) (u : FrameUnit) (w : Coding) (bad : List Nat) : Coded :=
  let band := w.bp / (4 * u.nexp)
  let e := w.bp / 4 % u.nexp
  let ph := w.bp % 4
  let rows := u.bandRows band ph
  (List.range u.ncol).foldl (fun (k : Coded) c =>
    let pos := w.bp * u.ncol + c
    let absent := { k with blocks := k.blocks ++ [(pos, none)] }
    if rows.isEmpty || k.fault.isSome || k.poison then absent
    else match u.raw.bind d.buf with
      | none => absent
      | some m =>
        let spans := rows.map (fun r => u.span m r e c)
        match spans.findSome? (fun s => (d.rangeFault true m.asid s.1 s.2 false).map (fun f => (m.asid, f.1, f.2))) with
        | some f => { absent with fault := some f }
        | none =>
          if spans.any (fun s => d.vpoison m.asid s.1 s.2) then { absent with poison := true }
          else
            let wb := min 256 (u.width / 2 - 256 * c)
            let x := fun i j => d.rawSample u m (rows.getD j 0) e (2 * (256 * c + i) + ph % 2)
            let plane := ph + 4 * e
            if bad.contains c then
              -- a block of a band-plane in catch-up keeps CATCHUP beside VERIFY
              { k with nverify := k.nverify + 1, ncatch := k.ncatch + w.catchup.toNat,
                       blocks := k.blocks ++ [(pos, some (rawBlock (if w.catchup then 6 else 2) plane c band wb rows.length u.depth x))] }
            else if w.catchup then
              { k with ncatch := k.ncatch + 1, blocks := k.blocks ++ [(pos, some (rawBlock 4 plane c band wb rows.length u.depth x))] }
            else
              let (bs, raw) := codeBlock plane c band wb rows.length u.depth x
              { k with nraw := k.nraw + raw.toNat, blocks := k.blocks ++ [(pos, some bs)] }) {}

end Sys2Proof.Machine
end

