-- ==== Sys2Proof/Machine/Recording.lean ====
section
/-!
DEFINITION. Recording: start and stop, frame units at frame starts, bands and band-planes, extents and the close of a clip
(R312 to R332, R390 to R394, R530).
-/
set_option autoImplicit false

namespace Sys2Proof.Machine

/-! ## Frame starts (R313, R328, R390) -/

/-- The largest unit of a frame (R328): RAW blocks, 16 bytes per position, the index and 128 bytes. -/
def FrameUnit.largest (u : FrameUnit) : Nat :=
  if u.stale then 128
  else
    let npos := u.nband * u.nexp * 4 * u.ncol
    (List.range (u.nband * 2)).foldl (fun n k =>
      let hb := min 16 (u.lines / 2 - 16 * (k / 2))
      n + 2 * u.nexp * ((List.range u.ncol).map (fun c => rawUnits (min 256 (u.width / 2 - 256 * c)) hb u.depth * 8)).sum) 0
      + 16 * npos + 4 * npos + 128

/-- The write buffer has room for a unit (R392). -/
def Dev.wbRoom (d : Dev) (slot n : Nat) : Bool :=
  let c := d.clip slot
  let held := d.store.wbSlots.any (fun e => e.clip == slot && e.seq + 1 == c.dataExt.length)
  n ≤ d.store.wbFree * extPay + (if held then c.dataExt.length * extPay - c.dataLen else 0)

/-- A unit for the next frame of a recorded context. -/
def Dev.unitStart (d : Dev) (i : Nat) (r : Recording) : Dev :=
  let g := d.ing i
  let n := r.next
  let slot := r.clip % 65536
  match d.frameRec i n with
  | none => d.recChange i (fun r => { r with next := n + 1 })
  | some q =>
    let stale := q.marks &&& mStale != 0
    let raw := (tget g.rawBuf n).filter (fun _ => !stale)
    let u : FrameUnit := { frame := n, width := g.width, lines := g.height, depth := g.depth, nexp := max 1 g.nexp, stale := stale,
                           tstart := q.tstart.getD allOnes64, raw := raw }
    let c := d.clip slot
    if 2 ^ 51 < c.dataLen + (r.units.map FrameUnit.largest).sum + u.largest then
      d.recChange i (fun r => { r with ending := true, flags := r.flags ||| cfMediaFull })
    else
      let ringOnly := !d.wbRoom slot u.largest
      let d := if ringOnly || c.dataExt.isEmpty then d else d.storeMod (fun s => s.takeWb slot (c.dataExt.length - 1))
      let d := d.recChange i (fun r => { r with next := n + 1, units := r.units ++ [{ u with ringOnly := ringOnly }] })
      match raw with | some h => d.lease kRecording i n h | none => d

/-- Units for frames that have started; `fuel` bounds their number. -/
def Dev.unitsStart (d : Dev) (i : Nat) : Nat → Dev
  | 0 => d
  | fuel + 1 =>
    match d.recOf i with
    | none => d
    | some r => if r.ending || !r.stops.isEmpty || (d.ing i).count ≤ r.next then d else (d.unitStart i r).unitsStart i fuel

/-- A unit whose frame record has become final: bands with no visible row hold no block (R315, R323). -/
def FrameUnit.finish (u : FrameUnit) (isFinal : Bool) : FrameUnit :=
  if u.final || !isFinal then u
  else
    let empty := (List.range u.nband).filter (fun b => !u.bands.contains b && !u.visible.any (fun r => r / 32 == b))
    let planes := empty.flatMap (fun b => (List.range (4 * u.nexp)).map (fun p => b * 4 * u.nexp + p))
    { u with
      final := true, bands := u.bands ++ empty,
      done := planes.foldl (fun t p => tput t p ((List.range u.ncol).map (fun c => (p * u.ncol + c, none)))) u.done }

/-! ## Stops and the close (R332, R393, R394) -/

/-- Every unit of an ending recording is closed: the clip awaits its close and the stops complete. -/
def Dev.recSettle (d : Dev) (i : Nat) : Dev :=
  match d.recOf i with
  | none => d
  | some r =>
    if !r.units.isEmpty || r.closing.isSome || (r.stops.isEmpty && !r.ending) then d
    else
      let d := d.recChange i (fun r => { r with closing := some (r.stops.getLastD allOnes64), stops := [], ending := true })
      r.stops.foldl (fun d q => d.finish q { dw0 := r.lastDone.getD allOnes32, dg0 := r.lastDone.getD allOnes64, dg1 := i }) d

/-- Bring the units of a context up to date: new frames, final records, streams and the end of the recording. -/
def Dev.recSync (d : Dev) (i : Nat) : Dev :=
  let d := d.unitsStart i 4096
  let cur := (d.ing i).cur.map (·.frame)
  let d := d.recChange i (fun r => { r with units := r.units.map (fun u => u.finish (cur != some u.frame)) })
  ((d.recAdvance i recFuel).poolDispatch 4).recSettle i

/-- Band-planes whose blocks are missing at a STOP_NOW and count: those of received rows or of rows still to come. -/
def Dev.unitMissing (d : Dev) (i : Nat) (u : FrameUnit) : List Nat :=
  ((List.range (d.unitPlanes i u)).drop u.next).filter (fun p =>
    let b := p / (4 * u.nexp)
    (tget u.done p).isNone && (d.unitLive i u || d.bandLate i u b || !(u.bandRows b (p % 4)).isEmpty))

/-- Close the first unit as it stands: the blocks done are written, the rest is absent; where no extent holds its end, the
clip ends before it. -/
def Dev.unitCut (d : Dev) (i : Nat) (u : FrameUnit) : Dev :=
  match d.recOf i with
  | none => d
  | some r =>
    let slot := r.clip % 65536
    let cut := !(d.unitMissing i u).isEmpty
    let blocks := (u.done.filter (fun e => u.next ≤ e.1)).flatMap (·.2)
    let d := d.unitMod i u.frame (fun x => { x with truncated := x.truncated || cut, ready := [], done := [] })
    let bytes := (blocks.filterMap (·.2)).map (·.length) |>.sum
    let need := (if u.start.isNone then 64 else 0) + bytes + (d.unitTail i u (u.len + 64 + bytes)).length
    if d.fits slot 0 need && d.fits slot 1 32 then
      (((d.unitBegin i slot u).unitBlocks i slot u.frame blocks).unitClose i slot u.frame)
    else
      let d := match u.start with
        | some s => d.clipMod slot (fun c => { c with dataLen := s, stream := mclear c.stream s (c.dataLen - s) })
        | none => d
      (d.retireLeases kRecording i u.frame).recChange i (fun r => { r with units := r.units.filter (fun v => v.frame != u.frame) })

/-- STOP_NOW of a recording: every unit closes, the completion lists frames and block positions not written (R332). -/
def Dev.recStopNow (d : Dev) (i flags : Nat) (earlier : List Nat) (note : Nat) (now : Option Nat) : Dev :=
  match d.recOf i with
  | none => d
  | some r =>
    let lst := r.units.flatMap (fun u => (d.unitMissing i u).flatMap (fun p =>
      (List.range u.ncol).flatMap (fun c => listEntry [u.frame, p * u.ncol + c])))
    let d := r.units.foldl (fun d u => d.unitCut i u) d
    let last := ((d.recOf i).bind (·.lastDone))
    let d := d.recChange i (fun r => { r with
      units := [], stops := [], ending := true, flags := r.flags ||| flags, closing := some (now.getD (earlier.getLastD allOnes64)) })
    let d := (d.dropLeases kRecording i).showBacklog
    let fin := fun (d : Dev) (q notes : Nat) (l : List Byte) =>
      d.finish q { dw0 := last.getD allOnes32, dg0 := last.getD allOnes64, dg1 := i, notes := notes, list := l }
    let d := earlier.foldl (fun d q => fin d q note (if now.isNone then lst else [])) d
    match now with | some q => fin d q 0 lst | none => d

/-- The device stops a recording itself (R193, R394): an internal record, and STOP_NOW with the clip flag. -/
def Dev.recStopDevice (d : Dev) (i flag : Nat) : Dev :=
  match d.recOf i with
  | some r => if r.closing.isSome then d.recChange i (fun r => { r with flags := r.flags ||| flag })
      else (d.journalFree 3).recStopNow i flag r.stops 0 none
  | none => d

/-- Frames per recording in samples per second, as a fraction (R312). -/
def Dev.recRate (d : Dev) (i : Nat) : Nat × Nat :=
  (d.fget (fSnsFmtWidth i) * d.fget (fSnsFrameLines i) * d.ctxNexp i * 1000000000, max 1 (d.fget (fSnsTimePeriod i)))

/-- Bytes per second that the recordings need at most: RAW samples at their rates (R394). -/
def Dev.storeRate (d : Dev) : Nat :=
  ((tkeys d.vid.pool.recs).map (fun i => let (a, b) := d.recRate i; a * d.ctxDepth i / 8 / b)).sum

/-- STORE_LOW, when the free extents fall below the need of 60 s of recording (R394). -/
def Dev.storeLow (d : Dev) : Dev :=
  let rate := d.storeRate
  let low := d.freeExts * extPay < 60 * rate
  if !low then d.storeMod (fun s => { s with lowPosted := false })
  else if d.store.lowPosted then d
  else (d.storeMod (fun s => { s with lowPosted := true })).post 0x0E 0 0 noPlace (le 4 d.freeExts ++ le 4 (d.freeExts * extPay / rate))

def startRecording (seq : Nat) (d : Dev) : Dev :=
  d.runStart seq 0xC0 (fun d c =>
    let i := c.w10 % 8
    let rates := (i :: tkeys d.vid.pool.recs).map d.recRate
    let sum := rates.foldl fracAdd (0, 1)
    let comps := ((List.range 4).filter (fun k => d.fget (fCmpStatState k) != 3)).length
    if 4 < i then d.fail seq stBadParam
    else if (d.recOf i).isSome || d.ownedBusy 11 then d.fail seq stBusy
    else if !d.storeUsable then d.fail seq stNoStore
    else if 6000000000 * comps * sum.2 < sum.1 then d.fail seq stOverRate
    else if d.freeExts < 2 then d.fail seq stStoreFull
    else match d.freeSlot with
      | none => d.fail seq stStoreFull
      | some slot =>
        let first := (d.ing i).count
        let d := (d.startCmd seq).clipMod slot (fun c => {
          st := 1, gen := c.gen + 1, ctx := i, first := first, last := allOnes64, tstart := allOnes64, closeSeq := allOnes64 })
        let d := match d.openExtent slot 0 false with | some d => d | none => d
        let d := match d.openExtent slot 1 false with | some d => d | none => d
        let id := d.clipId slot
        let d := d.poolMod (fun p => { p with recs := tput p.recs i { clip := id, first := first, next := first } })
        let d := (d.storeLow).markCreated kRecording i seq
        d.finish seq { dw0 := id, dg0 := first, dg1 := id, dgData := c.data, list := listEntry [first] })

def stopRecording (seq : Nat) (d : Dev) : Dev :=
  d.runStop seq kRecording (fun d c =>
    match d.recOf c.w11 with
    | none => d.fail seq stBadHandle
    | some r =>
      if r.closing.isSome then d.fail seq stBadHandle
      else
        let d := d.startCmd seq
        if c.stopNow then d.recStopNow c.w11 cfStoppedNow r.stops noteSuperseded (some seq)
        else (d.recChange c.w11 (fun r => { r with stops := r.stops ++ [seq] })).recSettle c.w11)

/-- Two frame periods have passed since STOP_AT_BOUNDARY (R332). -/
def Dev.recTimeout (d : Dev) (i : Nat) : Dev :=
  match d.recOf i with
  | some r => if r.stops.isEmpty then d else d.recStopNow i cfStoppedNow r.stops noteBoundaryTimeout none
  | none => d

/-- A row has become visible in a raw frame buffer, for the recording of its context. -/
def Dev.recRow (d : Dev) (i frame row : Nat) : Dev :=
  if (tget (d.ing i).rawBuf frame).isSome || ((d.recOf i).map (fun r => r.units.any (fun u => u.frame == frame && u.raw.isSome))) == some true then
    d.unitMod i frame (fun u => if u.raw.isSome then { u with visible := u.visible ++ [row] } else u)
  else d

/-! ## Bands and band-planes (R316, R322, R329) -/

/-- BAND_READY: a band of the oldest frame that awaits it becomes ready, and its band-planes are dispatched. -/
def bandReady (i band : Nat) (d : Dev) : Dev :=
  match (d.recOf i).bind (fun r => r.units.find? (fun u => d.bandReady i u band)) with
  | none => d
  | some u =>
    let ps := (List.range (4 * u.nexp)).map (fun p => band * 4 * u.nexp + p)
    let full := ps.filter (fun p => !(u.bandRows band (p % 4)).isEmpty)
    let d := d.unitMod i u.frame (fun u => { u with
      bands := u.bands ++ [band], ready := sortBy (fun a b => a ≤ b) (u.ready ++ full),
      done := (ps.filter (fun p => !full.contains p)).foldl (fun t p =>
        tput t p ((List.range u.ncol).map (fun c => (p * u.ncol + c, none)))) u.done })
    (d.poolDispatch 4).recSync i

/-- BAND_PLANE_DONE: a compressor has coded and verified its band-plane; `bad` are the column blocks whose decoding does not
give the samples back (R322). -/
def bandPlaneDone (k : Nat) (bad : List Nat) (d : Dev) : Dev :=
  match tget d.vid.pool.work k with
  | none => d
  | some w =>
    let d := d.poolMod (fun p => { p with work := terase p.work k })
    let d := if d.fget (fCmpStatState k) = 1 then d.fset (fCmpStatState k) 0 else d
    match (d.recOf w.ctx).bind (fun r => r.units.find? (fun u => u.frame == w.frame)) with
    | none => d.poolDispatch 4
    | some u =>
      let r := d.codePlane u w bad
      let d := match r.fault with
        | some (asid, va, s) => d.xlatFault (.compressor k) true false asid va s 0
        | none => d
      let vs := (r.blocks.filter (fun e => e.2.isSome && bad.contains (e.1 % u.ncol))).map (·.1)
      let d := vs.foldl (fun d p => (d.finc (fCmpStatVerify k)).unitError (.compressor k) 0x11 k 2 (le 8 w.frame ++ le 4 p)) d
      let d := d.unitMod w.ctx w.frame (fun u => { u with
        done := tput u.done w.bp r.blocks, nraw := u.nraw + r.nraw, nverify := u.nverify + r.nverify, ncatch := u.ncatch + r.ncatch,
        srcFault := u.srcFault || r.fault.isSome || r.poison })
      (d.poolDispatch 4).recSync w.ctx

/-! ## Extents and clips (R391, R393, R394) -/

/-- EXTENT_NEEDED: the stream that the recording writes next needs an extent; none free stops the recording and closes the
clip with MEDIA_FULL. -/
def extentNeeded (i : Nat) (d : Dev) : Dev :=
  match d.wantsExtent i, d.recOf i with
  | some s, some r =>
    let ringOnly := match r.units with | u :: _ => u.ringOnly | [] => false
    match d.openExtent (r.clip % 65536) s ringOnly with
    | some d => (d.storeLow).recSync i
    | none => d.recStopDevice i (cfMediaFull + cfNoExtent)
  | _, _ => d

/-- INDEX_PAGE_FLUSH: the index pages of a clip reach media (R391). -/
def indexPageFlush (slot : Nat) (d : Dev) : Dev :=
  if (d.clip slot).st = 1 then d.clipMod slot (fun c => { c with indexOnMedia := c.indexLen }) else d

/-- How many units a clip keeps when it ends with the last one that lies whole on media: a ring-only unit is never there, and the
walk passes one only where its index entry is persisted (R392, R394, R395). -/
def Clip.lastOnMedia (c : Clip) (n : Nat) : Nat :=
  ((List.range n).foldl (fun (m : Bool × Nat) k =>
    let word := leNat (mread c.index (32 * k + 8) 8)
    let whole := word % 2 ^ 51 + leNat (mread c.index (32 * k + 16) 4) ≤ c.dataOnMedia
    if !m.1 || !whole then (false, m.2)
    else if !bit word 63 then (true, k + 1)
    else (32 * k + 32 ≤ c.indexOnMedia, m.2)) (true, 0)).2

/-- Bytes of the first n units of a clip. -/
def Clip.unitsEnd (c : Clip) (n : Nat) : Nat :=
  if n = 0 then 0 else leNat (mread c.index (32 * (n - 1) + 8) 8) % 2 ^ 51 + leNat (mread c.index (32 * (n - 1) + 16) 4)

/-- CLIP_CLOSE: the last index page, the manifest and the clip record are written, and CLIP_CLOSED is posted (R393, R530).
After CXL loss the clip holds what is on media, and its manifest is pending (R394, R532). -/
def clipClose (i : Nat) (d : Dev) : Dev :=
  match d.recOf i with
  | none => d
  | some r =>
    match r.closing with
    | none => d
    | some sq =>
      let slot := r.clip % 65536
      let lost := r.flags &&& cfCxlLost != 0
      let c := d.clip slot
      let all := c.indexLen / 32
      let n := if lost then c.lastOnMedia all else all
      let len := if lost then c.unitsEnd n else c.dataLen
      let d := d.clipMod slot (fun c => { c with
        flags := c.flags ||| r.flags % cfNoExtent, last := if n = 0 then (c.first + allOnes64) % 2 ^ 64 else c.first + n - 1, dataLen := len,
        closeSeq := sq, indexLen := 32 * n, indexOnMedia := 32 * n,
        stream := if lost then mclear c.stream len (c.dataLen - len) else c.stream,
        index := if lost then mclear c.index (32 * n) (32 * (all - n)) else c.index })
      let c := d.clip slot
      let d := if lost then d.clipMod slot (fun c => { c with mstate := 1 })
        else d.signManifest slot false ((List.range c.dataExt.length).flatMap c.extDigest)
      let d := d.clipMod slot (fun c => { c with st := 2 })
      let d := d.poolMod (fun p => { p with recs := terase p.recs i })
      let d := d.post 0x10 kRecording i noPlace (le 4 r.clip ++ le 8 (d.clip slot).last ++ le 1 (d.clip slot).flags)
      if r.flags &&& cfNoExtent = 0 then d else d.post 0x0F 0 0 noPlace (le 4 r.clip)

/-- MANIFEST_READBACK_DONE: the extents of a clip with a pending manifest have been read back; `bad` are those whose
read-back failed (R532). -/
def manifestReadbackDone (slot : Nat) (bad : List Nat) (d : Dev) : Dev :=
  let c := d.clip slot
  if (c.st = 2 || c.st = 3) && c.mstate = 1 then
    d.signManifest slot true ((List.range c.dataExt.length).flatMap (fun s => if bad.contains s then zeros 48 else c.extDigest s))
  else d

end Sys2Proof.Machine
end

