-- ==== Sys2Proof/Machine/Encoder.lean ====
section
/-!
DEFINITION. HEVC encoder cores: sessions, pictures, the budget guard and the output ring (R334 to R352).
-/
set_option autoImplicit false

namespace Sys2Proof.Machine

def Dev.enc (d : Dev) (n : Nat) : Encoder := tgetD d.vid.enc n {}
def Dev.encMod (d : Dev) (n : Nat) (f : Encoder → Encoder) : Dev := d.vidMod (fun v => { v with enc := tmod v.enc n {} f })
def Dev.encSt (d : Dev) (n : Nat) : Nat := d.fget (fHevEncStatState n)
def encPlace (n : Nat) : Place := ioPlace 2 (4 + n) noSlice

/-! ## Session block (Table CC-7) -/

def ebKind (b : List Byte) : Nat := field b 0 1
def ebTrg (b : List Byte) : Nat := field b 1 1
def ebSrc (b : List Byte) : Nat := field b 2 2
def ebW (b : List Byte) : Nat := field b 4 2
def ebH (b : List Byte) : Nat := field b 6 2
def ebCropX (b : List Byte) : Nat := field b 8 2
def ebCropY (b : List Byte) : Nat := field b 0x0A 2
def ebProfile (b : List Byte) : Nat := field b 0x0C 1
def ebLevel (b : List Byte) : Nat := field b 0x0D 1
def ebTier (b : List Byte) : Nat := field b 0x0E 1
def ebGop (b : List Byte) : Nat := field b 0x0F 1
def ebNref (b : List Byte) : Nat := field b 0x10 1
def ebHash (b : List Byte) : Bool := bit (field b 0x11 1) 0
def ebMark (b : List Byte) : Bool := bit (field b 0x11 1) 1
def ebHrd (b : List Byte) : Bool := bit (field b 0x11 1) 2
def ebIperiod (b : List Byte) : Nat := field b 0x12 2
def ebRc (b : List Byte) : Nat := field b 0x14 1
def ebQpMin (b : List Byte) : Nat := field b 0x15 1
def ebQpMax (b : List Byte) : Nat := field b 0x16 1
def ebQp (b : List Byte) : Nat := field b 0x17 1
def ebRate (b : List Byte) : Nat := field b 0x18 4
def ebCpb (b : List Byte) : Nat := field b 0x1C 4
def ebCap (b : List Byte) : Nat := field b 0x20 4
def ebRingVa (b : List Byte) : Nat := field b 0x28 8
def ebRing (b : List Byte) : Nat := field b 0x30 4
def ebWorkVa (b : List Byte) : Nat := field b 0x38 8
def ebWork (b : List Byte) : Nat := field b 0x40 8

def ebNc (b : List Byte) : Nat := (ebW b + 63) / 64
def ebNr (b : List Byte) : Nat := (ebH b + 63) / 64
def eb422 (b : List Byte) : Bool := ebProfile b == 4
/-- MAXCTU (R342). -/
def ebMaxCtu (b : List Byte) : Nat := if ebProfile b = 1 then 122880 else if ebProfile b = 2 then 153600 else 204800
/-- H (R342). -/
def ebTail (b : List Byte) : Nat := if ebHash b || ebMark b then 1024 else 0
/-- The smallest CAP in bits (R344). -/
def ebMinCap (b : List Byte) : Nat := 8192 + ebNr b * (1024 + ebNc b * 64) + ebMaxCtu b + 1024
/-- A picture buffer (R335). -/
def ebPicBuf (b : List Byte) : Nat :=
  let n := ebW b * ebH b * 2
  n + (if eb422 b then n else n / 2) + ebW b * ebH b / 16

/-- Level limits of H.265 (PRESUMED from its Annex A; the spec names them only): level, luma samples per picture, per
second, CPB and bit rate in 1,000 bits for Main and High tier, slices per picture. -/
def hevcLevels : List (Nat × Nat × Nat × Nat × Nat × Nat) :=
  [(30, 36864, 552960, 350, 350, 16), (60, 122880, 3686400, 1500, 1500, 16), (63, 245760, 7372800, 3000, 3000, 20),
   (90, 552960, 16588800, 6000, 6000, 30), (93, 983040, 33177600, 10000, 10000, 40),
   (120, 2228224, 66846720, 12000, 30000, 75), (123, 2228224, 133693440, 20000, 50000, 75),
   (150, 8912896, 267386880, 25000, 100000, 200), (153, 8912896, 534773760, 40000, 160000, 200),
   (156, 8912896, 1069547520, 60000, 240000, 200), (180, 35651584, 1069547520, 60000, 240000, 600),
   (183, 35651584, 2139095040, 120000, 480000, 600)]

def levelRow (b : List Byte) : Option (Nat × Nat × Nat × Nat × Nat × Nat) := hevcLevels.find? (fun e => e.1 == ebLevel b)

/-- Pictures that the decoded picture buffer holds at a size and level (H.265 A.4.2, PRESUMED). -/
def ebDpb (b : List Byte) : Nat :=
  match levelRow b with
  | none => 0
  | some e =>
    let n := ebW b * ebH b
    if 4 * n ≤ e.2.1 then 16 else if 2 * n ≤ e.2.1 then 12 else if 4 * n ≤ 3 * e.2.1 then 8 else 6

/-- Bit rate and CPB in the range of the level: Main 4:2:2 10 takes 1.667 times the figures. -/
def Dev.levelOk (d : Dev) (b : List Byte) : Bool :=
  let (p, q) := d.tframe (ebTrg b)
  match levelRow b with
  | none => false
  | some (_, ps, sr, mainBr, highBr, slices) =>
    let n := ebW b * ebH b
    let lim := (if ebTier b = 1 && 120 ≤ ebLevel b then highBr else mainBr) * (if eb422 b then 1667 else 1000)
    n ≤ ps && ebW b * ebW b ≤ 8 * ps && ebH b * ebH b ≤ 8 * ps && n * 1000000000 * q ≤ sr * p && n * q ≤ 2 * p
      && ebNr b ≤ slices && (ebRc b == 2 || (ebRate b * 1000 ≤ lim && ebCpb b * 1000 ≤ lim)) && ebNref b + 1 ≤ ebDpb b

/-- Ranges that SET ENCODER PARAMETERS checks as well. -/
def ebRatesOk (b : List Byte) : Bool :=
  ebQpMin b ≤ ebQpMax b && ebQpMax b ≤ 51 && ebQp b ≤ 51 && (ebMinCap b + 7) / 8 ≤ ebCap b
    && (ebRc b != 0 || 2 * ebMinCap b ≤ ebCpb b * 1000)

/-- Every page of a range of address space 0 is pinned. -/
def Dev.pinnedRange (d : Dev) (va n : Nat) : Bool :=
  (d.rangeFault true 0 va n true).isNone && (d.rangeFault true 0 va n false).isNone

/-- The source of a session (R336). -/
def Dev.encSrcOk (d : Dev) (b : List Byte) : Bool :=
  if ebKind b = 1 then
    let f := d.flowDesc (ebSrc b)
    ebSrc b < 512 && fdDest f == 1 && fdOutW f == ebW b && fdOutH f == ebH b && fdSamp f == (if eb422 b then 0 else 1)
      && fdDepth f == (if ebProfile b = 1 then 8 else 10)
  else
    let x := d.mix (ebSrc b)
    ebSrc b < 4 && ebCropX b % 2 == 0 && ebCropY b % 2 == 0 && ebCropX b + ebW b ≤ x.width && ebCropY b + ebH b ≤ x.height
      && (match x.out with | some o => o.tf != 0 | none => true)

def Dev.sessionOk (d : Dev) (b : List Byte) : Bool :=
  b.length == 128 && ebKind b < 2 && ebTrg b < 32 && d.encSrcOk b
    && 64 ≤ ebW b && ebW b ≤ 8192 && ebW b % 8 == 0 && 64 ≤ ebH b && ebH b ≤ 4320 && ebH b % 8 == 0
    && [1, 2, 4].contains (ebProfile b) && ebTier b < 2 && ebGop b < 3 && 1 ≤ ebNref b && ebNref b ≤ 4 && field b 0x11 1 < 8
    && ebRc b < 3 && ebRatesOk b && d.levelOk b && allZero b 0x24 4 && allZero b 0x34 4 && allZero b 0x48 56
    && ebRingVa b % 64 == 0 && ebRing b % 4096 == 0 && 2 * ebCap b ≤ ebRing b && ebWorkVa b % 64 == 0
    && (ebNref b + 5) * ebPicBuf b ≤ ebWork b && d.pinnedRange (ebRingVa b) (ebRing b) && d.pinnedRange (ebWorkVa b) (ebWork b)

def startEncoder (seq : Nat) (d : Dev) : Dev :=
  d.runStart seq 0xB9 (fun d c =>
    let n := c.w10 % 2
    let b := c.data
    if d.encSt n = 4 then d.fail seq stCoreRetired
    else if (d.enc n).session || d.encSt n ≠ 0 || d.unitBusy (.encoder n) 8 then d.fail seq stBusy
    else if d.fget fQfStatPstate = 1 then d.fail seq stPowerState
    else if !d.sessionOk b then d.fail seq stBadParam
    else
      let d := (d.startCmd seq).encMod n (fun x => { session := true, block := b, recs := x.recs, cpb := ebCpb b * 1000 })
      let d := d.fsets [(fHevEncStatState n, 1), (fHevRingWrWr n, 0), (fHevRingRdRd n, 0)]
      (d.markCreated kEncoder n seq).okOther seq c 0)

/-! ## Changes (R338, R339, R345) -/

def cbMask (b : List Byte) (k : Nat) : Bool := bit (field b 0 4) k

/-- A region of interest: columns, rows and QP offset (R345). -/
def roiOk (r : List Byte) : Bool :=
  field r 0 1 ≤ field r 1 1 && field r 2 1 ≤ field r 3 1 && allZero r 5 3
    && decide (-12 ≤ sext 8 (field r 4 1)) && decide (sext 8 (field r 4 1) ≤ 12)

def changeRois (b : List Byte) : List (List Byte) := (List.range (field b 7 1)).map (fun k => (b.drop (0x20 + 8 * k)).take 8)

/-- A session block with a change block applied. -/
def applyChange (s b : List Byte) : List Byte :=
  let put := fun (s : List Byte) (k off n v : Nat) => if cbMask b k then s.take off ++ le n v ++ s.drop (off + n) else s
  put (put (put (put (put s 4 0x17 1 (field b 8 1)) 5 0x15 1 (field b 9 1)) 6 0x16 1 (field b 0x0A 1)) 7 0x18 4 (field b 0x0C 4))
    8 0x1C 4 (field b 0x10 4)

def changeOk (b : List Byte) : Bool :=
  b.length == 96 && field b 0 4 < 512 && allZero b 0x0B 1 && allZero b 0x14 12
    && (!cbMask b 0 || field b 4 1 < 2) && (!cbMask b 1 || field b 5 1 < 4 || field b 5 1 == 255) && (!cbMask b 2 || field b 6 1 < 16)
    && (!cbMask b 3 || (field b 7 1 ≤ 8 && (changeRois b).all roiOk && allZero b (0x20 + 8 * field b 7 1) (64 - 8 * field b 7 1)))

/-- The slot that a change stores its effect picture in. -/
def changeStore (b : List Byte) : Option Nat := if cbMask b 1 && field b 5 1 < 4 then some (field b 5 1) else none

def setEncoderParameters (seq : Nat) (d : Dev) : Dev :=
  d.run seq false 0xBD (fun d c =>
    let n := c.w10 % 2
    let x := d.enc n
    let b := c.data
    let s := (x.staged ++ [b]).foldl applyChange x.block
    let taken := tkeys x.slots ++ (x.cur.bind (·.store)).toList ++ (x.staged ++ [b]).filterMap changeStore
    let occupied := ((List.range 4).filter (fun k => taken.contains k)).length
    if !x.session then d.fail seq stBadHandle
    else if !changeOk b || !ebRatesOk s || !d.levelOk s then d.fail seq stBadParam
    else if (changeStore b).isSome && ebDpb s - 1 < ebNref s + occupied then d.fail seq stDpbFull
    else
      let d := (d.startCmd seq).encMod n (fun x => { x with staged := x.staged ++ [b] })
      (d.markChanged kEncoder n seq).okEffect seq c x.picno n)

/-! ## Pulses (R337, R346) -/

def pfBudget : Nat := 1
def pfDropped : Nat := 2
def pfRepeat : Nat := 4
def pfSrcFault : Nat := 8
def pfRefFault : Nat := 16
def pfCoreError : Nat := 32
def pfLtrMissing : Nat := 64
def pfAborted : Nat := 128

/-- Change the newest record of a picture: records of an earlier session may bear the same PICNO. -/
def modPic (p : Nat) (f : PicRec → PicRec) : List PicRec → List PicRec
  | [] => []
  | r :: l => if r.picno = p && l.all (fun q => q.picno != p) then f r :: l else r :: modPic p f l

def Dev.picRec (d : Dev) (n p : Nat) (f : PicRec → PicRec) : Dev := d.encMod n (fun x => { x with recs := modPic p f x.recs })

/-- The newest record of a picture. -/
def Dev.picOf (d : Dev) (n p : Nat) : Option PicRec := (d.enc n).recs.reverse.find? (fun r => r.picno == p)

/-- Mark a picture with a fault; HEV_ENC_STAT.FAULT counts a picture once (R349, R359). -/
def Dev.picFault (d : Dev) (n p flag : Nat) : Dev :=
  let known := match d.picOf n p with | some r => r.flags &&& (pfSrcFault + pfRefFault + pfCoreError) != 0 | none => false
  let d := d.picRec n p (fun r => { r with flags := r.flags ||| flag })
  if known then d else d.finc (fHevEncStatFault n)

/-- Keep the last 1,024 picture records (R348). -/
def addPic (l : List PicRec) (r : PicRec) : List PicRec := (l ++ [r]).drop (l.length + 1 - 1024)

/-- Free bytes of an output ring. -/
def Dev.ringFree (d : Dev) (n : Nat) (size : Nat) : Nat :=
  size - (d.fget (fHevRingWrWr n) + size - d.fget (fHevRingRdRd n) % size) % size

/-- Staged changes take effect (R339). -/
def Encoder.applyStaged (x : Encoder) : Encoder × Option Nat :=
  x.staged.foldl (fun acc b =>
    let (x, st) := acc
    let x := { x with
      block := applyChange x.block b,
      rois := if cbMask b 3 then changeRois b else x.rois,
      ltUse := if cbMask b 2 then field b 6 1 else x.ltUse,
      forceIdr := x.forceIdr || (cbMask b 0 && field b 4 1 == 1) || cbMask b 7 || cbMask b 8 }
    (x, if cbMask b 1 then changeStore b else st)) ({ x with staged := [] }, none)

/-- The effective cap of a picture in bits (R341). -/
def Encoder.capBits (x : Encoder) : Nat :=
  if ebRc x.block = 0 && ebHrd x.block then min (8 * ebCap x.block) x.cpb else 8 * ebCap x.block

/-- The newest source frame of a session. -/
def Dev.encSource (d : Dev) (b : List Byte) : Option Released :=
  (if ebKind b = 1 then (d.flow (ebSrc b)).out else (d.mix (ebSrc b)).out).filter (fun o => !d.absent o.buf)

/-- The colour description of a frame by its transfer tag: BT.709, PQ and HLG (R336). -/
def vuiColour (tf : Nat) : Nat × Nat × Nat := if tf = 1 then (9, 16, 9) else if tf = 2 then (9, 18, 9) else (1, 1, 1)

/-- A pulse of its trigger unit reaches an encoder (R337). -/
def Dev.encPulse (d : Dev) (n t : Nat) : Dev :=
  let x := d.enc n
  if !x.session || !x.stops.isEmpty then d
  else
    let (x, store) := x.applyStaged
    let p := x.picno
    let d := d.encMod n (fun _ => { x with picno := p + 1 })
    let b := x.block
    let dropped := fun (d : Dev) => (d.finc (fHevEncStatDropped n)).encMod n (fun x => { x with
      recs := addPic x.recs { picno := p, flags := pfDropped, tstart := t } })
    let full := d.ringFree n (ebRing b) < ebCap b + 64 * (ebNr b + 4)
    -- the ring and the work area are absent while an unmap or remap of them is pending (R160)
    let gone := d.invPending 0 (ebRingVa b) (ebRing b) || d.invPending 0 (ebWorkVa b) (ebWork b)
    if d.encSt n ≠ 1 || x.cur.isSome || gone then dropped d
    else if full then (dropped d).post 0x0A kEncoder n (encPlace n) (le 4 p)
    else match d.encSource b with
      | none => dropped d
      | some o =>
        let idr := x.forceIdr || ebGop b == 0 || (match x.lastIdr with
          | none => true | some q => ebIperiod b != 0 && q + ebIperiod b ≤ p)
        let missing := !idr && (List.range 4).any (fun k => bit x.ltUse k && (tget x.slots k).isNone)
        let rep := x.lastSrc == some (ebSrc b, o.oframe)
        let ty := if idr then 0 else if ebGop b = 2 then 2 else 1
        let pic : EncPic := {
          picno := p, ty := ty, src := o, cap := x.capBits, store := store, colour := vuiColour o.tf,
          poc := if idr then 0 else p - x.lastIdr.getD p,
          refs := if idr then [] else x.coded.take (ebNref b) ++ (x.slots.filter (fun e => bit x.ltUse e.1)).map (·.2) }
        let flags := (if rep then pfRepeat else 0) + (if missing then pfLtrMissing else 0)
        ((d.lease kEncoder n p o.buf).leaseRange kEncoder n p 0 [(ebRingVa b, ebRing b), (ebWorkVa b, ebWork b)]).encMod n (fun x => { x with
          cur := some pic, forceIdr := false, lastSrc := some (ebSrc b, o.oframe),
          recs := addPic x.recs { picno := p, ty := ty, flags := flags, src := o.src, marks := o.marks, tstart := t } })

/-! ## Output ring (R346, R347) -/

/-- Chunk header (Table CC-9). -/
def chunkHead (kind flags picno row len : Nat) : List Byte :=
  le 2 0x48C5 ++ le 1 kind ++ le 1 flags ++ le 4 picno ++ le 2 row ++ zeros 2 ++ le 4 len

/-- Write a chunk at the next 64-byte boundary of the ring, round its end; the fault where a write faults. -/
def Dev.ringWrite (d : Dev) (n : Nat) (b bs : List Byte) : Dev × Option (Nat × Nat) :=
  let size := ebRing b
  let at' := roundUp (d.fget (fHevRingWrWr n)) 64 % size
  let first := bs.take (size - at')
  let rest := bs.drop (size - at')
  match d.rangeFault true 0 (ebRingVa b + at') first.length true with
  | some f => (d, some f)
  | none => match (if rest.isEmpty then none else d.rangeFault true 0 (ebRingVa b) rest.length true) with
    | some f => (d, some f)
    | none =>
      let d := (d.vwrite (.encoder n) 0 (ebRingVa b + at') first).vwrite (.encoder n) 0 (ebRingVa b) rest
      (d.fset (fHevRingWrWr n) ((at' + bs.length) % size), none)

/-- A session has ended: leases return, and its stop commands complete (R351). -/
def Dev.encEnd (d : Dev) (n : Nat) (seqs : List Nat) (f : Ending) : Dev :=
  let last := (d.enc n).lastDone
  let d := d.encMod n (fun x => { x with session := false, cur := none, stops := [], staged := [] })
  let d := if d.encSt n = 3 || d.encSt n = 4 then d else d.fset (fHevEncStatState n) 0
  let d := d.dropLeases kEncoder n
  seqs.foldl (fun d q => d.finish q { f with dw0 := last.getD allOnes32, dg0 := last.getD allOnes64, dg1 := n }) d

/-- A fault on a ring write ends the session with TRANSLATION; the picture in progress is cut (R349). -/
def Dev.encRingFault (d : Dev) (n : Nat) (f : Nat × Nat) : Dev :=
  let d := match (d.enc n).cur with
    | some p => d.picRec n p.picno (fun r => { r with flags := r.flags ||| pfAborted, bytes := p.bytes })
    | none => d
  (d.xlatFault (.encoder n) true true 0 f.1 f.2 0).encEnd n (d.enc n).stops { sct := 7, sc := stTranslation }

/-! ## CTU rows (R340 to R346) -/

/-- The guard of R342 over the CTUs of a row: the bits spent, whether coding has switched to minimum cost and where, and
whether every CTU keeps its bound. -/
def guardRow (b : List Byte) (cap k row : Nat) : List Nat → Nat → Nat → Bool → Option Nat → Bool → Nat × Bool × Option Nat × Bool
  | [], _, spent, mc, sw, ok => (spent, mc, sw, ok)
  | bits :: rest, c, spent, mc, sw, ok =>
    let left := (ebNc b - c - 1) * k + (ebNr b - row - 1) * (1024 + ebNc b * k) + ebTail b
    let mc' := mc || decide (cap < spent + ebMaxCtu b + left)
    guardRow b cap k row rest (c + 1) (spent + bits) mc' (if mc' && !mc then some c else sw)
      (ok && decide (bits ≤ if mc' then k else ebMaxCtu b))

/-- QP of a normally coded CTU: the row's QP with the offset of the lowest-numbered region that contains it (R345). -/
def ctuQp (b : List Byte) (rois : List (List Byte)) (row col qp : Nat) : Nat :=
  match rois.find? (fun r => field r 0 1 ≤ col && col ≤ field r 1 1 && field r 2 1 ≤ row && row ≤ field r 3 1) with
  | some r => (min (max ((qp : Int) + sext 8 (field r 4 1)) (ebQpMin b)) (ebQpMax b)).toNat
  | none => qp

/-- slice_qp of every slice after the guard has switched (R343). -/
def minCostQp : Nat := 51

/-- A minimum-cost CTU (R343). -/
def minCtu (idr : Bool) : CtuCode := if idr then .dcNoResidual else .skip 0

/-- How a row is coded whose first `normal` CTUs come before the guard's switch; `after`: its slice starts after it. -/
def codeRow (b : List Byte) (rois : List (List Byte)) (idr after : Bool) (row qp normal : Nat) : CodedRow :=
  { sliceQp := if after then minCostQp else qp,
    ctus := (List.range (ebNc b)).map (fun c => if c < normal then .normal (ctuQp b rois row c qp) else minCtu idr) }

/-- The QP of a CTU that is coded normally. -/
def CtuCode.qp : CtuCode → Option Nat
  | .normal q => some q
  | _ => none

/-- Rows of the source that a CTU row reads, as address ranges. -/
def Dev.srcRanges (d : Dev) (b : List Byte) (o : Released) (row : Nat) : List (Nat × Nat × Nat) :=
  match d.buf o.buf with
  | none => []
  | some m =>
    let ys := (List.range 64).map (64 * row + ·) |>.filter (· < ebH b)
    if ebKind b = 1 then
      ys.flatMap (fun y => [(m.asid, m.va + 2 * ebW b * y, 2 * ebW b)])
    else ys.map (fun y => (m.asid, m.va + (ebCropY b + y) * rgbPitch o.width, rgbPitch o.width))

/-- ENCODER_ROW_DONE: a CTU row is coded; H.265 decides the bits, which the command carries, and the guard how each CTU is
coded (R343). A row that the guard's switch precedes has its slice_qp fixed. Bits that break the guard, the QP limits or the bounds of R342 do not come from the
encoder, and leave the state as it is (log entry 7). -/
def encoderRowDone (n : Nat) (r : EncRow) (d : Dev) : Dev :=
  let x := d.enc n
  match x.cur with
  | none => d
  | some p =>
    let b := x.block
    let rs := d.srcRanges b p.src p.row
    let fault := rs.findSome? (fun e => (d.rangeFault true e.1 e.2.1 e.2.2 false).map (fun f => (e.1, f.1, f.2)))
    let bad := fault.isSome || rs.any (fun e => d.vpoison e.1 e.2.1 e.2.2)
    let k := if p.ty = 0 then 64 else 16
    let (spent, mc, sw, ok) := guardRow b p.cap k p.row r.ctus 0 (p.spent + r.head + 8 * (if p.row = 0 then r.lead.length else 0))
      (p.mincost || bad) none true
    let near := match p.lastQp with | some q => q ≤ r.qp + 3 && r.qp ≤ q + 3 | none => true
    let qpOk := p.mincost || bad || (ebQpMin b ≤ r.qp && r.qp ≤ ebQpMax b && near
      && (ebRc b != 2 || r.qp == min (max (ebQp b) (ebQpMin b)) (ebQpMax b)))
    if d.encSt n = 3 || ebNr b ≤ p.row || r.ctus.length ≠ ebNc b || 1024 < r.head || 8 * r.lead.length > 8192 || !ok || !qpOk
        || 8 * r.bytes.length ≠ roundUp (r.head + r.ctus.sum) 8 then d
    else
      let d := match fault with | some (a, va, s) => d.xlatFault (.encoder n) true false a va s 0 | none => d
      let d := if bad then d.picFault n p.picno pfSrcFault else d
      let budget := !bad && sw.isSome
      let d := if budget then (d.picRec n p.picno (fun q => { q with
          flags := q.flags ||| pfBudget, budget := some (p.row, sw.getD 0) })).finc (fHevEncStatBudget n) else d
      let idr := p.ty == 0
      let lead := if p.row = 0 then chunkHead 0 (if idr then 2 else 0) p.picno 65535 r.lead.length ++ r.lead else []
      let (d, e0) := if p.row = 0 then d.ringWrite n b lead else (d, none)
      let slice := chunkHead 1 ((if idr then 2 else 0) + (if mc then 4 else 0)) p.picno p.row r.bytes.length ++ r.bytes
      match e0 with
      | some f => d.encRingFault n f
      | none =>
        let (d, e1) := d.ringWrite n b slice
        match e1 with
        | some f => d.encRingFault n f
        | none =>
          let normal := (if p.mincost || bad then 0 else sw.getD (ebNc b))
          let coded := codeRow b x.rois idr (p.mincost || bad) p.row r.qp normal
          let qps := coded.ctus.filterMap CtuCode.qp
          d.encMod n (fun x => { x with cur := some { p with
            row := p.row + 1, spent := spent, mincost := mc, lastQp := if mc then p.lastQp else some r.qp,
            qpSum := p.qpSum + qps.sum, qpNum := p.qpNum + qps.length, rows := p.rows ++ [coded],
            bytes := p.bytes + r.bytes.length + (if p.row = 0 then r.lead.length else 0) } })

/-! ## End of a picture (R338, R346, R348, R349) -/

/-- Emulation prevention of H.265: a byte 3 after two zero bytes before a byte up to 3. -/
def emulate : Nat → List Byte → List Byte
  | _, [] => []
  | z, b :: bs =>
    if 2 ≤ z ∧ b.toNat ≤ 3 then 3 :: b :: emulate (if b = 0 then 1 else 0) bs
    else b :: emulate (if b = 0 then z + 1 else 0) bs

/-- The marks SEI (R348) as a suffix SEI NAL unit of H.265. -/
def marksSei (r : PicRec) : List Byte :=
  let uuid : List Byte := [0x5B, 0x1C, 0x9A, 0x44, 0xE2, 0x07, 0x4D, 0x1F, 0x86, 0x3A, 0xC0, 0x55, 0x71, 0xB9, 0x0D, 0x28]
  [0, 0, 0, 1] ++ emulate 0 ([0x50, 0x01, 0x05, 0x20] ++ uuid ++ le 4 r.picno ++ le 4 (r.src.getD allOnes32) ++ le 4 r.marks
    ++ le 4 r.flags ++ [0x80])

/-- An end-of-sequence NAL unit (R351). -/
def eosNal : List Byte := [0, 0, 0, 1, 0x48, 0x01]

/-- ENCODER_PICTURE_DONE: every row is coded; the suffix chunk, with the hash SEI and filler given, is written and the
picture record is complete. -/
def encoderPictureDone (n : Nat) (hash filler : List Byte) (d : Dev) : Dev :=
  let x := d.enc n
  match x.cur with
  | none => d
  | some p =>
    let b := x.block
    if p.row < ebNr b || d.encSt n = 3 then d
    else
      let work := d.rangeFault true 0 (ebWorkVa b) (ebWork b) true
      let refBad := work.isSome || d.vpoison 0 (ebWorkVa b) (ebWork b)
      let d := match work with | some (va, s) => d.xlatFault (.encoder n) true true 0 va s 0 | none => d
      let d := if refBad then d.picFault n p.picno pfRefFault else d
      let rec' := (d.picOf n p.picno).getD { picno := p.picno, tstart := 0 }
      let body := (if ebHash b then hash else []) ++ (if ebMark b then marksSei rec' else []) ++ filler
        ++ (if x.stops.isEmpty then [] else eosNal)
      if p.cap < p.spent + 8 * body.length then d
      else
        let chunk := chunkHead 2 (1 + (if p.ty = 0 then 2 else 0)) p.picno 65535 body.length ++ body
        let (d, e) := d.ringWrite n b chunk
        match e with
        | some f => d.encRingFault n f
        | none =>
          let total := p.bytes + body.length
          let d := d.picRec n p.picno (fun q => { q with bytes := total, qpavg := if p.qpNum = 0 then 0 else p.qpSum / p.qpNum })
          let (pp, q) := d.tframe (ebTrg b)
          let d := d.encMod n (fun x =>
            let slots := if p.ty = 0 then [] else x.slots
            { x with
              cur := none, lastDone := some p.picno, forceIdr := x.forceIdr || refBad, lastIdr := if p.ty = 0 then some p.picno else x.lastIdr,
              coded := (p.picno :: (if p.ty = 0 then [] else x.coded)).take (ebNref b),
              slots := match p.store with | some s => tput slots s p.picno | none => slots,
              cpb := min (ebCpb b * 1000) (x.cpb - 8 * total + ebRate b * pp / (q * 1000000)) })
          let d := d.retireLeases kEncoder n p.picno
          if x.stops.isEmpty then d else d.encEnd n x.stops {}

/-! ## Errors and stops (R350, R351) -/

/-- Abandon the picture in progress: chunks counted stand, and the record carries ABORTED. -/
def Dev.encAbandon (d : Dev) (n flag : Nat) : Dev :=
  match (d.enc n).cur with
  | none => d
  | some p =>
    let d := d.picRec n p.picno (fun q => { q with flags := q.flags ||| pfAborted ||| flag, bytes := p.bytes })
    let d := if p.row = 0 then d else
      (d.ringWrite n (d.enc n).block (chunkHead 2 (8 + (if p.ty = 0 then 2 else 0)) p.picno 65535 0)).1
    (d.encMod n (fun x => { x with cur := none, forceIdr := true })).retireLeases kEncoder n p.picno

/-- The self-test of a core begins: the picture in progress is lost, and those of its time are DROPPED. -/
def Dev.encTest (d : Dev) (n : Nat) : Dev :=
  if d.encSt n = 3 || d.encSt n = 4 then d
  else
    let d := match (d.enc n).cur with | some p => (d.picFault n p.picno pfCoreError).encAbandon n 0 | none => d
    (d.encMod n (fun x => { x with forceIdr := true })).fset (fHevEncStatState n) 3

/-- ENCODER_CORE_ERROR: an uncorrected error of a core, with its check number and unit state. -/
def encoderCoreError (n check : Nat) (state : List Byte) (d : Dev) : Dev :=
  let d := d.unitError (.encoder n) 3 check 2 state
  if d.underTest (.encoder n) then d.encTest n else d

def Dev.encStopNow (d : Dev) (n : Nat) (earlier : List Nat) (note : Nat) (now : Option Nat) : Dev :=
  let x := d.enc n
  let lst := match x.cur with | some p => listEntry [p.picno, p.row] | none => []
  let d := d.encAbandon n 0
  let d := d.encEnd n earlier { notes := note, list := if now.isNone then lst else [] }
  match now with
  | some q => d.finish q { dw0 := x.lastDone.getD allOnes32, dg0 := x.lastDone.getD allOnes64, dg1 := n, list := lst }
  | none => d

def stopEncoder (seq : Nat) (d : Dev) : Dev :=
  d.runStop seq kEncoder (fun d c =>
    let n := c.w11
    let x := d.enc n
    if 1 < n || !x.session then d.fail seq stBadHandle
    else
      let d := d.startCmd seq
      if c.stopNow then d.encStopNow n x.stops noteSuperseded (some seq)
      else if x.cur.isSome then (d.encMod n (fun x => { x with stops := x.stops ++ [seq] })).fset (fHevEncStatState n) 2
      else d.encEnd n (x.stops ++ [seq]) {})

/-- Two frame periods have passed since STOP_AT_BOUNDARY (R351). -/
def Dev.encTimeout (d : Dev) (n : Nat) : Dev :=
  if (d.enc n).stops.isEmpty then d else d.encStopNow n (d.enc n).stops noteBoundaryTimeout none

end Sys2Proof.Machine
end

