-- ==== Sys2Proof/Machine/Decoder.lean ====
section
/-!
DEFINITION. The HEVC decoder core: input ring, output ring, damage and stops (R353 to R358). What a NAL unit decodes to, and how
many held pictures it lets out, is H.265's, and comes as an operand.
-/
set_option autoImplicit false

namespace Sys2Proof.Machine

def Dev.decMod (d : Dev) (f : Decoder → Decoder) : Dev := d.vidMod (fun v => { v with dec := f v.dec })
def Dev.decSt (d : Dev) : Nat := d.fget fHevDecStatState
def decPlace : Place := ioPlace 2 6 noSlice

def startDecoder (seq : Nat) (d : Dev) : Dev :=
  d.runStart seq 0xC1 (fun d c =>
    let b := c.data
    let nout := field b 0x0E 1
    let asid := field b 0x0C 2
    let outs := (List.range nout).map (fun k => field b (0x10 + 4 * k) 4)
    if b.length ≠ 64 || field b 0 8 % 64 ≠ 0 || field b 8 4 % 4096 ≠ 0 || field b 8 4 = 0 || nout < 2 || 8 < nout
        || !allZero b 0x0F 1 || !allZero b (0x10 + 4 * nout) (32 - 4 * nout) || !allZero b 0x30 16 then d.fail seq stBadParam
    else if !d.mem.spaces.contains asid || outs.any (fun h => match d.buf h with | some m => m.asid != asid | none => true) then
      d.fail seq stBadHandle
    else if d.decSt = 5 then d.fail seq stCoreRetired
    else if d.decSt ≠ 0 || d.unitBusy .decoder 8 then d.fail seq stBusy
    else if d.fget fQfStatPstate = 1 then d.fail seq stPowerState
    else
      let d := (d.startCmd seq).decMod (fun _ => { inVa := field b 0 8, inSize := field b 8 4, asid := asid, bufs := outs, ring := outs })
      let d := d.fsets [(fHevDecStatState, 1), (fHevDecStatStatus, 0), (fHevDecRdRd, 0), (fHevDecWrWr, 0)]
      (d.markCreated kDecoder 0 seq).okOther seq c 0)

/-- RESTART DECODER: SEEKING from the present input position (R357). -/
def restartDecoder (seq : Nat) (d : Dev) : Dev :=
  d.run seq false 0xC4 (fun d c =>
    if d.noStart then d.fail seq stPowerState
    else if d.decSt = 0 || 4 ≤ d.decSt then d.fail seq stBadHandle
    else
      let d := ((d.startCmd seq).decMod (fun x => { x with skipRasl := false })).fset fHevDecStatState 1
      (d.markChanged kDecoder 0 seq).okOther seq c 0)

/-! ## Output (R355) -/

/-- Bytes of an output picture in a layer format (Table CF-4): the luma plane, then the chroma plane, with lines of whole
64-byte units. -/
def decLines (p : DecPic) : List (Nat × List Byte) :=
  let n := if p.fmt = 4 then 1 else 2
  let stride := roundUp (n * p.width) 64
  let ch := if p.fmt = 5 then p.height else p.height / 2
  (List.range p.height).map (fun y => (y * stride, ((List.range p.width).map (fun x => p.luma.getD (y * p.width + x) 0)).flatMap (le n)))
    ++ (List.range ch).map (fun y => (stride * (p.height + y),
      ((List.range p.width).map (fun x => p.chroma.getD (y * p.width + x) 0)).flatMap (le n)))

/-- Write a picture into the next output buffer that holds no lease; the fault where a write faults. -/
def Dev.decOut (d : Dev) (p : DecPic) (index : Nat) : Dev × Option (Nat × Nat) :=
  let x := d.vid.dec
  match x.bufs.find? (fun h => !d.leased h && !d.absent h) with
  | none => (d.finc fHevDecStatDropped, none)
  | some h => match d.buf h with
    | none => (d.finc fHevDecStatDropped, none)
    | some m =>
      match (decLines p).findSome? (fun l => d.rangeFault true m.asid (m.va + l.1) l.2.length true) with
      | some f => (d, some f)
      | none =>
        let d := (decLines p).foldl (fun (d : Dev) l => d.vwrite .decoder m.asid (m.va + l.1) l.2) d
        (d.decMod (fun x => { x with
          bufs := ringAfter x.bufs h,
          newest := some { buf := h, oframe := index, src := none, marks := 0, oflags := 0, tf := 0, width := p.width, height := p.height } }),
         none)

/-- Write pictures in order, up to the first fault. -/
def Dev.decOuts (d : Dev) : List DecPic → Dev × Option (Nat × Nat)
  | [] => (d, none)
  | p :: rest =>
    match (d.decMod (fun x => { x with outs := x.outs + 1 })).decOut p d.vid.dec.outs with
    | (d, some f) => (d, some f)
    | (d, none) => d.decOuts rest

/-- A picture takes its place among those held: by sequence, then by POC. -/
def holdPic (e : HeldPic) : List HeldPic → List HeldPic
  | [] => [e]
  | q :: l => if q.cvs < e.cvs || (q.cvs == e.cvs && decide (q.pic.poc ≤ e.pic.poc)) then q :: holdPic e l else e :: q :: l

/-- Output the first `n` pictures held. -/
def Dev.decBump (d : Dev) (n : Nat) : Dev × Option (Nat × Nat) :=
  (d.decMod (fun x => { x with held := x.held.drop n })).decOuts ((d.vid.dec.held.take n).map (·.pic))

/-- The decoder stops: its leases and rings go, and the commands complete (R358). -/
def Dev.decEnd (d : Dev) (seqs : List Nat) (notes : Nat) (lst : List Byte) : Dev :=
  let x := d.vid.dec
  let last := if x.pictures = 0 then allOnes64 else x.pictures - 1
  let d := (d.fset fHevDecStatState 0).decMod (fun x => { x with ring := [], bufs := [], held := [], stops := [] })
  seqs.foldl (fun d q => d.finish q { dw0 := last % 4294967296, dg0 := last, notes := notes, list := lst }) (d.dropLeases kDecoder 0)

/-! ## Damage (R356) -/

/-- The decoder stops on damage and reports it: with `flush` the pictures held are output first, and the buffer is emptied. A
STOP_AT_BOUNDARY that waited completes. -/
def Dev.decDamage (d : Dev) (status ty : Nat) (poc : Int) (flush : Bool) : Dev :=
  let (d, f) := if flush then d.decBump d.vid.dec.held.length else (d, none)
  let (d, status) := match f with
    | some (va, s) => (d.xlatFault .decoder true true d.vid.dec.asid va s 0, 7)
    | none => (d, status)
  let x := d.vid.dec
  let d := (d.fsets [(fHevDecStatState, 3), (fHevDecStatStatus, status)]).finc fHevDecStatDamage
  let d := (d.decMod (fun x => { x with skipRasl := false, ended := false, held := [] })).dropLeases kDecoder 0
  let d := d.post 0x0B kDecoder 0 decPlace
    (le 1 status ++ le 1 ty ++ le 4 (trunc 32 poc) ++ le 8 x.consumed ++ le 8 x.pictures)
  if x.stops.isEmpty then d else d.decEnd x.stops 0 []

/-- Bytes of the input ring from the read offset. -/
def Dev.decInput (d : Dev) (n : Nat) : List Byte :=
  let x := d.vid.dec
  let rd := d.fget fHevDecRdRd
  (List.range n).map (fun i => d.vbyte x.asid (x.inVa + (rd + i) % x.inSize))

/-- The NAL unit type after a start code of three or four bytes. -/
def nalType (bs : List Byte) : Nat :=
  match bs.dropWhile (· == 0) with
  | _ :: h :: _ => h.toNat / 2 % 64
  | _ => 64

/-- Consume a NAL unit. -/
def Dev.decConsume (d : Dev) (n : Nat) : Dev :=
  let x := d.vid.dec
  (d.fset fHevDecRdRd ((d.fget fHevDecRdRd + n) % x.inSize)).decMod (fun x => { x with consumed := x.consumed + n })

/-- The picture in progress holds a lease on the input ring (R158). -/
def Dev.decLeased (d : Dev) : Bool := d.mem.leases.any (fun l => l.kind == kDecoder)

/-- A slice has been consumed, and with it `k` pictures: the picture in progress holds a lease on the input ring from its first
slice to its last (R158). -/
def Dev.decLease (d : Dev) (k : Nat) : Dev :=
  let x := d.vid.dec
  if k ≠ 0 then d.dropLeases kDecoder 0
  else if d.decLeased then d else d.leaseRange kDecoder 0 x.pictures x.asid [(x.inVa, x.inSize)]

/-- DECODER_NAL: the next NAL unit, of `n` bytes with its start code, is in the ring and is consumed, or stops the decoder.
In SEEKING everything but parameter sets is discarded up to the first IRAP picture (R357). The end of a sequence or bitstream outputs
every picture held (R354). -/
def decoderNal (n : Nat) (r : NalResult) (d : Dev) : Dev :=
  let x := d.vid.dec
  let st := d.decSt
  let avail := (d.fget fHevDecWrWr + x.inSize - d.fget fHevDecRdRd) % x.inSize
  -- a ring with an unmap or remap pending counts as empty until the lease of a picture in progress has retired (R160)
  let gone := d.invPending x.asid x.inVa x.inSize && !d.decLeased
  if (st ≠ 1 && st ≠ 2) || n = 0 || avail < n || gone then d
  else
    let rd := d.fget fHevDecRdRd
    let first := min n (x.inSize - rd)
    let fault := (d.rangeFault true x.asid (x.inVa + rd) first false).orElse (fun _ =>
      if n = first then none else d.rangeFault true x.asid x.inVa (n - first) false)
    let bs := d.decInput n
    let ty := nalType bs
    match fault with
    | some (va, s) => (d.xlatFault .decoder true false x.asid va s 0).decDamage 7 ty 0 true
    | none =>
      if d.vpoison x.asid (x.inVa + rd) first || d.vpoison x.asid x.inVa (n - first) then d.decDamage 7 ty 0 true
      else
        let irap := 16 ≤ ty && ty ≤ 21
        let param := 32 ≤ ty && ty ≤ 34
        let eos := ty = 36 || ty = 37
        if st = 1 && !irap && !param then d.decConsume n
        else if (ty = 8 || ty = 9) && x.skipRasl then d.decConsume n
        else match r with
          | .damage status poc => d.decDamage status ty poc true
          | .done pics bump =>
            -- an IRAP picture that starts a sequence: a CRA then counts as a BLA
            let starts := irap && (st = 1 || ty ≠ 21 || x.ended)
            let d := if irap then (d.fset fHevDecStatState 2).decMod (fun x => { x with
                skipRasl := starts && (ty = 21 || (16 ≤ ty && ty ≤ 18)), cvs := x.cvs + starts.toNat }) else d
            let d := d.decMod (fun x => { x with
              params := if param then (bs :: x.params).take 96 else x.params, ended := eos || (x.ended && 32 ≤ ty),
              pictures := x.pictures + pics.length, held := pics.foldl (fun l p => holdPic { cvs := x.cvs, pic := p } l) x.held })
            let d := if ty < 32 then d.decLease pics.length else d
            let stops := !x.stops.isEmpty && (eos || !pics.isEmpty)
            let (d, f) := d.decBump (if eos || stops then d.vid.dec.held.length else bump)
            match f with
            | some (va, s) => (d.xlatFault .decoder true true x.asid va s 0).decDamage 7 ty 0 false
            | none => if stops then (d.decConsume n).decEnd x.stops 0 [] else d.decConsume n

/-- DECODER_CORE_ERROR: an uncorrected error acts as a FAULT and starts the core's self-test (R358). -/
def decoderCoreError (check : Nat) (state : List Byte) (d : Dev) : Dev :=
  let d := if d.decSt = 1 || d.decSt = 2 then d.decDamage 7 (nalType (d.decInput 8)) 0 true else d
  let d := d.unitError .decoder 3 check 2 state
  if d.underTest .decoder && d.decSt ≠ 5 then d.fset fHevDecStatState 4 else d

/-- STOP DECODER: at the boundary the picture in progress is finished first and every picture held is output; STOP_NOW discards
it and lists the input position. -/
def stopDecoder (seq : Nat) (d : Dev) : Dev :=
  d.runStop seq kDecoder (fun d c =>
    if c.w11 ≠ 0 || d.decSt = 0 || 4 ≤ d.decSt then d.fail seq stBadHandle
    else
      let d := d.startCmd seq
      let x := d.vid.dec
      if c.stopNow then
        (d.decEnd x.stops noteSuperseded []).decEnd [seq] 0 (listEntry [d.fget fHevDecRdRd])
      else if d.decSt = 2 && d.decLeased then d.decMod (fun x => { x with stops := x.stops ++ [seq] })
      else
        let (d, f) := d.decBump x.held.length
        let d := match f with | some (va, s) => d.xlatFault .decoder true true x.asid va s 0 | none => d
        d.decEnd [seq] 0 [])

end Sys2Proof.Machine
end

