-- ==== Sys2Proof/Machine/Dram.lean ====
section
/-!
DEFINITION. Local DRAM channels, floats and regulators (R172 to R188) and CXL ports (R189 to R193).
-/
set_option autoImplicit false

namespace Sys2Proof.Machine

def dramPlace (ch : Nat) : Place := ioPlace 3 (ch / 2) (ch % 2)

def Dev.chanMod (d : Dev) (ch : Nat) (f : DramChan → DramChan) : Dev :=
  d.memMod (fun m => { m with chans := tmod m.chans ch {} f })
def Dev.dchan (d : Dev) (ch : Nat) : DramChan := tgetD d.mem.chans ch {}

/-! ## Lasting faults (R185 to R187) -/

/-- Capacity values of a CAPACITY event: USABLE, RESERVE and ALLOC. -/
def Dev.capBytes (d : Dev) : List Byte := le 8 (d.fget fMemCapUsable) ++ le 8 (d.fget fMemCapReserve) ++ le 8 (d.fget fMemCapAlloc)

/-- Fence a channel: its STATE and the count of channels out of use change, and CAPACITY is posted (R187). -/
def Dev.fenceChannel (d : Dev) (ch : Nat) : Dev :=
  let d := (d.fset (fMemChanStatState ch) 3).finc fMemCapSpared
  d.post 0x05 0 ch (dramPlace ch) d.capBytes

/-- A channel has a lasting fault: the first is spared out while RESERVE is non-zero, any other is fenced (R186, R187). -/
def Dev.channelFails (d : Dev) (ch : Nat) : Dev :=
  if 2 ≤ d.fget (fMemChanStatState ch) || d.mem.sparing == some ch then d
  else if d.fget fMemCapReserve != 0 && d.mem.sparing.isNone then d.memMod (fun m => { m with sparing := some ch })
  else d.fenceChannel ch

/-- Distinct rows among errors of a time span. -/
def rowsWithin (l : List (Nat × Nat)) (now span : Nat) : Nat := ((l.filter (fun e => now ≤ e.2 + span)).map (·.1)).eraseDups.length

/-- Corrected errors of a channel by the second of device time: those of the last ten whole seconds and of the present one are
kept. The windows of R185 are read as whole seconds, a DESIGN CHOICE (log entry 128). -/
def DramChan.countCe (now : Nat) (c : DramChan) : DramChan :=
  let s := now / 1000000000
  { c with ceCount := tmod (c.ceCount.filter (fun e => s ≤ e.1 + 10)) s 0 (· + 1) }

/-- Corrected errors exceeded 1,000 in each of the ten whole seconds before a time. -/
def DramChan.ceRate (now : Nat) (c : DramChan) : Bool :=
  let s := now / 1000000000
  10 ≤ s && (List.range 10).all (fun i => decide (1000 < tgetD c.ceCount (s - 1 - i) 0))

/-- CHANNEL_LASTING_FAULT: the counted causes hold when the channel's errors say so; a failed training is what the controller
observes (R185). -/
def channelLastingFault (ch : Nat) (why : ChanFault) (d : Dev) : Dev :=
  let c := d.dchan ch
  let holds := match why with
    | .training => true
    | .ceRate => c.ceRate d.nowNs
    | .ueRows => 3 ≤ rowsWithin c.ueRows d.nowNs 10000000000
    | .badRows => 8 < rowsWithin c.badRows d.nowNs 86400000000000
  if holds then d.channelFails ch else d

/-- The spare-out copy ends (R186): one channel's share leaves USABLE, which becomes 31/32 of the 23 healthy channels. -/
def spareOutDone (d : Dev) : Dev :=
  match d.mem.sparing with
  | none => d
  | some ch =>
    let cap := d.fget (fMemChanStatCap ch)
    let d := d.memMod (fun m => { m with
      sparing := none, spareTo := (List.range 24).filter (fun k => k != ch && d.fget (fMemChanStatState k) < 2) })
    let d := (d.fset (fMemChanStatState ch) 2).finc fMemCapSpared
    let d := d.fsets [(fMemCapReserve, 0), (fMemCapUsable, 23 * cap * 31 / 32)]
    d.post 0x05 0 ch (dramPlace ch) d.capBytes

/-! ## Reads (R173, R176 to R178, R191) -/

/-- Payload of a local DRAM error (Table PF-7). -/
def dramPayload (pa : Nat) (r : Requester) (ch : Nat) : List Byte := le 8 pa ++ le 4 r.place.toNat ++ le 1 ch

/-- A read of a burst of local DRAM ends corrected or uncorrectable. -/
def Dev.dramError (d : Dev) (r : Requester) (pa bank row : Nat) (uncorrectable : Bool) : Dev :=
  let ch := d.channelAt pa
  if uncorrectable then
    let d := (d.setPoison (pa / 64) true).finc (fMemChanStatUe ch)
    let d := d.chanMod ch (fun c => { c with
      ueRows := (bank * 65536 + row, d.nowNs) :: c.ueRows.filter (fun e => d.nowNs ≤ e.2 + 10000000000) })
    d.unitError (.dramRow ch bank row) 6 1 2 (dramPayload pa r ch)
  else ((d.finc (fMemChanStatCe ch)).chanMod ch (DramChan.countCe d.nowNs)).unitError (.dramRow ch bank row) 5 0 1 (dramPayload pa r ch)

/-- The code of a burst on a read of local DRAM (R173): it corrects one flipped bit and detects two, or a burst of another address;
what it makes of three or more the spec leaves open. 0 clean, 1 corrected, 2 uncorrectable. -/
def ReadEnd.verdict (free : Nat) : ReadEnd → Nat
  | .flips n => if n < 3 then n else free % 3
  | .wrongAddress => 2
  | .cxlPoison => 0

/-- A read of a burst of local DRAM ends. -/
def Dev.eccRead (d : Dev) (r : Requester) (pa bank row : Nat) (e : ReadEnd) : Dev :=
  let v := Sys2Proof.Machine.ReadEnd.verdict (d.fresh 64) e
  let d := match e with | .flips n => if n < 3 then d else d.used | _ => d
  if v = 0 then d else d.dramError r pa bank row (v == 2)

/-- MEMORY_READ_COMPLETE: a read by a requester returns data as clean, corrected, uncorrectable or poisoned. -/
def memoryReadComplete (r : Requester) (pa bank row : Nat) (e : ReadEnd) (d : Dev) : Dev :=
  let b := d.behind pa
  if b = 1 || b = 2 then d.badPhys r pa
  else if b ≠ 0 then d
  else if pa < cxlBase then d.eccRead r pa bank row e
  else if e = .cxlPoison then
    let p := d.cxlPortOf (pa - cxlBase)
    (d.setPoison (pa / 64) true).sumpWrite (cxlPlace p) 7 p 2 0 (le 8 pa)
  else d

/-- PATROL_SCRUB: the scrub reads the next burst (R178). -/
def patrolScrub (pa bank row : Nat) (e : ReadEnd) (d : Dev) : Dev :=
  if !d.flag fMemCtlScrubEn || d.behind pa != 0 || cxlBase ≤ pa then d
  else (d.chanMod (d.channelAt pa) (fun c => { c with scrub := pa })).eccRead .none pa bank row e

/-! ## Self-refresh, refresh and training in service (R174, R175, R179, R180) -/

/-- SELF_REFRESH_ENTRY: a channel that has had no request for `idle` µs, at least MEM_SR_CFG.IDLE (0 counts as 1), with SR_AUTO
set and no float enabled, or any active channel in PS2. -/
def selfRefreshEntry (ch idle : Nat) (d : Dev) : Dev :=
  let floats := (List.range 128).any (fun n => d.flag (fMemFloatCfgEn n))
  let own := d.flag fMemCtlSrAuto && !floats && decide (max 1 (d.fget fMemSrCfgIdle) ≤ idle)
  if d.fget (fMemChanStatState ch) == 0 && (own || d.fget fQfStatPstate == 2) then
    (d.fset (fMemChanStatState ch) 1).showDram
  else d

/-- SELF_REFRESH_EXIT: the first request leaves self-refresh. -/
def selfRefreshExit (ch : Nat) (d : Dev) : Dev :=
  if d.fget (fMemChanStatState ch) == 1 then (d.fset (fMemChanStatState ch) 0).showDram else d

/-- The float of a requester's port on local DRAM (Table ME-9); the pilot path, audio write-out and background requesters have
none (R184). -/
def Requester.float : Requester → Option Nat
  | .ingest i => some i | .compressor k => some (5 + k) | .compositor c l => if l < 16 then some (13 + 16 * c + l) else none
  | .spout f => some (77 + f / 32) | .raster r => some (93 + r) | .encoder n => some (109 + n) | .decoder => some 111
  | .siphonRt w => some (112 + w) | _ => none

/-- A request carries class PANIC: the float of its port asserts panic and PANIC_EN is set (R182). -/
def Dev.panics (d : Dev) (r : Requester) : Bool :=
  d.flag fMemCtlPanicEn && (match Sys2Proof.Machine.Requester.float r with | some n => d.flag (fMemFloatStatPanic n) | none => false)

/-- REFRESH_INTERVAL, with the requesters that wait at the channel: postponed while PANIC requests are pending, up to eight
intervals, and repaid after them. -/
def refreshInterval (ch : Nat) (waiting : List Requester) (d : Dev) : Dev :=
  d.chanMod ch (fun c => { c with postponed := if waiting.any d.panics then min 8 (c.postponed + 1) else 0 })

/-- DQS_OSCILLATOR_CHECK: drift above 1/8 UI retrains the write timing; a retrain that fails is a lasting fault. -/
def dqsOscillatorCheck (ch : Nat) (drift retrained : Bool) (d : Dev) : Dev :=
  if drift && !retrained then d.channelFails ch else d

/-- ZQ_CALIBRATION runs without a blackout and changes no state that software sees. -/
def zqCalibration (_ch : Nat) (d : Dev) : Dev := d

/-- WRITE_QUEUE_DRAIN, with the requesters of the writes that wait: they drain when 48 entries are full, or when a PANIC write
waits (R174). -/
def writeQueueDrain (ch filled : Nat) (writers : List Requester) (d : Dev) : Dev :=
  d.chanMod ch (fun c => { c with writes := if 48 ≤ filled || writers.any d.panics then 0 else filled })

/-! ## Floats and regulators (R181 to R184) -/

/-- FLOAT_CROSSING: a float's level becomes `level`. -/
def floatCrossing (n level : Nat) (d : Dev) : Dev :=
  let level := level % 16384
  let worst := if !d.mem.floatSeen.contains n then level
    else if d.flag (fMemFloatCfgDir n) then max level (d.fget (fMemFloatStatWorst n)) else min level (d.fget (fMemFloatStatWorst n))
  let d := d.memMod (fun m => { m with floatSeen := if m.floatSeen.contains n then m.floatSeen else m.floatSeen ++ [n] })
  ((d.fset (fMemFloatStatLevel n) level).fset (fMemFloatStatWorst n) worst).judgeFloat n

/-- CEIL, with other values treated as 70. -/
def Dev.panicCeil (d : Dev) : Nat :=
  let c := d.fget fMemPanicCeilCeil
  if 10 ≤ c && c ≤ 90 then c else 70

/-- REGULATOR_WINDOW: a controller decides for its next window from the share of PANIC requests, in per cent (R183). -/
def regulatorWindow (k share : Nat) (d : Dev) : Dev :=
  let on := decide (d.panicCeil < share) || !d.flag fMemCtlPanicEn || d.flag fMemCtlRegForce
  let was := d.mem.engaged.contains k
  if on && !was then
    let quiet := decide (tgetD d.mem.released k 0 + 1000000 ≤ d.nowNs)
    let d := d.memMod (fun m => { m with engaged := m.engaged ++ [k] })
    if quiet then d.post 0x06 0 k (ioPlace 3 k noSlice) (le 4 k) else d
  else if !on && was then
    d.memMod (fun m => { m with engaged := m.engaged.filter (· != k), released := tput m.released k d.nowNs })
  else d

/-! ## CXL ports (R190 to R193) -/

/-- CXL_EVENT_RECORD: an event record of an expander goes into the sump (R191). -/
def cxlEventRecord (p addr : Nat) (bytes : List Byte) (d : Dev) : Dev :=
  d.sumpWrite (cxlPlace p) 7 p 1 0 (le 8 addr ++ padTo 16 bytes)

/-- CXL_LANE_RETRAIN: a port in service retrains at a reduced width and posts BANDWIDTH (R192). -/
def cxlLaneRetrain (p width : Nat) (d : Dev) : Dev :=
  if d.fget (fCxlPortStatState p) = 0 || !(width == 8 || width == 4) then d
  else
    let speed := d.fget (fCxlPortStatSpeed p)
    (d.showCxlPort p width speed).bandwidth (16 * (p + 1)) width speed

end Sys2Proof.Machine
end

