-- ==== Sys2Proof/Machine/Translation.lean ====
section
/-!
DEFINITION. Address spaces, mappings, pinning, invalidation points, page walks and moves of pages
(R147 to R154, R159, R568).
-/
set_option autoImplicit false

namespace Sys2Proof.Machine

/-! ## Fields of the commands (Table SQ-7) -/

def Ctx.asid (c : Ctx) : Nat := c.w10 % 4096
def Ctx.mkind (c : Ctx) : Nat := bits c.w10 13 12
/-- Length in bytes: CDW11 counts 4 KiB pages (R149). -/
def Ctx.mlen (c : Ctx) : Nat := c.w11 * 4096

/-- Bus addresses of a host mapping, 8 bytes for each page. -/
def busList (data : List Byte) : Nat → List Nat
  | 0 => []
  | n + 1 => field data 0 8 :: busList (data.drop 8) n

/-- Why a range is refused: the space, the alignment, the ends of the space (R147 to R149). -/
def Dev.rangeRefusal (d : Dev) (c : Ctx) : Option Nat :=
  if !d.mem.spaces.contains c.asid then some stBadHandle
  else if c.va % 4096 ≠ 0 then some stMapAlign
  else if c.w11 = 0 || 2 ^ 48 < c.va + c.mlen then some stBadParam
  else none

/-- Why the kind and the data of MAP MEMORY and REMAP MEMORY are refused (Table SQ-7, R149); a bus address lies in the host
range of Table ME-1 (R145). -/
def kindRefusal (c : Ctx) : Option Nat :=
  if c.mkind = 3 then some stBadParam
  else if c.mkind = 2 then
    if c.data.length ≠ 8 * c.w11 then some stBadParam
    else if (busList c.data c.w11).any (fun b => b % 4096 != 0) then some stMapAlign
    else if (busList c.data c.w11).any (fun b => 2 ^ 48 ≤ b) then some stBadParam else none
  else if c.data.isEmpty then none else some stBadParam

/-! ## CREATE SPACE and MAP MEMORY -/

def createSpace (seq : Nat) (d : Dev) : Dev :=
  d.run seq false 0x80 (fun d c =>
    match ((List.range 4095).map (· + 1)).find? (fun a => !d.mem.spaces.contains a) with
    | none => d.fail seq stBusy
    | some a =>
      (((d.startCmd seq).memMod (fun m => { m with spaces := m.spaces ++ [a] })).markCreated kSpace a seq).okCreate seq c a 0)

/-- Pages for a range: host pages as their bus addresses allow, local and CXL pages backed now or left for the first
touch; none when memory does not suffice (R149, R150). -/
def Dev.newPages (d : Dev) (like : Page) (len : Nat) (bus : List Nat) (used : List (Nat × Nat)) : Option (List Page) :=
  if like.kind = 2 then some (hostPages like (len / 4096) like.va bus)
  else if like.pin then backRange like (d.pool like.kind) (len / 4096) used like.va len
  else some (coverAll like like.va none len)

def pinTable : Nat := 65536
def pinCount (ps : List Page) : Nat := (ps.filter (·.pin)).length

/-- Pinned-table entries once the pages are split at the ends of ranges, and at those of the changes still held, with the pages
that a held remap puts in place of fewer (R151, R568, log entry 127). -/
def Dev.pinsWith (d : Dev) (cuts : List (Nat × Nat × Nat)) : Nat :=
  let split := (cuts ++ d.mem.waits.map (fun w => (w.asid, w.va, w.len))).foldl (fun t e =>
    tput t e.1 (splitPages (tgetD t e.1 []) e.2.1 e.2.2)) d.mem.pages
  ((tvals split).map pinCount).sum + (d.mem.waits.map (fun w => match w.op with
    | .remap ps => pinCount ps - pinCount ((tgetD split w.asid []).filter (fun p => inRange p w.va w.len))
    | _ => 0)).sum

/-- Pinned-table entries once the pages of a range are split at its ends. -/
def Dev.pinsAfterSplit (d : Dev) (asid va len : Nat) : Nat := d.pinsWith [(asid, va, len)]

def mapMemory (seq : Nat) (d : Dev) : Dev :=
  d.run seq false 0x81 (fun d c =>
    match (d.rangeRefusal c).orElse (fun _ => kindRefusal c) with
    | some st => d.fail seq st
    | none =>
      if (d.pagesOf c.asid).any (fun p => overlap p.va p.size c.va c.mlen) then d.fail seq stBadParam
      else
        let like : Page := { va := c.va, size := 4096, pa := none, rd := bit c.w10 16, wr := bit c.w10 17, pin := bit c.w10 18, kind := c.mkind }
        match d.newPages like c.mlen (busList c.data c.w11) d.usedRanges with
        | none => d.fail seq stNoMemory
        | some ps =>
          if pinTable < d.pinsWith [] + pinCount ps then d.fail seq stPinFull
          else
            let (h, d) := (d.startCmd seq).newHandle
            let d := ps.foldl Dev.zeroPage d
            let d := d.setPages c.asid (insertPages (d.pagesOf c.asid) ps)
            let d := d.memMod (fun m => { m with maps := tput m.maps h { asid := c.asid, va := c.va, len := c.mlen, kind := c.mkind } })
            (d.markCreated kMapping h seq).okCreate seq c h c.va)

/-! ## Changes of mapped ranges (R148, R154, R159, R568) -/

/-- Why a change of a mapped range is refused. -/
def Dev.changeRefusal (d : Dev) (c : Ctx) : Option Nat :=
  match d.rangeRefusal c with
  | some st => some st
  | none => if allMapped (d.pagesOf c.asid) c.va c.mlen then none else some stBadParam

/-- A lease covers some page of a range. -/
def Dev.rangeLeased (d : Dev) (asid va len : Nat) : Bool :=
  d.mem.leases.any (fun l => l.asid == asid && overlap l.va l.len va len)

/-- Hold a change of translations until its invalidation point. -/
def Dev.hold (d : Dev) (seq : Option Nat) (op : InvOp) (asid va len : Nat) : Dev :=
  d.memMod (fun m => { m with waits := m.waits ++ [{
    seq := seq, op := op, asid := asid, va := va, len := len,
    leaseHeld := op != .unpin && d.rangeLeased asid va len }] })

def unmapMemory (seq : Nat) (d : Dev) : Dev :=
  d.run seq false 0x88 (fun d c =>
    match d.changeRefusal c with
    | some st => d.fail seq st
    | none =>
      if pinTable < d.pinsAfterSplit c.asid c.va c.mlen then d.fail seq stPinFull
      else (d.startCmd seq).hold (some seq) .unmap c.asid c.va c.mlen)

def unpinMemory (seq : Nat) (d : Dev) : Dev :=
  d.run seq false 0x90 (fun d c =>
    match d.changeRefusal c with
    | some st => d.fail seq st
    | none =>
      if pinTable < d.pinsAfterSplit c.asid c.va c.mlen then d.fail seq stPinFull
      else (d.startCmd seq).hold (some seq) .unpin c.asid c.va c.mlen)

/-- Runs of adjacent pages with equal attributes: first page, length. -/
def attrRuns : List Page → List (Page × Nat)
  | [] => []
  | p :: ps => match attrRuns ps with
    | (q, n) :: rest =>
      if p.rd == q.rd && p.wr == q.wr && p.pin == q.pin && q.va == p.va + p.size then (p, p.size + n) :: rest
      else (p, p.size) :: (q, n) :: rest
    | [] => [(p, p.size)]

/-- The new pages of REMAP MEMORY: the attributes of the old ones, of the kind given; a page put in place of a pinned one
is backed now and stays pinned (R150). -/
def Dev.remapPages (d : Dev) (kind : Nat) (bus : List Nat) (base : Nat) (old : List Page) : Option (List Page) :=
  (attrRuns old).foldl (fun acc e => match acc with
    | none => none
    | some ps =>
      let used := d.usedRanges ++ ps.filterMap (fun p => p.pa.map (fun a => (a, p.size)))
      (d.newPages { e.1 with kind := kind, pa := none } e.2 (bus.drop ((e.1.va - base) / 4096)) used).map (ps ++ ·)) (some [])

/-- The handle of the mapping that holds an address. -/
def Dev.handleAt (d : Dev) (asid va : Nat) : Nat :=
  match d.mem.maps.find? (fun e => e.2.asid == asid && e.2.va ≤ va && va < e.2.va + e.2.len) with
  | some e => e.1
  | none => 0

def remapMemory (seq : Nat) (d : Dev) : Dev :=
  d.run seq false 0x85 (fun d c =>
    match (d.changeRefusal c).orElse (fun _ => kindRefusal c) with
    | some st => d.fail seq st
    | none =>
      let old := (splitPages (d.pagesOf c.asid) c.va c.mlen).filter (fun p => inRange p c.va c.mlen)
      match d.remapPages c.mkind (busList c.data c.w11) c.va old with
      | none => d.fail seq stNoMemory
      | some ps =>
        if pinTable < d.pinsAfterSplit c.asid c.va c.mlen - pinCount old + pinCount ps then d.fail seq stPinFull
        else
          let d := ps.foldl Dev.zeroPage (d.startCmd seq)
          d.hold (some seq) (.remap ps) c.asid c.va c.mlen)

/-- Back the pages of a range that are not backed, and pin them all (R150, R151). -/
def Dev.pinPages (d : Dev) (ps : List Page) : Option (List Page × List Page) :=
  ps.foldl (fun acc p => match acc with
    | none => none
    | some (all, fresh) =>
      if p.pa.isSome || p.kind = 2 then some (all ++ [{ p with pin := true }], fresh)
      else
        let used := d.usedRanges ++ fresh.filterMap (fun q => q.pa.map (fun a => (a, q.size)))
        match backRange { p with pin := true } (d.pool p.kind) (p.size / 4096) used p.va p.size with
        | none => none
        | some l => some (all ++ l, fresh ++ l)) (some ([], []))

/-- A command has changed the mappings of a range (R402). -/
def Dev.mapsChanged (d : Dev) (asid va len seq : Nat) : Dev :=
  d.mem.maps.foldl (fun d e => if e.2.asid = asid && overlap e.2.va e.2.len va len then d.markChanged kMapping e.1 seq else d) d

def pinMemory (seq : Nat) (d : Dev) : Dev :=
  d.run seq false 0x8C (fun d c =>
    match d.changeRefusal c with
    | some st => d.fail seq st
    | none =>
      let split := splitPages (d.pagesOf c.asid) c.va c.mlen
      let out := split.filter (fun p => !inRange p c.va c.mlen)
      match d.pinPages (split.filter (fun p => inRange p c.va c.mlen)) with
      | none => d.fail seq stNoMemory
      | some (ps, fresh) =>
        let pages := insertPages out ps
        if pinTable < (d.setPages c.asid pages).pinsWith [] then d.fail seq stPinFull
        else
          let d := fresh.foldl Dev.zeroPage (d.startCmd seq)
          ((d.setPages c.asid pages).mapsChanged c.asid c.va c.mlen seq).okOther seq c 0)

/-! ## Invalidation points (R154) -/

/-- No access translated with the old translation of a range is outstanding. -/
def Dev.noLoads (d : Dev) (asid va len : Nat) : Bool :=
  d.cores.core.all (fun e => !e.2.regs.outstanding.any (fun l => l.space == some asid && overlap l.va (sizeBytes l.sz) va len))

/-- No cache holds a translation of a range any more. -/
def Dev.flushCaches (d : Dev) (asid va len : Nat) : Dev :=
  d.memMod (fun m => { m with caches := tmap m.caches (fun _ l => l.filter (fun e => !(e.asid == asid && overlap e.va e.size va len))) })

/-- Buffer handles of which no page is left go (R147). -/
def Dev.dropMaps (d : Dev) (asid : Nat) : Dev :=
  let gone := (d.mem.maps.filter (fun e => e.2.asid == asid &&
    !(d.pagesOf asid).any (fun p => overlap p.va p.size e.2.va e.2.len))).map (·.1)
  d.memMod (fun m => { m with
    maps := m.maps.filter (fun e => !gone.contains e.1), published := m.published.filter (fun e => !gone.contains e.1) })

/-- Put a change of translations into effect. -/
def Dev.applyInv (d : Dev) (w : InvWait) : Dev :=
  let split := splitPages (d.pagesOf w.asid) w.va w.len
  let out := split.filter (fun p => !inRange p w.va w.len)
  let ins := split.filter (fun p => inRange p w.va w.len)
  let d := d.flushCaches w.asid w.va w.len
  match w.op with
  | .unmap => (d.setPages w.asid out).dropMaps w.asid
  | .remap ps => d.setPages w.asid (insertPages out ps)
  | .unpin => d.setPages w.asid (insertPages out (ins.map (fun p => { p with pin := false })))
  | .move pa =>
    ins.foldl (fun d p => match p.pa with
      | none => d
      | some old =>
        let bad := (List.range (p.size / 64)).filter (fun i => d.poisoned (old + 64 * i))
        let d := d.physWrite (pa + (p.va - w.va)) ((List.range p.size).map (fun i => d.physByte (old + i)))
        bad.foldl (fun d i => d.setPoison ((pa + (p.va - w.va)) / 64 + i) true) d)
      (d.setPages w.asid (insertPages out (ins.map (fun p => { p with pa := p.pa.map (fun _ => pa + (p.va - w.va)) }))))
  | .destroy =>
    let d := (d.setPages w.asid []).dropMaps w.asid
    d.memMod (fun m => { m with spaces := m.spaces.filter (· != w.asid), pages := terase m.pages w.asid })

/-- Complete the command of a change that has passed its point. -/
def Dev.endInv (d : Dev) (w : InvWait) (notes : Nat) : Dev :=
  match w.seq with
  | none => d
  | some q => match tget d.qf.ctxs q with
    | none => d
    | some c =>
      let h := match w.op with | .remap _ => d.handleAt w.asid w.va | _ => 0
      (d.mapsChanged w.asid w.va w.len q).finish q { dw0 := h, notes := notes, dg1 := c.w10, dgData := c.data }

/-- The invalidation point of a held change comes when the last lease in its range has retired (R159) and every access
translated before it has completed. -/
def invalidationPoint (i : Nat) (d : Dev) : Dev :=
  match d.mem.waits[i]? with
  | none => d
  | some w =>
    if (w.op != .unpin && d.rangeLeased w.asid w.va w.len) || !d.noLoads w.asid w.va w.len then d
    else
      let d := d.memMod (fun m => { m with waits := m.waits.eraseIdx i })
      (d.applyInv w).endInv w (if w.broken then noteLeaseBroken else if w.leaseHeld then noteLeaseHeld else 0)

/-! ## Walks (R153) and moves (R150) -/

/-- The bundle at the pc of a core waits for a walk. -/
def Dev.waitsWalk (d : Dev) (q : XlatReq) : Option Nat :=
  let core := match q.req with | .pump c => some c | .windlass c => some c | _ => none
  core.bind (fun c => match d.fetch c with
    | none => none
    | some (w0, w1) => match opOf w0 with
      | none => none
      | some op => match d.semSlot0 c op w0 w1 (d.core c).regs with
        | .error (.need va write) =>
          if va = q.va && write = q.write && coreSpace c (d.core c).regs = q.asid then some c else none
        | _ => none)

/-- A walk ends: it fills the cache of its requester, or faults. A miss on a page whose translation is being invalidated
waits for the point (R154), and a walk whose bundle was abandoned still fills the cache (R96). -/
def translationResolve (i : Nat) (d : Dev) : Dev :=
  match d.mem.reqs[i]? with
  | none => d
  | some q =>
    if d.mem.waits.any (fun w => w.asid == q.asid && overlap w.va w.len q.va 1) then d
    else
      let d := d.memMod (fun m => { m with reqs := m.reqs.eraseIdx i })
      match d.xlat false q.asid q.va q.write with
      | .ok _ => d.fillCache q.req.cache q.asid q.va
      | .error sub => match d.waitsWalk q with
        | some c => d.coreXlatFault c q.asid q.va q.write sub
        | none => d

/-- The firmware moves a pageable page to other memory of its kind, as a remap without a command (R150). -/
def pageMove (asid va : Nat) (d : Dev) : Dev :=
  match d.pageOf asid va with
  | none => d
  | some p =>
    if p.pin || p.kind = 2 || p.pa.isNone || d.invPending asid p.va p.size then d
    else match lowestFree d.usedRanges (d.pool p.kind) p.size p.size with
      | none => d
      | some pa => d.hold none (.move pa) asid p.va p.size

/-- Back a page at its first touch, zeroed (R150, R157); none when memory is exhausted. -/
def Dev.backPage (d : Dev) (asid : Nat) (p : Page) : Option Dev :=
  match backPart p (d.pool p.kind) ((pageSizes p.kind).filter (· ≤ p.size)) d.usedRanges p.va p.size with
  | none => none
  | some ps =>
    let d := d.setPages asid (insertPages ((d.pagesOf asid).filter (fun q => q.va != p.va)) ps)
    some (ps.foldl Dev.zeroPage d)

/-- Service a NOT_PRESENT fault at an address: only a lazily backed pageable page can be serviced (R157). -/
def Dev.serviceFault (d : Dev) (asid va : Nat) : Option Dev :=
  match d.pageOf asid va with
  | some p => if p.pa.isNone && p.kind != 2 && !p.pin then d.backPage asid p else none
  | none => none

end Sys2Proof.Machine
end

