-- ==== Sys2Proof/Machine/Siphon.lean ====
section
/-!
DEFINITION. Background siphon channels and the service of faults by the firmware (R157, R164 to R171).
-/
set_option autoImplicit false

namespace Sys2Proof.Machine

/-- A siphon channel by its index (Table SQ-5): well [3:0], siphon [4], channel [7:5]. -/
def sphIndex (w s ch : Nat) : Nat := w + 16 * s + 32 * ch
def sphWell (k : Nat) : Nat := k % 16
def sphReq (k : Nat) : Requester := .siphonCh (k % 16) (k / 16 % 2) (k / 32 % 8)

def Dev.sphMod (d : Dev) (k : Nat) (f : Siphon → Siphon) : Dev := d.memMod (fun m => { m with siphons := tadj m.siphons k f })
def Dev.sphEnd (d : Dev) (k : Nat) : Dev := d.memMod (fun m => { m with siphons := terase m.siphons k })

/-- A descriptor (R166, Table ME-8). -/
structure SphDesc where
  src : Nat
  dst : Nat
  width : Nat
  lines : Nat
  sstr : Int
  dstr : Int
  flags : Nat
  next : Nat
  deriving DecidableEq, Repr

def parseDesc (b : List Byte) : SphDesc :=
  { src := field b 0 8, dst := field b 8 8, width := field b 0x10 4, lines := field b 0x14 4,
    sstr := sext 32 (field b 0x18 4), dstr := sext 32 (field b 0x1C 4), flags := field b 0x20 4, next := field b 0x30 8 }

/-- Address of byte o of the stream on one side; addresses wrap at 48 bits. -/
def lineAddr (base : Nat) (stride : Int) (width o : Nat) : Nat :=
  (((base : Int) + (o / width : Nat) * stride + (o % width : Nat)) % (2 ^ 48 : Int)).toNat

def SphDesc.total (q : SphDesc) : Nat := q.width * q.lines
def SphDesc.srcAt (q : SphDesc) (o : Nat) : Nat := lineAddr q.src q.sstr q.width o
def SphDesc.dstAt (q : SphDesc) (o : Nat) : Nat := lineAddr q.dst q.dstr q.width o
def SphDesc.srcCistern (q : SphDesc) : Bool := bit q.flags 0
def SphDesc.dstCistern (q : SphDesc) : Bool := bit q.flags 1

/-- The ends of the lines of one side. -/
def sideOk (base : Nat) (stride : Int) (width lines : Nat) : Bool :=
  let ends : List Int := [base, (base : Int) + ((lines - 1 : Nat) : Int) * stride]
  ends.all (fun e => 0 ≤ e && e + width ≤ cisternLimit)

/-- The ranges of Table ME-8. The cistern window of a channel is the area that graphs may use: the spec names no other. -/
def descOkSph (b : List Byte) : Bool :=
  let q := parseDesc b
  q.width % 4 == 0 && 4 ≤ q.width && q.width ≤ 16777216 && 1 ≤ q.lines && q.lines ≤ 65536
    && q.sstr % 4 == 0 && q.dstr % 4 == 0 && q.flags < 16 && allZero b 0x2B 5 && allZero b 0x38 8
    && (!q.srcCistern || sideOk q.src q.sstr q.width q.lines) && (!q.dstCistern || sideOk q.dst q.dstr q.width q.lines)

/-- Offsets of the stream in one 256-byte unit. -/
def SphDesc.unit (q : SphDesc) (u : Nat) : List Nat := ((List.range 256).map (256 * u + ·)).filter (· < q.total)

/-- The first fault of a unit: address, subcause, write. -/
def Dev.unitFault (d : Dev) (q : SphDesc) (asid u : Nat) : Option (Nat × Nat × Bool) :=
  let side := fun (cis write : Bool) (addr : Nat → Nat) =>
    if cis then none else (q.unit u).findSome? (fun o => match d.xlat false asid (addr o) write with
      | .error s => some (addr o, s, write) | .ok _ => none)
  (side q.srcCistern false q.srcAt).orElse (fun _ => side q.dstCistern true q.dstAt)

/-- Copy one unit of a channel; poison travels with the data, and a cistern destination receives zeros for it (R170). The answer
is the physical address of the first poisoned burst read. -/
def Dev.copyUnit (d : Dev) (q : SphDesc) (k asid u : Nat) : Dev × Option Nat :=
  let w := sphWell k
  let offs := q.unit u
  let cells := offs.map (fun o =>
    let a := q.srcAt o
    if q.srcCistern then (o, mget (d.well w).cistern a, none)
    else (o, d.vbyte asid a, (d.phys asid a).filter d.poisoned))
  let seen := (cells.findSome? (·.2.2)).map (· / 64 * 64)
  if q.dstCistern then
    (cells.foldl (fun d c => d.wellMod w (fun x => { x with
      cistern := mput x.cistern (q.dstAt c.1) (if c.2.2.isSome then 0 else c.2.1) })) d, seen)
  else
    let d := (offs.map (fun o => (d.phys asid (q.dstAt o)).map (· / 64 * 64))).eraseDups.foldl (fun d b => match b with
      | some pa => d.badPhys (sphReq k) pa | none => d) d
    let d := cells.foldl (fun d c => match d.phys asid (q.dstAt c.1) with | some pa => d.physPut pa c.2.1 | none => d) d
    -- whole bursts lose their poison bit; bursts that received poisoned data take it
    let d := offs.foldl (fun d o =>
      if q.dstAt o % 64 == 0 && offs.contains (o + 63) && o / q.width == (o + 63) / q.width then
        (match d.phys asid (q.dstAt o) with | some pa => d.setPoison (pa / 64) false | none => d) else d) d
    (cells.foldl (fun d c => if c.2.2.isSome then (match d.phys asid (q.dstAt c.1) with | some pa => d.setPoison (pa / 64) true | none => d) else d) d, seen)

/-- Write PROGRESS, STATUS and PROGRESS_HI into the current descriptor of a channel (R167). -/
def Dev.writeProgress (d : Dev) (k : Nat) (s : Siphon) (status : Nat) : Dev :=
  d.vwrite (sphReq k) s.asid (s.desc + 0x24) (le 4 s.progress ++ le 2 status ++ le 1 (s.progress / 2 ^ 32))

/-- Stop commands of a channel complete. -/
def Dev.sphStops (d : Dev) (k : Nat) (seqs : List Nat) (notes : Nat) (lst : List Byte) : Dev :=
  seqs.foldl (fun d q => d.finish q { dw0 := allOnes32, dg0 := allOnes64, dg1 := k, notes := notes, list := lst }) d

/-- A background channel suspends on a translation fault: the report, the progress and a service request (R168). -/
def Dev.sphSuspend (d : Dev) (k : Nat) (s : Siphon) (f : Nat × Nat × Bool) : Dev :=
  let d := d.xlatFault (sphReq k) false f.2.2 s.asid f.1 f.2.1 s.progress
  (d.writeProgress k s 2).sphMod k (fun s => { s with suspended := true })

/-! ## The schedule of a siphon (R164, R165) -/

/-- The current descriptor of a channel, where it can be fetched and keeps the ranges of Table ME-8. -/
def Dev.sphDesc (d : Dev) (s : Siphon) : Option SphDesc :=
  if (d.rangeFault false s.asid s.desc 64 false).isSome || s.desc % 64 ≠ 0 then none
  else
    let b := d.vread s.asid s.desc 64
    if descOkSph b then some (parseDesc b) else none

/-- Some access of a unit has no translation at hand and an invalidation of its page is in progress: it waits for the point
(R154). -/
def Dev.unitWaits (d : Dev) (q : SphDesc) (k asid u : Nat) : Bool :=
  let side := fun (cis : Bool) (addr : Nat → Nat) => !cis && (q.unit u).any (fun o =>
    !d.cached (sphReq k).cache asid (addr o) && d.mem.waits.any (fun w => w.asid == asid && overlap w.va w.len (addr o) 1))
  side q.srcCistern q.srcAt || side q.dstCistern q.dstAt

/-- A channel has a unit to move now. -/
def Dev.sphReady (d : Dev) (k : Nat) : Bool :=
  match tget d.mem.siphons k with
  | none => false
  | some s => !s.suspended && (match d.sphDesc s with
    | some q => decide (256 * s.progress < q.total) && !d.unitWaits q k s.asid s.progress
    | none => false)

/-- The channel that a siphon (well + 16 × siphon) serves next: one of the highest priority, whose turn of 4 KiB goes on, or the
next one of that priority (R164). -/
def Dev.sphNext (d : Dev) (j : Nat) : Option Nat :=
  let prio := fun c => match tget d.mem.siphons (j + 32 * c) with | some s => s.prio | none => 4
  let ready := (List.range 8).filter (fun c => d.sphReady (j + 32 * c))
  let best := ready.filter (fun c => ready.all (fun e => prio c ≤ prio e))
  let (last, left) := tgetD d.mem.sphTurn j (7, 0)
  if left ≠ 0 && best.contains last then some last else (best.find? (last < ·)).orElse (fun _ => best.head?)

/-- One unit of a channel: the walks that its addresses need fill the well's cache (R153), and it is copied, or the channel
suspends on its fault (R168). -/
def Dev.sphUnit (d : Dev) (k : Nat) : Dev :=
  match tget d.mem.siphons k with
  | none => d
  | some s => match d.sphDesc s with
    | none => d
    | some q => match d.unitFault q s.asid s.progress with
      | some f => d.sphSuspend k s f
      | none =>
        let fill := fun (cis : Bool) (addr : Nat → Nat) (d : Dev) => if cis then d else
          (q.unit s.progress).foldl (fun d o => d.fillCache (sphReq k).cache s.asid (addr o)) d
        let (d, bad) := ((fill q.srcCistern q.srcAt d) |> fill q.dstCistern q.dstAt).copyUnit q k s.asid s.progress
        let (last, left) := tgetD d.mem.sphTurn (k % 32) (7, 0)
        let left := if last = k / 32 && left ≠ 0 then left - 1 else 15
        (d.sphMod k (fun s => { s with progress := s.progress + 1, poison := s.poison.orElse (fun _ => bad) })).memMod (fun m => { m with
          sphTurn := tput m.sphTurn (k % 32) (k / 32, left) })

/-- A siphon moves units by its schedule: so many, and while `k`, where one is given, has one to move. -/
def Dev.sphRun (d : Dev) (j : Nat) (k : Option Nat) : Nat → Dev
  | 0 => d
  | fuel + 1 =>
    if k.any (fun k => !d.sphReady k) then d
    else match d.sphNext j with
      | none => d
      | some c => (d.sphUnit (j + 32 * c)).sphRun j k fuel

/-- Units that the channels of a siphon have still to move of their current descriptors. -/
def Dev.sphLeft (d : Dev) (j : Nat) : Nat :=
  ((List.range 8).map (fun c => match tget d.mem.siphons (j + 32 * c) with
    | some s => (match d.sphDesc s with | some q => (q.total + 255) / 256 - s.progress | none => 0)
    | none => 0)).sum

/-- A channel has moved the whole of its descriptor: PROGRESS and STATUS, the sump entry of poison that it met (R170), its event,
and the next descriptor or its end. -/
def Dev.sphDone (d : Dev) (k : Nat) (s : Siphon) (q : SphDesc) : Dev :=
  let st := if s.poison.isSome then 5 else 1
  let d := d.writeProgress k s st
  let d := match s.poison with
    | some pa => d.sumpWrite (sphReq k).place 6 1 2 0 (dramPayload pa (sphReq k) (d.channelAt pa))
    | none => d
  let d := if bit q.flags 2 then d.post 0x0D kSiphon k (sphReq k).place (le 8 s.desc ++ le 2 st) else d
  if !s.stops.isEmpty || q.next = 0 then (d.sphEnd k).sphStops k s.stops 0 []
  else d.sphMod k (fun s => { s with desc := q.next % 2 ^ 48, progress := 0, poison := none })

/-- SIPHON_DESCRIPTOR_DONE: the siphon works by its schedule until a channel has moved its current descriptor, or suspends on a
fault of it. Where an access waits for an invalidation point, the channel waits. -/
def siphonDescriptorDone (k : Nat) (d : Dev) : Dev :=
  match tget d.mem.siphons k with
  | none => d
  | some s =>
    if s.suspended then d
    else match d.rangeFault false s.asid s.desc 64 false with
      | some (va, sub) => (d.xlatFault (sphReq k) false false s.asid va sub 0).sphMod k (fun s => { s with suspended := true })
      | none => match d.sphDesc s with
        | none => ((d.writeProgress k s 4).sphEnd k).sphStops k s.stops 0 []
        | some q =>
          let d := d.sphRun (k % 32) (some k) (d.sphLeft (k % 32))
          match tget d.mem.siphons k with
          | none => d
          | some s => if s.suspended || 256 * s.progress < q.total then d else d.sphDone k s q

/-- SIPHON_RT_WORK: real-time work of siphon 0 of a well is due. After the units that background channels move up to the next
256-byte boundary, it pre-empts the channel whose turn it is, which writes its PROGRESS (R165, R167). -/
def siphonRtWork (w units : Nat) (d : Dev) : Dev :=
  match d.rtDrain w with
  | none => d
  | some (h, ci, k) =>
    let d := d.sphRun w none units
    let c := w + 32 * (tgetD d.mem.sphTurn w (7, 0)).1
    let d := match tget d.mem.siphons c with
      | some s => if s.suspended || s.progress = 0 then d else d.writeProgress c s 0
      | none => d
    d.drainSlot h ci k w

def startSiphon (seq : Nat) (d : Dev) : Dev :=
  d.runStart seq 0x94 (fun d c =>
    let k := c.w10 % 256
    let asid := bits c.w10 27 16
    if !d.mem.spaces.contains asid then d.fail seq stBadHandle
    else if c.va % 64 ≠ 0 then d.fail seq stBadParam
    else if (tget d.mem.siphons k).isSome then d.fail seq stBusy
    else
      let d := (d.startCmd seq).memMod (fun m => { m with siphons := tput m.siphons k { asid := asid, desc := c.va, prio := bits c.w10 9 8 } })
      (d.markCreated kSiphon k seq).okOther seq c 0)

/-- STOP_NOW of a channel: STATUS 0x0003, and the completion lists the descriptor and its PROGRESS (R171). -/
def Dev.sphStopNow (d : Dev) (k : Nat) (s : Siphon) (notes : Nat) (now : Option Nat) : Dev :=
  let lst := listEntry [s.desc, s.progress]
  let d := (d.writeProgress k s 3).sphEnd k
  let d := d.sphStops k s.stops notes (if notes = noteBoundaryTimeout then lst else [])
  match now with | some q => d.sphStops k [q] 0 lst | none => d

def stopSiphon (seq : Nat) (d : Dev) : Dev :=
  d.runStop seq kSiphon (fun d c =>
    let k := c.w11 % 256
    match tget d.mem.siphons k with
    | none => d.fail seq stBadHandle
    | some s =>
      let d := d.startCmd seq
      -- a stop that finds the channel suspended takes effect at once
      if c.stopNow || s.suspended then d.sphStopNow k s noteSuperseded (some seq)
      else d.sphMod k (fun s => { s with stops := s.stops ++ [seq] }))

/-- The descriptor was not finished in 100 ms (R171). -/
def Dev.siphonTimeout (d : Dev) (k : Nat) : Dev :=
  match tget d.mem.siphons k with
  | none => d
  | some s => if s.stops.isEmpty then d else d.sphStopNow k s noteBoundaryTimeout none

/-! ## FAULT_SERVICE (R92, R157, R168) -/

/-- The firmware serves the oldest suspended task of a pump: a NOT_PRESENT fault by backing the page; another service
request as the firmware decides, which is the command's operand; any other translation fault ends the task. -/
def Dev.serveTask (d : Dev) (c : Nat) (resume : Bool) : Dev :=
  match (d.core c).tasks.find? (fun e => e.2.st == .suspended) with
  | none => d
  | some (i, t) =>
    let r := (d.core c).saved t
    let cause := (r.crget 1).toNat
    let asid := (r.crget 0x10).toNat % 4096
    let tval := (r.crget 3).toNat + (r.crget 4).toNat % 65536 * 2 ^ 32
    let d := d.coresMod (fun k => { k with service := k.service.erase c })
    let put := fun (d : Dev) (st : TaskSt) => d.coreMod c (fun k => { k with tasks := tadj k.tasks i (fun t => { t with st := st }) })
    let finish := fun (d : Dev) => ((put d .ended).settleDrain t.graph).nextTask c
    let failed := fun (d : Dev) => finish (d.coreMod c (fun k => { k with tasks := tadj k.tasks i (fun t => { t with status := stTranslation }) }))
    if cause % 256 = excTranslation then
      if bits cause 23 16 = subNotPresent then
        match d.serviceFault asid tval with
        | some d => (put d .ready).nextTask c
        | none => if (d.pageOf asid tval).any (fun p => p.pa.isSome) then (put d .ready).nextTask c else failed d
      else failed d
    else if resume then (put d .ready).nextTask c
    else finish d

/-- The firmware serves a suspended siphon channel; what it cannot serve ends the channel with TRANSLATION. -/
def Dev.serveSiphon (d : Dev) (k : Nat) : Dev :=
  match tget d.mem.siphons k with
  | none => d
  | some s =>
    if !s.suspended then d else
      let fault := match d.rangeFault false s.asid s.desc 64 false with
        | some (va, sub) => some (va, sub, false)
        | none => d.unitFault (parseDesc (d.vread s.asid s.desc 64)) s.asid s.progress
      match fault with
      | none => d.sphMod k (fun s => { s with suspended := false })
      | some (va, sub, _) =>
        let stop := fun (d : Dev) => ((d.writeProgress k s 4).sphEnd k).sphStops k s.stops 0 []
        if sub ≠ subNotPresent then stop d
        else match d.serviceFault s.asid va with
          | some d => d.sphMod k (fun s => { s with suspended := false })
          | none => stop d

def faultService (r : Requester) (resume : Bool) (d : Dev) : Dev :=
  match r with
  | .pump c => d.serveTask c resume
  | .siphonCh w s ch => d.serveSiphon (sphIndex w s ch)
  | _ => d

end Sys2Proof.Machine
end

