-- ==== Sys2Proof/Machine/Audio.lean ====
section
/-!
DEFINITION. PDM audio ports, their blocks and rings, and the audio streams (R462 to R473, R485 to R487).
-/
set_option autoImplicit false

namespace Sys2Proof.Machine

def audPlace : Place := ioPlace 7 1 noSlice
def Dev.audP (d : Dev) (n : Nat) : AudPort := tgetD d.aud.port n {}
def Dev.audMod (d : Dev) (n : Nat) (f : AudPort → AudPort) : Dev := { d with aud := { d.aud with port := tmod d.aud.port n {} f } }
def Dev.audSt (d : Dev) (n : Nat) : Nat := d.fget (fAudPortCfgState n)
def Dev.audRuns (d : Dev) (n : Nat) : Bool := d.audSt n != 0
def Dev.audTrig (d : Dev) (n : Nat) : Bool := d.flag (fAudPortCfgTrigmode n)
def Dev.audDec (d : Dev) (n : Nat) : Nat := 4 * d.fget (fAudPortCfgDec4 n)
/-- fs in Hz (R463). -/
def Dev.audFs (d : Dev) (n : Nat) : Nat := match d.fget (fAudPortCfgRate n) with | 0 => 48000 | 1 => 96000 | _ => 192000
def Dev.audBlk (d : Dev) (n : Nat) : Nat := d.fget (fAudPortCfgBlk n)
/-- Bytes of a block (R466). -/
def Dev.audBytes (d : Dev) (n : Nat) : Nat := roundUp (32 + 8 * d.audBlk n) 64
def Dev.audAsid (d : Dev) (n : Nat) : Nat := d.fget (fAudRingHiAsid n)
def Dev.audVa (d : Dev) (n : Nat) : Nat := d.fget (fAudRingLoVa n) + d.fget (fAudRingHiVa n) * 4294967296

/-- Two ports are of one TRIG-mode group (R468). -/
def Dev.sameGroup (d : Dev) (n m : Nat) : Bool := d.audTrig n && d.audTrig m && d.fget (fAudPortCfgTrg n) == d.fget (fAudPortCfgTrg m)

/-- The running ports of a port's group share CLK, RATE, DEC and BLK with it (R468). -/
def Dev.groupOk (d : Dev) (n : Nat) : Bool :=
  (List.range 16).all (fun m => m == n || !d.audRuns m || !d.sameGroup n m
    || (d.fget (fAudPortCfgClk n) == d.fget (fAudPortCfgClk m) && d.fget (fAudPortCfgRate n) == d.fget (fAudPortCfgRate m)
        && d.audDec n == d.audDec m && d.audBlk n == d.audBlk m))

/-- The configuration that START PERIPHERAL checks (R463, R466, R467). -/
def Dev.audOk (d : Dev) (n : Nat) : Bool :=
  let dec := d.audDec n
  let size := d.fget (fAudRingSizeSize n)
  d.fget (fAudPortCfgRate n) != 3 && 16 ≤ dec && dec ≤ 128 && 1024000 ≤ dec * d.audFs n && dec * d.audFs n ≤ 6144000
    && 6 ≤ d.audBlk n && d.audBlk n ≤ 1024 && size != 0 && size % d.audBytes n == 0 && d.audVa n % 64 == 0
    && (d.rangeFault true (d.audAsid n) (d.audVa n) size true).isNone && d.groupOk n

/-- START PERIPHERAL of an audio port: a STAMP-mode port starts at the next rising edge of its clock, a TRIG-mode port
waits for the next pulse of TRG (R468). -/
def startAudioPort (seq : Nat) (d : Dev) : Dev :=
  d.runStart seq 0xC8 (fun d c =>
    let n := c.w11
    if c.w10 % 256 != kAudio then d
    else if 15 < n then d.fail seq stBadHandle
    else if d.audRuns n then d.fail seq stBusy
    else if !d.audOk n then d.fail seq stBadParam
    else
      let t := d.fget (fAudPortCfgTrg n)
      if d.audTrig n && !d.flag (fTrgCtlPeriodic t) && 0 < (d.trig t).fired then d.fail seq stBusy
      else
        let lost := d.flag (fAudClkStatFault (d.fget (fAudPortCfgClk n)))
        let d := d.fsets [(fAudPortCfgState n, if lost then 3 else if d.audTrig n then 1 else 2), (fAudRingWrOff n, 0), (fAudRingRdOff n, 0)]
        let d := d.audMod n (fun _ => { mask := d.fget (fAudPortCfgMask n), first := true })
        ((d.startCmd seq).markCreated kAudio n seq).okOther seq c 0)

/-- A port has stopped; its stop commands complete (R472). -/
def Dev.audEnd (d : Dev) (n : Nat) (seqs : List Nat) (f : Ending) : Dev :=
  let d := (d.fset (fAudPortCfgState n) 0).audMod n (fun p => { p with stops := [] })
  seqs.foldl (fun d q => (d.markChanged kAudio n q).finish q { f with dw0 := allOnes32, dg0 := allOnes64, dg1 := n }) d

/-- STOP of an audio port (R472). With no block in progress a boundary stop ends it at once, and a STOP_NOW lists no block. -/
def stopAudioPort (seq : Nat) (d : Dev) : Dev :=
  d.runStop seq kAudio (fun d c =>
    let n := c.w11
    if 15 < n || !d.audRuns n then d.fail seq stBadHandle
    else
      let d := d.startCmd seq
      let p := d.audP n
      if c.stopNow then
        (d.audEnd n p.stops { notes := noteSuperseded }).audEnd n [seq] { list := if d.audSt n = 2 then listEntry [p.sample] else [] }
      else if d.audSt n = 2 then d.audMod n (fun p => { p with stops := p.stops ++ [seq] })
      else d.audEnd n (p.stops ++ [seq]) {})

/-- A pulse of TRG reaches a port that waits for it: with the group's ports running it joins them at the SAMPLE they hold,
otherwise the group starts at 0, or restarts with RESYNC (R468, R469). -/
def Dev.audPulse (d : Dev) (n : Nat) : Dev :=
  if d.audSt n ≠ 1 then d
  else
    let mates := (List.range 16).filter (fun m => m != n && d.audSt m == 2 && d.sameGroup n m && !(d.audP m).first && !(d.audP m).resync)
    let d := d.fset (fAudPortCfgState n) 2
    match mates with
    | m :: _ => d.audMod n (fun p => { p with sample := (d.audP m).sample, joining := true, resync := false })
    | [] => d

/-! ## Blocks -/

/-- Taps of the filter: its group delay is exactly 24 output samples (R465). -/
def decTaps (dec : Nat) : Nat := 48 * dec + 1

/-- One 24-bit sample from the bits in the filter, newest first: of a stream of ones or of zeros alone, ±2²² (R465). -/
def decSample (dec : Nat) (hist : List Bool) : Nat :=
  if hist.length = decTaps dec && hist.all id then 4194304
  else if hist.length = decTaps dec && hist.all (!·) then 16777216 - 4194304
  else (Config.decimate dec hist).toNat

/-- Run the filter over `k` sample periods of bits: the samples and the bits left in it. -/
def decRun (dec : Nat) : Nat → List Bool → List Bool → List Nat × List Bool
  | 0, hist, _ => ([], hist)
  | k + 1, hist, bits =>
    let hist := ((bits.take dec).reverse ++ hist).take (decTaps dec)
    let r := decRun dec k hist (bits.drop dec)
    (decSample dec hist :: r.1, r.2)

def afClkLost : Nat := 2
def afLast : Nat := 32

/-- An audio block as it lies in the ring (Table AM-2). -/
def Dev.audBlockBytes (d : Dev) (n flags sample time ns mask : Nat) (samples : List (Nat × Nat)) : List Byte :=
  let cell := fun (v : Nat) => le 4 (trunc 32 (sext 24 v))
  padTo (d.audBytes n) (le 4 0x4C5A4155 ++ le 1 n ++ le 1 mask ++ le 2 flags ++ le 8 sample ++ le 8 time ++ le 2 ns
    ++ le 1 (d.fget (fAudPortCfgRate n)) ++ zeros 5 ++ samples.flatMap (fun s => cell s.1 ++ cell s.2))

/-- A block goes to the ring or is dropped; a translation fault or poison on the write stops the port (R467). -/
def Dev.audWrite (d : Dev) (n sample : Nat) (bs : List Byte) : Dev :=
  let size := d.fget (fAudRingSizeSize n)
  let wr := d.fget (fAudRingWrOff n)
  let used := (wr + size - d.fget (fAudRingRdOff n) % size) % size
  if size - used < bs.length then
    let d := d.finc (fAudStatOvr n)
    let d := if (d.audP n).dropping then d else d.post 0x51 kAudio n audPlace (le 1 n ++ le 8 sample)
    d.audMod n (fun p => { p with dropping := true })
  else match d.rangeFault true (d.audAsid n) (d.audVa n + wr) bs.length true with
    | some (va, s) =>
      let d := (d.xlatFault (.audio n) true true (d.audAsid n) va s 0).audMod n (fun p => { p with translation := true })
      d.audEnd n (d.audP n).stops { sct := 7, sc := stTranslation }
    | none =>
      let poison := d.writePoison (d.audAsid n) (d.audVa n + wr) bs.length
      let d := d.vwrite (.audio n) (d.audAsid n) (d.audVa n + wr) bs
      if poison then (d.audMod n (fun p => { p with translation := true })).audEnd n (d.audP n).stops { sct := 7, sc := stTranslation }
      else (d.fset (fAudRingWrOff n) ((wr + bs.length) % size)).audMod n (fun p => { p with dropping := false })

/-- Channels of a stream, and the ports that carry them (R462, R473). -/
def Dev.strChannels (d : Dev) (s : Nat) : List Nat := (List.range (d.fget (fAudStrCfgNch s) + 1)).map (· + d.fget (fAudStrCfgC0 s))
def Dev.strPorts (d : Dev) (s : Nat) : List Nat := ((d.strChannels s).map (· / 2)).eraseDups
def Dev.str (d : Dev) (s : Nat) : AudStream := tgetD d.aud.stream s {}
def Dev.strMod (d : Dev) (s : Nat) (f : AudStream → AudStream) : Dev := { d with aud := { d.aud with stream := tmod d.aud.stream s {} f } }

/-- A block of a port has completed: a stream that runs has a packet to send once all its ports' blocks are complete, and
one whose EN is set starts with the block that follows (R473). -/
def Dev.strBoundary (d : Dev) (n : Nat) : Dev :=
  (List.range 32).foldl (fun d s =>
    if !d.flag (fAudStrCfgEn s) || !(d.strPorts s).contains n then d
    else
      let whole := (d.strPorts s).all (fun m => (d.audP m).blockSample == (d.audP n).blockSample && (d.audP m).blockTime == (d.audP n).blockTime)
      if !(d.str s).on then d.strMod s (fun x => { x with on := whole }) else if whole then d.strMod s (fun x => { x with due := true }) else d) d

/-- Finish the block in progress of a running port from the bits it has received, padded with zeros when it ends early
(R464 to R470). -/
def Dev.audFinish (d : Dev) (n : Nat) (b : AudBits) (ns flags : Nat) : Dev :=
  let p := d.audP n
  let dec := d.audDec n
  let blk := d.audBlk n
  let on := fun (s : Nat) => bit p.mask s
  let r0 := if on 0 then decRun dec ns p.hist0 b.bits0 else (List.replicate ns 0, [])
  let r1 := if on 1 then decRun dec ns p.hist1 b.bits1 else (List.replicate ns 0, [])
  let samples := r0.1.zip r1.1 ++ List.replicate (blk - ns) (0, 0)
  let resumed := match p.last with
    | some (t, k) => k + (b.edge - t) * d.audFs n / 1000000000
    | none => 0
  let sample := if p.resync then resumed else if p.joining then p.sample + (blk - ns) else p.sample
  let flags := flags + p.first.toNat + 16 * p.resync.toNat + 4 * p.stuck0.isSome.toNat + 8 * p.stuck1.isSome.toNat
    + (if p.stops.isEmpty then 0 else afLast)
  let bs := d.audBlockBytes n flags sample b.time ns p.mask samples
  let free := fun (l : Option Bool) (bits : List Bool) => match l with
    | some v => if bits.all (· == v) then some v else none
    | none => none
  -- the mask written in between takes effect now; a slot it enables starts its filter from zero
  let mask := d.fget (fAudPortCfgMask n)
  let d := d.audMod n (fun p => { p with
    mask := mask, sample := sample + ns, first := false, resync := false, joining := false,
    block := samples, blockTime := b.time, blockSample := sample,
    last := if ns = 0 then p.last else some (b.last, sample + ns - 1),
    hist0 := if bit mask 0 && on 0 then r0.2 else [], hist1 := if bit mask 1 && on 1 then r1.2 else [],
    stuck0 := free p.stuck0 b.bits0, stuck1 := free p.stuck1 b.bits1 })
  (d.audWrite n sample bs).strBoundary n

/-- AUDIO_BLOCK_DONE: the bits of a whole block have arrived; the first block of a port that joined its group within a block
has fewer. A boundary stop ends the port with it (R466, R472). -/
def audioBlockDone (n : Nat) (b : AudBits) (d : Dev) : Dev :=
  let ns := b.bits0.length / d.audDec n
  let p := d.audP n
  if d.audSt n ≠ 2 || b.bits0.length ≠ ns * d.audDec n || b.bits1.length ≠ b.bits0.length
      || !(ns == d.audBlk n || (p.joining && 0 < ns && ns < d.audBlk n)) then d
  else
    let d := d.audFinish n b ns 0
    if d.audRuns n && !p.stops.isEmpty then d.audEnd n p.stops {} else d

/-- AUDIO_MASK_WRITE: MASK takes effect at the next block boundary (R470). -/
def audioMaskWrite (n v : Nat) (d : Dev) : Dev :=
  let d := d.fset (fAudPortCfgMask n) v
  if d.audRuns n then d else d.audMod n (fun p => { p with mask := v % 4 })

/-- AUD_STUCK: 65,536 bits in a row of a slot have been equal; the samples pass (R485). -/
def audStuck (n slot : Nat) (level : Bool) (d : Dev) : Dev :=
  let p := d.audP n
  if d.audSt n ≠ 2 || (if slot = 0 then p.stuck0 else p.stuck1).isSome then d
  else
    let d := (d.audMod n (fun p => if slot = 0 then { p with stuck0 := some level } else { p with stuck1 := some level })).finc (fAudStatStuck n)
    let d := d.post 0x52 kAudio n audPlace (le 1 n ++ le 1 slot ++ le 1 level.toNat)
    d.sumpInput audPlace 5 (2 * n + slot) level.toNat

/-! ## Clock monitor (R464, R469) -/

/-- Offset of a frequency from DEC × fs of a port in 0.1 ppm. -/
def Dev.audOffset (d : Dev) (n hz : Nat) : Int :=
  let nom := (d.audDec n * d.audFs n : Int)
  ((hz : Int) - nom) * 10000000 / nom

/-- A frequency lies within ±2 % of DEC × fs of a port. -/
def Dev.audClockOk (d : Dev) (n hz : Nat) : Bool :=
  let nom := d.audDec n * d.audFs n
  98 * nom ≤ 100 * hz && 100 * hz ≤ 102 * nom

/-- A port's clock is lost: its block in progress ends with CLKLOST and the port stops producing. -/
def Dev.audLost (d : Dev) (n : Nat) (b : AudBits) : Dev :=
  if d.audSt n = 2 then
    let ns := min (b.bits0.length / d.audDec n) (b.bits1.length / d.audDec n)
    let p := d.audP n
    let d := if ns = 0 then d else (d.audFinish n b (min ns (d.audBlk n - 1)) afClkLost).finc (fAudStatClklost n)
    if !d.audRuns n then d
    else if !p.stops.isEmpty then d.audEnd n p.stops {}
    else (d.fset (fAudPortCfgState n) 3).audMod n (fun p => { p with hist0 := [], hist1 := [], joining := false })
  else if d.audSt n = 1 then d.fset (fAudPortCfgState n) 3
  else d

/-- A port restarts after its clock has left fault: at the next edge, or after the next pulse of TRG (R469). -/
def Dev.audRestart (d : Dev) (n : Nat) : Dev :=
  if d.audSt n ≠ 3 then d
  else
    (d.fset (fAudPortCfgState n) (if d.audTrig n then 1 else 2)).audMod n (fun p => { p with resync := p.last.isSome })

/-- PDM_CLOCK_WINDOW (R464, AUD_CLOCK of R486): a 100 µs window of clock input `k` ends with its frequency in Hz, none when the clock was absent;
`part` holds, port by port, the bits of the block in progress (R464). -/
def pdmClockWindow (k : Nat) (hz : Option Nat) (part : List (Nat × AudBits)) (d : Dev) : Dev :=
  let users := (List.range 16).filter (fun n => d.audRuns n && d.fget (fAudPortCfgClk n) == k)
  let badPort := match hz with | some f => users.find? (fun n => !d.audClockOk n f) | none => none
  let bad := hz.isNone || badPort.isSome
  let off := match hz, (badPort <|> users.head?) with
    | some f, some n => trunc 32 (d.audOffset n f)
    | _, _ => allOnes32
  let d := d.fset (fAudClkStatKhz k) (hz.getD 0 / 1000)
  let note := fun (d : Dev) (v : Nat) => d.post 0x50 0 k audPlace (le 1 k ++ le 1 v ++ le 4 off)
  let good := fun (d : Dev) (n : Nat) => { d with aud := { d.aud with clkGood := tput d.aud.clkGood k n } }
  if bad then
    let d := good d 0
    if d.flag (fAudClkStatFault k) then d
    else
      let d := d.fsets [(fAudClkStatFault k, 1), (fAudClkStatSeen k, 1)]
      let d := users.foldl (fun d n => d.audLost n ((tget part n).getD { bits0 := [], bits1 := [], edge := 0, time := 0, last := 0 })) d
      (note d 0).sumpInput audPlace 4 k (hz.getD allOnes64)
  else if !d.flag (fAudClkStatFault k) then d
  else
    let m := tgetD d.aud.clkGood k 0 + 1
    if m < 10 then good d m
    else
      let d := ((good d 0).fset (fAudClkStatFault k) 0)
      note (users.foldl (fun d n => d.audRestart n) d) 1

/-! ## Streams (R473) -/

/-- A stream's setting is supported: payload type, packet time, and channels of one group or one STAMP-mode port (Table CF-9). -/
def Dev.strOk (d : Dev) (s : Nat) : Bool :=
  let ps := d.strPorts s
  match ps with
  | [] => false
  | p :: rest =>
    let rate := d.fget (fAudPortCfgRate p)
    let blk := d.audBlk p
    96 ≤ d.fget (fAudStrCfgPt s) && ps.all (· < 16) && ((rate == 0 && (blk == 48 || blk == 6)) || (rate == 1 && blk == 96))
      && rest.all (fun m => d.sameGroup p m && d.audBlk m == blk && d.fget (fAudPortCfgRate m) == rate)

/-- Peak rate of a stream in bits per second: a packet of 78 bytes of headers and gaps and its samples every packet time. -/
def Dev.strRate (d : Dev) (s : Nat) : Nat × Nat :=
  let p := d.fget (fAudStrCfgC0 s) / 2
  let bytes := 78 + (d.fget (fAudStrCfgNch s) + 1) * d.audBlk p * (if d.flag (fAudStrCfgL16 s) then 2 else 3)
  (bytes * 8 * d.audFs p, d.audBlk p)

/-- The paths of a stream: its ports. -/
def Dev.strLegs (d : Dev) (s : Nat) : List Nat :=
  d.fget (fAudStrCfgPort s) :: (if d.fget (fAudStrCfgSecport s) = 7 then [] else [d.fget (fAudStrCfgSecport s)])

/-- AUDIO_STREAM_ENABLE: EN of a stream is written. Set, it is checked and the stream placed; cleared, the stream stops
after its packet in progress (R473). -/
def audioStreamEnable (s : Nat) (en : Bool) (d : Dev) : Dev :=
  let was := d.flag (fAudStrCfgEn s)
  let refuse := d.sumpRefused audPlace (fAudStrCfgEn s).addr (en.toNat * 2147483648)
  if en == was then d
  else if !en then
    (d.fset (fAudStrCfgEn s) 0).strMod s (fun x => if x.due then x else { x with on := false, place := [] })
  else if !d.strOk s then refuse
  else match d.placeStreams (d.placed 512) ((d.strLegs s).map (fun p => (p, d.strRate s))) [] [] with
    | none => refuse
    | some place => (d.fset (fAudStrCfgEn s) 1).strMod s (fun x => { x with on := false, due := false, place := place })

/-- A sample as it is sent: 24 bits, or its 16 upper bits, most significant byte first. -/
def netSample (l16 : Bool) (v : Nat) : List Byte := if l16 then (le 2 (v / 256)).reverse else (le 3 v).reverse

/-- Headers of a stream's packet on a path: those of R296, with the destinations, UDP port and DSCP of the stream's registers.
They name no source UDP port and no 802.1Q tag: it sends from its destination port, untagged. DESIGN CHOICE, log entry 132. -/
def Dev.strHead (d : Dev) (s : Nat) (l : Nat × (Nat × Nat × Nat × Nat)) : PathHead :=
  { port := l.2.1, member := l.2.2.1, src := d.fget (fEthIpAddr l.2.1), dst := if l.1 = 0 then d.fget (fAudStrDstAddr s) else d.fget (fAudStrDst2Addr s),
    udpSrc := d.fget (fAudStrUdpUdp s), udpDst := d.fget (fAudStrUdpUdp s), tag := none, dscp := d.fget (fAudStrUdpDscp s) }

/-- AUDIO_STREAM_PACKET: the packet of the last block leaves on the paths that are up and resolved (R473). -/
def audioStreamPacket (s : Nat) (d : Dev) : Dev :=
  let x := d.str s
  if !x.due then d
  else
    let p0 := d.fget (fAudStrCfgC0 s) / 2
    let l16 := d.flag (fAudStrCfgL16 s)
    let legs := x.place.zipIdx.map (fun e => (e.2, e.1))
    let up := legs.filter (fun l => d.pathUp l.2 && d.resolved l.2.1 (d.strHead s l).dst)
    let data := (List.range (d.audBlk p0)).flatMap (fun i => (d.strChannels s).flatMap (fun c =>
      let e := (d.audP (c / 2)).block.getD i (0, 0)
      netSample l16 (if c % 2 = 0 then e.1 else e.2)))
    let ts := trunc 32 (((d.audP p0).blockTime * d.audFs p0 / 1000000000 : Int) - 24)
    let d := d.dropPackets (legs.filter (fun l => !d.pathUp l.2))
    d.strMod s (fun x => { x with
      on := d.flag (fAudStrCfgEn s), due := false, place := if d.flag (fAudStrCfgEn s) then x.place else [],
      seq := (x.seq + 1) % 65536, last := some { paths := up.map (·.1), heads := up.map (d.strHead s), pt := d.fget (fAudStrCfgPt s), ts := ts, data := data } })

end Sys2Proof.Machine
end

