-- ==== Sys2Proof/Machine/Trigger.lean ====
section
/-!
DEFINITION. Trigger units: arming, pulses, staged writes and the consumers they start (R452 to R456, R461).
-/
set_option autoImplicit false

namespace Sys2Proof.Machine

/-! ## Consumers -/

def Dev.mixNamed (d : Dev) (t : Nat) : List Nat := (List.range 4).filter (fun i => (d.mix i).running && (d.mix i).trg == t)
def Dev.flowsNamed (d : Dev) (t : Nat) : List Nat := d.runningFlows.filter (fun n => fdTrg (d.flowDesc n) == t)
def Dev.rasNamed (d : Dev) (t : Nat) : List Nat := (List.range 16).filter (fun r => d.rasRuns r && (d.ras r).trg == t)
def Dev.encNamed (d : Dev) (t : Nat) : List Nat := (List.range 2).filter (fun n => (d.enc n).session && ebTrg (d.enc n).block == t)
def Dev.axesNamed (d : Dev) (t : Nat) : List Nat := (List.range 32).filter (fun a => d.axCounting a && d.fget (fAxCfgTrg a) == t)
def Dev.audNamed (d : Dev) (t : Nat) : List Nat :=
  (List.range 16).filter (fun n => d.audRuns n && d.audTrig n && d.fget (fAudPortCfgTrg n) == t)
/-- Contexts whose exposure trigger the unit drives (R233). -/
def Dev.genlocked (d : Dev) (t : Nat) : List Nat :=
  (List.range 5).filter (fun i => d.ctxExists i && d.flag (fSnsGlEn i) && d.fget (fSnsGlTrg i) == t)

/-- A running consumer names the unit (R456). -/
def Dev.trgConsumed (d : Dev) (t : Nat) : Bool :=
  !(d.mixNamed t).isEmpty || !(d.flowsNamed t).isEmpty || !(d.rasNamed t).isEmpty || !(d.encNamed t).isEmpty
    || !(d.axesNamed t).isEmpty || !(d.audNamed t).isEmpty || (d.genlocked t).any (fun i => (d.ing i).st != 0)

/-- A pulse with trigger time `t` starts the work of its consumers: samples and exposure triggers, audio ports, then the
frame starts from compositors to encoders. -/
def Dev.trgConsumers (d : Dev) (u t : Nat) : Dev :=
  let gl := d.genlocked u
  let d := gl.foldl (fun d i => d.ingMod i (fun g => { g with lastTrig := some t })) d
  let d := { d with pins := { d.pins with snsTrig := d.pins.snsTrig.filter (!gl.contains ·) ++ gl } }.setTrig u (fun x => { x with drives := gl })
  let d := (d.axesNamed u).foldl (fun d a => d.axPulse a t) d
  let d := (d.audNamed u).foldl (fun d n => d.audPulse n) d
  let d := (d.mixNamed u).foldl (fun d i => d.mixPulse i t) d
  let d := (d.flowsNamed u).foldl (fun d n => d.flowPulse n t) d
  let d := (d.rasNamed u).foldl (fun d r => d.rasPulse r t) d
  (d.encNamed u).foldl (fun d n => d.encPulse n t) d

/-! ## Staged writes (R456) -/

/-- Output fields of a unit. -/
def trgOutFields (t : Nat) : List Fld := [fTrgWidthWidth t, fTrgCtlPinEn t, fTrgCtlPol t, fTrgCtlPin t]
/-- Fields that place the targets. -/
def trgTimeFields (t : Nat) : List Fld := [fTrgStartStart t, fTrgPerNPerN t, fTrgPerRdPerD t, fTrgPerRdPerR t]

/-- Name the unit's GPIO line as PIN_EN, POL and PIN say (R554). -/
def Dev.trgPins (d : Dev) (t : Nat) : Dev :=
  d.gpioName t (if d.flag (fTrgCtlPinEn t) then some (d.fget (fTrgCtlPin t), d.flag (fTrgCtlPol t)) else none)

/-- Apply values of a list of fields where they are staged. -/
def Dev.applyFields (d : Dev) (fs : List Fld) (vals : Tab Nat) : Dev :=
  fs.foldl (fun d f => match tget vals f.key with
    | some v => d.fset f v
    | none => d) d

/-- Output values apply once the pulse that kept the old ones has ended. -/
def Dev.applyRipe (d : Dev) (t : Nat) : Dev :=
  let ripe := (d.trig t).ripe
  if ripe.isEmpty then d
  else ((d.applyFields (trgOutFields t) ripe).setTrig t (fun u => { u with ripe := [] })).trgPins t

/-- The staged fields of TRG_CTL, TRG_START, TRG_PER_N, TRG_PER_RD and TRG_WIDTH, by register offset ÷ 4. -/
def trgFieldsAt (t reg : Nat) : List Fld :=
  match reg with
  | 0 => [fTrgCtlPinEn t, fTrgCtlPol t, fTrgCtlPin t]
  | 1 => [fTrgStartStart t]
  | 2 => [fTrgPerNPerN t]
  | 3 => [fTrgPerRdPerD t, fTrgPerRdPerR t]
  | _ => [fTrgWidthWidth t]

/-- TRIGGER_STAGED_WRITE: a write of a running unit's register is staged; of a unit that does not run it takes effect at
once. -/
def triggerStagedWrite (t reg v : Nat) (d : Dev) : Dev :=
  let fs := trgFieldsAt t reg
  if d.flag (fTrgCtlEn t) then
    d.setTrig t (fun u => { u with staged := fs.foldl (fun s f => tput s f.key (bits v f.hi f.lo)) u.staged })
  else
    let d := fs.foldl (fun d f => d.fset f (bits v f.hi f.lo)) d
    if reg = 0 then d.trgPins t else d

/-! ## Pulses -/

/-- TRIGGER_ARM: EN goes from 0 to 1 and sets the unit's first target (R454). -/
def triggerArm (t : Nat) (d : Dev) : Dev := if d.flag (fTrgCtlEn t) then d else (d.fset (fTrgCtlEn t) 1).trgArm t

/-- A write of 0 to EN: ignored while a running consumer names the unit; a pulse in progress finishes its width (R456). -/
def Dev.trgDisable (d : Dev) (t : Nat) : Dev :=
  if !d.flag (fTrgCtlEn t) then d
  else if d.trgConsumed t then d.sumpRefused (ioPlace 7 0 noSlice) (fTrgCtlEn t).addr 0
  else
    let u := d.trig t
    let d := ((d.fset (fTrgCtlEn t) 0).applyFields (trgTimeFields t) u.staged).setTrig t (fun u => { u with target := none, late := false })
    let d := d.setTrig t (fun u => { u with ripe := (trgOutFields t).foldl (fun r f => match tget u.staged f.key with
      | some v => tput r f.key v | none => r) u.ripe, staged := [] })
    if u.pulse then d else d.applyRipe t

/-- The target that follows a periodic pulse at `tq ÷ den` (R454, R456), with its denominator. -/
def Dev.nextTarget (d : Dev) (t tq den : Nat) (moved : Bool) : Nat × Nat :=
  let den' := Nat.lcm den (d.perD t)
  let tq' := tq * (den' / den)
  if moved && d.flag (fTrgCtlAlign t) then
    let pd := d.perD t
    (gridAt (d.period t) (d.fget (fTrgStartStart t) * pd) ((tq / den + 1000) * pd), pd)
  else (tq' + d.periodIn t den', den')

/-- TRIGGER_PULSE: the compare of a running unit has reached its target, or fires LATE; it pulses, sets its next target
and starts its consumers (R452 to R456). -/
def triggerPulse (t : Nat) (d : Dev) : Dev :=
  let d := if (d.trig t).pulse then d else d.applyRipe t
  let u := d.trig t
  match u.target with
  | none => d
  | some tq =>
    if !d.flag (fTrgCtlEn t) || !(u.late || d.reached tq u.den) || (u.fired ≠ 0 && !d.flag (fTrgCtlPeriodic t)) then d
    else
      let tns := tq / u.den
      let moved := (trgTimeFields t).any (fun f => (tget u.staged f.key).isSome)
      let d := d.fsets [(fTrgLastLoLast t, tns)]
      let d := d.setTrig t (fun v => { v with
        pulse := true, fired := v.fired + 1, last := tns, ends := (if v.late then d.nowNs else tns) + d.trgWidth t })
      let d := if d.flag (fTrgCtlPinEn t) then d.gpioPulse t (d.fget (fTrgCtlPin t)) true else d
      -- staged values: those of the sequence apply from the next target, those of the output after this pulse
      let d := d.applyFields (trgTimeFields t) u.staged
      let d := d.setTrig t (fun u => { u with staged := [], ripe := (trgOutFields t).foldl (fun r f => match tget u.staged f.key with
        | some v => tput r f.key v | none => r) u.ripe })
      let next := d.nextTarget t tq u.den moved
      let passed := if u.late && d.flag (fTrgCtlPeriodic t) then
          nextAfter next.1 (d.periodIn t next.2) (d.time.count.toNat * next.2 / 4294967296) else (next.1, 0)
      let d := d.fadd (fTrgCtlMissed t) passed.2
      let d := d.setTrig t (fun v => { v with
        target := if d.flag (fTrgCtlPeriodic t) then some passed.1 else some tq,
        den := if d.flag (fTrgCtlPeriodic t) then next.2 else v.den, late := false, missed := 0 })
      let d := if u.late then d.raiseLate t tns (u.missed + passed.2) else d
      d.trgConsumers t tns

/-- TRIGGER_PULSE_END: a pulse has lasted TRG_WIDTH from its trigger time, or from its firing when LATE; a one-shot unit
stops running (R456). -/
def triggerPulseEnd (t : Nat) (d : Dev) : Dev :=
  if !(d.trig t).pulse || decide (d.nowNs < (d.trig t).ends) then d
  else
    -- the pins that this pulse alone drives return, whatever SNS_GL names by now (R233)
    let held := fun (i : Nat) => (List.range 32).any (fun v => v != t && (d.trig v).pulse && (d.trig v).drives.contains i)
    let d := { d with pins := { d.pins with
      gpioOn := tmap d.pins.gpioOn (fun _ l => l.filter (· != t)),
      snsTrig := d.pins.snsTrig.filter (fun i => !(d.trig t).drives.contains i || held i) } }
    let d := d.setTrig t (fun u => { u with pulse := false, drives := [] })
    let d := d.applyRipe t
    if d.flag (fTrgCtlPeriodic t) then d
    else
      let d := d.fset (fTrgCtlEn t) 0
      d.setTrig t (fun u => { u with target := none })

/-- TRG_LAST_READ: a read of TRG_LAST_LO latches the upper half (R461). -/
def trgLastRead (t : Nat) (d : Dev) : Dev := d.fset (fTrgLastHiLast t) ((d.trig t).last / 4294967296)

end Sys2Proof.Machine
end

