-- ==== Sys2Proof/Machine/Units.lean ====
section
/-!
DEFINITION. Commands and events that touch several units: sensor events with the recordings they feed, leases, address
spaces, boundary timeouts, loss of CXL memory and CONFIGURE PILOT with the start-up set.
-/
set_option autoImplicit false

namespace Sys2Proof.Machine

/-! ## Sensor events, for the port and for the recording of its context (R210 to R220, R323) -/

def frameStartEvent (i : Nat) (e : SyncEdge) (d : Dev) : Dev := (d.sensorFrameStart i e).recSync i
def frameTimeoutEvent (i : Nat) (d : Dev) : Dev := (frameTimeout i d).recSync i
def frameEndEvent (i : Nat) (e : SyncEdge) (d : Dev) : Dev := (sensorFrameEnd i e d).recSync i
def lineTimeoutEvent (i : Nat) (d : Dev) : Dev := (lineTimeout i d).recSync i
def lineEvent (i : Nat) (l : SnsLine) (d : Dev) : Dev := (sensorLine i l d).recSync i
def blankingEvent (i : Nat) (bad : List Nat) (d : Dev) : Dev := (blankingCheck i bad d).recSync i
def clockWindowEvent (i k : Nat) (ppm : Option Int) (d : Dev) : Dev :=
  (sensorClockWindow (d.clockOf i k).1 (d.clockOf i k).2 ppm d).recSync (d.clockOf i k).1
def stopPortCommand (seq : Nat) (d : Dev) : Dev :=
  (List.range 5).foldl (fun d i => d.recSync i) (stopSensorPort seq d)

/-- A row that the write-out has made visible is also a row of the recording's frame unit (R316). -/
def rowVisibleEvent (i : Nat) (d : Dev) : Dev :=
  match (d.ing i).rows.find? (fun r => !r.written) with
  | none => d
  | some row => ((rawRowVisible i d).recRow i row.frame row.row).recSync i

/-! ## Leases (R158, R161) -/

/-- The frame of a lease is still in progress in its unit. -/
def Dev.leaseOpen (d : Dev) (l : Lease) : Bool :=
  if l.kind = kCompositor then (d.mix l.index).cur.any (fun f => f.oframe == l.frame)
  else if l.kind = kFlow then (d.flow l.index).cur.any (fun f => f.oframe == l.frame) || (d.flow l.index).send.any (fun f => f.oframe == l.frame)
  else if l.kind = kRaster then (d.ras l.index).cur.any (fun f => f.1 == l.frame)
  else if l.kind = kEncoder then (d.enc l.index).cur.any (fun p => p.picno == l.frame)
  else if l.kind = kIngest then (tget (d.ing l.index).rawBuf l.frame).isSome
  else if l.kind = kRecording then (d.recOf l.index).any (fun r => r.units.any (fun u => u.frame == l.frame))
  else if l.kind = kPilot then d.sns.pilot.service.any (fun s => s.frames.any (fun f => f.frame == l.frame))
  else if l.kind = kDecoder then d.decSt = 2
  else if l.kind = kGraph then (d.graph l.index).any (fun g => g.frames.any (fun f => f.frame == l.frame))
  else false

/-- LEASE_RETIRE: the last access of the frame of lease `i` has completed; the lease retires once its unit is done with the
frame. -/
def leaseRetire (i : Nat) (d : Dev) : Dev :=
  match d.mem.leases[i]? with
  | none => d
  | some l => if d.leaseOpen l then d else d.memMod (fun m => { m with leases := m.leases.eraseIdx i })

/-- A frame of a graph is aborted: strips that have not started are shed, those in progress skip, and the drains that follow
find no lease and count as skipped (R134, R161, R169). -/
def Dev.abortGraphFrame (d : Dev) (h frame : Nat) : Dev :=
  match d.graph h with
  | none => d
  | some g =>
    let d := (g.frames.filter (fun f => f.frame == frame)).foldl (fun d f =>
      ((List.range (g.nstrips f.height)).filter (fun n =>
        (List.range g.stages.length).all (fun m => (tget f.strips (stripKey m n)).isNone))).foldl
          (fun d n => d.shedStrip h f.ctx frame n) d) d
    (List.range 80).foldl (fun d c => match d.curTask c with
      | some t => if t.graph == h && t.rt && t.strip.any (fun s => s.frame == frame) && !(d.core c).regs.stBit stSKIPPING then
          d.startSkip c false 1 [] else d
      | none => d) d

/-- The frame of a lease's holder is abandoned, and marked as its chapter says. -/
def Dev.abortHolder (d : Dev) (l : Lease) : Dev :=
  let i := l.index
  let n := l.frame
  if !d.leaseOpen l then d
  else if l.kind = kCompositor then
    (d.finc (fMixStatAbort i)).mixMod i (fun x => { x with cur := none, recs := modRec x.recs n (fun r => r.set oAborted) })
  else if l.kind = kFlow then
    -- a frame sent on the network goes on as black; one written to memory is abandoned
    match (d.flow i).cur.filter (fun f => f.oframe == n) with
    | some f =>
      if fdDest f.desc = 1 then
        (d.finc (fSptFlowStatMissed i)).flowMod i (fun x => { x with cur := none, recs := modRec x.recs n (fun r => r.set oAborted) })
      else
        (d.finc (fSptFlowStatUnder i)).flowMod i (fun x => { x with
          cur := x.cur.map (fun f => { f with black := some (f.black.getD f.pkt) }), recs := modRec x.recs n (fun r => r.set oUnderrun) })
    | none => d
  else if l.kind = kRaster then rasterUnderrun i d
  else if l.kind = kEncoder then d.encAbandon i 0
  else if l.kind = kIngest then
    (d.recMod i n (fun r => r.mark mRawlost)).ingMod i (fun g => { g with rawBuf := terase g.rawBuf n })
  else if l.kind = kRecording then (d.unitMod i n (fun u => { u with truncated := true, raw := none })).recSync i
  else if l.kind = kPilot then d.pilotFrameMod n (fun x => { x with failed := true })
  else if l.kind = kDecoder then d.decDamage 7 64 0 true
  else if l.kind = kGraph then d.abortGraphFrame i n
  else d

/-- LEASE_BROKEN: a held unmap or remap has waited 3 frame periods of the slowest holder; the holders' frames are aborted,
their leases return, and the command completes with LEASE_BROKEN (R161). -/
def leaseBroken (i : Nat) (d : Dev) : Dev :=
  match d.mem.waits[i]? with
  | none => d
  | some w =>
    let ls := d.mem.leases.filter (fun l => l.asid == w.asid && overlap l.va l.len w.va w.len)
    match ls with
    | [] => d
    | l0 :: _ =>
      if w.op == .unpin then d
      else
        let d := ls.foldl (fun d l => d.abortHolder l) d
        let d := d.memMod (fun m => { m with
          leases := m.leases.filter (fun l => !(ls.any (fun k => k.kind == l.kind && k.index == l.index && k.frame == l.frame))),
          waits := m.waits.modify i (fun w => { w with broken := true }) })
        let d := d.sumpWrite noPlace 16 l0.kind 0 0 (le 4 l0.index ++ le 8 l0.frame ++ le 2 w.asid ++ le 8 w.va)
        invalidationPoint i d

/-! ## DESTROY SPACE (R147) -/

/-- A graph, unit, session, audio port or siphon channel uses an address space. -/
def Dev.spaceBusy (d : Dev) (a : Nat) : Bool :=
  let inSpace := fun (h : Nat) => match d.buf h with | some m => m.asid == a | none => false
  (tvals d.cores.graphs).any (fun g => g.asid == a)
    || (List.range 4).any (fun i => (d.mix i).running && (d.mix i).asid == a)
    || d.runningFlows.any (fun n => (d.flow n).bufs.any inSpace || (d.mix (fdSrc (d.flowDesc n))).asid == a)
    || (List.range 16).any (fun r => d.rasRuns r && (d.flow (d.fget (fRasCtlFlow r))).bufs.any inSpace)
    || (List.range 5).any (fun i => (d.ing i).st != 0 && (d.ing i).asid == a)
    || (tkeys d.vid.pool.recs).any (fun i => (d.ing i).asid == a)
    || d.sns.pilot.service.any (fun s => inSpace s.sink)
    || (tvals d.mem.siphons).any (fun s => s.asid == a)
    || (1 ≤ d.fget fHevDecStatState && d.fget fHevDecStatState ≤ 3 && d.vid.dec.asid == a)
    || (List.range 16).any (fun n => d.audRuns n && d.audAsid n == a)

def destroySpace (seq : Nat) (d : Dev) : Dev :=
  d.runRelease seq kSpace (fun d c =>
    let a := c.w11
    if a = 0 || !d.mem.spaces.contains a || d.mem.waits.any (fun w => w.asid == a && w.op == .destroy) then d.fail seq stBadHandle
    else if d.spaceBusy a then d.fail seq stBusy
    else (d.startCmd seq).hold (some seq) .destroy a 0 (2 ^ 48))

/-! ## Boundary timeouts -/

/-- BOUNDARY_TIMEOUT: a STOP_AT_BOUNDARY of an object has exceeded its limit and becomes STOP_NOW, with BOUNDARY_TIMEOUT
(R141, R171, R224, R308, R332, R351, R484). The spec gives audio ports and the decoder no limit. -/
def boundaryTimeout (kind index : Nat) (d : Dev) : Dev :=
  if kind = kGraph then d.graphTimeout index
  else if kind = kIngest then (d.portTimeout index).recSync index
  else if kind = kPilot then d.pilotTimeout
  else if kind = kCompositor then d.mixTimeout index
  else if kind = kFlow then d.flowTimeout index
  else if kind = kRaster then d.rasTimeout index
  else if kind = kRecording then d.recTimeout index
  else if kind = kEncoder then d.encTimeout index
  else if kind = kSiphon then d.siphonTimeout index
  else if kind = kAxis then d.axTimeout index
  else d

/-! ## Loss of CXL memory (R193, R399) -/

/-- The journal goes on in local DRAM: records held only in CXL memory are lost, those not yet terminal are rewritten. -/
def Dev.journalFallBack (d : Dev) : Dev :=
  if d.qf.fallback then d
  else if !d.cxlLost 0 then { d with qf := { d.qf with fallback := true } }
  else
    let kept := (d.qf.jnl.filter (fun e => !e.2.st.terminal)).map (fun (e : Nat × JRec) => (e.1, { e.2 with flags := e.2.flags ||| 2 }))
    let old := (kept.map (fun e => e.2.seq)).foldl min d.qf.head
    ({ d with qf := { d.qf with fallback := true, lost := true, jnl := kept, oldest := old } }).showHead

/-- CXL_MEMORY_UNAVAILABLE: a port has not retrained within 100 ms (R193). -/
def cxlMemoryUnavailable (p : Nat) (d : Dev) : Dev :=
  if d.mem.cxlDown.contains p || d.fget (fCxlPortStatState p) == 0 then d
  else
    let d := (d.memMod (fun m => { m with cxlDown := m.cxlDown ++ [p] })).showCxlPort p 0 0
    let d := d.journalFallBack
    (tkeys d.vid.pool.recs).foldl (fun d i => d.recStopDevice i cfCxlLost) d

/-! ## CONFIGURE PILOT (R262, R266, R501) -/

/-- Values of fields under their keys. -/
def Dev.fvals (d : Dev) (fs : List Fld) : Tab Nat := fs.foldl (fun t f => tput t f.key (d.fget f)) []

/-- Fields of a context's port block (Table SQ-8). -/
def portAll (i : Nat) : List Fld :=
  let p := snsPort i
  [fSnsCtlMode p, fSnsCtlEmb p, fSnsCtlCk2 p, fSnsCtlFilt p, fSnsCtlRate p, fSnsTrainTrain p] ++ (portFields i []).map (·.1)

/-- Settings of a raster. -/
def rasAll (r : Nat) : List Fld :=
  [fRasCtlLink r, fRasCtlFrac r, fRasCtlClone r, fRasCtlSrc r, fRasCtlFlow r, fRasHaFp r, fRasHaActive r, fRasVaFp r, fRasVaActive r,
   fRasHbBp r, fRasHbSync r, fRasVbBp r, fRasVbSync r]

/-- Settings of a trigger unit. -/
def trgAll (t : Nat) : List Fld := fTrgCtlAlign t :: fTrgCtlPeriodic t :: (trgOutFields t ++ trgTimeFields t)

/-- The running compositor, lowest-numbered, whose base is a buffer. -/
def Dev.mixOn (d : Dev) (sink : Nat) : Option Nat :=
  (List.range 4).find? (fun i =>
    let x := d.mix i
    x.running && leOn (x.layers.getD 0 []) && d.bufAt x.asid (leVa (x.layers.getD 0 [])) == some sink)

/-- A compositor's block as it stands now, with layers 1 to 15 disabled. -/
def Compositor.baseBlock (x : Compositor) : List Byte :=
  x.block.take 0x40 ++ padTo 32 (x.layers.getD 0 []) ++ (List.range 15).flatMap (fun _ => 255 :: zeros 31)

/-- The start-up set as it stands now. -/
def Dev.startUpSet (d : Dev) (i sink : Nat) (block : List Byte) : StartUp :=
  let comp := d.mixOn sink
  let flows := match comp with
    | some c => (d.runningFlows.filter (fun n => fdSrc (d.flowDesc n) == c)).take 64
    | none => []
  let own := (List.range 16).filter (fun r => d.rasRuns r && !d.flag (fRasCtlClone r) && flows.contains (d.fget (fRasCtlFlow r)))
  let ras := (own ++ own.flatMap d.clonesOf).eraseDups.take 16
  let trgs := ((match comp with | some c => [(d.mix c).trg] | none => []) ++ flows.map (fun n => fdTrg (d.flowDesc n))
    ++ ras.map (fun r => (d.ras r).trg) ++ (if d.flag (fSnsGlEn i) then [d.fget (fSnsGlTrg i)] else [])).eraseDups
  { ctx := i, port := d.fvals (portAll i), raws := (d.ing i).raws.map (fun h => match d.buf h with | some m => m.len | none => 0),
    pilot := block, sink := (match d.buf sink with | some m => m.len | none => 0),
    comp := comp.map (fun c => (c, (d.mix c).baseBlock)), flows := flows.map (fun n => (n, d.flowDesc n)),
    rasters := ras.map (fun r => (r, (d.ras r).trg, d.fvals (rasAll r))), triggers := trgs.map (fun t => (t, d.fvals (trgAll t))),
    ips := (List.range 6).map (fun p => d.fget (fEthIpAddr p)),
    timeCtl := d.fvals [fTimeCtlSrc, fTimeCtlStepEn, fTimeCtlDomain, fTimeCtlStepMax] }

/-- Show the start-up set in PIPE_PLT_BOOT. -/
def Dev.showBoot (d : Dev) : Dev :=
  match d.prime.rr.startUp with
  | some s => d.fsets [(fPipePltBootValid, 1), (fPipePltBootCtx, s.ctx), (fPipePltBootBin2, (plBin2 s.pilot).toNat)]
  | none => d.fsets [(fPipePltBootValid, 0), (fPipePltBootCtx, 0), (fPipePltBootBin2, 0)]

/-- Stage a pilot block from the next frame start of a context; three copies are kept. -/
def Dev.stagePilot (d : Dev) (i : Nat) (b : List Byte) : Dev :=
  let n := (d.ing i).count
  d.pilotMod (fun p => { p with
    blocks := tput p.blocks i (((n, b) :: (tgetD p.blocks i []).filter (fun e => e.1 != n)).take 3) })

def configurePilot (seq : Nat) (d : Dev) : Dev :=
  d.run seq false 0x99 (fun d c =>
    let i := c.w10 % 8
    let save := bit c.w10 8
    if 4 < i || !pilotOk c.data then d.fail seq stBadParam
    else if save && (d.buf c.w11).isNone then d.fail seq stBadHandle
    else if d.ownedBusy 8 then d.fail seq stBusy
    else
      let n := (d.ing i).count
      let d := (d.startCmd seq).stagePilot i c.data
      let open' := d.gateOpen
      let d := if !save then d
        else (d.rrModGated (fun r => { r with startUp := some (d.startUpSet i c.w11 c.data) })).showBoot
      let d := d.markChanged kPilot 0 seq
      d.finish seq { dw0 := n, dg0 := n, dg1 := i, dgData := c.data, notes := if save && !open' then noteNotSaved else 0 })

end Sys2Proof.Machine
end

