-- ==== Sys2Proof/Machine/DieLink.lean ====
section
/-!
DEFINITION. The die-to-die links (R25 to R27): flit retries, the loss of a link and its return. Links 0, 1 and 2 are P0 to X,
P1 to X and P0 to P1 (Table AR-5).
-/
set_option autoImplicit false

namespace Sys2Proof.Machine

/-- Pixel dies at the ends of a link. -/
def linkDies (link : Nat) : List Nat := if link = 2 then [0, 1] else [link]

/-- A frame of a graph is in flight on a die: it is admitted and a stage has pumps in a well of the die. -/
def Graph.onDie (g : Graph) (f : GFrame) (die : Nat) : Bool :=
  f.admitted && g.stages.any (fun s => (tkeys s.pos).any (fun w => w / 8 == die))

/-- Frames of an ingest context that are in flight on a die: its buffer lies in a well of the die and holds rows of them, or
the frame is being received into it. -/
def Dev.ingestOnDie (d : Dev) (i die : Nat) : List Nat :=
  let g := d.ing i
  if g.st = 0 || d.fget (fSnsFrameWell i) / 8 != die then []
  else ((if g.inFrame then [g.frameNo] else []) ++ g.rows.map (·.frame)).eraseDups

/-- A frame of a flow from a composite whose die's link went down carries STALE (R27). -/
def FlowFrame.stale (f : FlowFrame) : FlowFrame :=
  { f with src := f.src.map (fun o => { o with marks := o.marks ||| mStale }) }

def OutRec.stale (r : OutRec) : OutRec := { r with marks := r.marks ||| mStale }

/-- Mark every frame in flight on a die as STALE at each output (R27). -/
def Dev.dieStale (d : Dev) (die : Nat) : Dev :=
  let raw := (List.range 5).flatMap (fun i => (d.ingestOnDie i die).map (fun n => (i, n)))
  let hit := fun (g : Graph) (f : GFrame) => g.onDie f die
    || (match g.ingestOf f.ctx with | some i => raw.contains (i, f.frame) | none => false)
  let fs := (tvals d.cores.graphs).flatMap (fun g => (g.frames.filter (hit g)).filterMap (fun f =>
    (g.ingestOf f.ctx).map (fun i => (i, f.frame))))
  let d := (raw ++ fs).foldl (fun d e => d.openMod e.1 e.2 (fun r => { r with marks := r.marks ||| mStale })) d
  let d := d.coresMod (fun k => { k with graphs := tmap k.graphs (fun _ g => { g with
    frames := g.frames.map (fun f => if hit g f then { f with stale := true } else f) }) })
  let d := [2 * die, 2 * die + 1].foldl (fun (d : Dev) c => d.mixMod c (fun x =>
    match x.cur with
    | some f => { x with cur := some { f with marks := f.marks ||| mStale }, recs := modRec x.recs f.oframe OutRec.stale }
    | none => x)) d
  (d.runningFlows.filter (fun n => n / 256 == die)).foldl (fun (d : Dev) n => d.flowMod n (fun x =>
    { x with cur := x.cur.map FlowFrame.stale, send := x.send.map FlowFrame.stale,
             recs := (x.cur.toList ++ x.send.toList).foldl (fun rs f => modRec rs f.oframe OutRec.stale) x.recs })) d

/-- Endpoint of a link that receives a flit: for P0 to P1 that of P0, or that of P1 at the far end; the I/O die numbers no
endpoint, so links to it name the pixel die's (R23, Table AR-4). -/
def linkEnd (link : Nat) (far : Bool) : Nat := if link = 2 && far then 3 else link

/-- FLIT_CRC_RETRY: a flit received at one end of a link passes, or fails its CRC and is retried; the eighth failure in
succession takes the link down: a sump entry names the link endpoint that received it, and the frames in flight become STALE
(R27). Each direction of a link counts its own flit (log entry 90). -/
def flitCrcRetry (link : Nat) (far : Bool) (lane : Nat) (ok : Bool) (d : Dev) : Dev :=
  let way := 2 * link + far.toNat
  if d.lanes.dieDown.contains link then d
  else if ok then { d with lanes := { d.lanes with dieFails := terase d.lanes.dieFails way } }
  else
    let n := tgetD d.lanes.dieFails way 0 + 1
    if n < 8 then { d with lanes := { d.lanes with dieFails := tput d.lanes.dieFails way n } }
    else
      let d := { d with lanes := { d.lanes with dieFails := terase d.lanes.dieFails way, dieDown := d.lanes.dieDown ++ [link] } }
      let d := d.sumpWrite (TUnit.dieLinkLane (linkEnd link far) lane).place 8 link 2 0 (le 1 lane ++ le 4 n)
      (linkDies link).foldl Dev.dieStale d

/-- DIE_LINK_RETRAINED: the link is back in service (R27). -/
def dieLinkRetrained (link : Nat) (d : Dev) : Dev :=
  { d with lanes := { d.lanes with dieDown := d.lanes.dieDown.filter (· != link) } }

end Sys2Proof.Machine
end

