-- ==== Sys2Proof/Machine/Image.lean ====
section
/-!
DEFINITION. Firmware images (R520, R521), their load into the windlass cores, and what counts as a running unit.
-/
set_option autoImplicit false

namespace Sys2Proof.Machine

/-! ## Firmware images (Table SY-4) -/

/-- SIZE[k]. -/
def imgSize (b : List Byte) (k : Nat) : Nat := field b (0x0C + 4 * k) 4
def imgTotal (b : List Byte) : Nat := imgSize b 0 + imgSize b 1 + imgSize b 2 + imgSize b 3
/-- Every byte before the signature block: the part that is signed and measured. -/
def imgBody (b : List Byte) : List Byte := b.take (0x800 + imgTotal b)
def imgSig (b : List Byte) : List Byte := (b.drop (0x800 + imgTotal b)).take 3328
def imgFk (b : List Byte) : Nat := field b 6 1
def imgRollback (b : List Byte) : Nat := field b 7 1
def imgKey (b : List Byte) : List Byte := (b.drop 0x40).take 1952
/-- CODE of one core. -/
def imgCode (b : List Byte) (k : Nat) : List Byte :=
  (b.drop (0x800 + ((List.range k).map (imgSize b)).sum)).take (imgSize b k)

/-- "LZ-FW". -/
def fwContext : List Byte := [0x4C, 0x5A, 0x2D, 0x46, 0x57]

/-- What checking an image under R521 comes to. -/
inductive ImageCheck where
  | ok | format | key | signature | rollback
  deriving DecidableEq, Repr

/-- The checks of R521, in order. -/
def Dev.checkImage (d : Dev) (b : List Byte) : ImageCheck :=
  if field b 0 4 ≠ 0x594D4657 || field b 4 2 ≠ 1 || (List.range 4).any (fun k => imgSize b k % 8 ≠ 0 || 196608 < imgSize b k)
      || b.length < 0x800 + imgTotal b + 3328 then .format
  else if 3 < imgFk b || Config.sha3_384 (imgKey b) != Config.romKeyDigest (imgFk b) || bit (d.fget fSecStatFkrev) (imgFk b) then .key
  else if !blockVerifies (imgKey b) fwContext (imgBody b) (imgSig b) then .signature
  else if imgRollback b < d.fget fSecStatRollback then .rollback
  else .ok

/-- The bytes of a firmware slot. -/
def Dev.fwSlot (d : Dev) (b : Bool) : List Byte := if b then d.nv.fwB else d.nv.fwA

/-- A fuse operation may start: the gate is open, and the maximum-sensor temperature lies from −35 °C to +110 °C (R518,
R544). -/
def Dev.fuseOk (d : Dev) : Bool :=
  d.gateOpen && (match d.maxTemp with | some (m, _) => decide (-140 ≤ m ∧ m ≤ 440) | none => false)

/-- Raise the fused count to an image's ROLLBACK (R522), where a fuse operation may start. -/
def Dev.raiseRollback (d : Dev) (n : Nat) : Dev :=
  if n ≤ d.fget fSecStatRollback then d
  else if d.fuseOk then d.fset fSecStatRollback (min 64 n) else d.gateRefuse

/-- Load an image's code into the local memory of each windlass core. Where it goes is not stated: a free offset. -/
def Dev.loadCode (d : Dev) (b : List Byte) : Dev :=
  (List.range 4).foldl (fun d k =>
    let base := 8 * d.fresh 15
    (d.coreMod (80 + k) (fun c => { c with mem := mwrite c.mem base (imgCode b k), fetch := mwrite c.fetch base (imgCode b k) })).used) d

/-- The windlass cores run the image last loaded, in Supervisor mode (R48). Its entry is not stated: a free pc. -/
def Dev.enterFirmware (d : Dev) : Dev :=
  (List.range 4).foldl (fun d k =>
    let pc := BitVec.ofNat 48 (8 * d.fresh 16)
    (d.coreMod (80 + k) (fun c => { c with regs := { c.regs with
      pc := pc, cr := tput c.regs.cr 0 (BitVec.ofNat 32 ((tgetD c.regs.cr 0 0).toNat % 2 ^ 30 + 2 ^ 30)) } })).used) d

/-! ## Running units (R379, R527) -/


/-- Whether the object of a kind and index runs (kinds 0x01 to 0x0C of Table SQ-5). -/
def Dev.encRuns (d : Dev) (n : Nat) : Bool := d.encSt n == 1 || d.encSt n == 2 || (d.encSt n == 3 && (d.enc n).session)
def Dev.decRuns (d : Dev) : Bool := d.decSt == 1 || d.decSt == 2

/-- An HEVC session runs (R352). -/
def Dev.hevcRuns (d : Dev) : Bool := d.encRuns 0 || d.encRuns 1 || d.decRuns

/-- Any unit of kinds 0x01 to 0x0C runs. -/
def Dev.anyRuns (d : Dev) : Bool :=
  (tvals d.cores.graphs).any Graph.runs || (List.range 5).any (fun i => (d.ing i).st == 1 || (d.ing i).st == 2)
    || d.sns.pilot.service.isSome || (List.range 4).any (fun i => (d.mix i).running) || !d.runningFlows.isEmpty
    || (List.range 16).any (fun r => d.rasRuns r) || !d.vid.pool.recs.isEmpty || d.hevcRuns || !d.mem.siphons.isEmpty
    || (List.range 16).any (fun n => d.audRuns n) || (List.range 32).any (fun a => d.axCounting a)

end Sys2Proof.Machine
end

