-- ==== Sys2Proof/Machine/Inventory.lean ====
section
/-!
DEFINITION. The inventory of the live objects, as READ INVENTORY returns it (R402).
-/
set_option autoImplicit false

namespace Sys2Proof.Machine

/-- A live object: kind, STATE, ASID, handle or index, ARG. -/
structure Live where
  kind : Nat
  st : Nat
  asid : Nat
  index : Nat
  arg : Nat := 0

def Dev.asidOf (d : Dev) (handle : Nat) : Nat := match d.buf handle with | some m => m.asid | none => 0

/-- Every live object, by kind. -/
def Dev.lives (d : Dev) : List Live :=
  d.cores.graphs.map (fun (e : Nat × Graph) => { kind := kGraph, st := 0, asid := e.2.asid, index := e.1, arg := ((e.2.stage 0).map (·.prog)).getD 0 })
    ++ ((List.range 5).filter (fun i => (d.ing i).st != 0)).map (fun i => { kind := kIngest, st := (d.ing i).st, asid := (d.ing i).asid, index := i })
    ++ (match d.sns.pilot.service with
        | some s => [{ kind := kPilot, st := d.fget fPipePltCtlState, asid := d.asidOf s.sink, index := 0 }]
        | none => [])
    ++ ((List.range 4).filter (fun i => (d.mix i).running)).map (fun i =>
        { kind := kCompositor, st := d.fget (fMixStatState i), asid := (d.mix i).asid, index := i })
    ++ d.runningFlows.map (fun n => { kind := kFlow, st := d.flowSt n, asid := ((d.flow n).bufs.head?.map d.asidOf).getD 0, index := n })
    ++ ((List.range 16).filter (fun r => d.rasSt r != 0)).map (fun r => { kind := kRaster, st := d.rasSt r, asid := 0, index := r })
    ++ d.vid.pool.recs.map (fun (e : Nat × Recording) =>
        { kind := kRecording, st := 0, asid := (d.ing e.1).asid, index := e.1, arg := e.2.clip })
    ++ ((List.range 2).filter (fun n => (d.enc n).session)).map (fun n => { kind := kEncoder, st := d.encSt n, asid := 0, index := n })
    ++ (if 1 ≤ d.decSt && d.decSt ≤ 3 then [{ kind := kDecoder, st := d.decSt, asid := d.vid.dec.asid, index := 0 }] else [])
    ++ d.mem.siphons.map (fun (e : Nat × Siphon) => { kind := kSiphon, st := 0, asid := e.2.asid, index := e.1 })
    ++ ((List.range 16).filter (fun n => d.audRuns n)).map (fun n => { kind := kAudio, st := d.audSt n, asid := d.audAsid n, index := n })
    ++ ((List.range 32).filter (fun a => d.axCounting a)).map (fun a => { kind := kAxis, st := d.fget (fAxCfgState a), asid := 0, index := a })
    ++ (d.mem.spaces.filter (· != 0)).map (fun a => { kind := kSpace, st := 0, asid := a, index := a })
    ++ d.mem.maps.map (fun (e : Nat × Mapping) => { kind := kMapping, st := 0, asid := e.2.asid, index := e.1, arg := e.2.va })
    ++ d.cores.programs.map (fun (e : Nat × Program) => { kind := kProgram, st := 0, asid := 0, index := e.1 })
    ++ d.vid.images.map (fun (e : Nat × Image) => { kind := kImage, st := 0, asid := 0, index := e.1 })

/-- An inventory entry, 32 bytes; objects of the start-up set have CREATED all ones (R501). -/
def Dev.liveBytes (d : Dev) (l : Live) : List Byte :=
  let k := l.kind * 4294967296 + l.index
  le 1 l.kind ++ le 1 l.st ++ le 2 l.asid ++ le 4 l.index ++ le 8 (tgetD d.qf.created k allOnes64)
    ++ le 8 (tgetD d.qf.changed k allOnes64) ++ le 8 l.arg

/-- The command that created or started an object is outstanding still: its effect is not shown yet (R402). -/
def Dev.unborn (d : Dev) (l : Live) : Bool :=
  match tget d.qf.created (l.kind * 4294967296 + l.index) with
  | some q => (tget d.qf.ctxs q).isSome
  | none => false

/-- The inventory for a READ INVENTORY accepted now as `seq`: AS_OF is its own SEQ; the outstanding SEQs below it, then the
live objects of the kind named or of all, as far as the data buffer reaches. -/
def Dev.inventory (d : Dev) (seq : Nat) (q : Sqe) : List Byte :=
  let k := q.cdw10.toNat % 256
  let room := q.cdw12.toNat - 64
  let pend := ((tkeys d.qf.ctxs).filter (fun s => s < seq)).take (room / 8)
  let ents := (d.lives.filter (fun l => (k = 255 || l.kind = k) && !d.unborn l)).take ((room - 8 * pend.length) / 32)
  le 8 seq ++ le 4 pend.length ++ le 4 ents.length ++ zeros 48 ++ pend.flatMap (le 8) ++ ents.flatMap d.liveBytes

end Sys2Proof.Machine
end

