-- ==== Sys2Proof/Machine/QueueFront.lean ====
section
/-!
DEFINITION. The queue front: doorbells, fetch and acceptance, controller reset and shutdown, the standard admin commands,
power states and firmware activation (R360 to R381, R522).
-/
set_option autoImplicit false

namespace Sys2Proof.Machine

def Dev.qfMod (d : Dev) (f : QueueFront → QueueFront) : Dev := { d with qf := f d.qf }

/-- HOSTNS of the store in use: namespace 3 is inactive without a store (R361, R386). -/
def Dev.hostNsNow (d : Dev) : Nat := if d.fget fStoStatState = 1 && d.store.superOk then d.store.hostNs else 0

/-! ## Doorbells (R40, R511) -/

/-- An invalid doorbell: an asynchronous event of type 0, whose information is 0 for a register of no queue and 1 for a
value out of range, with log page 0x01 (Table PF-9; the codes are NVMe's). -/
def Dev.badDoorbell (d : Dev) (q v info : Nat) : Dev :=
  let d := (d.qfMod (fun f => { f with badDoorbells := f.badDoorbells + 1 })).sumpInput qfPlace 12 q v
  match d.qf.aers with
  | [] => d
  | seq :: rest => (d.qfMod (fun f => { f with aers := rest })).finish seq { dw0 := 0x10000 + 256 * info }

/-- DOORBELL_WRITE: the tail of a submission queue, or the head of a completion queue. -/
def doorbellWrite (cq : Bool) (q v : Nat) (d : Dev) : Dev :=
  if !d.qf.en then d
  else if cq then
    match tget d.qf.cqs q with
    | some c => if v < c.size then d.qfMod (fun f => { f with cqs := tput f.cqs q { c with head := v } }) else d.badDoorbell q v 1
    | none => d.badDoorbell q v 0
  else
    match tget d.qf.sqs q with
    | some c => if v < c.size then d.qfMod (fun f => { f with sqs := tput f.sqs q { c with tail := v } }) else d.badDoorbell q v 1
    | none => d.badDoorbell q v 0

/-! ## Fetch and acceptance (R362, R363, R369, R397, R401) -/

/-- Contexts that a submission queue holds. -/
def Dev.queueCtxs (d : Dev) (sqid : Nat) : Nat := (d.qf.ctxs.filter (fun e => e.2.sqid == sqid)).length

/-- The journal slot of the next SEQ may be overwritten (R397). -/
def Dev.slotFree (d : Dev) : Bool :=
  match tget d.qf.jnl (d.qf.head % jnlSize) with
  | some r => r.st.terminal
  | none => true

/-- HEAD is 2⁴⁰ − 2²⁰ beyond the last committed HEAD while a checkpoint commit is held (R401). -/
def Dev.ckptBound (d : Dev) : Bool :=
  !d.gateOpen && d.nv.commits.any (fun c => !c.body.isRecord) && d.prime.ckptHead + 2 ^ 40 - 2 ^ 20 ≤ d.qf.head

/-- A command of a submission queue may be fetched now. -/
def Dev.mayFetch (d : Dev) (sqid : Nat) : Bool :=
  match tget d.qf.sqs sqid with
  | some q =>
    d.qf.en && d.qf.rdy && !d.qf.halted && !d.flag fQfStatPaused && q.head != q.tail && (tget d.qf.sqDel sqid).isNone
      && d.qf.ctxs.length < jnlSize && (131072 ≤ jnlSize - d.qf.ctxs.length || d.queueCtxs sqid < 128)
      && d.slotFree && !d.ckptBound
  | none => false

/-- Opcodes of Tables SQ-2 and SQ-7. -/
def adminStd : List Nat := [0x00, 0x01, 0x02, 0x04, 0x05, 0x06, 0x08, 0x09, 0x0A, 0x0C, 0x10, 0x11]
def adminSkoazel : List Nat := [0xC1, 0xC2, 0xC5, 0xC6, 0xCA, 0xCE, 0xD2, 0xE1, 0xE2, 0xE5, 0xE9, 0xED]
def nvmStd : List Nat := [0x00, 0x01, 0x02, 0x08, 0x09]
def ioSkoazel : List Nat :=
  [0x80, 0x81, 0x82, 0x84, 0x85, 0x86, 0x88, 0x89, 0x8A, 0x8C, 0x8D, 0x90, 0x91, 0x94, 0x95, 0x98, 0x99, 0x9C, 0x9D, 0xA0, 0xA1,
   0xA4, 0xA5, 0xA8, 0xA9, 0xAC, 0xAD, 0xB0, 0xB1, 0xB4, 0xB8, 0xB9, 0xBC, 0xBD, 0xC0, 0xC1, 0xC4, 0xC8, 0xCC, 0xD0]

/-- Skoazel commands whose CDW10, or whose CDW11 beside a VA, is 0 in Table SQ-7. -/
def zero10 (admin : Bool) : List Nat := if admin then [0xCA] else [0x80, 0x89, 0xC1, 0xC4]
def zero11 (admin : Bool) : List Nat :=
  if admin then [0xC5, 0xCA, 0xCE]
  else [0x80, 0x82, 0x89, 0x8A, 0x8D, 0x94, 0x95, 0x9C, 0x9D, 0xA4, 0xA5, 0xA8, 0xA9, 0xAD, 0xB0, 0xB4, 0xB8, 0xB9, 0xBD, 0xC0, 0xC1, 0xC4]
/-- I/O commands that carry a VA in CDW13 and CDW14. -/
def withVa : List Nat := [0x81, 0x85, 0x88, 0x8C, 0x90, 0x94]

/-- The layout of R363 holds, for an opcode of Table SQ-7. -/
def skoazelLayout (admin : Bool) (q : Sqe) : Bool :=
  let o := q.opc.toNat
  q.fuse == 0 && q.psdt == 0 && q.nsid.toNat == (if admin then 0 else 1) && q.cdw2 == 0 && q.cdw3 == 0
    && q.mptr.toNat % 4096 == 0 && q.cdw12.toNat % 4 == 0 && q.cdw12.toNat ≤ 16777216 && (o % 4 != 0 || q.cdw12 == 0)
    && q.cdw15 == 0
    && (if !admin && withVa.contains o then q.cdw14.toNat < 65536
        else q.cdw14 == 0 && (q.cdw13 == 0 || (!admin && o == 0xA0)))
    && (!(zero10 admin).contains o || q.cdw10 == 0) && (!(zero11 admin).contains o || q.cdw11 == 0)

/-- The kind of a STOP, RELEASE or START PERIPHERAL and the action of a CLIP CONTROL are among those of R365 and Table
SQ-7. -/
def kindOk (q : Sqe) : Bool :=
  let k := q.cdw10.toNat % 256
  match q.opc.toNat with
  | 0x98 => 1 ≤ k && k ≤ 12
  | 0x84 => [1, 6, 16, 18, 19].contains k
  | 0xC8 => k == 11 || k == 12
  | 0xCC => q.cdw11.toNat % 4 != 3
  | _ => true

/-- Why an NVM command fails for its namespace (Table SQ-3): 0x01 on namespace 1, 0x20 for a write to namespace 2, 0x02 on
namespace 3 while it is inactive, 0x0B on another number. -/
def nsidFailure (q : Sqe) (hostNs : Nat) : Option Nat :=
  let n := q.nsid.toNat
  let o := q.opc.toNat
  if n = 1 then some 0x01
  else if n = 2 then if o = 0x00 || o = 0x02 then none else some 0x20
  else if n = 3 then if hostNs = 0 then some 0x02 else none
  else if n = 4294967295 && o = 0x00 then none
  else some 0x0B

/-- The status with which a command completes at once, before any effect (R360, R363, R366). -/
def atOnce (sqid : Nat) (q : Sqe) (hostNs : Nat) : Option (Nat × Nat) :=
  let o := q.opc.toNat
  let admin := sqid == 0
  if (if admin then adminSkoazel else ioSkoazel).contains o then
    if !skoazelLayout admin q then some (0, 0x02)
    else if !admin && !kindOk q then some (7, stBadParam)
    else none
  else if !(if admin then adminStd else nvmStd).contains o then some (0, 0x01)
  else if !(q.fuse == 0 && q.psdt == 0) then some (0, 0x02)
  else if admin then none
  else (nsidFailure q hostNs).map (fun s => (0, s))

/-- Bytes that a command carries from host to device. -/
def bytesIn (sqid : Nat) (q : Sqe) : Nat :=
  let o := q.opc.toNat
  if isSkoazel sqid o then (if o % 4 = 1 then q.cdw12.toNat else 0)
  else if sqid = 0 then (if o = 0x11 then min 16777216 (4 * (q.cdw10.toNat + 1)) else 0)
  else if o = 0x01 then 4096 * (min 4095 (q.cdw12.toNat % 65536) + 1)
  else if o = 0x09 then 16 * (q.cdw10.toNat % 256 + 1)
  else 0

/-- A Flush is STARTED at its acceptance (R370): what it covers then (R373). -/
def Dev.coverFlush (d : Dev) (seq nsid : Nat) : Dev :=
  let clips := if nsid = 3 then [] else (d.store.clips.filter (fun e => e.2.st == 1 || (e.2.st != 0 && e.2.dataOnMedia < e.2.dataLen))).map
    (fun (e : Nat × Clip) => if e.2.st = 1 then (d.clipId e.1, e.2.unitsEnd (e.2.indexLen / 32), e.2.indexLen)
      else (d.clipId e.1, e.2.dataLen, 0))
  { d with store := { d.store with flushes := d.store.flushes ++ [{ seq := seq, host := nsid != 2, clips := clips }] } }

/-- COMMAND_FETCH: the entry at the head of a submission queue, with the data that the host's buffers hold for it, is
accepted: it takes a context and the next SEQ, and its record is written in state ACCEPTED (R369). -/
def commandFetch (sqid : Nat) (q : Sqe) (data : List Byte) (d : Dev) : Dev :=
  if !d.mayFetch sqid then d else
  let seq := d.qf.head
  let stop := atOnce sqid q d.hostNsNow
  let inv := if stop.isNone && sqid = 0 && q.opc = 0xCE then d.inventory seq q else []
  let d := d.qfMod (fun f => { f with sqs := tadj f.sqs sqid (fun s => { s with head := (s.head + 1) % s.size }) })
  let d := d.journal {
    seq := 0, tacc := 0, sqid := sqid, cid := q.cid.toNat, opc := q.opc.toNat, st := .accepted, notes := 0,
    flags := if sqid = 0 then 1 else 0, nsid := q.nsid.toNat, cdw10 := q.cdw10.toNat, cdw11 := q.cdw11.toNat,
    status := 0, result := 0, digest := zeros 16 }
  let data := if stop.isSome then [] else padTo (bytesIn sqid q) data
  let d := d.qfMod (fun f => { f with ctxs := tput f.ctxs seq { sqid := sqid, sqe := q, data := data, inv := inv } })
  let d := d.fset fQfStatCtx d.qf.ctxs.length
  match stop with
  | some (sct, sc) => d.finish seq { sct := sct, sc := sc }
  | none => if sqid ≠ 0 && q.opc = 0 then (d.startCmd seq).coverFlush seq q.nsid.toNat else d

/-! ## Enable, reset and shutdown (R375, R377, R426, R499) -/

/-- CONTROLLER_ENABLE: CC.EN is set with the sizes of the admin queues, once QF_READY is 1. -/
def controllerEnable (asq acq : Nat) (d : Dev) : Dev :=
  if d.qf.en || !d.flag fPrmStatQfReady || asq < 2 || 4096 < asq || acq < 2 || 4096 < acq then d
  else d.qfMod (fun f => { f with
    en := true, rdy := true, aqa := asq - 1 + 65536 * (acq - 1), sqs := [(0, { size := asq })], cqs := [(0, { size := acq, ien := true })] })

/-- One command at a controller reset. -/
def Dev.resetCtx (d : Dev) (seq : Nat) : Dev :=
  match tget d.qf.ctxs seq, d.jrec seq with
  | some c, some r =>
    if r.st = .accepted || (c.sqid ≠ 0 && c.sqe.opc.toNat = 0x02) then
      (d.jset seq (fun r => { r with st := .abortedReset })).freeCtx seq
    else d.qfMod (fun f => { f with ctxs := tadj f.ctxs seq (fun c => { c with unposted := true }) })
  | _, _ => d

/-- A controller reset: CC.EN clears, a function-level reset or a hot reset (R375). Queues and features go; FETCH_HALT
ends; graphs, units, handles, clips, unread events and the journal stay. -/
def Dev.ctrlReset (d : Dev) : Dev :=
  let d := d.qfMod (fun f => { f with en := false, rdy := false, shn := 0, shst := 0 })
  let d := (tkeys d.qf.ctxs).foldl Dev.resetCtx d
  let d := { d with store := { d.store with waiting := [] }, ev := { d.ev with announced := false, unread := d.ev.unread || d.ev.announced } }
  let dels := tvals d.qf.sqDel
  let d := d.qfMod (fun f => { f with aers := [], features := [], sqs := [], cqs := [], sqDel := [], halted := false })
  (dels.foldl (fun d s => d.finish s {}) d).fset fSysEmergStatHalted 0

def controllerReset (d : Dev) : Dev := d.ctrlReset

/-- Loss of the PCIe link acts as a controller reset (R427). -/
def Dev.linkDown (d : Dev) : Dev :=
  let d := d.ctrlReset
  { d with prime := { d.prime with linkUp := false }, qf := { d.qf with cc := 0, aqa := 0, asq := 0, acq := 0 } }

/-- ENDPOINT_LINK_DOWN. -/
def endpointLinkDown (d : Dev) : Dev := d.linkDown

/-- SHUTDOWN_NOTIFICATION: CC.SHN; the write buffer is persisted and the checkpoint and the retained record are committed
(R377, R401, R492). -/
def shutdownNotification (shn : Nat) (d : Dev) : Dev :=
  if !d.qf.en || shn = 0 then d
  else
    let d := d.commitRecord.checkpoint
    (d.qfMod (fun f => { f with shn := shn, shst := 1 })).settleShutdown

/-! ## Queues (R360, R376) -/

/-- A failure with a status of the command-specific set of NVMe. -/
def Dev.failSpecific (d : Dev) (seq sc : Nat) : Dev := d.finish seq { sct := 1, sc := sc }

def createIoCq (seq : Nat) (d : Dev) : Dev :=
  d.run seq true 0x05 (fun d c =>
    let id := c.w10 % 65536
    let size := c.w10 / 65536 + 1
    if id = 0 || 8191 < id || (tget d.qf.cqs id).isSome then d.failSpecific seq 0x01
    else if size < 2 || 16384 < size then d.failSpecific seq 0x02
    else if !bit c.w11 0 then d.failStd seq 0x02
    else if 8192 ≤ c.w11 / 65536 then d.failSpecific seq 0x08
    else
      let d := (d.startCmd seq).qfMod (fun f => { f with
        cqs := tput f.cqs id { size := size, vector := c.w11 / 65536, ien := bit c.w11 1 } })
      d.okOther seq c 0)

def createIoSq (seq : Nat) (d : Dev) : Dev :=
  d.run seq true 0x01 (fun d c =>
    let id := c.w10 % 65536
    let size := c.w10 / 65536 + 1
    let cq := c.w11 / 65536
    if id = 0 || 8191 < id || (tget d.qf.sqs id).isSome then d.failSpecific seq 0x01
    else if size < 2 || 16384 < size then d.failSpecific seq 0x02
    else if !bit c.w11 0 then d.failStd seq 0x02
    else if cq = 0 || 8191 < cq then d.failSpecific seq 0x01
    else if (tget d.qf.cqs cq).isNone then d.failSpecific seq 0x00
    else
      let d := (d.startCmd seq).qfMod (fun f => { f with sqs := tput f.sqs id { size := size, cqid := cq, prio := bits c.w11 2 1 } })
      d.okOther seq c 0)

def deleteIoCq (seq : Nat) (d : Dev) : Dev :=
  d.run seq true 0x04 (fun d c =>
    let id := c.w10 % 65536
    if id = 0 || (tget d.qf.cqs id).isNone then d.failSpecific seq 0x01
    else if d.qf.sqs.any (fun e => e.1 != 0 && e.2.cqid == id) then d.failSpecific seq 0x0C
    else ((d.startCmd seq).qfMod (fun f => { f with cqs := terase f.cqs id })).okOther seq c 0)

/-- Commands of a queue in state ACCEPTED. -/
def Dev.acceptedOf (d : Dev) (sqid : Nat) : List Nat :=
  (d.qf.ctxs.filter (fun e => e.2.sqid == sqid && ((d.jrec e.1).map (·.st)) == some .accepted)).map (·.1)

/-- A command leaves the lists in which it waits. -/
def Dev.forget (d : Dev) (seq : Nat) : Dev :=
  { d with qf := { d.qf with aers := d.qf.aers.filter (· != seq) }, store := { d.store with waiting := d.store.waiting.filter (· != seq) } }

/-- DELETE_IO_SQ: the queue's ACCEPTED commands are aborted, its STARTED ones run to their ends, and the queue goes after
the last of them (R376). -/
def deleteIoSq (seq : Nat) (d : Dev) : Dev :=
  d.run seq true 0x00 (fun d c =>
    let id := c.w10 % 65536
    if id = 0 || (tget d.qf.sqs id).isNone || (tget d.qf.sqDel id).isSome then d.failSpecific seq 0x01
    else
      let d := (d.startCmd seq).qfMod (fun f => { f with sqDel := tput f.sqDel id seq })
      let d := (d.acceptedOf id).foldl (fun d s => (d.forget s).finishAs .abortedSqDel s { sc := 0x08 }) d
      d.settleSqDel id)

/-! ## Log pages, Identify, Abort and features (Tables SQ-1 and SQ-2) -/

/-- A byte of the event log page; a slot never written reads zeros. -/
def Dev.eventByte (d : Dev) (off : Nat) : Byte :=
  match tget d.ev.log (off / 64) with
  | some e => e.bytes.getD (off % 64) 0
  | none => 0

/-- GET_LOG_PAGE. The event log's page lists its slots; reading it with RAE clear lets the next event be announced (R381).
The contents of the other pages are those of NVMe, not of the spec: their bytes are free but for the active and the next
slot of page 0x03. -/
def getLogPage (seq : Nat) (d : Dev) : Dev :=
  d.run seq true 0x02 (fun d c =>
    let lid := c.w10 % 256
    let n := 4 * (c.w10 / 65536 + c.w11 % 65536 * 65536 + 1)
    let off := c.sqe.cdw12.toNat + c.sqe.cdw13.toNat * 4294967296
    let size := if lid = 0xC0 then 64 * evRing else if lid = 0x01 then 64 * 64 else 512
    if !([0x01, 0x02, 0x03, 0xC0].contains lid) then d.failSpecific seq 0x09
    else if off % 4 ≠ 0 || size < off || 16777216 < n then d.failStd seq 0x02
    else
      let d := d.startCmd seq
      if lid = 0xC0 then
        let out := (List.range n).map (fun i => if off + i < size then d.eventByte (off + i) else 0)
        let d := if bit c.w10 15 then d else { d with ev := { d.ev with announced := false, unread := false } }
        d.finish seq { dg1 := c.w10, out := out }
      else
        let (bs, d) := d.freeBytes n
        let afi := BitVec.ofNat 8 (1 + d.nv.activeB.toNat + 16 * (1 + d.nv.commitB.toNat))
        d.finish seq { dg1 := c.w10, out := if lid = 0x03 && off = 0 then afi :: bs.drop 1 else bs })

/-- Bytes of an Identify structure: fields given by offset, the rest free. -/
def Dev.identBytes (d : Dev) (fields : List (Nat × List Byte)) : List Byte × Dev :=
  let (bs, d) := d.freeBytes 4096
  (fields.foldl (fun (b : List Byte) (f : Nat × List Byte) => b.take f.1 ++ f.2 ++ b.drop (f.1 + f.2.length)) bs, d)

/-- Identify Controller: the properties of Tables SQ-1, SQ-2 and SQ-14 at NVMe's offsets. What R360 does not support is
reported as absent: CMIC and OAES, CTRATT, OACS but for firmware download and commit, LPA but for offsets in Get Log Page,
APSTA, MTFA to HMMIN, RPMBS to SANICAP, ANA, FUSES, FNA, NWPC and SGLS. -/
def ctrlFields : List (Nat × List Byte) :=
  [(76, le 1 0), (77, le 1 12), (80, le 4 0x20000), (88, le 4 20000000), (92, zeros 8), (256, le 2 4), (258, le 1 15), (259, le 1 7),
   (260, le 1 0x14), (261, le 1 4), (262, le 1 63), (263, le 1 2), (265, le 1 0), (270, zeros 10), (312, zeros 20), (343, zeros 9),
   (512, le 1 0x66), (513, le 1 0x44), (516, le 4 3), (520, le 2 0x0C), (522, zeros 3), (525, le 1 7), (531, le 1 0), (536, le 4 0),
   (2048, le 2 15800), (2080, le 2 12500), (2112, le 2 4500)]

/-- Data blocks of a namespace (Table SQ-3). -/
def Dev.nsBlocks (d : Dev) (n : Nat) : Nat := if n = 2 then 2 ^ 56 else if n = 3 then d.hostNsNow * 262144 else 0

def Dev.nsActive (d : Dev) (n : Nat) : Bool := n = 1 || n = 2 || (n = 3 && d.hostNsNow ≠ 0)

/-- IDENTIFY with CNS 0x00 to 0x03. -/
def identify (seq : Nat) (d : Dev) : Dev :=
  d.run seq true 0x06 (fun d c =>
    let cns := c.w10 % 256
    let n := c.sqe.nsid.toNat
    if 3 < cns then d.failStd seq 0x02
    else if (cns = 0 || cns = 3) && (n = 0 || 3 < n) then d.failStd seq 0x0B
    else
      let d := d.startCmd seq
      if cns = 1 then
        let (bs, d) := d.identBytes ctrlFields
        d.finish seq { dg1 := c.w10, out := bs }
      else if cns = 2 then
        let l := ([1, 2, 3] : List Nat).filter (fun k => d.nsActive k && n < k)
        d.finish seq { dg1 := c.w10, out := padTo 4096 (l.flatMap (le 4)) }
      else if !d.nsActive n then d.finish seq { dg1 := c.w10, out := zeros 4096 }
      else if cns = 0 then
        let k := d.nsBlocks n
        let (bs, d) := d.identBytes [(0, le 8 k ++ le 8 k ++ le 8 k), (25, le 1 0 ++ le 1 0), (128, le 2 0 ++ le 1 12 ++ le 1 0)]
        d.finish seq { dg1 := c.w10, out := bs }
      else
        let (bs, d) := d.freeBytes 4096
        d.finish seq { dg1 := c.w10, out := bs })

/-- ABORT: an ACCEPTED target becomes ABORTED and completes with Command Abort Requested; otherwise DW0 [0] is 1 (R374). -/
def abort (seq : Nat) (d : Dev) : Dev :=
  d.run seq true 0x08 (fun d c =>
    let sq := c.w10 % 65536
    let cid := c.w10 / 65536
    let d := d.startCmd seq
    match (d.acceptedOf sq).find? (fun s => s != seq && ((tget d.qf.ctxs s).map (fun x => x.sqe.cid.toNat)) == some cid) with
    | some s => (((d.forget s).finishAs .aborted s { sc := 0x07 }).settleSqDel sq).okOther seq c 0
    | none => d.okOther seq c 1)

/-- Features of Table SQ-2. -/
def featureIds : List Nat := [1, 2, 6, 7, 8, 9, 11]
/-- The key under which a feature's value stands: vectors of feature 0x09 have their own. -/
def featureKey (fid w11 : Nat) : Nat := if fid = 9 then 0x10000 * (1 + w11 % 65536) + 9 else fid
/-- Number of Queues: 8,191 of each, counted from 0. -/
def numQueues : Nat := 8190 + 8190 * 65536

/-- SET_FEATURES, for every feature but Power Management. -/
def setFeatures (seq : Nat) (d : Dev) : Dev :=
  d.run seq true 0x09 (fun d c =>
    let fid := c.w10 % 256
    if fid = 2 then d
    else if bit c.w10 31 then d.failSpecific seq 0x0D
    else if !featureIds.contains fid then d.failStd seq 0x02
    else if fid = 6 && !bit c.w11 0 then d.failStd seq 0x02
    else if fid = 7 && (c.w11 % 65536 = 65535 || c.w11 / 65536 = 65535) then d.failStd seq 0x02
    else if fid = 7 && (d.qf.sqs.any (fun e => e.1 != 0) || d.qf.cqs.any (fun e => e.1 != 0)) then d.failStd seq 0x0C
    else if fid = 9 && 8192 ≤ c.w11 % 65536 then d.failStd seq 0x02
    else
      let d := (d.startCmd seq).qfMod (fun f => { f with
        features := if fid = 6 || fid = 7 then f.features else tput f.features (featureKey fid c.w11) c.w11 })
      d.okOther seq c (if fid = 7 then numQueues else 0))

/-- GET_FEATURES. -/
def getFeatures (seq : Nat) (d : Dev) : Dev :=
  d.run seq true 0x0A (fun d c =>
    let fid := c.w10 % 256
    if !featureIds.contains fid || bits c.w10 10 8 ≠ 0 then d.failStd seq 0x02
    else if fid = 9 && 8192 ≤ c.w11 % 65536 then d.failStd seq 0x02
    else
      let v := if fid = 2 then d.fget fQfStatPstate else if fid = 6 then 1 else if fid = 7 then numQueues
        else tgetD d.qf.features (featureKey fid c.w11) (if fid = 9 then c.w11 % 65536 else 0)
      (d.startCmd seq).okOther seq c v)

/-- ASYNCHRONOUS_EVENT_REQUEST: held for the next event; a ninth one exceeds the limit (R381, Table SQ-1). -/
def asynchronousEventRequest (seq : Nat) (d : Dev) : Dev :=
  d.run seq true 0x0C (fun d _ =>
    if d.qf.aers.contains seq then d
    else if 8 ≤ d.qf.aers.length then d.failSpecific seq 0x05
    else (d.qfMod (fun f => { f with aers := f.aers ++ [seq] })).announce)

/-! ## Power states (R379, R380) -/

/-- QF_STAT.PAUSED: fetching pauses from step 2 of an activation and in the last step of the entry to PS2. -/
def Dev.showPaused (d : Dev) : Dev := d.fsetb fQfStatPaused (d.fwHolds || d.qf.ps2 == .waiting)

/-- Leave PS2: the pixel dies are clocked again and the active DRAM channels leave self-refresh. -/
def Dev.leavePs2 (d : Dev) : Dev :=
  let d := (List.range 22).foldl (fun d n => if d.fget (fSysIslStatState n) = 2 then d.fset (fSysIslStatState n) 0 else d) d
  ((List.range 24).foldl (fun d ch => if d.fget (fMemChanStatState ch) = 1 then d.fset (fMemChanStatState ch) 0 else d) d).showDram.showWells

/-- SET_POWER_STATE: Set Features Power Management (Table SQ-14). -/
def setPowerState (seq : Nat) (d : Dev) : Dev :=
  d.run seq true 0x09 (fun d c =>
    let ps := c.w11 % 32
    if c.w10 % 256 ≠ 2 then d
    else if bit c.w10 31 then d.failSpecific seq 0x0D
    else if 2 < ps then d.failStd seq 0x02
    else if d.qf.ps2 != .none then d.fail seq stBusy
    else if ps = 1 && (128 < d.runningFlows.length || d.hevcRuns) then d.fail seq stBusy
    else if ps = 2 && d.anyRuns then d.fail seq stBusy
    else if ps = d.fget fQfStatPstate then (d.startCmd seq).okOther seq c 0
    else if ps = 2 then
      let d := (d.startCmd seq).qfMod (fun f => { f with ps2 := .draining, ps2Seq := seq })
      d.commitRecord.checkpoint
    else
      let d := d.startCmd seq
      let d := if d.fget fQfStatPstate = 2 then d.leavePs2 else d
      (d.fset fQfStatPstate ps).okOther seq c 0)

/-- PS2_BUFFER_EMPTY: the write buffer is empty and the checkpoint committed, or held by the gate; fetching pauses. -/
def ps2BufferEmpty (d : Dev) : Dev :=
  if d.qf.ps2 == .draining && d.store.wbHost.isEmpty && d.store.wbSlots.isEmpty
      && (!d.gateOpen || d.nv.commits.all (·.body.isRecord)) then
    (d.qfMod (fun f => { f with ps2 := .waiting })).showPaused
  else d

/-- Commands being executed, other than the Set Features that performs the entry and the requests held for events. -/
def Dev.executing (d : Dev) : Bool :=
  d.qf.ctxs.any (fun e => e.1 != d.qf.ps2Seq && !d.qf.aers.contains e.1)

/-- PS2_DRAIN_DONE: the commands being executed have ended, or 2 s have passed; DRAM enters self-refresh, the pixel dies are
gated, and the Set Features completes. -/
def ps2DrainDone (timeout : Bool) (d : Dev) : Dev :=
  if d.qf.ps2 != .waiting || (d.executing && !timeout) then d
  else
    let seq := d.qf.ps2Seq
    let d := ((List.range 24).foldl (fun d ch => if d.fget (fMemChanStatState ch) = 0 then d.fset (fMemChanStatState ch) 1 else d) d).showDram
    let d := (List.range 22).foldl (fun d n => if d.fget (fSysIslStatState n) < 2 then d.fset (fSysIslStatState n) 2 else d) d
    let d := ((d.fset fQfStatPstate 2).qfMod (fun f => { f with ps2 := .none })).showPaused
    match tget d.qf.ctxs seq with
    | some c => d.okOther seq c 0
    | none => d

/-! ## Firmware (R378, R522) -/

/-- Put bytes into a firmware slot; what lies between is erased flash. -/
def slotWrite (b : List Byte) (off : Nat) (data : List Byte) : List Byte :=
  b.take off ++ List.replicate (off - b.length) 255 ++ data ++ b.drop (off + data.length)

def Dev.setSlot (d : Dev) (b : Bool) (img : List Byte) : Dev :=
  { d with nv := if b then { d.nv with fwB := img } else { d.nv with fwA := img } }

/-- FIRMWARE_IMAGE_DOWNLOAD writes the inactive slot (R522), where the gate allows it (R489). -/
def firmwareImageDownload (seq : Nat) (d : Dev) : Dev :=
  d.run seq true 0x11 (fun d c =>
    let off := 4 * c.w11
    if 4194304 < off + c.data.length || 16777216 < 4 * (c.w10 + 1) then d.failStd seq 0x02
    else if d.qf.fw.isSome then d.fail seq stBusy
    else if !d.gateOpen then d.gateRefuse.fail seq stBusy
    else
      let b := !d.nv.activeB
      ((d.startCmd seq).setSlot b (slotWrite (d.fwSlot b) off c.data)).okOther seq c 0)

/-- FS of a Firmware Commit names the inactive slot, or 0 for the device's choice. -/
def Dev.fsOk (d : Dev) (w10 : Nat) : Bool := w10 % 8 = 0 || w10 % 8 = (if d.nv.activeB then 1 else 2)

/-- FIRMWARE_COMMIT: CA 0b001 and 0b010 verify the inactive slot and commit it for the next reset. -/
def firmwareCommit (seq : Nat) (d : Dev) : Dev :=
  d.run seq true 0x10 (fun d c =>
    let ca := bits c.w10 5 3
    let b := !d.nv.activeB
    if ca = 3 then d
    else if ca ≠ 1 && ca ≠ 2 then d.failStd seq 0x02
    else if !d.fsOk c.w10 then d.failSpecific seq 0x06
    else if d.checkImage (d.fwSlot b) ≠ .ok then d.failSpecific seq 0x07
    else if d.qf.fw.isSome then d.fail seq stBusy
    else if !d.gateOpen then d.gateRefuse.fail seq stBusy
    else
      let d := d.startCmd seq
      { d with nv := { d.nv with commitB := b } }.okOther seq c 0)

/-- FIRMWARE_ACTIVATE: Commit with CA 0b011 loads the new image beside the old one (Table SQ-13, step 1). -/
def firmwareActivate (seq : Nat) (d : Dev) : Dev :=
  d.run seq true 0x10 (fun d c =>
    let b := !d.nv.activeB
    if bits c.w10 5 3 ≠ 3 then d
    else if !d.fsOk c.w10 then d.failSpecific seq 0x06
    else if d.checkImage (d.fwSlot b) ≠ .ok then d.failSpecific seq 0x07
    else if d.qf.fw.isSome then d.fail seq stBusy
    else
      let d := ((d.startCmd seq).qfMod (fun f => { f with fw := some (.loading, seq) })).loadCode (d.fwSlot b)
      d.fset fQfStatActivating 1)

/-- FW_ACTIVATION_PAUSE: loading is done, fetching pauses, and the journal checkpoint is written (step 2, R401). -/
def fwActivationPause (d : Dev) : Dev :=
  match d.qf.fw with
  | some (.loading, seq) => (d.qfMod (fun f => { f with fw := some (.paused, seq) })).showPaused.checkpoint
  | _ => d

/-- FW_ACTIVATION_SWITCH: the windlass cores switch to the new image, which runs its self-check (step 3). -/
def fwActivationSwitch (d : Dev) : Dev :=
  match d.qf.fw with
  | some (.paused, seq) => (d.qfMod (fun f => { f with fw := some (.checking, seq) })).enterFirmware
  | _ => d

/-- An activation ends: fetching resumes, held restarts of tasks are made and held events are posted (step 4 or 4a, R509, R567). -/
def Dev.endActivation (d : Dev) : Dev :=
  let d := ((d.qfMod (fun f => { f with fw := none })).showPaused.fset fQfStatActivating 0).restartHeld
  if d.ev.enabled then d.postHeld else d

/-- FW_SELF_CHECK_PASS: the new image is the active one, the fused count rises to its ROLLBACK, and the Commit completes
(step 4, R522). -/
def fwSelfCheckPass (d : Dev) : Dev :=
  match d.qf.fw with
  | some (.checking, seq) =>
    let b := !d.nv.activeB
    let img := d.fwSlot b
    let d := { d with
      nv := { d.nv with activeB := b, commitB := b },
      prime := { d.prime with activeMeas := Config.sha3_384 (imgBody img), imageRollback := imgRollback img,
                              activations := d.prime.activations + 1 } }
    let d := ((d.fsetb fSecStatSlotb b).raiseRollback (imgRollback img)).endActivation
    match tget d.qf.ctxs seq with
    | some c => d.okOther seq c 0
    | none => d
  | _ => d

/-- FW_SELF_CHECK_FAIL: the cores switch back, the journal carries the revert, and the Commit completes with
ACTIVATION_FAILED (step 4a, R398). -/
def fwSelfCheckFail (d : Dev) : Dev :=
  match d.qf.fw with
  | some (.checking, seq) =>
    (d.enterFirmware.journalFree 4).endActivation.fail seq stActivationFailed
  | _ => d

/-! ## Host links and transfers (R511, R551) -/

/-- DATA_TRANSFER_TIMEOUT: a command whose data transfer has not completed in 50 ms completes with Data Transfer Error. -/
def dataTransferTimeout (seq : Nat) (d : Dev) : Dev :=
  match tget d.qf.ctxs seq, d.jrec seq with
  | some c, some r =>
    if r.st = .accepted && c.sqe.opc.toNat % 4 ≠ 0 then
      (((d.forget seq).sumpInput qfPlace 11 c.sqid (d.fresh 64)).used).finish seq { sc := 0x04 }
    else d
  | _, _ => d

/-- PERST_L_FALL takes the endpoint link down: a controller reset (R551, R427). -/
def perstLFall (d : Dev) : Dev :=
  let d := d.linkDown
  { d with pins := { d.pins with perst := false } }

/-- PERST_L_RISE: the endpoint link comes up again, once PM03 has brought it up in this priming (R551). -/
def perstLRise (d : Dev) : Dev :=
  { d with pins := { d.pins with perst := true }, prime := { d.prime with linkUp := 3 < d.prime.next || d.prime.linkUp } }

end Sys2Proof.Machine
end

