-- ==== Sys2Proof/Machine/Store.lean ====
section
/-!
DEFINITION. NVM commands and the store: write buffer, media, clips and CONFIGURE STORE (R361, R371 to R373, R386 to R396).
-/
set_option autoImplicit false

namespace Sys2Proof.Machine

/-! ## Layout on media (R387, R388) -/

/-- First store block of the data region. -/
def Store.dataBase (s : Store) : Nat := roundUp (16384 + s.hostNs * 262144) 16384

/-- Extents of the data region. -/
def Store.extentCount (s : Store) : Nat := (s.nssdFormatted * s.blocksPerSsd - s.dataBase) / 16384

/-- The SSD that holds a store block. -/
def Store.ssdOf (s : Store) (b : Nat) : Nat := b / 256 % max 1 s.nssdFormatted

/-- Store blocks that each of the first n SSDs gives: the smallest namespace 1, less 1 MiB, in whole 64 MiB (R386). -/
def Store.blocksOf (s : Store) (n : Nat) : Nat :=
  match s.ssdBytes.take n with
  | [] => 0
  | b :: bs => (bs.foldl min b - 1048576) / 67108864 * 16384

/-! ## Superblocks (R387, Table SQ-19) -/

/-- The superblock of the SSD at a position. -/
def Super.bytes (x : Super) (index : Nat) : List Byte :=
  let b := le 4 0x4C5A5342 ++ le 4 x.gen ++ le 16 x.storeId ++ le 1 x.nssd ++ le 1 index ++ zeros 2 ++ le 4 x.hostNs ++ le 8 x.blocks ++ zeros 20
  b ++ le 4 (crc32c b).toNat

/-- The superblock in a slot of an SSD; none where the slot is empty, its CRC is wrong or it names another position. -/
def Store.superAt (s : Store) (ssd slot : Nat) : Option Super :=
  match tget s.supers (2 * ssd + slot) with
  | none => none
  | some b =>
    if b.length = 64 && field b 0 4 = 0x4C5A5342 && field b 0x19 1 = ssd && field b 0x3C 4 = (crc32c (b.take 60)).toNat then
      some { gen := field b 4 4, storeId := field b 8 16, nssd := field b 0x18 1, hostNs := field b 0x1C 4, blocks := field b 0x20 8 }
    else none

/-- The superblock in use among SSDs of which `bad ssd slot` tells the damaged slots: of the slots that agree on every SSD of the
set, the one with the higher GEN. -/
def Store.superOf (s : Store) (n : Nat) (bad : Nat → Nat → Bool) : Option Super :=
  let agreed := fun slot => (s.superAt 0 slot).filter (fun x =>
    0 < x.nssd && x.nssd ≤ n && (List.range x.nssd).all (fun k => !bad k slot && s.superAt k slot == some x))
  match agreed 0, agreed 1 with
  | some a, some b => some (if a.gen < b.gen then b else a)
  | a, none => a
  | none, b => b

/-- Write a superblock on every SSD of its set, into slot A for an even GEN and slot B for an odd one, so that the two alternate. -/
def Store.writeSuper (s : Store) (x : Super) : Store :=
  { s with supers := (List.range x.nssd).foldl (fun t k => tput t (2 * k + x.gen % 2) (x.bytes k)) s.supers }

/-- The SSD of a store block has failed (R428). -/
def Dev.ssdFailed (d : Dev) (b : Nat) : Bool := d.fget (fStoSsdStatState (d.store.ssdOf b)) == 3

/-! ## Ranges and order of NVM commands (R371, R372) -/

def Ctx.slba (c : Ctx) : Nat := c.w10 + c.w11 * 4294967296
def Ctx.nlb (c : Ctx) : Nat := c.sqe.cdw12.toNat % 65536
/-- Ranges of a Dataset Management command: first block and length. -/
def dsmRanges : Nat → List Byte → List (Nat × Nat)
  | 0, _ => []
  | n + 1, b => (field b 8 8, field b 4 4) :: dsmRanges n (b.drop 16)

/-- Blocks of namespace 3 that a command changes. -/
def Ctx.changes (c : Ctx) : List (Nat × Nat) :=
  if c.sqid = 0 || c.sqe.nsid ≠ 3 then []
  else match c.sqe.opc.toNat with
    | 0x01 => [(c.slba, c.nlb + 1)]
    | 0x08 => [(c.slba, c.nlb + 1)]
    | 0x09 => if bit c.w11 2 then dsmRanges (c.w10 % 256 + 1) c.data else []
    | _ => []

def meets (a b : List (Nat × Nat)) : Bool := a.any (fun x => b.any (fun y => overlap x.1 x.2 y.1 y.2))

/-- A command accepted earlier, and outstanding still, changes some of these blocks. -/
def Dev.earlier (d : Dev) (seq : Nat) (rs : List (Nat × Nat)) : Bool := d.qf.ctxs.any (fun e => e.1 < seq && meets e.2.changes rs)

/-- As `Dev.earlier`, for commands that have not yet reached the write buffer: a Read waits for them (R371). -/
def Dev.earlierAccepted (d : Dev) (seq : Nat) (rs : List (Nat × Nat)) : Bool :=
  d.qf.ctxs.any (fun e => e.1 < seq && ((d.jrec e.1).map (·.st)) == some .accepted && meets e.2.changes rs)

/-- A Read accepted earlier has not read some of these blocks yet: what changes them waits for it, so that the Read returns the data
accepted before it (R371, log entry 82). -/
def Dev.earlierRead (d : Dev) (seq : Nat) (rs : List (Nat × Nat)) : Bool :=
  d.qf.ctxs.any (fun e => e.1 < seq && ((d.jrec e.1).map (·.st)) == some .accepted && e.2.sqid != 0 && e.2.sqe.opc.toNat == 0x02
    && e.2.sqe.nsid.toNat == 3 && meets [(e.2.slba, e.2.nlb + 1)] rs)

/-- A command that changes blocks must wait for an earlier one (R371, R372). -/
def Dev.mustWait (d : Dev) (seq : Nat) (rs : List (Nat × Nat)) : Bool := d.earlier seq rs || d.earlierRead seq rs

/-! ## Flush, FUA and shutdown (R372, R373, R377) -/

/-- Every block and stream byte that a Flush covers is on media (R373). -/
def Dev.flushed (d : Dev) (w : FlushWait) : Bool :=
  (!w.host || (d.store.wbHost.all (fun b => w.seq ≤ b.seq) && d.qf.ctxs.all (fun e => w.seq ≤ e.1 || e.2.changes.isEmpty)))
    && w.clips.all (fun (id, dl, il) => match d.clipSlot id with
      | none => true
      | some s => min dl (d.clip s).dataLen ≤ (d.clip s).dataOnMedia && ((d.clip s).st != 1 || il ≤ (d.clip s).indexOnMedia))

/-- The newest Write, Write Zeroes or deallocation accepted before a Flush that it covers; free where there is none. -/
def Dev.newestCovered (d : Dev) (w : FlushWait) : Nat × Dev :=
  let l := (tvals d.qf.jnl).filter (fun r => w.host && r.seq < w.seq && r.sqid != 0 && r.sqid != 65535 && r.nsid == 3
    && (r.opc == 1 || r.opc == 8 || r.opc == 9))
  match l with
  | [] => (d.fresh 64, d.used)
  | _ => ((l.map (·.seq)).foldl max 0, d)

/-- Complete one Flush where its conditions hold. -/
def Dev.settleFlush (d : Dev) (w : FlushWait) : Dev :=
  if !d.flushed w then d
  else
    let d := { d with store := { d.store with flushes := d.store.flushes.filter (fun x => x.seq != w.seq) } }
    match tget d.qf.ctxs w.seq with
    | none => d
    | some c =>
      let (n, d) := d.newestCovered w
      d.finish w.seq { dg0 := n, dg1 := c.sqe.nsid.toNat }

/-- Success of a Write: SLBA, NLB and the CRC of the data (Table SQ-26). -/
def Dev.okWrite (d : Dev) (seq : Nat) (c : Ctx) : Dev := d.finish seq { dg0 := c.slba, dg1 := c.nlb, dgData := c.data }

/-- A Write with FUA completes when its data are on media (R372). -/
def Dev.settleFua (d : Dev) (seq : Nat) : Dev :=
  match tget d.qf.ctxs seq, d.jrec seq with
  | some c, some r =>
    if c.sqid ≠ 0 && c.sqe.opc = 1 && r.st = .started && d.store.wbHost.all (fun b => b.seq != seq) then d.okWrite seq c else d
  | _, _ => d

/-- What may end once data have reached the media. -/
def Dev.settleStore (d : Dev) : Dev :=
  let d := (tkeys d.qf.ctxs).foldl Dev.settleFua d
  let d := d.store.flushes.foldl Dev.settleFlush d
  d.showStore.settleShutdown

/-- FLUSH: it completes once what it covers is on media. -/
def flush (seq : Nat) (d : Dev) : Dev :=
  match d.store.flushes.find? (fun w => w.seq == seq) with
  | some w => d.settleFlush w
  | none => d

/-! ## Write, Read, Write Zeroes and Dataset Management -/

/-- The host's share of the write buffer and the buffer itself have room for some blocks (R372). -/
def Dev.shareRoom (d : Dev) (n : Nat) : Bool :=
  d.store.wbHost.length + n ≤ d.store.wb * 32768 && d.store.wbUsed + n * 4096 ≤ d.store.wb * gib

/-- A namespace 3 command can reach the store. -/
def Dev.hostStore (d : Dev) : Bool := d.hostNsNow != 0 && d.cxlBytes != 0 && !d.wbLost

/-- The data of a Write enter the write buffer: it is STARTED, and completes unless it has FUA. -/
def Dev.writeIn (d : Dev) (seq : Nat) (c : Ctx) : Dev :=
  let blocks := (List.range (c.nlb + 1)).map (fun i => ({ seq := seq, lba := c.slba + i, data := (c.data.drop (4096 * i)).take 4096 } : BufBlock))
  let d := { d with store := { d.store with wbHost := d.store.wbHost ++ blocks, waiting := d.store.waiting.filter (· != seq) } }
  let d := (d.startCmd seq).showStore
  if bit c.sqe.cdw12.toNat 30 then d else d.okWrite seq c

/-- Fields of a Write, Read or Write Zeroes that must be 0: LR, PRINFO and the protection fields (Table SQ-2). -/
def nvmFields (q : Sqe) (mask : Nat) : Bool := q.cdw12.toNat &&& mask == 0 && q.cdw14 == 0 && q.cdw15 == 0 && q.mptr == 0

/-- WRITE: the data go into the write buffer once every earlier Write of the same blocks has completed; a full share makes
it wait (R372). -/
def write (seq : Nat) (d : Dev) : Dev :=
  d.run seq false 0x01 (fun d c =>
    if !nvmFields c.sqe 0xBC000000 || 4096 < c.nlb + 1 then d.failStd seq 0x02
    else if d.nsBlocks 3 < c.slba + c.nlb + 1 then d.failStd seq 0x80
    else if !d.hostStore then d.fail seq stNoStore
    else if d.mustWait seq c.changes then d
    else if !d.store.waiting.isEmpty && !d.store.waiting.contains seq || !d.shareRoom (c.nlb + 1) then
      { d with store := { d.store with waiting := (if d.store.waiting.contains seq then d.store.waiting
        else sortBy (fun a b => a ≤ b) (d.store.waiting ++ [seq])) } }
    else d.writeIn seq c)

/-- WRITE_BUFFER_ROOM: the oldest waiting Write proceeds once the share has room. -/
def writeBufferRoom (d : Dev) : Dev :=
  match d.store.waiting with
  | [] => d
  | seq :: _ =>
    match tget d.qf.ctxs seq with
    | none => d
    | some c => if d.mustWait seq c.changes || !d.hostStore || !d.shareRoom (c.nlb + 1) then d else d.writeIn seq c

/-- A block of namespace 3, or none where it cannot be read. -/
def Dev.hostBlock (d : Dev) (lba : Nat) : Option (List Byte) :=
  match d.store.wbHost.reverse.find? (fun b => b.lba == lba) with
  | some b => if !d.wbLost then some b.data else none
  | none => if d.ssdFailed (16384 + lba) then none else some (mread d.store.media (lba * 4096) 4096)

/-- The store has clips (R386, R396). -/
def Dev.hasClips (d : Dev) : Bool := d.fget fStoStatState != 0 && d.store.superOk

/-- Byte `at'` of a data stream block lies in the ring or the write buffer. -/
def Dev.inCxl (d : Dev) (slot seq : Nat) : Bool :=
  (!d.ringLost && d.store.ringSlots.any (fun e => e.clip == slot && e.seq == seq))
    || (!d.wbLost && d.store.wbSlots.any (fun e => e.clip == slot && e.seq == seq))

/-- The store block that holds a block of a clip's data stream (R388, R389). -/
def Dev.clipPlace (d : Dev) (c : Clip) (off : Nat) : Nat :=
  d.store.dataBase + 16384 * c.dataExt.getD (off / extPay) 0 + 1 + off % extPay / 4096

/-- The block of a data stream at an offset lies wholly within ring-only units, which begin at multiples of 64 bytes. -/
def Clip.ringOnlyAt (c : Clip) (off : Nat) : Bool :=
  (List.range 64).all (fun j => c.ringOnly.any (fun r => r.1 ≤ off + 64 * j && off + 64 * j < r.1 + r.2))

/-- A block of a clip's window (R390), or none where it cannot be read: a block wholly within ring-only units whose ring
slot has been reused (R392), a block not on media without CXL memory, and a block on a failed SSD. -/
def Dev.clipBlock (d : Dev) (lba : Nat) : Option (List Byte) :=
  let slot := lba / 2 ^ 40
  let k := lba % 2 ^ 40
  let c := d.clip slot
  if !d.hasClips || c.st = 0 then some (zeros 4096)
  else if 2 ^ 39 ≤ k then
    let off := (k - 2 ^ 39) * 4096
    some (padTo 4096 (mread c.index off (min 4096 (c.indexLen - off))))
  else
    let off := k * 4096
    let n := min 4096 (c.dataLen - off)
    let ext := off / extPay
    let ring := c.ringOnlyAt off
    let here := d.inCxl slot ext
    let onSsd := off + n ≤ c.dataOnMedia && !d.ssdFailed (d.clipPlace c off)
    if n = 0 || here || (!ring && onSsd) then some (padTo 4096 (mread c.stream off n)) else none

/-- READ: each block is that of the last command accepted before the Read that changed it; the Read waits until those data
are in the write buffer (R371). A block that cannot be read ends it with Unrecovered Read Error. -/
def read (seq : Nat) (d : Dev) : Dev :=
  d.run seq false 0x02 (fun d c =>
    let n := c.sqe.nsid.toNat
    if !nvmFields c.sqe 0xBC000000 || 4096 < c.nlb + 1 then d.failStd seq 0x02
    else if d.nsBlocks n < c.slba + c.nlb + 1 then d.failStd seq 0x80
    else if n = 3 && d.earlierAccepted seq [(c.slba, c.nlb + 1)] then d
    else
      let d := d.startCmd seq
      let bs := (List.range (c.nlb + 1)).map (fun i => if n = 3 then d.hostBlock (c.slba + i) else d.clipBlock (c.slba + i))
      if bs.any (·.isNone) then d.finish seq { sct := 2, sc := 0x81 }
      else d.finish seq { dg0 := c.slba, dg1 := c.nlb, out := bs.flatMap (fun b => b.getD []) })

/-- Blocks of namespace 3 become zeros in the buffer and on media. -/
def Dev.zeroBlocks (d : Dev) (rs : List (Nat × Nat)) : Dev :=
  let d := rs.foldl (fun d r => { d with store := { d.store with
    media := mclear d.store.media (r.1 * 4096) (r.2 * 4096),
    wbHost := d.store.wbHost.filter (fun b => !(r.1 ≤ b.lba && b.lba < r.1 + r.2)) } }) d
  d.settleStore

def writeZeroes (seq : Nat) (d : Dev) : Dev :=
  d.run seq false 0x08 (fun d c =>
    if !nvmFields c.sqe 0xBC000000 then d.failStd seq 0x02
    else if d.nsBlocks 3 < c.slba + c.nlb + 1 then d.failStd seq 0x80
    else if !d.hostStore then d.fail seq stNoStore
    else if d.mustWait seq c.changes then d
    else ((d.startCmd seq).zeroBlocks c.changes).finish seq { dg0 := c.slba, dg1 := c.nlb })

/-- DATASET_MANAGEMENT: deallocation, with AD set; the other attributes are advice without effect. -/
def datasetManagement (seq : Nat) (d : Dev) : Dev :=
  d.run seq false 0x09 (fun d c =>
    let n := c.w10 % 256 + 1
    if c.changes.any (fun r => d.nsBlocks 3 < r.1 + r.2) then d.failStd seq 0x80
    else if !d.hostStore then d.fail seq stNoStore
    else if d.mustWait seq c.changes then d
    else ((d.startCmd seq).zeroBlocks c.changes).finish seq { dg1 := n, dgData := c.data })

/-! ## Writes of the store engine -/

/-- Slots of the write buffer whose extent is full, or whose clip is no longer open, and on media are freed (R392). -/
def Dev.freeSlots (d : Dev) : Dev :=
  d.storeMod (fun s => { s with wbSlots := s.wbSlots.filter (fun e =>
    let c := d.clip e.clip
    !((e.seq + 1) * extPay ≤ c.dataOnMedia || (c.st != 1 && c.dataLen ≤ c.dataOnMedia))) })

/-- Put host blocks on media. -/
def Store.landBlocks (s : Store) (bs : List BufBlock) : Store :=
  { s with media := bs.foldl (fun m b => mwrite m (b.lba * 4096) b.data) s.media,
           wbHost := s.wbHost.filter (fun b => !bs.contains b) }

/-- How far some bytes of a clip's data stream go on media beyond those there: a block for a failed SSD stays in the write
buffer, and what follows it (R428). -/
def Dev.clipReach (d : Dev) (slot bytes : Nat) : Nat :=
  let c := d.clip slot
  let goal := min c.dataLen (c.dataOnMedia + bytes)
  if (List.range 4).all (fun k => d.fget (fStoSsdStatState k) != 3) then goal
  else
    let first := c.dataOnMedia / 4096
    match (List.range (goal / 4096 + 1 - first)).find? (fun k => d.ssdFailed (d.clipPlace c (4096 * (first + k)))) with
    | some k => min goal (max c.dataOnMedia (4096 * (first + k)))
    | none => goal

/-- STORE_WRITE_DONE: data have reached the media; blocks for a failed SSD stay in the write buffer (R428), and a write
buffer in unavailable CXL memory is not read (R193). -/
def storeWriteDone (w : StoreDone) (d : Dev) : Dev :=
  if d.wbLost then d
  else match w with
  | .host n => (d.storeMod (fun s => s.landBlocks ((s.wbHost.take n).filter (fun b => !d.ssdFailed (16384 + b.lba))))).settleStore
  | .clip slot bytes => ((d.clipMod slot (fun c => { c with dataOnMedia := d.clipReach slot bytes })).freeSlots).settleStore

/-- Persist the whole write buffer; none where an SSD has failed and data wait. -/
def Dev.persist (d : Dev) : Option Dev :=
  if d.store.wbHost.isEmpty && d.store.wbSlots.isEmpty then some d
  else if (List.range 4).any (fun k => d.fget (fStoSsdStatState k) == 3) then none
  else
    let d := d.storeMod (fun s => s.landBlocks s.wbHost)
    let d := (tkeys d.store.clips).foldl (fun d s => d.clipMod s (fun c => { c with dataOnMedia := c.dataLen })) d
    some d.freeSlots.settleStore

/-! ## CONFIGURE STORE (R194 to R196, R396) -/

/-- A range of CXL memory that a mapping holds would leave the general pool (R195). -/
def Dev.poolInUse (d : Dev) (wb ring : Nat) : Bool :=
  d.usedRanges.any (fun r => cxlBase ≤ r.1 && r.1 < hostBase
    && (r.1 < cxlBase + gib + wb * gib || cxlBase + d.cxlBytes - ring * gib < r.1 + r.2))

/-- SSDs present from port 0 upward. -/
def Dev.ssdCount (d : Dev) : Nat := ((List.range 4).filter (fun k => (List.range (k + 1)).all (fun j => d.fget (fStoSsdStatState j) != 0))).length

/-- FORMAT: a new STORE_ID, whose value the spec leaves open, an empty clip table, HOSTNS and NSSD. -/
def Dev.format (d : Dev) (hostNs nssd : Nat) : Dev :=
  let id := d.fresh 64 + 2 ^ 64 * d.used.fresh 64
  let d := d.used.used
  let d := d.storeMod (fun s =>
    let s := { s with storeId := id, gen := s.gen + 1, hostNs := hostNs, nssdFormatted := nssd, superOk := true, clips := [],
                      extents := [], media := [], wbHost := [], wbSlots := [], ringSlots := [], lowPosted := false,
                      blocksPerSsd := s.blocksOf nssd }
    ({ s with nextents := s.extentCount }).writeSuper { gen := s.gen, storeId := id, nssd := nssd, hostNs := hostNs, blocks := s.blocksPerSsd })
  (d.fset fStoStatNssd nssd).showStore

def configureStore (seq : Nat) (d : Dev) : Dev :=
  d.run seq true 0xC5 (fun d c =>
    let b := c.data
    let wb := field b 0 4
    let ring := field b 4 4
    let hostNs := field b 8 4
    let nssd := field b 0x0C 1
    let fmt := bit c.w10 0
    let cap := d.cxlBytes / gib
    if b.length ≠ 64 || !allZero b 0x0D 51 || 2 ≤ c.w10 || (fmt && (nssd = 0 || 4 < nssd)) then d.fail seq stBadParam
    else if !d.vid.pool.recs.isEmpty then d.fail seq stBusy
    else if cap = 0 || d.wbLost || d.ringLost || (fmt && (d.fget fStoStatState ≠ 1 || d.ssdCount < nssd)) then d.fail seq stNoStore
    else if wb < 4 || 64 < wb || cap < wb + ring + 2 || (fmt && nssd * d.store.blocksOf nssd < 16384 + hostNs * 262144) then d.fail seq stBadSize
    else if d.poolInUse wb ring then d.fail seq stPoolInUse
    else
      match d.persist with
      | none => d
      | some d =>
        let d := d.startCmd seq
        let d := if fmt then d.format hostNs nssd else d
        let d := d.storeMod (fun s => { s with wb := wb, ring := ring, ringSlots := s.ringSlots.drop (s.ringSlots.length - 16 * ring) })
        let saved := d.gateOpen
        let d := (d.rrModGated (fun r => { r with sizes := some (wb, ring) })).showStore
        d.finish seq { dg1 := c.w10, dgData := c.data, notes := if saved then 0 else noteNotSaved })

/-! ## Clips (R366, R389, R393) -/

/-- LIST_CLIPS: the heads of the records of consecutive slots, as far as the data buffer and the table reach. -/
def listClips (seq : Nat) (d : Dev) : Dev :=
  d.run seq false 0x8A (fun d c =>
    if 65536 ≤ c.w10 then d.fail seq stBadParam
    else if !d.hasClips then d.fail seq stNoStore
    else
      let n := min (c.sqe.cdw12.toNat / 64) (65536 - c.w10)
      let out := (List.range n).flatMap (fun i => d.clipHead (c.w10 + i))
      (d.startCmd seq).finish seq { dw0 := n, dg1 := c.w10, out := out })

/-- A CLIP CONTROL with an action on a clip that exists. -/
def Dev.clipControl (d : Dev) (seq action : Nat) (f : Dev → Ctx → Nat → Dev) : Dev :=
  d.run seq false 0xCC (fun d c =>
    if c.w11 % 4 ≠ action then d
    else if !d.hasClips then d.fail seq stBadHandle
    else match d.clipSlot c.w10 with
      | none => d.fail seq stBadHandle
      | some s => f d c s)

/-- CLIP_DELETE frees a clip's extents; a slot whose clip had generation 65,535 is spent (R389, R393). -/
def clipDelete (seq : Nat) (d : Dev) : Dev :=
  d.clipControl seq 0 (fun d c s =>
    let k := d.clip s
    if k.st = 1 || k.flags &&& cfProtected ≠ 0 then d.fail seq stBusy
    else
      let d := ((d.startCmd seq).clipMod s (fun k => { gen := k.gen, spent := k.gen == 65535 })).dropClip s
      d.storeLow.okOther seq c 0)

def clipProtect (seq : Nat) (d : Dev) : Dev :=
  d.clipControl seq 1 (fun d c s =>
    ((d.startCmd seq).clipMod s (fun k => { k with flags := k.flags ||| cfProtected })).okOther seq c 0)

def clipUnprotect (seq : Nat) (d : Dev) : Dev :=
  d.clipControl seq 2 (fun d c s =>
    ((d.startCmd seq).clipMod s (fun k => { k with flags := k.flags - (k.flags &&& cfProtected) })).okOther seq c 0)

end Sys2Proof.Machine
end

