-- ==== Sys2Proof/Machine/Records.lean ====
section
/-!
DEFINITION. Records that the host reads: journal, sump, retained record, inventory and frame records (R400, R402, R491,
R505, R569), and the commits of the sump and of device non-volatile memory (R490, R492, R401, R504).
-/
set_option autoImplicit false

namespace Sys2Proof.Machine

/-- FROM, or the value, that CDW10 and CDW11 hold together. -/
def Ctx.w64 (c : Ctx) : Nat := c.w10 + c.w11 * 4294967296

/-! ## Journal (R400) -/

/-- The journal's records with SEQ at or above a number, in SEQ order. -/
def Dev.jnlFrom (d : Dev) (seq : Nat) : List JRec :=
  sortBy (fun a b => a.seq ≤ b.seq) ((tvals d.qf.jnl).filter (fun r => seq ≤ r.seq))

/-- The page header of Table SQ-27. -/
def Dev.jnlHeader (d : Dev) (count : Nat) : List Byte :=
  le 8 d.qf.head ++ le 8 d.qf.oldest ++ le 8 d.nowNs ++ le 4 count ++ le 4 (d.qf.fallback.toNat + 2 * d.qf.lost.toNat) ++ zeros 32

def readJournal (seq : Nat) (d : Dev) : Dev :=
  d.run seq true 0xC2 (fun d c =>
    if c.sqe.cdw12.toNat < 64 then d.fail seq stBadParam
    else
      let l := (d.jnlFrom c.w64).take (c.sqe.cdw12.toNat / 64 - 1)
      (d.startCmd seq).finish seq { dw0 := l.length, dg1 := c.w10, out := d.jnlHeader l.length ++ l.flatMap JRec.bytes })

/-- JOURNAL_CHECKPOINT: every 600 s, when HEAD has changed (R401). -/
def journalCheckpoint (d : Dev) : Dev := if d.qf.head = d.prime.ckptHead then d else d.checkpoint

/-! ## Sump (R502 to R505) -/

/-- SSEQ with BOOTS in [63:48]. -/
def Dev.sseq (d : Dev) (n : Nat) : Nat := d.prime.boots * 2 ^ 48 + n

/-- Show the sump's head. -/
def Dev.showSump (d : Dev) : Dev := d.fset fPrmSumpHeadLoHead (d.sseq d.sump.next)

/-- Commit an entry: it takes its SSEQ, and one of severity 2 or 3 also enters the sump tail of the retained record. -/
def Dev.sumpLand (d : Dev) (e : SumpEntry) : Dev :=
  let e := { e with sseq := d.sseq d.sump.next }
  let cap := if d.sump.inDram then 65536 else 1024
  let d := { d with sump := { d.sump with
    next := d.sump.next + 1, ring := (d.sump.ring ++ [e]).drop (d.sump.ring.length + 1 - cap) } }
  let d := if 2 ≤ e.sev then d.rrMod (fun r => { r with sumpTail := (r.sumpTail ++ [e]).drop (r.sumpTail.length + 1 - 64) }) else d
  d.showSump

/-- An entry has been held for 1 ms (R504). -/
def Dev.heldLong (d : Dev) (e : SumpEntry) : Bool := decide (e.time + 1000000 ≤ d.nowNs)

/-- SUMP_COMMIT: the oldest entry held has been held for 1 ms and is committed; the overflow entry carries the number of
occurrences merged (R504). -/
def sumpCommit (d : Dev) : Dev :=
  let land := fun (e : SumpEntry) (rest : List SumpEntry) =>
    if d.heldLong e then ({ d with sump := { d.sump with hold := rest } }).sumpLand e else d
  let flow := fun (o : SumpEntry) (n : Nat) =>
    if d.heldLong o then ({ d with sump := { d.sump with overflow := none } }).sumpLand { o with payload := le 4 n } else d
  match d.sump.hold, d.sump.overflow with
  | [], none => d
  | [], some (o, n) => flow o n
  | e :: rest, none => land e rest
  | e :: rest, some (o, n) => if o.time < e.time then flow o n else land e rest

/-- READ_SUMP: a page header, then the entries with SSEQ at or above FROM. -/
def readSump (seq : Nat) (d : Dev) : Dev :=
  d.run seq true 0xC6 (fun d c =>
    if c.sqe.cdw12.toNat < 64 then d.fail seq stBadParam
    else
      let l := (d.sump.ring.filter (fun e => c.w64 ≤ e.sseq)).take (c.sqe.cdw12.toNat / 64 - 1)
      let head := d.sseq d.sump.next
      let oldest := match d.sump.ring with | e :: _ => e.sseq | [] => head
      let h := le 8 head ++ le 8 oldest ++ le 8 d.nowNs ++ le 4 l.length ++ zeros 36
      (d.startCmd seq).finish seq { dw0 := l.length, dg1 := c.w10, out := h ++ l.flatMap SumpEntry.bytes })

/-! ## Retained record (Table PF-2, R492) -/

def StepEntry.bytes (e : StepEntry) : List Byte :=
  le 1 e.st ++ le 1 e.variant ++ le 1 e.attempts ++ le 1 e.history ++ le 2 e.cause ++ zeros 2 ++ le 4 e.place.toNat ++ le 4 e.dur

/-- Bytes of an area whose inner layout the spec does not give. -/
def openArea (gen off n : Nat) : List Byte := (List.range n).map (fun i => Config.recordByte gen (off + i))

/-- The areas after the header. -/
def Retained.body (r : Retained) (gen : Nat) : List Byte :=
  let steps := (List.range 16).flatMap (fun k => (tgetD r.steps k {}).bytes)
  let retired := r.retired.flatMap (fun (p, c, b) => le 4 p.toNat ++ le 2 c ++ le 2 b)
  let ones := fun (n : Nat) => List.replicate n (255 : Byte)
  let sizes := match r.sizes with
    | some (wb, ring) => le 4 wb ++ le 4 ring
    | none => ones 8
  let lanes := le 4 r.grpSel ++ padTo 128 ((List.range 96).flatMap (fun n => le 1 (tgetD r.laneCtl n 0)))
    ++ (List.range 96).flatMap (fun n => le 4 (tgetD r.laneEq n 0))
  padTo 256 steps ++ retired.take 2048 ++ ones (2048 - retired.length) ++ sizes ++ zeros (0x1000 - 0x948)
    ++ padTo 0x1000 lanes
    ++ openArea gen 0x2000 (8192 + 24576)
    ++ padTo 0x1000 ((r.softRows.take 256).flatMap (fun (ch, b, row) => le 1 ch ++ le 1 b ++ zeros 2 ++ le 4 row))
    ++ openArea gen 0xB000 16384
    ++ padTo 4096 (r.sumpTail.flatMap SumpEntry.bytes)
    ++ (if r.startUp.isSome then openArea gen 0x10000 65536 else zeros 65536)

/-- The 128 KiB of a committed copy. -/
def Retained.bytes (r : Retained) (gen : Nat) : List Byte :=
  let h := le 4 0x4C5A5252 ++ le 2 1 ++ zeros 2 ++ le 4 gen ++ le 2 r.boots ++ zeros 2 ++ le 8 r.tcommit ++ zeros 36
  let b := r.body gen
  h ++ le 4 (crc32c (h ++ zeros 4 ++ b)).toNat ++ b

/-- READ_RETAINED_RECORD returns the last committed copy, as far as the data buffer reaches; without one, nothing. -/
def readRetainedRecord (seq : Nat) (d : Dev) : Dev :=
  d.run seq true 0xCA (fun d c =>
    let d := d.startCmd seq
    match newest d.nv.rrA d.nv.rrB with
    | some (g, r) =>
      let out := (r.bytes g).take c.sqe.cdw12.toNat
      d.finish seq { dw0 := min c.sqe.cdw12.toNat 131072, out := out }
    | none => d.finish seq {})

/-- RETAINED_RECORD_COMMIT: at most once every 600 s, when the content has changed (R492). -/
def retainedRecordCommit (d : Dev) : Dev := if d.prime.dirty then d.commitRecord else d

/-- A SET LIFECYCLE completes once its commit is written (R527). -/
def Dev.settleLifecycle (d : Dev) : Dev :=
  match d.qf.lifecycle with
  | none => d
  | some seq =>
    let d := { d with qf := { d.qf with lifecycle := none } }
    match tget d.qf.ctxs seq with
    | some c => d.okOther seq c (d.fget fSecStatLc)
    | none => d

/-- What a commit programs: the retained record as it stands when the erase ends. R490 names no instant: DESIGN CHOICE, log
entry 133. -/
def Dev.programmed (d : Dev) : CommitBody → CommitBody
  | .record r => .record { d.prime.rr with boots := r.boots, tcommit := r.tcommit }
  | .checkpoint k => .checkpoint k

/-- PAGE_PROGRAM_DONE: the erase or page in progress of the oldest commit ends; its last page makes the copy valid (R490).
A closed gate lets no further one start (R543). -/
def pageProgramDone (d : Dev) : Dev :=
  match d.nv.commits with
  | [] => d
  | c :: rest =>
    if !d.gateOpen then d
    else if !c.erased then
      let d' := { d with nv := { (d.nv.invalidate c) with commits := { c with erased := true, body := d.programmed c.body } :: rest } }
      (if c.body.isRecord then { d' with prime := { d'.prime with dirty := false } } else d').showCommits
    else if 1 < c.pagesLeft then { d with nv := { d.nv with commits := { c with pagesLeft := c.pagesLeft - 1 } :: rest } }
    else
      let d := { d with nv := { (d.nv.land c) with commits := rest } }
      let d := match c.body with
        | .checkpoint k => { d with prime := { d.prime with ckptHead := k.head } }
        | .record _ => d.settleLifecycle
      d.showCommits

/-! ## Inventory (R402) -/

/-- READ_INVENTORY returns the inventory of its acceptance. -/
def readInventory (seq : Nat) (d : Dev) : Dev :=
  d.run seq true 0xCE (fun d c =>
    let k := c.w10 % 256
    if c.sqe.cdw12.toNat < 64 || !(k = 255 || (1 ≤ k && k ≤ 12) || (16 ≤ k && k ≤ 19)) then d.fail seq stBadParam
    else (d.startCmd seq).finish seq { dw0 := field c.inv 12 4, dg1 := c.w10, out := c.inv })

/-! ## Frame records (R217, R271, R348, R569) -/

def time64 (t : Option Nat) : List Byte := le 8 (t.getD allOnes64)

/-- A frame record, 64 bytes (Table SI-5). -/
def FrameRec.bytes (r : FrameRec) : List Byte :=
  le 4 r.frame ++ le 1 r.ctx ++ le 1 r.nexp ++ zeros 2 ++ le 4 r.marks ++ le 2 r.rows ++ le 2 r.lost ++ le 2 r.extra
    ++ le 2 (min 65535 r.chk) ++ le 2 r.skipped ++ le 2 r.pilot ++ time64 r.tstart ++ time64 r.texp ++ time64 r.tend
    ++ le 4 (match r.glerr with | some g => trunc 32 (sat32s g) | none => 0x80000000) ++ le 2 r.stray ++ le 2 r.expx ++ zeros 8

/-- An output frame record, 32 bytes (Table CF-1), of a unit kind and index. -/
def OutRec.bytes (r : OutRec) (kind index : Nat) : List Byte :=
  le 4 r.oframe ++ le 2 (kind * 16384 + index) ++ zeros 2 ++ le 4 (r.src.getD allOnes32) ++ le 4 r.marks ++ le 4 r.flags
    ++ le 4 r.detail ++ le 8 r.tstart

/-- A picture record, 32 bytes (Table CC-10). -/
def PicRec.image (r : PicRec) : List Byte :=
  let b := r.budget.getD (65535, 65535)
  le 4 r.picno ++ le 1 r.ty ++ le 1 r.qpavg ++ le 2 r.flags ++ le 4 (r.src.getD allOnes32) ++ le 4 r.marks ++ le 4 r.bytes
    ++ le 2 b.1 ++ le 2 b.2 ++ le 8 r.tstart

/-- The records of a source: number and bytes, oldest first; none where the source does not exist. -/
def Dev.recordsOf (d : Dev) (source index : Nat) : Option (List (Nat × List Byte)) :=
  let outs := fun (l : List OutRec) (kind : Nat) => l.map (fun r => (r.oframe, r.bytes kind index))
  if source = 0 && index < 5 then
    let g := d.ing index
    some ((g.recs ++ g.cur.toList).map (fun r => (r.frame, r.bytes)))
  else if source = 1 && index < 4 then some (outs (d.mix index).recs 0)
  else if source = 2 && index < 512 then some (outs (d.flow index).recs 1)
  else if source = 3 && index < 16 then some (outs (d.ras index).recs 2)
  else if source = 4 && index < 2 then some ((d.enc index).recs.map (fun r => (r.picno, r.image)))
  else none

/-- READ_FRAME_RECORDS in the 32-bit view of R569. -/
def readFrameRecords (seq : Nat) (d : Dev) : Dev :=
  d.run seq false 0x86 (fun d c =>
    match d.recordsOf (c.w10 % 16) (bits c.w10 25 16) with
    | none => d.fail seq stBadParam
    | some l =>
      let size := if c.w10 % 16 = 0 then 64 else 32
      let l := (l.filter (fun e => (e.1 + 2 ^ 32 - c.w11) % 2 ^ 32 < 2 ^ 31)).take (c.sqe.cdw12.toNat / size)
      (d.startCmd seq).finish seq { dw0 := l.length, dg1 := c.w10, out := l.flatMap (·.2) })

end Sys2Proof.Machine
end

