-- ==== Sys2Proof/Machine/Registers.lean ====
section
/-!
DEFINITION. Register access: REGISTER READ and REGISTER WRITE, the BAR0 regions, the debug windows and the emergency
controls (R12 to R14, R40 to R43, R382 to R385), with the effects of each register's own rule.
-/
set_option autoImplicit false

namespace Sys2Proof.Machine

/-! ## Finding a register -/

/-- The element of a register row at an address. -/
def RegRow.index (r : RegRow) (a : Nat) : Option Nat :=
  if a < r.base then none
  else if r.count = 1 then (if a = r.base then some 0 else none)
  else if (a - r.base) % r.stride = 0 && (a - r.base) / r.stride < r.count then some ((a - r.base) / r.stride) else none

/-- The fields of the register at an address among some rows; none at a reserved address. -/
def fieldsIn : List RegRow → Nat → List (Fld × Access)
  | [], _ => []
  | r :: rs, a =>
    match r.index a with
    | some n => r.fields n
    | none => fieldsIn rs a

/-- The fields at an address of the device register space (R382); the SYS block mirrors the first 4 KiB of BAR0. -/
def regFields (a : Nat) : List (Fld × Access) := fieldsIn (regRows.filter (fun r => !r.bar0Only)) a

/-- The number of an element: `some n` when the address is element `n` of an array. -/
def elem (base stride count a : Nat) : Option Nat :=
  if base ≤ a && (a - base) % stride = 0 && (a - base) / stride < count then some ((a - base) / stride) else none

/-! ## Reading (R12, R383) -/

/-- The value that a field shows to a read: a WO field reads 0, and SNS_CTL_B.EMB reads 1 in split mode (R236). -/
def Dev.fieldRead (d : Dev) (e : Fld × Access) : Nat :=
  if e.2 = .wo then 0
  else if e.1 = fSnsCtlEmb 1 && d.splitMode then 2 ^ e.1.lo
  else d.fget e.1 * 2 ^ e.1.lo

/-- A count or measurement that no command reports: a read finds a free value (log entry 130). -/
def Dev.measured (d : Dev) (f : Fld) : Dev := (d.fset f (d.fresh f.width)).used

/-- What LANE_STAT, ETH_PORT_STAT and STO_SSD_STAT show of a moment: FAILS of the present 60 s, and the eye width of a lane in use,
the uncorrectable codewords of a port and the commands failed by an SSD that is there (R404, R425, R439). -/
def Dev.showMeasured (d : Dev) (a : Nat) : Dev :=
  match elem 0x801000 4 96 a with
  | some n =>
    let d := d.fset (fLaneStatFails n) (min 3 (recentFails (d.laneX n).fails d.nowNs).length)
    if d.laneSt n = lsOff then d else d.measured (fLaneStatMargin n)
  | none =>
    match elem 0x900000 4 6 a with
    | some p => if d.ownedBusy 12 then d else d.measured (fEthPortStatFecunc p)
    | none =>
      match elem 0xB00010 4 4 a with
      | some k => if d.fget (fStoSsdStatState k) = 0 then d else d.measured (fStoSsdStatErr k)
      | none => d

/-- What a read does before it returns: snapshots and latches of TIME_NOW, CAP_TS, TRG_LAST, AX_SMP, AX_CMP_TIME and
PRM_SUMP_HEAD (R458, R460, R461, R488, R516). -/
def Dev.beforeRead (d : Dev) (a : Nat) : Dev :=
  if a = 0x1400010 then timeNowSnapshot d
  else if a = 0x100060 then d.fset fPrmSumpHeadHiHead (d.sseq d.sump.next / 4294967296)
  else match elem 0x1600008 32 16 a with
    | some c => capturePop c d
    | none =>
      match elem 0x1500014 32 32 a with
      | some t => trgLastRead t d
      | none =>
        match elem 0x1800030 64 32 a with
        | some x => axisSampleRead x d
        | none =>
          match elem 0x1800028 64 32 a with
          | some x => axCmpTimeRead x d
          | none => d.showMeasured a

/-- What a read clears: the RC fields of the register (R12), and for MEM_FLOAT_STAT the period that WORST covers. -/
def Dev.afterRead (d : Dev) (a : Nat) (fs : List (Fld × Access)) : Dev :=
  let d := fs.foldl (fun (d : Dev) e => if e.2 = .rc then d.fset e.1 0 else d) d
  match elem 0x502000 4 128 a with
  | some n => { d with mem := { d.mem with floatSeen := d.mem.floatSeen.filter (· != n) } }
  | none => d

/-- Read one register. -/
def Dev.regReadAt (d : Dev) (a : Nat) (fs : List (Fld × Access)) : Nat × Dev :=
  let d := d.beforeRead a
  ((fs.map d.fieldRead).sum, d.afterRead a fs)

/-- Read one word of the device register space; a reserved address reads 0 (R383). -/
def Dev.regRead (d : Dev) (a : Nat) : Nat × Dev := d.regReadAt a (regFields a)

/-! ## Writing -/

/-- A write as R12 says: RW fields take their bits, each 1 clears a W1C field, and the rest is ignored. -/
def Dev.plainWrite (d : Dev) (fs : List (Fld × Access)) (v : Nat) : Dev :=
  fs.foldl (fun (d : Dev) e =>
    match e.2 with
    | .rw => d.fset e.1 (bits v e.1.hi e.1.lo)
    | .w1c => if bit v e.1.lo then d.fset e.1 0 else d
    | _ => d) d

/-- Whether a write would change an RW field among some. -/
def Dev.changes (d : Dev) (fs : List Fld) (v : Nat) : Bool := fs.any (fun f => d.fget f != bits v f.hi f.lo)

/-- Write some fields from a word. -/
def Dev.writeFields (d : Dev) (fs : List Fld) (v : Nat) : Dev := fs.foldl (fun (d : Dev) f => d.fset f (bits v f.hi f.lo)) d

/-! ### Sensor ports (R222, R236) -/

/-- Some context of a port runs. -/
def Dev.portRuns (d : Dev) (p : Nat) : Bool :=
  if p = 0 then (d.ing 0).st != 0 else [1, 2, 3, 4].any (fun i => (d.ing i).st != 0)

/-- Write stop-only fields: while the port runs, a change is kept off and writes a sump entry (R222). -/
def Dev.writeStopOnly (d : Dev) (runs : Bool) (place : Place) (a v : Nat) (fs : List Fld) : Dev :=
  if !runs then d.writeFields fs v
  else if d.changes fs v then d.sumpRefused place a v else d

/-- Write staged fields of a context: at once while it is stopped, else from its next frame start (R222). -/
def Dev.writeStaged (d : Dev) (i v : Nat) (fs : List Fld) : Dev :=
  if (d.ing i).st = 0 then (d.writeFields fs v).ingMod i (fun g => { g with staged := g.staged.filter (fun e => !(fs.map Fld.key).contains e.1) })
  else d.ingMod i (fun g => { g with staged := g.staged ++ fs.map (fun f => (f.key, bits v f.hi f.lo)) })

/-- A write of a register of the SNS block. -/
def Dev.snsWrite (d : Dev) (a v : Nat) : Dev :=
  match elem 0xD00000 4 2 a with
  | some p =>
    let d := d.fset (fSnsCtlFilt p) (bits v 25 22)
    -- MODE changes only while both ports are stopped, the rest while its own port is (R196, R222)
    let rest := [fSnsCtlEmb p, fSnsCtlCk2 p, fSnsCtlRate p]
    if d.portRuns p then d.writeStopOnly true (ioPlace 1 p noSlice) a v (fSnsCtlMode p :: rest)
    else (d.writeFields rest v).writeStopOnly (d.portRuns (1 - p)) (ioPlace 1 p noSlice) a v [fSnsCtlMode p]
  | none =>
    match elem 0xD00008 4 2 a with
    | some p => d.writeStopOnly (d.portRuns p) (ioPlace 1 p noSlice) a v [fSnsTrainTrain p]
    | none =>
      match elem 0xD00120 4 5 a with
      | some i =>
        (d.writeStaged i v [fSnsFrameLines i]).writeStopOnly ((d.ing i).st != 0) (snsPlace i) a v [fSnsFrameWell i, fSnsFrameBuf i]
      | none =>
        let i := (a % 32) / 4
        if 0xD00100 ≤ a && a < 0xD001C0 && i < 5 then
          d.writeStaged i v ((regFields a).filter (fun e => e.2 = .rw) |>.map (·.1))
        else d

/-! ### Triggers, captures, audio and motion (R456, R461, R487, R488) -/

/-- A write of TRG_CTL: ALIGN and PERIODIC at once, LATE by 1s, the output fields as R456 says, and EN: from 0 to 1 it
arms the unit, from 1 to 0 it stops it unless a running consumer names it. -/
def Dev.trgCtlWrite (d : Dev) (t v : Nat) : Dev :=
  let en := bit v 31
  let was := d.flag (fTrgCtlEn t)
  if was && !en && d.trgConsumed t then d.sumpRefused (ioPlace 7 0 noSlice) (fTrgCtlEn t).addr v
  else
    let d := d.writeFields [fTrgCtlAlign t, fTrgCtlPeriodic t] v
    let d := if bit v 28 then d.fset (fTrgCtlLate t) 0 else d
    let d := triggerStagedWrite t 0 v d
    if en then triggerArm t d else d.trgDisable t

def Dev.trgWrite (d : Dev) (a v : Nat) : Dev :=
  let t := (a - 0x1500000) / 32
  if 32 ≤ t then d
  else match (a % 32) / 4 with
    | 0 => d.trgCtlWrite t v
    | 1 => triggerStagedWrite t 1 v d
    | 2 => triggerStagedWrite t 2 v d
    | 3 => triggerStagedWrite t 3 v d
    | 4 => triggerStagedWrite t 4 v d
    | _ => d

/-- A write of a capture register; a unit that is enabled measures its timeout from then. -/
def Dev.capWrite (d : Dev) (a v : Nat) : Dev :=
  match elem 0x1600000 32 16 a with
  | some c =>
    let was := d.flag (fCapCfgEn c)
    let d := d.plainWrite (regFields a) v
    if !was && bit v 31 then d.setCap c (fun u => { u with lastAccepted := none, timedOut := false, since := d.nowNs }) else d
  | none => d.plainWrite (regFields a) v

/-- A write of an audio register (R487): MASK at any time and AUD_RING_RD; the rest only while the port is stopped, and a
stream's fields only while its EN is clear. -/
def Dev.audWrite' (d : Dev) (a v : Nat) : Dev :=
  let refuse := fun (d : Dev) => d.sumpRefused audPlace a v
  if 0x1700800 ≤ a then
    let s := (a - 0x1700800) / 16
    let fs := ((regFields a).filter (fun e => e.2 = .rw)).map (·.1)
    let isCfg := a % 16 = 0
    let rest := fs.filter (fun f => f.lo != 31 || !isCfg)
    let d := if 32 ≤ s then d else if !d.flag (fAudStrCfgEn s) then d.writeFields rest v
      else if !isCfg || d.changes rest v then refuse d else d
    if isCfg && s < 32 then audioStreamEnable s (bit v 31) d else d
  else if 0x1700400 ≤ a then d.plainWrite (regFields a) v
  else
    let n := (a - 0x1700000) / 32
    if 16 ≤ n then d
    else match (a % 32) / 4 with
      | 0 =>
        let d := audioMaskWrite n (bits v 29 28) d
        let fs := [fAudPortCfgClk n, fAudPortCfgRate n, fAudPortCfgTrigmode n, fAudPortCfgTrg n, fAudPortCfgDec4 n, fAudPortCfgBlk n]
        if !d.audRuns n then d.writeFields fs v else if d.changes fs v then refuse d else d
      | 1 => if d.audRuns n then refuse d else d.fset (fAudRingLoVa n) v
      | 2 => if d.audRuns n then refuse d else d.fsets [(fAudRingHiAsid n, bits v 31 20), (fAudRingHiVa n, bits v 15 0)]
      | 3 => if d.audRuns n then refuse d else d.fset (fAudRingSizeSize n) v
      | 5 => d.fset (fAudRingRdOff n) v
      | _ => d

/-- A write of a motion register (R481, R488). -/
def Dev.axWrite (d : Dev) (a v : Nat) : Dev :=
  let x := (a - 0x1800000) / 64
  if 32 ≤ x then d
  else match (a % 64) / 4 with
    | 0 =>
      if d.fget (fAxCfgState x) != 0 then d.sumpRefused axPlace a v else d.plainWrite (regFields a) v
    | 9 =>
      let d := d.writeFields [fAxCmpCtlPinEn x, fAxCmpCtlPol x, fAxCmpCtlPin x, fAxCmpCtlWidth x] v
      let d := if bit v 30 then d.fset (fAxCmpCtlLate x) 0 else d
      let d := if bit v 29 then d.fset (fAxCmpCtlFired x) 0 else d
      let d := d.gpioName (32 + x) (if bit v 28 then some (bits v 26 21, bit v 27) else none)
      if bit v 31 then axisCompareArm x d
      else (d.fset (fAxCmpCtlArm x) 0).setAxis x (fun y => { y with armed := none, fireNow := false })
    | _ => d.plainWrite (regFields a) v

/-! ### The other blocks -/

/-- A write of TIME_CTL: a change of SRC ends the servo's state (R447, R449, R460). -/
def Dev.timeCtlWrite (d : Dev) (v : Nat) : Dev :=
  let old := d.timeSrc
  let d := d.plainWrite (regFields 0x1400000) v
  if d.timeSrc = old then d
  else
    let d := d.timeState tsFree
    { d with time := { d.time with samples := [], rejects := [], goodRun := 0, first := false, slew := false } }

def Dev.timeWrite (d : Dev) (a v : Nat) : Dev :=
  if a = 0x1400000 then d.timeCtlWrite v
  else if a = 0x1400018 then timeIncWrite false v d
  else if a = 0x140001C then timeIncWrite true v d
  else if a = 0x1400020 then timeStepWrite false v d
  else if a = 0x1400024 then timeStepWrite true v d
  else d.plainWrite (regFields a) v

/-- A write of LANE_CTL: the polarities, kept in the retained record, then RETRY and TEST (R417, R425, R439). -/
def Dev.laneCtlWrite (d : Dev) (n v : Nat) : Dev :=
  let fs := [fLaneCtlTxinv n, fLaneCtlRxinv n]
  let d := if (d.isEth n || d.isSdi n) && d.changes fs v then
    (d.writeFields fs v).rrModGated (fun r => { r with laneCtl := tput r.laneCtl n (bits v 3 2) }) else d
  let d := if bit v 1 then laneRetry n d else d
  if bit v 0 then laneTest n d else d

def Dev.laneWrite (d : Dev) (a v : Nat) : Dev :=
  if a = 0x800040 then laneGrpSelWrite v d
  else match elem 0x801400 4 96 a with
    | some n => laneEqWrite n v d
    | none =>
      match elem 0x801800 4 96 a with
      | some n => d.laneCtlWrite n v
      | none => d.plainWrite (regFields a) v

/-- A write of a raster register: only while the raster is released or stopped (R311). -/
def Dev.rasWrite (d : Dev) (a v : Nat) : Dev :=
  let r := if a < 0x1100100 then (a - 0x1100000) / 4 else (a % 256) / 8
  if (regFields a).isEmpty || 0x1100300 ≤ a then d
  else if d.rasRuns r then d.sumpRefused (lanePlace (rasLane r)) a v
  else d.plainWrite (regFields a) v

/-- Write one word of the device register space. SEC and PRM are not reached (R383). -/
def Dev.regWrite (d : Dev) (a v : Nat) : Dev :=
  let v := v % 4294967296
  match a / 1048576 with
  | 1 => d
  | 2 => d
  | 3 =>
    match elem 0x300010 4 4 a with
    | some k => thmLevelWrite k v d
    | none => d.plainWrite (regFields a) v
  | 5 =>
    let d := d.plainWrite (regFields a) v
    -- the new setting of a float classes its requests within 1 µs (R188)
    match elem 0x501000 4 128 a with
    | some n => d.judgeFloat n
    | none => d
  | 8 => d.laneWrite a v
  | 9 =>
    match elem 0x900200 4 6 a with
    | some p => ethIpWrite p v d
    | none => d
  | 13 => d.snsWrite a v
  | 17 => d.rasWrite a v
  | 20 => d.timeWrite a v
  | 21 => d.trgWrite a v
  | 22 => d.capWrite a v
  | 23 => d.audWrite' a v
  | 24 => d.axWrite a v
  | _ => d.plainWrite (regFields a) v

/-! ## The commands (Table SQ-7) -/

/-- A word range touches registers of a block range. -/
def touches (a n lo hi : Nat) : Bool := a < hi && lo < a + 4 * n

/-- Registers of lanes, ports and rasters before PM12 has ended, and of the time unit before PM13 has: their owning step
(R499). -/
def Dev.regBusy (d : Dev) (a n : Nat) : Bool :=
  (d.ownedBusy 12 && (touches a n 0x800000 0xA00000 || touches a n 0x1100000 0x1200000))
    || (d.ownedBusy 13 && touches a n 0x1400000 0x1500000)

/-- The address and the number of words are as Table SQ-7 says. -/
def regArgs (a n : Nat) : Bool := a % 4 = 0 && 1 ≤ n && n ≤ 1024

/-- Words from bytes, low word first. -/
def wordsOf : Nat → List Byte → List Nat
  | 0, _ => []
  | n + 1, bs => leNat (bs.take 4) :: wordsOf n (bs.drop 4)

/-- Write words in rising address order. -/
def Dev.writeWords (d : Dev) (a : Nat) : List Nat → Dev
  | [] => d
  | v :: vs => (d.regWrite a v).writeWords (a + 4) vs

/-- Read words in rising address order. -/
def Dev.readWords (d : Dev) (a : Nat) : Nat → List Byte × Dev
  | 0 => ([], d)
  | n + 1 =>
    let (v, d) := d.regRead a
    let (bs, d) := d.readWords (a + 4) n
    (le 4 v ++ bs, d)

/-- REGISTER WRITE. -/
def registerWrite (seq : Nat) (d : Dev) : Dev :=
  d.run seq true 0xC1 (fun d c =>
    let a := c.w10
    let n := c.w11
    if !regArgs a n || c.data.length ≠ 4 * n then d.fail seq stBadParam
    else if touches a n 0x100000 0x300000 then d.fail seq stNotPermitted
    else if d.regBusy a n then d.fail seq stBusy
    else ((d.startCmd seq).writeWords a (wordsOf n c.data)).finish seq { dg0 := a, dg1 := n, dgData := c.data })

/-- REGISTER READ. -/
def registerRead (seq : Nat) (d : Dev) : Dev :=
  d.run seq true 0xD2 (fun d c =>
    let a := c.w10
    let n := c.w11
    if !regArgs a n || c.sqe.cdw12.toNat < 4 * n then d.fail seq stBadParam
    else if d.regBusy a n then d.fail seq stBusy
    else
      let (out, d) := (d.startCmd seq).readWords a n
      d.finish seq { dg0 := a, dg1 := n, dgData := out, out := out })

/-! ## Emergency controls (R385) -/

/-- The device is in recovery, where BAR0 serves only what R524 lists. -/
def Dev.recovering (d : Dev) : Bool := d.fget fPrmStatState == 3

/-- A write of SYS_EMERG_CTL: each of its bits acts when KEY is 0xC3; else it is ignored and writes a sump entry. -/
def Dev.emergWrite (d : Dev) (v : Nat) : Dev :=
  if d.recovering then d
  else if bits v 31 24 ≠ 0xC3 then d.sumpRefused qfPlace 0x50000 v
  else
    let d := (d.finc fSysEmergStatCount).journalInternal 1 (v % 4294967296)
    let d := if bit v 0 then d.fset fSysEmergStatSafe 1 else if bit v 3 then d.fset fSysEmergStatSafe 0 else d
    let d := if bit v 2 then (d.qfMod (fun q => { q with halted := true })).fset fSysEmergStatHalted 1 else d
    if bit v 1 then (tkeys d.vid.pool.recs).foldl (fun (d : Dev) i => d.recStopNow i cfStoppedNow [] 0 none) d else d

/-- The word that a key and one action make. -/
def emergWord (key action : Nat) : Nat := key % 256 * 16777216 + action

/-- SAFE_ALL, SAFE_CLEAR, FETCH_HALT and REC_STOP with the key written. -/
def safeAll (key : Nat) (d : Dev) : Dev := d.emergWrite (emergWord key 1)
def safeClear (key : Nat) (d : Dev) : Dev := d.emergWrite (emergWord key 8)
def fetchHalt (key : Nat) (d : Dev) : Dev := d.emergWrite (emergWord key 4)
def recStop (key : Nat) (d : Dev) : Dev := d.emergWrite (emergWord key 2)

/-! ## Debug windows (R42, R384, R385) -/

/-- The lifecycle state locks debug: SECURED (Table SY-4). -/
def Dev.debugLocked (d : Dev) : Bool := d.fget fSecStatLc == 2

/-- An access of the recovery buffer, which takes the place of the debug windows in recovery (R524). -/
def Dev.rcvAccess (d : Dev) (off : Nat) (wr : Bool) (v : Nat) : Dev :=
  if wr then { d with prime := { d.prime with rcvBuf := padTo off d.prime.rcvBuf ++ le 4 v ++ d.prime.rcvBuf.drop (off + 4) } }
  else d.qfMod (fun q => { q with bar0Read := field d.prime.rcvBuf off 4 })

/-- DEBUG_WINDOW_ACCESS: an access of window `w` at an offset reaches the device register space from BASE × 256 KiB; when
debug is locked it reads 0 or is ignored, and writes a sump entry. -/
def debugWindowAccess (w off : Nat) (wr : Bool) (v : Nat) (d : Dev) : Dev :=
  if d.recovering then d.rcvAccess (w * 262144 + off / 4 * 4) wr v else
  let d := d.qfMod (fun q => { q with dbgUsed := true })
  if d.debugLocked then
    (if wr then d else d.qfMod (fun q => { q with bar0Read := 0 })).sumpRefused qfPlace (0x100000 + w * 262144 + off) v
  else
    let a := d.fget (fSysDbgBaseBase w) * 262144 + off / 4 * 4
    if wr then d.regWrite a v
    else
      let (x, d) := d.regRead a
      d.qfMod (fun q => { q with bar0Read := x })

/-! ## BAR0 (R40, R41, R43) -/

/-- The status mirror SYS_PRM_STAT at 0x0006_0300, from the end of PM03 and in recovery (R516). -/
def Dev.prmMirror (d : Dev) : Nat := if 3 < d.prime.next || d.recovering then (d.regReadAt 0x100000 (regFields 0x100000)).1 else 0

/-- Fields at a BAR0 offset outside the windows. -/
def bar0Fields (off : Nat) : List (Fld × Access) := fieldsIn regRowsSys off

/-- Queue-front controller registers at their offsets from 0x1000, as NVMe 2.0 lays them out (R40, Table SQ-1; log entry 19):
CAP, VS, CC, CSTS, AQA, ASQ and ACQ. The others read 0: no feature that they serve is supported (R360). -/
def Dev.ctrlReg (d : Dev) (off : Nat) : Nat :=
  let q := d.qf
  match off with
  | 0x00 => 16383 + 0x10000 + 0x20000 + 20 * 0x1000000
  | 0x04 => 0x20 + 4 * 0x100000
  | 0x08 => 0x20000
  | 0x14 => q.cc + q.shn % 4 * 0x4000 + q.en.toNat
  | 0x1C => q.shst % 4 * 4 + d.prime.waitReset.toNat * 2 + q.rdy.toNat + d.fget fQfStatPaused * 32
  | 0x24 => q.aqa
  | 0x28 => q.asq % 4294967296
  | 0x2C => q.asq / 4294967296
  | 0x30 => q.acq % 4294967296
  | 0x34 => q.acq / 4294967296
  | _ => 0

/-- A BAR0 read of one 4-byte word outside the debug windows; in recovery only what R524 lists is served. Table AR-9 gives the
thermal and power status mirrors no offsets: none is modelled, and those offsets read 0 (DESIGN CHOICE, log entry 88). -/
def Dev.bar0Read4 (d : Dev) (off : Nat) : Nat × Dev :=
  if d.recovering && !(off = 0 || off = 0x60300 || off = 0x50204) then (0, d)
  else if 0x20000 ≤ off && off < 0x40400 then (leNat (mread d.qf.msix off 4), d)
  else if off = 0x60300 then (d.prmMirror, d)
  else if off = 0x60404 then (d.fget fSysJnlHeadHead / 4294967296, d)
  else if 0x1000 ≤ off && off < 0x2000 then (d.ctrlReg (off - 0x1000), d)
  else
    let (x, d) := d.regReadAt off (bar0Fields off)
    (x % 4294967296, d)

/-- A BAR0 read of 4 or 8 bytes. -/
def Dev.bar0ReadAt (d : Dev) (off width : Nat) : Nat × Dev :=
  let (x, d) := d.bar0Read4 off
  if width = 8 then
    let (y, d) := d.bar0Read4 (off + 4)
    (x + y * 4294967296, d)
  else (x, d)

/-- A write of CC: its read-write fields are stored; EN from 0 to 1 enables the controller with the queues that AQA sizes, EN
from 1 to 0 resets it, and SHN notifies a shutdown (R375, R377). -/
def Dev.ccWrite (d : Dev) (v : Nat) : Dev :=
  let d := d.qfMod (fun q => { q with cc := bits v 24 16 * 0x10000 + bits v 13 4 * 16 })
  let d := if bit v 0 && !d.qf.en then controllerEnable (d.qf.aqa % 4096 + 1) (d.qf.aqa / 65536 % 4096 + 1) d
    else if !bit v 0 && d.qf.en then controllerReset d else d
  if d.qf.shn = 0 then shutdownNotification (bits v 15 14) d else d

/-- Replace half of a 64-bit address that is a multiple of 4 KiB. -/
def setHalf (old : Nat) (hi : Bool) (v : Nat) : Nat :=
  if hi then old % 4294967296 + v % 4294967296 * 4294967296 else old / 4294967296 * 4294967296 + v % 4294967296 / 4096 * 4096

/-- A BAR0 write of one 4-byte word outside the debug windows: the controller registers, the doorbells with their stride of 4
bytes (R40), the MSI-X table, SYS_DBG_BASE and SYS_EMERG_CTL. The recovery control is its own row. -/
def Dev.bar0Write4 (d : Dev) (off v : Nat) : Dev :=
  if d.recovering then d
  else if off = 0x1014 then d.ccWrite v
  else if off = 0x1024 then d.qfMod (fun q => { q with aqa := bits v 27 16 * 65536 + bits v 11 0 })
  else if off = 0x1028 || off = 0x102C then d.qfMod (fun q => { q with asq := setHalf q.asq (off == 0x102C) v })
  else if off = 0x1030 || off = 0x1034 then d.qfMod (fun q => { q with acq := setHalf q.acq (off == 0x1034) v })
  else if 0x2000 ≤ off && off < 0x12000 then doorbellWrite ((off - 0x2000) / 4 % 2 == 1) ((off - 0x2000) / 8) (v % 65536) d
  else if 0x20000 ≤ off && off < 0x40000 then d.qfMod (fun q => { q with msix := mwrite q.msix off (le 4 v) })
  else if off = 0x50000 then d.emergWrite v
  else match elem 0x50100 4 4 off with
    | some w => d.fset (fSysDbgBaseBase w) v
    | none => d

/-- An access of 4 or 8 bytes to the debug windows, or to the recovery buffer in recovery: one refusal for the access when
debug is locked, else each word in turn (R41, R42). -/
def Dev.windowAccess (d : Dev) (off width : Nat) (wr : Bool) (v : Nat) : Dev :=
  let one := fun (d : Dev) (o x : Nat) => debugWindowAccess (o / 262144) (o % 262144) wr x d
  let lo := one d off (if d.recovering || !d.debugLocked then v % 4294967296 else v)
  if width = 4 || (!d.recovering && d.debugLocked) then lo
  else
    let hi := one lo (off + 4) (v / 4294967296)
    if wr then hi else hi.qfMod (fun q => { q with bar0Read := lo.qf.bar0Read + q.bar0Read * 4294967296 })

/-- BAR0_BAD_ACCESS, stated for every BAR0 access: one that is not a naturally aligned 4-byte or 8-byte access is ignored,
or returns 0xFFFF_FFFF, and writes a sump entry; an aligned one acts (R41, R42). -/
def bar0Access (off width : Nat) (wr : Bool) (v : Nat) (d : Dev) : Dev :=
  if (width = 4 || width = 8) && off % width = 0 then
    if 0x100000 ≤ off && off < 0x200000 then d.windowAccess (off - 0x100000) width wr v
    else if wr then
      let d := d.bar0Write4 off (v % 4294967296)
      if width = 8 then d.bar0Write4 (off + 4) (v / 4294967296) else d
    else
      let (x, d) := d.bar0ReadAt off width
      d.qfMod (fun q => { q with bar0Read := x })
  else
    (if wr then d else d.qfMod (fun q => { q with bar0Read := allOnes32 })).sumpRefused qfPlace off v

end Sys2Proof.Machine
end

