-- ==== Sys2Proof/Machine/Faults.lean ====
section
/-!
DEFINITION. Errors of units, the end of targeted self-tests with their verdicts, and units out of service (R506 to R510,
Tables PF-8 and GS-11).
-/
set_option autoImplicit false

namespace Sys2Proof.Machine

/-! ## Units out of service (R22, R507, Table PF-8) -/

/-- A pump is retired: where it stands in an active place, the well's spare takes the place, or it stays empty (R22). -/
def Dev.pumpOut (d : Dev) (c : Nat) : Dev :=
  let w := wellOf c
  let d := d.setRole c .retired
  if !(d.well w).order.contains (c % 5) then d
  else match d.spareOf w with
    | some s => (d.wellMod w (fun x => { x with order := x.order.map (fun y => if y = c % 5 then s % 5 else y) })).setRole s .active
    | none => d.wellMod w (fun x => { x with order := x.order.map (fun y => if y = c % 5 then 31 else y) })

/-- Every pump of a well is retired, as for well control. -/
def Dev.wellOut (d : Dev) (w : Nat) : Dev := (List.range 5).foldl (fun d n => d.setRole (5 * w + n) .retired) d

/-- A cistern sub-bank is retired: the reserve sub-bank becomes the empty one (R139). -/
def Well.bankOut (x : Well) (b : Nat) : Well :=
  let x := { x with retiredBanks := x.retiredBanks ++ [b], copyBank := none }
  if x.reserveBank = some b then { x with reserveBank := none }
  else { x with emptyBank := x.reserveBank.getD noBank, reserveBank := none }

/-- A retired unit stays out of service: what its blocks show and do without it (Table PF-8). -/
def Dev.takeOut (d : Dev) (u : TUnit) : Dev :=
  match u with
  | .pump w n => d.pumpOut (5 * w + n)
  | .pailBank w n _ => d.pumpOut (5 * w + n)
  | .cistern w b => d.wellMod w (fun x => x.bankOut b)
  | .lookup w t =>
    if t < 8 && (d.well w).ninthFor.isNone && !(d.well w).ninthFailed then d.wellMod w (fun x => { x with ninthFor := some t, copying := none })
    else if t < 8 && (d.well w).ninthFor = some t then d.wellMod w (fun x => { x with copying := none })
    else if 8 ≤ t && (d.well w).ninthFor.isNone then d.wellMod w (fun x => { x with ninthFailed := true })
    else (d.wellMod w (fun x => { x with ninthFailed := true })).wellOut w
  | .cacheWay w k => d.wellMod w (fun x => { x with waysOff := if x.waysOff.contains k then x.waysOff else x.waysOff ++ [k] })
  | .siphon w n => d.wellMod w (fun x => { x with siphonOff := if x.siphonOff.contains n then x.siphonOff else x.siphonOff ++ [n] })
  | .wellControl w => d.wellOut w
  | .compressor k => (d.fset (fCmpStatState k) 3).showPool
  | .encoder n => d.fset (fHevEncStatState n) 4
  | .decoder => d.fset fHevDecStatState 5
  | .pilot => d.fset fPipePltCtlState 3
  | .raster r => (d.fset (fRasCtlState r) 0).setLanes [80 + r] lsFault
  | .lane n => d.setLanes [n] lsFault
  | .windlass k => d.coreMod (80 + k) (fun c => { c with role := .retired, stopped := true })
  | _ => d

/-- Flows of a spout that run. -/
def Dev.spoutFlows (d : Dev) (s : Nat) : List Nat := ((List.range 32).map (32 * s + ·)).filter (fun n => d.flowSt n != 0)

/-- The frame in progress of a flow goes on as black with UNDERRUN; one written to memory is abandoned (Table PF-8). -/
def Dev.flowBlack (d : Dev) (n : Nat) : Dev :=
  match (d.flow n).cur with
  | none => d
  | some f =>
    if fdDest f.desc = 1 then
      ((d.finc (fSptFlowStatMissed n)).flowMod n (fun x => { x with cur := none, recs := modRec x.recs f.oframe (fun r => r.set oAborted) })).retireLeases
        kFlow n f.oframe
    else
      (d.finc (fSptFlowStatUnder n)).flowMod n (fun x => { x with
        cur := x.cur.map (fun f => { f with black := some (f.black.getD f.pkt) }), recs := modRec x.recs f.oframe (fun r => r.set oUnderrun) })

/-- What the start of a unit's test does to the work in progress in it (Table PF-8). -/
def Dev.testBegins (d : Dev) (u : TUnit) : Dev :=
  match u with
  | .spout s => (d.spoutFlows s).foldl Dev.flowBlack d
  | .raster r => rasterUnderrun r d
  | .encoder n => d.encTest n
  | .decoder =>
    let d := if d.decSt = 1 || d.decSt = 2 then d.decDamage 7 64 0 true else d
    if d.decSt = 5 then d else d.fset fHevDecStatState 4
  | _ => d

/-! ## Errors (R503, R506, R510) -/

/-- The pump whose strip an uncorrected error ends (R136). -/
def pumpOfUnit : TUnit → Option Nat
  | .pump w n => some (5 * w + n)
  | .pailBank w n _ => some (5 * w + n)
  | _ => none

/-- HARDWARE_ERROR: a unit reports an error of class 0x01 (corrected), 0x02 or 0x03. It is logged, for a pump with
the SIMD lane or the scalar and control logic that failed (`part`, Table AR-3), and starts the unit's
test; an uncorrected error in a pump ends its real-time strip as a strip skip (R94, R136, R506). -/
def hardwareError (u : TUnit) (part cls detail : Nat) (payload : List Byte) (d : Dev) : Dev :=
  let sev := if cls = 1 then 1 else 2
  let was := d.underTest u
  let d : Dev := match pumpOfUnit u with
    | some c =>
      if sev = 2 && (d.curTask c).any (fun (t : Task) => t.rt && t.strip.isSome) && !(d.core c).regs.stBit stSKIPPING then
        d.startSkip c true 2 []
      else d
    | none => d
  let d := d.unitErrorAt u (u.errorPlace part) cls detail sev payload
  if !was && d.underTest u then d.testBegins u else d

/-- A unit's test starts or waits, with its errors so far. -/
def Dev.requestTest (d : Dev) (u : TUnit) (cause errors : Nat) : Dev :=
  if d.underTest u || d.isRetired u.retirePlace || !d.testPossible u then d
  else if d.testMayStart u then (d.startTest u cause errors).testBegins u
  else { d with test := { d.test with waiting := d.test.waiting ++ [{ unit := u, cause := cause, errors := errors, start := d.nowNs }] } }

/-- SELF_TEST_DEQUEUE: the first waiting test that may start now starts; one that finds no empty sub-bank, or whose unit has
been retired, is not run (R508, R509). -/
def selfTestDequeue (d : Dev) : Dev :=
  match d.test.waiting.find? (fun t => d.testMayStart t.unit) with
  | none => d
  | some t =>
    let d := { d with test := { d.test with waiting := d.test.waiting.filter (fun x => x.unit != t.unit) } }
    d.requestTest t.unit t.cause t.errors

/-- The test proper of a unit begins. -/
def Dev.beginTest (d : Dev) (p : TUnit → Bool) : Dev :=
  { d with test := { d.test with running := d.test.running.map (fun t => if p t.unit && !t.begun then { t with begun := true, start := d.nowNs } else t) } }

/-- PUMP_SELF_TEST_START: 80 pump cycles after substitution (Table GS-11, event 3). -/
def pumpSelfTestStart (c : Nat) (d : Dev) : Dev :=
  if d.role c != .testing then d else d.beginTest (fun u => pumpOfUnit u == some c)

/-- The places of the cistern that lie in a sub-bank, redirected to the empty one. -/
def Well.redirect (x : Well) (b : Nat) : Tab Nat :=
  (List.range 64).foldl (fun t p => if tgetD x.bankMap p p = b && p < 62 then tput t p x.emptyBank else t) x.bankMap

/-- CISTERN_COPY_DONE: the sub-bank's content is in the empty one, to which its addresses are redirected, and the march
starts (R139). -/
def cisternCopyDone (w : Nat) (d : Dev) : Dev :=
  match (d.well w).copyBank with
  | none => d
  | some b => (d.wellMod w (fun x => { x with copyBank := none, bankMap := x.redirect b })).beginTest (· == .cistern w b)

/-- Copy one lookup table of a well over another. -/
def copyTable (m : Tab Nat) (s t : Nat) : Tab Nat :=
  let old := m.filter (fun e => e.1 / 8192 == s)
  let m := m.filter (fun e => e.1 / 8192 != t)
  old.foldl (fun m e => tput m (t * 8192 + e.1 % 8192) e.2) m

/-- LOOKUP_COPY_DONE: the ninth table holds the table's banks and stands in for it, and the march starts (Table PF-8). -/
def lookupCopyDone (w : Nat) (d : Dev) : Dev :=
  match (d.well w).copying with
  | none => d
  | some t =>
    let d := d.wellMod w (fun x => { x with copying := none, ninthFor := some t, luts := copyTable x.luts t 8 })
    d.beginTest (· == .lookup w t)

/-! ## Verdicts (R507, R508) -/

/-- Pumps of a well that return from its test: the first four of those in order take the active places, a fifth is the
spare. -/
def Dev.wellReturn (d : Dev) (w : Nat) : Dev :=
  let ok := (List.range 5).filter (fun n => d.role (5 * w + n) != .retired && !d.test.running.any (fun t => pumpOfUnit t.unit == some (5 * w + n)))
  let act := ok.take 4
  let d := d.wellMod w (fun x => { x with order := act ++ List.replicate (4 - act.length) 31 })
  let d := act.foldl (fun d n => d.setRole (5 * w + n) .active) d
  let d := (ok.drop 4).foldl (fun d n => d.setRole (5 * w + n) .spare) d
  ok.foldl (fun d n => d.nextTask (5 * w + n)) d

/-- The pump that substitutes in a well. -/
def Dev.substituteOf (d : Dev) (w : Nat) : Option Nat :=
  ((List.range 5).map (5 * w + ·)).find? (fun c => d.role c == .substitute)

/-- The pump that took a tested pump's place keeps it. -/
def Dev.settleSubstitute (d : Dev) (w : Nat) : Dev :=
  match d.substituteOf w with
  | some s => d.setRole s .active
  | none => d

/-- A tested pump returns: into a place that stands empty, else as the well's spare (Table GS-11, event 4a). -/
def Dev.pumpReturn (d : Dev) (c : Nat) : Dev :=
  let w := wellOf c
  let d := (d.coreMod c (fun k => { k with lastTestOk := true })).settleSubstitute w
  let d := match (d.well w).order.findIdx? (· == 31) with
    | some p => (d.wellMod w (fun x => { x with order := x.order.set p (c % 5) })).setRole c .active
    | none => d.setRole c .spare
  d.nextTask c

/-- The unit returns after a pass (R507, Table PF-8). -/
def Dev.passEffect (d : Dev) (u : TUnit) : Dev :=
  match u with
  | .pump w n => d.pumpReturn (5 * w + n)
  | .pailBank w n _ => d.pumpReturn (5 * w + n)
  | .cistern w b => d.wellMod w (fun x => { x with emptyBank := b })
  | .lookup w t =>
    if (d.well w).ninthFor = some t then d.wellMod w (fun x => { x with ninthFor := none, luts := copyTable x.luts 8 t }) else d
  | .cacheWay w k => d.wellMod w (fun x => { x with waysOff := x.waysOff.filter (· != k) })
  | .siphon w n => d.wellMod w (fun x => { x with siphonOff := x.siphonOff.filter (· != n) })
  | .wellControl w => d.wellReturn w
  | .compressor k => ((d.fset (fCmpStatState k) 0).showPool).poolDispatch 4
  | .encoder n =>
    if d.encSt n = 3 then (d.encMod n (fun x => { x with forceIdr := true })).fset (fHevEncStatState n) (if (d.enc n).session then 1 else 0) else d
  | .decoder => if d.decSt = 4 then (d.fset fHevDecStatState 0).decMod (fun x => { x with ring := [], bufs := [] }) else d
  | .pilot => (d.fset fPipePltCtlState 0).showPilot
  | .windlass k => d.coreMod (80 + k) (fun c => { c with stopped := false })
  | _ => d

/-- The place that takes over from a unit that fails, for the retirement (Table PF-7). -/
def Dev.substPlace (d : Dev) (u : TUnit) : Option Place :=
  match u with
  | .pump w _ => (d.substituteOf w).map corePlace
  | .pailBank w _ _ => (d.substituteOf w).map corePlace
  | .cistern w _ => if (d.well w).emptyBank = noBank then none else some (wellPlace w 8 (d.well w).emptyBank)
  | .lookup w t => if (d.well w).ninthFor = some t then some (wellPlace w 9 8) else none
  | .siphon w n => if (d.well w).siphonOff.contains (1 - n) then none else some (wellPlace w (11 - n) noSlice)
  | _ => none

/-- Flows that the RETIRED event of a spout lists, 2 bytes each, when they fit (Table PF-11). -/
def flowList (l : List Nat) : List Byte := if 12 < l.length then [] else l.flatMap (le 2)

/-- Windlass cores in service. -/
def Dev.coresLeft (d : Dev) : Nat := ((List.range 4).filter (fun k => d.role (80 + k) != .retired)).length

/-- The unit is retired after a fail verdict (R507, Table PF-8). -/
def Dev.failEffect (d : Dev) (u : TUnit) (cause : Nat) : Dev :=
  let sub := d.substPlace u
  match u with
  | .dramRow ch bank row =>
    let d := d.chanMod ch (fun c => { c with badRows := (bank * 65536 + row, d.nowNs) :: c.badRows })
    (d.rrMod (fun r => if 256 ≤ r.softRows.length || r.softRows.contains (ch, bank, row) then r
      else { r with softRows := r.softRows ++ [(ch, bank, row)] })).commitRecord
  | .pump w n =>
    let d := ((d.coreMod (5 * w + n) (fun k => { k with lastTestOk := false })).takeOut u).restartOf (5 * w + n)
    (d.settleSubstitute w).retire u.place cause sub []
  | .pailBank w n _ =>
    let d := ((d.coreMod (5 * w + n) (fun k => { k with lastTestOk := false })).takeOut u).restartOf (5 * w + n)
    (d.settleSubstitute w).retire u.retirePlace cause sub []
  | .compositor c => (d.mixEnd c (d.mix c).stops 0 []).retire u.place cause sub []
  | .spout s =>
    let l := d.spoutFlows s
    (l.foldl (fun d n => d.flowEnd n (d.flow n).stops 0 []) d).retire u.place cause sub (flowList l)
  | .raster r => (((d.rasOver r).rasEndAll r (d.ras r).stops 0 []).takeOut u).retire u.place cause sub []
  | .compressor _ =>
    let d := (d.takeOut u).retire u.place cause sub []
    let cap := 6000000000 * ((List.range 4).filter (fun k => d.fget (fCmpStatState k) != 3)).length
    let sum := ((tkeys d.vid.pool.recs).map d.recRate).foldl fracAdd (0, 1)
    if cap * sum.2 < sum.1 then d.post 0x05 0 0 u.place (le 8 cap) else d
  | .encoder n => ((d.takeOut u).encEnd n (d.enc n).stops { sct := 7, sc := stCoreRetired }).retire u.place cause sub []
  | .windlass _ =>
    let d := (d.takeOut u).retire u.place cause sub []
    if d.coresLeft < 2 then (d.sumpWrite u.place (cause / 256) cause 3 0 []).fatal else d
  | _ => (d.takeOut u).retire u.place cause sub []

/-- The verdict of a test is logged, raised and acted on; the eighth pass within 1 h retires the unit (R506 to R508). -/
def Dev.verdict (d : Dev) (t : Test) (pass : Bool) : Dev :=
  let u := t.unit
  let dur := (d.nowNs - t.start) / 1000
  let d := { d with test := { d.test with running := d.test.running.filter (fun x => x.unit != u) } }
  let d := match u with
    | .wellControl w => if d.fget (fSysIslStatState w) = 2 && d.fget fQfStatPstate != 2 then (d.fset (fSysIslStatState w) 0).showWells else d
    | _ => d
  let d := d.sumpWrite u.place 11 (if pass then 0 else 1) (if pass then 0 else 2) 0 (le 2 t.cause ++ le 4 dur ++ le 4 t.errors)
  let d := d.post 0x61 0 0 u.place (le 4 u.place.toNat ++ le 2 t.cause ++ le 1 (if pass then 0 else 1) ++ le 4 dur)
  if !pass then d.failEffect u t.cause
  else
    let ps := (u, d.nowNs) :: d.test.passes.filter (fun e => d.nowNs < e.2 + 3600000000000)
    let d := { d with test := { d.test with passes := ps } }
    if 8 ≤ (ps.filter (fun e => e.1 == u)).length then d.failEffect u t.cause else d.passEffect u

/-- SELF_TEST: the test of a unit ends (R507). -/
def selfTest (u : TUnit) (pass : Bool) (d : Dev) : Dev :=
  match d.test.running.find? (fun t => t.unit == u && t.begun) with
  | none => d
  | some t => d.verdict t pass

/-- LANE_TEST_DONE: the lane's own rules (R425, R426, R431), and the end of its targeted test where one runs (R506). -/
def laneTestEvent (n errors bits : Nat) (d : Dev) : Dev :=
  let pass := decide (errors ≤ bits / 10000000000)
  match d.test.running.find? (fun t => t.unit == .lane n) with
  | none => laneTestDone n errors bits d
  | some t =>
    if !(d.laneX n).testing then d
    else
      let dur := (d.nowNs - t.start) / 1000
      let p := lanePlace n
      let d := { d with test := { d.test with running := d.test.running.filter (fun x => x.unit != TUnit.lane n) } }
      let d := d.sumpWrite p 11 (if pass then 0 else 1) (if pass then 0 else 2) 0 (le 2 t.cause ++ le 4 dur ++ le 4 t.errors)
      let d := d.post 0x61 0 0 p (le 4 p.toNat ++ le 2 t.cause ++ le 1 (if pass then 0 else 1) ++ le 4 dur)
      let d := laneTestDone n errors bits d
      if !pass then d
      else
        let ps := (TUnit.lane n, d.nowNs) :: d.test.passes.filter (fun e => d.nowNs < e.2 + 3600000000000)
        let d := { d with test := { d.test with passes := ps } }
        if 8 ≤ (ps.filter (fun e => e.1 == TUnit.lane n)).length then d.failEffect (.lane n) t.cause else d

end Sys2Proof.Machine
end

