-- ==== Sys2Proof/Machine/Priming.lean ====
section
/-!
DEFINITION. Priming (R489 to R501, Tables PF-2 to PF-5): its start, its sixteen steps with their variants, the progress log,
re-priming, and the start-up set.
-/
set_option autoImplicit false

namespace Sys2Proof.Machine

/-! ## Progress log (R495) -/

/-- Records of a 64 KiB sector: each takes its own page of 256 bytes. -/
def sectorRecs : Nat := 256

/-- Append a progress record where the gate allows it; a full sector gives way to the other, which first takes the records
of the present priming. -/
def Nv.logRecord (n : Nv) (r : ProgRec) : Nv :=
  let cur := if n.progCur then n.prog1 else n.prog0
  if cur.length < sectorRecs then
    if n.progCur then { n with prog1 := cur ++ [r] } else { n with prog0 := cur ++ [r] }
  else
    let keep := cur.filter (fun x => x.boots == r.boots)
    if n.progCur then { n with prog0 := keep ++ [r], progCur := false } else { n with prog1 := keep ++ [r], progCur := true }

def Dev.progress (d : Dev) (step st variant cause : Nat) (place : Place) : Dev :=
  if d.gateOpen then
    { d with nv := d.nv.logRecord {
        boots := d.prime.boots, step := step, st := st, variant := variant, cause := cause, place := place, time := d.nowNs } }
  else d.gateRefuse

/-- Records of the log, oldest first. -/
def Nv.progRecs (n : Nv) : List ProgRec := if n.progCur then n.prog0 ++ n.prog1 else n.prog1 ++ n.prog0

/-! ## Variants (R496, R497) -/

/-- Essential steps (Table PF-3). -/
def essential (k : Nat) : Bool := [0, 2, 4, 5, 6, 11].contains k

/-- Last variant of each step (Table PF-3). -/
def lastVariant (k : Nat) : Nat := ([1, 1, 1, 3, 1, 1, 1, 1, 1, 2, 2, 1, 2, 1, 1, 1] : List Nat).getD k 0

/-- Outcome of a step in the previous priming: true is PASS (R496). -/
def outcome (recs : List ProgRec) (k : Nat) : Option Bool :=
  match (recs.filter (fun r => r.step == k && (r.st == 2 || r.st == 3))).getLast? with
  | some r => some (r.st == 2)
  | none =>
    if recs.any (fun r => r.step == k) then some false
    else match recs.getLast? with
      | some l =>
        if l.step + 1 = k && k != 15 && (l.st == 2 || (l.st == 3 && !essential l.step)) then some false else none
      | none => none

/-- A step table entry after the outcome of the previous priming, and the variant chosen (R497). -/
def choose (k : Nat) (e : StepEntry) (o : Option Bool) : StepEntry × Nat :=
  match o with
  | some false =>
    ({ e with attempts := min (e.attempts + 1) 7, history := (e.history * 2 + 1) % 256 }, min (e.variant + 1) (lastVariant k))
  | some true =>
    let h := e.history * 2 % 256
    let ones := ((List.range 8).filter (bit h)).length
    ({ e with attempts := 0, history := h }, if 0 < e.variant && 3 ≤ ones then e.variant else 0)
  | none => (e, e.variant)

/-- The factory values of R493. The lane settings held in the firmware image are not given: free values. -/
def Dev.factory (d : Dev) : Retained × Dev :=
  let sel := d.fresh 5
  let (eq, d) := (List.range 96).foldl (fun (acc : Tab Nat × Dev) n => (tput acc.1 n (acc.2.fresh 30), acc.2.used)) ([], d.used)
  ({ grpSel := sel, laneEq := eq }, d)

/-- Choose every step's variant from a table, once, as PM01 starts. -/
def Dev.chooseAll (d : Dev) : Dev :=
  (List.range 16).foldl (fun d k =>
    let (e, v) := choose k (tgetD d.prime.rr.steps k {}) (outcome d.prime.prev k)
    let d := d.rrMod (fun r => { r with steps := tput r.steps k e })
    let d := d.fsets [(fPrmStepAttempts k, e.attempts), (fPrmStepHistory k, e.history)]
    if k = 0 then d else
      { d.fset (fPrmStepVariant k) v with prime := { d.prime with variants := tput d.prime.variants k v } }) d

/-- PM01 chooses the variants; its own V1, or no valid slot, puts the factory values in force (R493, R497). -/
def Dev.chooseVariants (d : Dev) : Dev :=
  let fails := (d.prime.prev.filter (fun r => r.st == 3)).map (fun r => (r.step, r.cause, r.place))
  let d := { d with prime := { d.prime with lastFail := fails.foldl (fun t (e : Nat × Nat × Place) => tput t e.1 e.2) [] } }
  let had := (newest d.nv.rrA d.nv.rrB).isSome
  let d1 := d.chooseAll
  if had && tgetD d1.prime.variants 1 0 = 0 then d1
  else
    let v1 := tgetD d1.prime.variants 1 0
    let e0 := tgetD d.prime.rr.steps 0 {}
    let (f, d) := d.factory
    let s0 : StepEntry := { variant := e0.variant, st := e0.st, dur := e0.dur }
    let d := ({ d with prime := { d.prime with rr := { f with steps := [(0, s0)] } } }).chooseAll
    let d := { d with prime := { d.prime with variants := tput d.prime.variants 1 v1 } }
    (d.fset (fPrmStepVariant 1) v1).fset fPrmStatDefaults 1

/-! ## Steps -/

/-- Every lane of a list enters DETECT, or ACTIVE where it is an SDI lane with its PLL locked; a retired lane stays in FAULT
(R411). -/
def Dev.armLanes (d : Dev) (l : List Nat) : Dev :=
  let out := l.filter (fun n => d.isRetired (lanePlace n))
  let sdi := l.filter (fun n => d.isSdi n && !out.contains n)
  let rest := l.filter (fun n => !d.isSdi n && !out.contains n && d.proto n != 0)
  ((d.setLanes out lsFault).setLanes sdi lsActive).setLanes rest lsDetect

def lanesFrom (a n : Nat) : List Nat := (List.range n).map (a + ·)

/-- The lanes that a step brings up with a variant (Table PF-3). -/
def stepLanes (k v : Nat) : List Nat :=
  if k = 3 then lanesFrom 48 (if v = 2 then 8 else if v = 3 then 4 else 16)
  else if k = 9 then (if v = 0 then lanesFrom 16 32 else if v = 1 then lanesFrom 16 8 ++ lanesFrom 32 8 else [])
  else if k = 10 then (if v = 2 then [] else lanesFrom 64 16)
  else if k = 12 then lanesFrom 0 16 ++ lanesFrom 80 16
  else []

/-- Variant of a step in this priming. -/
def Dev.variant (d : Dev) (k : Nat) : Nat := tgetD d.prime.variants k 0

/-- Channels that priming found faulty and the retirement list does not name enter it (Table PF-5, event 6). The cause it
carries is not stated: a free value. -/
def Dev.retireChannels (d : Dev) : Dev :=
  (List.range 24).foldl (fun d ch =>
    if 2 ≤ d.fget (fMemChanStatState ch) && !d.isRetired (dramPlace ch) then d.used.retire (dramPlace ch) (d.fresh 16) none [] else d) d

/-- A step starts: its registers, its RUNNING record, and what it begins with. -/
def Dev.beginStep (d : Dev) (k : Nat) : Dev :=
  let d := { d with prime := { d.prime with next := k, stepAt := d.nowNs } }
  let d := if k = 1 then d.chooseVariants else d
  let v := d.variant k
  let d := d.fsets [(fPrmStatStep, k), (fPrmStepState k, 1), (fPrmStepVariant k, v), (fPrmStepTime k, 0)]
  let d := d.rrMod (fun r => { r with steps := tmod r.steps k {} (fun e => { e with st := 1, variant := v, dur := 0 }) })
  let d := d.progress k 1 v 0 noPlace
  let d := d.armLanes (stepLanes k v)
  if k = 12 then
    let bad := (tget d.prime.lastFail 12).map (·.2)
    let d := if v = 2 then d.setLanes ((stepLanes 12 2).filter (fun n => bad == some (lanePlace n))) lsFenced else d
    (List.range 6).foldl (fun d p => if d.isEth (firstLane p) then d.fset (fEthPortStatState p) 1 else d) d
  else if k = 15 && v = 0 then d.retireChannels.commitRecord
  else d

/-- Release of reset: the boot ROM sets BOOTS from the valid retained record and the progress log, and PM00 begins (R493,
R494). -/
def Dev.startPriming (d : Dev) : Dev :=
  let log := d.nv.progRecs
  let top := (log.map (·.boots)).foldl max 0
  let rr := newest d.nv.rrA d.nv.rrB
  let old := match rr with | some (_, r) => r.boots | none => 0
  let b := min 65535 (max old top + 1)
  let d := { d with prime := { held := false, boots := b, prev := log.filter (fun r => r.boots == top),
                               rr := { (match rr with | some (_, r) => r | none => {}) with boots := b } } }
  (d.fset fPrmStatBoots b).beginStep 0

/-- PRIMING_START: PORST_L rises, the straps are sampled (R552), and priming begins at PM00. A latched shutdown holds every island
in reset (R541, R550). -/
def primingStart (straps : Nat) (d : Dev) : Dev :=
  if !d.prime.held || d.thm.trip.isSome then d
  else ({ d with pins := { d.pins with porst := true, pwrgd := true, straps := straps % 16 } }).startPriming

/-- A step runs now. -/
def Dev.stepRuns (d : Dev) (k : Nat) : Bool :=
  !d.prime.held && !d.prime.waitReset && d.thm.trip.isNone && d.priming && d.prime.next == k && decide (k < 16)

/-- A step ends with STATE 2 or 3: its registers, table entry and record. -/
def Dev.endStep (d : Dev) (k st cause : Nat) (place : Place) : Dev :=
  let t := min 65535 ((d.nowNs - d.prime.stepAt) / 10000000)
  let d := d.fsets [(fPrmStepState k, st), (fPrmStepTime k, t)]
  let d := d.rrMod (fun r => { r with steps := tmod r.steps k {} (fun e =>
    if st = 3 then { e with st := st, dur := t, cause := cause, place := place } else { e with st := st, dur := t }) })
  d.progress k st (d.fget (fPrmStepVariant k)) cause place

/-- PM15 has ended: the device is in service, events are enabled and those held are posted, PRIMED last (R498, R515, R567). -/
def Dev.enterService (d : Dev) : Dev :=
  let steps := (List.range 16).flatMap (fun k => le 1 (d.fget (fPrmStepState k) * 16 + d.fget (fPrmStepVariant k)))
  let data := le 2 d.prime.boots ++ steps ++ le 1 (d.fget fPrmStatReprime)
  let d := d.fsets [(fPrmStatState, 1), (fPrmStatReprime, 0)]
  let d := { d with prime := { d.prime with next := 16 }, ev := { d.ev with enabled := true } }
  let d := if d.qf.fw.isSome then d else d.postHeld
  d.post 0x60 0 0 noPlace data

/-- What follows the end of a step: the next one, or service. -/
def Dev.afterStep (d : Dev) (k : Nat) : Dev := if k = 15 then d.enterService else d.beginStep (k + 1)

/-- A step passes. -/
def Dev.passStep (d : Dev) (k : Nat) : Dev := (d.endStep k 2 0 noPlace).afterStep k

/-- A unit out of service without a retirement. -/
def Dev.absentUnit (d : Dev) (u : TUnit) : Dev :=
  let d := d.takeOut u
  { d with test := { d.test with unsaved := d.test.unsaved ++ [u.place] } }

/-- A step that fails and is not essential leaves its units absent (R494). -/
def Dev.stepAbsent (d : Dev) (k : Nat) : Dev :=
  let d := d.setLanes ((stepLanes k 0).filter (fun n => d.laneSt n != lsFault)) lsOff
  if k = 3 then { d with prime := { d.prime with linkUp := false } }
  else if k = 7 then
    ((List.range 16).map TUnit.wellControl ++ (List.range 4).map TUnit.compositor ++ (List.range 16).map TUnit.spout).foldl Dev.absentUnit d
  else if k = 8 then
    ([TUnit.windlass 1, .windlass 2, .windlass 3, .encoder 0, .encoder 1, .decoder, .pilot] ++ (List.range 4).map TUnit.compressor
      ++ (List.range 16).map TUnit.raster).foldl Dev.absentUnit d
  else if k = 9 then (d.fsets [(fCxlCapSize, 0), (fCxlCapIlv, 0)]).qfMod (fun q => { q with fallback := true })
  else if k = 10 then d.fset fStoStatState 0
  else if k = 12 then (List.range 6).foldl (fun d p => d.fset (fEthPortStatState p) 0) d
  else if k = 13 then d.fset fTimeCtlSrc 0
  else d

/-- A step fails: a sump entry of class 0x0D; an essential step ends the priming after its commits, any other leaves its
units absent (R494, R498). -/
def Dev.failStep (d : Dev) (k cause : Nat) (place : Place) : Dev :=
  let code := if cause = 0 then 13 * 256 + k else cause
  let d := d.endStep k 3 code place
  let d := d.sumpWrite place 13 k (if essential k then 3 else 2) 0
    (le 1 (d.fget (fPrmStepVariant k)) ++ le 1 (d.fget (fPrmStepAttempts k)))
  if essential k then d.fatal
  else if k = 15 then d.enterService
  else (d.stepAbsent k).beginStep (k + 1)

/-- The end of the step that runs: a failure, or its work, which answers none when it cannot be completed. -/
def Dev.pmStep (d : Dev) (k : Nat) (r : StepEnd) (work : Dev → Option Dev) : Dev :=
  if !d.stepRuns k then d
  else match r with
    | .fail c p => d.failStep k c p
    | .pass => match work d with
      | some d => d.passStep k
      | none => d.failStep k 0 noPlace

/-- PRIMING_STEP_TIMEOUT: the step exceeds its bound, at the unit that a place code names. -/
def primingStepTimeout (place : Place) (d : Dev) : Dev :=
  if d.stepRuns d.prime.next then d.failStep d.prime.next 0 place else d

/-- A windlass core that stops in Machine mode fails the step that runs (R92, R494). -/
def Dev.machineStop (d : Dev) (c : Nat) : Dev :=
  if d.stepRuns d.prime.next then d.failStep d.prime.next 0 (corePlace c) else d

/-- What a command made of a core: a windlass core that it stopped, in Machine mode, fails the priming step (R92). -/
def Dev.ifStopped (d d' : Dev) (c : Nat) : Dev :=
  if 80 ≤ c && (d'.core c).stopped && !(d.core c).stopped then d'.machineStop c else d'

/-- A bundle of a core. -/
def Dev.coreRow (d : Dev) (c : Nat) (op : Op) : Dev := d.ifStopped (d.bundle c op yieldEnd haltEnd) c

/-- The watchdog of a core expires. -/
def watchdogRow (c : Nat) (d : Dev) : Dev := d.ifStopped (watchdog c d) c

/-! ### PM00 to PM04 -/

/-- Recovery: BAR0 alone is served, at 2.5 GT/s, x1 on lane 48 (R524). -/
def Dev.enterRecovery (d : Dev) : Dev :=
  let d := d.fset fPrmStatState 3
  { d with prime := { d.prime with linkUp := true } }

/-- Load the image of a slot (R521, Table SY-6). -/
def Dev.loadSlot (d : Dev) (b : Bool) : Dev :=
  let img := d.fwSlot b
  let m := Config.sha3_384 (imgBody img)
  let d := { d with nv := { d.nv with activeB := b },
                    prime := { d.prime with bootMeas := m, activeMeas := m, imageRollback := imgRollback img } }
  (d.fsetb fSecStatSlotb b).loadCode img |>.enterFirmware

/-- PM00_BOOT_ROM: the boot ROM checks the slots, the one last recorded as active first, and loads the first that passes;
when none does, or STRAP_1 asks for it, the device enters recovery (R521, R524). -/
def pm00 (r : StepEnd) (d : Dev) : Dev :=
  if !d.stepRuns 0 then d
  else match r with
    | .fail c p => d.failStep 0 c p
    | .pass =>
      let b := d.nv.commitB
      let d := d.fset fSecStatSerial d.nv.serial
      if bit d.pins.straps 1 then d.enterRecovery
      else if d.checkImage (d.fwSlot b) == .ok then (d.loadSlot b).passStep 0
      else if d.checkImage (d.fwSlot (!b)) == .ok then
        let d := (d.loadSlot (!b)).fset (fPrmStepVariant 0) 1
        let d := { d with prime := { d.prime with variants := tput d.prime.variants 0 1 } }
        (d.rrMod (fun r => { r with steps := tmod r.steps 0 {} (fun e => { e with variant := 1 }) })).passStep 0
      else d.enterRecovery

/-- Units that the retirement list can name, but for lanes and DRAM channels. -/
def retirable : List TUnit :=
  (List.range 16).flatMap (fun w =>
    (List.range 5).map (TUnit.pump w) ++ (List.range 64).map (TUnit.cistern w) ++ (List.range 9).map (TUnit.lookup w)
      ++ (List.range 16).map (TUnit.cacheWay w) ++ (List.range 2).map (TUnit.siphon w) ++ [.wellControl w])
    ++ (List.range 4).map TUnit.compressor ++ (List.range 2).map TUnit.encoder ++ [.decoder, .pilot] ++ (List.range 4).map TUnit.windlass

/-- TAP and THR of the lanes of port A or B at priming: the interpolated values of its sets, where it has any (R231, R236). -/
def Dev.primeLanes (d : Dev) (u : Nat) : Dev :=
  if (d.unitSets u).isEmpty then d
  else ((List.range 80).map (80 * u + ·)).foldl (fun d n =>
    let (tap, thr) := d.laneTarget u n d.degrees
    (d.setTap n tap).setThr n thr) d

/-- PM01_RETAINED_RECORD: the record's content is in force: the retirement list with its counts, calibration sets, tap size
and the start-up set's register. -/
def pm01 (r : StepEnd) (d : Dev) : Dev :=
  d.pmStep 1 r (fun d =>
    let d := (d.prime.rr.retired).foldl (fun d e => d.finc (retiredField e.1)) d
    let d := (retirable.filter (fun u => d.isRetired u.place)).foldl Dev.takeOut d
    let d := { d with sns := { d.sns with sets := d.prime.rr.calSets } }
    let d := d.prime.rr.calSets.foldl (fun d e => d.showSet e.1 e.2) d
    some ((d.primeLanes 0).primeLanes 1).showBoot)

/-- Protocol and island of a group from the selection (Table SL-1, R439). -/
def groupProto (sel g : Nat) : Nat :=
  let eth := fun (m : Nat) => if m = 1 then 2 else if m = 2 then 3 else 1
  if g = 0 then eth (sel % 4) else if g = 1 then eth (sel / 4 % 4) else if g < 6 then 4
  else if g < 8 then 5 else if g < 10 then 6 else if g = 10 then 7 else if bit sel 4 then 7 else 1

/-- Lane groups, lane settings and Ethernet modes as the record selects them. -/
def Dev.setGroups (d : Dev) : Dev :=
  let rr := d.prime.rr
  let sel := rr.grpSel % 32
  let d := { d with lanes := { d.lanes with selInUse := sel } }
  let d := d.fsets [(fLaneGrpSelG11, bits sel 4 4), (fLaneGrpSelG1, bits sel 3 2), (fLaneGrpSelG0, bits sel 1 0), (fLaneGrpSelPending, 0)]
  let d := (List.range 12).foldl (fun d g => d.fsets [(fLaneGrpCfgProto g, groupProto sel g), (fLaneGrpCfgIsl g, g / 2)]) d
  let d := (List.range 96).foldl (fun d n =>
    let w := tgetD rr.laneEq n 0
    let d := d.setTaps n [bits w 29 24, bits w 23 18, bits w 17 12, bits w 11 6, bits w 5 0]
    let c := if d.isEth n || d.isSdi n then tgetD rr.laneCtl n 0 else 0
    d.fsets [(fLaneCtlTxinv n, bits c 1 1), (fLaneCtlRxinv n, bits c 0 0)]) d
  (List.range 6).foldl (fun d p => d.fset (fEthPortStatMode p) (if d.isEth (firstLane p) then d.proto (firstLane p) - 1 else 0)) d

/-- PM02_CLOCKS_ISLANDS: the islands leave reset, the lane islands take their protocols' clocks, and the rails their
setpoints; under V1 no setpoint is written later. The clock of a lane island and the measured tap size are not stated: free
values. -/
def pm02 (r : StepEnd) (d : Dev) : Dev :=
  d.pmStep 2 r (fun d =>
    let d := (List.range 40).foldl (fun d i => d.fset (fSysIslStatState i) 0) d
    let d := d.setGroups
    let d := (List.range 6).foldl (fun d i => (d.fset (fSysIslStatFmhz (26 + i)) (500 + d.fresh 11 % 1251)).used) d
    let d := (List.range 12).foldl (fun d r => d.fset (fPwrRailSet r) (railNominal r)) d
    let d := { d with power := { d.power with fixed := d.variant 2 == 1 } }
    let tap := d.fresh 16
    some ((d.used.fset fSnsTapPsTapps tap).rrMod (fun r => { r with tapPs := tap })).showWells)

/-- PM03_PCIE_ENDPOINT: the endpoint link is up. -/
def pm03 (r : StepEnd) (d : Dev) : Dev :=
  d.pmStep 3 r (fun d => some { d with prime := { d.prime with linkUp := true } })

/-- PM04_DIE_LINKS: the die links train, and the lanes that training finds bad are repaired onto spare lanes; under V1 the
stored repair map stands, with no full training (R25, R510). Repaired lanes count as retired lanes (PRM_RETIRED). -/
def pm04 (repairs : List (Nat × Nat)) (r : StepEnd) (d : Dev) : Dev :=
  d.pmStep 4 r (fun d =>
    let map := if d.variant 4 = 1 then d.prime.rr.dieRepair else repairs.eraseDups
    let d := if map == d.prime.rr.dieRepair then d else d.rrMod (fun r => { r with dieRepair := map })
    let d := map.foldl (fun d _ => d.finc fPrmRetiredLanes) d
    some { d with lanes := { d.lanes with dieFails := [], dieDown := [] } })

/-! ### PM05 and PM06 (R172, R187, Table ME-2) -/

/-- A channel is spared out while the reserve is there, or fenced, before any allocation (R187). -/
def Dev.dropChannel (d : Dev) (ch : Nat) : Dev :=
  if 2 ≤ d.fget (fMemChanStatState ch) then d
  else if d.fget fMemCapReserve != 0 then
    let d := (d.fset (fMemChanStatState ch) 2).finc fMemCapSpared
    let d := d.fsets [(fMemCapReserve, 0), (fMemCapUsable, 23 * d.fget (fMemChanStatCap ch) * 31 / 32)]
    d.post 0x05 0 ch (dramPlace ch) d.capBytes
  else d.fenceChannel ch

/-- PM05_DRAM_TRAINING: the channels train; devices of several types, or of another density than 2, 3 or 4 GiB, fail the step
in every variant. -/
def pm05 (chans : List ChanProbe) (r : StepEnd) (d : Dev) : Dev :=
  d.pmStep 5 r (fun d =>
    match chans.filterMap (·.dev) with
    | [] => none
    | (ty, gib') :: rest =>
      if rest.any (fun x => x != (ty, gib')) || gib' < 2 || 4 < gib' then none
      else
        let cap := 8 * gib'
        let usable := 24 * cap * 31 / 32
        let reserve := (usable + 22) / 23
        let d := (List.range 24).foldl (fun d ch => d.fset (fMemChanStatCap ch) cap) d
        let d := d.fsets [(fMemCapUsable, usable), (fMemCapReserve, reserve), (fMemCapAlloc, usable - reserve - 8)]
        let bad := (List.range 24).filter (fun ch => d.isRetired (dramPlace ch)
          || (match chans[ch]? with | some p => p.dev.isNone || !p.trained | none => true))
        some (bad.foldl Dev.dropChannel d))

/-- PM06_DRAM_INIT: every granule of local DRAM is initialised, and the sump moves to it; V1 first drops the channel that the
last failure named. -/
def pm06 (r : StepEnd) (d : Dev) : Dev :=
  d.pmStep 6 r (fun d =>
    let bad := if d.variant 6 = 1 then (tget d.prime.lastFail 6).map (·.2) else none
    let d := match (List.range 24).find? (fun ch => bad == some (dramPlace ch)) with
      | some ch => d.dropChannel ch
      | none => d
    let d := d.memMod (fun m => { m with
      bytes := m.bytes.filter (fun e => cxlBase ≤ e.1), poison := m.poison.filter (fun e => cxlBase / 64 ≤ e.1) })
    some { d with sump := { d.sump with inDram := true } })

/-! ### PM07 and PM08 -/

/-- Units that PM07 tests. -/
def pixelUnits : List TUnit :=
  (List.range 16).flatMap (fun w =>
    (List.range 5).map (TUnit.pump w) ++ (List.range 5).flatMap (fun n => (List.range 16).map (TUnit.pailBank w n))
      ++ (List.range 64).map (TUnit.cistern w) ++ (List.range 9).map (TUnit.lookup w) ++ (List.range 16).map (TUnit.cacheWay w)
      ++ (List.range 2).map (TUnit.siphon w))
    ++ (List.range 4).map TUnit.compositor ++ (List.range 16).map TUnit.spout

/-- Units that PM08 tests. -/
def ioUnits : List TUnit :=
  [.windlass 1, .windlass 2, .windlass 3] ++ (List.range 4).map TUnit.compressor ++ [.encoder 0, .encoder 1, .decoder, .pilot]
    ++ (List.range 16).map TUnit.raster

/-- A unit that fails its priming test is retired, with the cause of a failing verdict (R507). -/
def Dev.primeRetire (d : Dev) (u : TUnit) : Dev :=
  if d.isRetired u.retirePlace then d
  else
    let spare := match u with
      | .pump w _ => (d.spareOf w).map corePlace
      | .pailBank w _ _ => (d.spareOf w).map corePlace
      | _ => d.substPlace u
    (d.takeOut u).retire u.retirePlace 0x0B01 spare []

/-- The units that a test step retires: those that fail, and under V1 those that its last failure named, untested. -/
def Dev.testStep (d : Dev) (k : Nat) (units bad : List TUnit) : Dev :=
  let named := if d.variant k = 1 then (tget d.prime.lastFail k).map (·.2) else none
  (units.filter (fun u => bad.contains u || (named == some u.place && d.prime.lastFail != []))).foldl Dev.primeRetire d

/-- PM07_PIXEL_DIE_TEST; `bad` are the units that fail. -/
def pm07 (bad : List TUnit) (r : StepEnd) (d : Dev) : Dev := d.pmStep 7 r (fun d => some (d.testStep 7 pixelUnits bad))

/-- PM08_IO_DIE_TEST; the tests of units that reported an error earlier start at its end (R500). -/
def pm08 (bad : List TUnit) (r : StepEnd) (d : Dev) : Dev :=
  let ran := d.stepRuns 8
  let d := d.pmStep 8 r (fun d => some (d.testStep 8 ioUnits bad))
  if !ran then d
  else
    let l := d.prime.early
    l.foldl (fun d e => d.requestTest e.1 e.2 1) { d with prime := { d.prime with early := [] } }

/-! ### PM09 and PM10 (R190, R386, R387) -/

/-- PM09_CXL: the capacity of each expander in 256 MiB units, none where a port has none. No usable memory is the variant
without CXL. -/
def pm09 (caps : List (Option Nat)) (r : StepEnd) (d : Dev) : Dev :=
  d.pmStep 9 r (fun d =>
    let c0 := if d.variant 9 = 2 then 0 else ((caps[0]?).join).getD 0
    let c1 := if d.variant 9 = 2 then 0 else ((caps[1]?).join).getD 0
    let total := min 16384 (c0 + c1)
    if total < 32 then
      let d := { d with prime := { d.prime with variants := tput d.prime.variants 9 2 } }
      let d := (d.fset (fPrmStepVariant 9) 2).rrMod (fun r => { r with steps := tmod r.steps 9 {} (fun e => { e with variant := 2 }) })
      some ((d.fsets [(fCxlCapSize, 0), (fCxlCapIlv, 0)]).qfMod (fun q => { q with fallback := true }))
    else
      let d := d.fsets [(fCxlCapSize, total), (fCxlCapIlv, (c0 == c1).toNat)]
      some (d.memMod (fun m => { m with cxlCap := [(0, min 16384 c0), (1, total - min 16384 c0)], cxlDown := [] })))

/-- PM10_NVME: what it finds on each SSD, none where a root port has no usable one. The superblock in use gives the store its
identity and sizes; clips of another store are not its own (R386, R387, log entry 96). -/
def pm10 (ssds : List (Option SsdProbe)) (r : StepEnd) (d : Dev) : Dev :=
  d.pmStep 10 r (fun d =>
    let found := if d.variant 10 = 2 then [] else (ssds.take 4).takeWhile Option.isSome |>.filterMap id
    let n := found.length
    if n = 0 then some (d.fset fStoStatState 0)
    else
      let d := (List.range n).foldl (fun d k =>
        if d.fget (fStoSsdStatState k) = 0 then d.fsets [(fStoSsdStatState k, 1), (fStoSsdStatWidth k, 4), (fStoSsdStatSpeed k, 5)] else d) d
      let bad := fun k slot => ((found[k]?).map (fun (p : SsdProbe) => if slot = 0 then p.badA else p.badB)).getD true
      let d := d.storeMod (fun s => { s with ssdBytes := found.map (·.bytes) })
      match d.store.superOf n bad with
      | none =>
        let d := d.storeMod (fun s => { s with superOk := false, blocksPerSsd := s.blocksOf n })
        some ((d.fsets [(fStoStatState, 1), (fStoStatNssd, n)]).showStore)
      | some x =>
        let d := d.storeMod (fun s =>
          let s := if s.storeId = x.storeId then s else { s with clips := [], extents := [], media := [] }
          let s := { s with superOk := true, storeId := x.storeId, gen := x.gen, hostNs := x.hostNs, nssdFormatted := x.nssd, blocksPerSsd := x.blocks }
          { s with nextents := s.extentCount })
        some ((d.fsets [(fStoStatState, 1), (fStoStatNssd, x.nssd)]).showStore))

/-! ### PM11 (R194, R395, R401) -/

/-- Recover an open clip: it ends with the last unit that lies whole on media; its manifest is pending (R395, R532). -/
def Dev.recoverClip (d : Dev) (slot : Nat) : Dev :=
  let c := d.clip slot
  let n := c.lastOnMedia (c.indexLen / 32)
  let len := c.unitsEnd n
  let keep := (len + extPay - 1) / extPay
  let gone := c.dataExt.drop keep
  let d := d.storeMod (fun s => { s with extents := s.extents.filter (fun e => !gone.contains e.1) })
  (d.clipMod slot (fun c => { c with
    st := 3, last := if n = 0 then (c.first + allOnes64) % 2 ^ 64 else c.first + n - 1, dataLen := len, dataOnMedia := len,
    closeSeq := allOnes64, indexLen := 32 * n, indexOnMedia := 32 * n, dataExt := c.dataExt.take keep, mstate := 1,
    stream := mclear c.stream len (c.dataLen - len), index := mclear c.index (32 * n) (c.indexLen - 32 * n) })).showStore

/-- WB and RING from the record, lowered until they fit: RING first, then WB to no less than 4 GiB (R194). -/
def Dev.fitStore (d : Dev) : Dev :=
  let (wb, ring) := d.prime.rr.sizes.getD (16, 0)
  let cap := d.cxlBytes / gib
  let ring' := min ring (cap - 2 - wb)
  let wb' := if cap < wb + ring' + 2 then max 4 (cap - 2) else wb
  let d := d.storeMod (fun s => { s with wb := wb', ring := ring' })
  if cap = 0 || (wb' = wb && ring' = ring) then d else d.post 0x05 0 0 noPlace (le 4 wb' ++ le 4 ring')

/-- The journal as the checkpoint holds it, and the first SEQ of this priming (R401). -/
def Dev.restoreJournal (d : Dev) : Dev :=
  let d := match newest d.nv.ckA d.nv.ckB with
    | some (_, k) =>
      let h := roundUp k.head (2 ^ 40) + 2 ^ 40
      let t := k.recs.foldl (fun t (r : JRec) => tput t (r.seq % jnlSize) r) []
      let d := d.qfMod (fun q => { q with head := h, jnl := t, oldest := (t.map (fun (e : Nat × JRec) => e.2.seq)).foldl min h })
      { d with prime := { d.prime with ckptHead := k.head } }
    | none =>
      let h := 2 ^ 63 + d.prime.boots * 2 ^ 40
      let d := d.qfMod (fun q => { q with head := h, jnl := [], oldest := h, lost := true })
      { d with prime := { d.prime with ckptHead := h } }
  d.showHead

/-- PM11_JOURNAL_CLIPS: the journal is restored, open clips are recovered, and the queue front is ready. What the write buffer
and the ring held is gone. -/
def pm11 (r : StepEnd) (d : Dev) : Dev :=
  d.pmStep 11 r (fun d =>
    let d := d.restoreJournal.fitStore
    let d := d.storeMod (fun s => { s with wbHost := [], wbSlots := [], ringSlots := [], waiting := [], flushes := [] })
    let skip := d.variant 11 = 1 || d.cxlBytes = 0 || !d.hasClips
    let d := if skip then d else (tkeys d.store.clips).foldl (fun d s => if (d.clip s).st = 1 then d.recoverClip s else d) d
    some (d.showStore.fset fPrmStatQfReady 1))

/-! ### PM12 and PM13 -/

/-- PM12_NETWORK_SDI_LANES: the lanes that came up are up; a port that has not is left to its retries. -/
def pm12 (r : StepEnd) (d : Dev) : Dev := d.pmStep 12 r some

/-- PM13_TIME_PTP: PTP starts, or time runs free under V1. -/
def pm13 (r : StepEnd) (d : Dev) : Dev := d.pmStep 13 r (fun d => some (if d.variant 13 = 1 then d.fset fTimeCtlSrc 0 else d))

/-! ### PM14: the start-up set (R266, R501) -/

/-- Run a command of the firmware's own: it takes no SEQ and posts nothing, and objects it creates have CREATED all ones.
Answers none where it fails. -/
def Dev.internal (d : Dev) (opc w10 w11 : Nat) (data : List Byte) (f : Nat → Dev → Dev) : Option Dev :=
  let seq := d.qf.head
  let c : Ctx := { sqid := 65535, sqe := { opc := BitVec.ofNat 8 opc, cdw10 := BitVec.ofNat 32 w10, cdw11 := BitVec.ofNat 32 w11 }, data := data }
  let r : JRec := { seq := seq, tacc := 0, sqid := 65535, cid := 65535, opc := opc, st := .accepted, notes := 0, flags := 0, nsid := 0,
                    cdw10 := 0, cdw11 := 0, status := 0, result := 0, digest := [] }
  let q := d.qf
  let d := f seq { d with qf := { q with ctxs := [(seq, c)], jnl := [(seq % jnlSize, r)] } }
  let ok : Bool := match d.jrec seq with | some r => r.st == .started || (decide r.st.terminal && r.status == 0) | none => false
  let d := ({ d with qf := { q with handle := d.qf.handle } }).fset fQfStatCtx q.ctxs.length
  if ok then some d else none

/-- Allocate a buffer of the start-up set in address space 0 from local ALLOC, pinned, above every mapping there. -/
def Dev.bootBuffer (d : Dev) (kind index len : Nat) : Option (Nat × Dev) :=
  let len := roundUp len 4096
  let va := roundUp (((d.pagesOf 0).map (fun p => p.va + p.size)).foldl max 2097152) 2097152
  let like : Page := { va := va, size := 4096, pa := none, rd := true, wr := true, pin := true, kind := 0 }
  match backRange like (d.pool 0) (len / 4096) d.usedRanges va len with
  | none => none
  | some ps =>
    let (h, d) := d.newHandle
    let d := ps.foldl Dev.zeroPage d
    let d := d.setPages 0 (insertPages (d.pagesOf 0) ps)
    let d := d.memMod (fun m => { m with maps := tput m.maps h { asid := 0, va := va, len := len, kind := 0 } })
    some (h, { d with prime := { d.prime with startBufs := d.prime.startBufs ++ [(kind, index, h)] } })

/-- Allocate several buffers. -/
def Dev.bootBuffers (d : Dev) (kind index : Nat) : List Nat → Option (List Nat × Dev)
  | [] => some ([], d)
  | n :: l => match d.bootBuffer kind index n with
    | none => none
    | some (h, d) => (d.bootBuffers kind index l).map (fun (hs, d) => (h :: hs, d))

/-- Put register values under their keys. -/
def Dev.putVals (d : Dev) (fs : List Fld) (t : Tab Nat) : Dev :=
  fs.foldl (fun d f => match tget t f.key with | some v => d.fset f v | none => d) d

/-- Bytes replaced from offset `o`. -/
def putAt (b : List Byte) (o : Nat) (v : List Byte) : List Byte := b.take o ++ v ++ b.drop (o + v.length)

/-- Bytes of a MEMORY flow's ring buffer: its 16-bit containers in planes (R284). -/
def memFlowBytes (b : List Byte) : Nat :=
  let n := fdOutW b * fdOutH b
  match fdSamp b with | 0 => 4 * n | 1 => 3 * n | _ => 6 * n

/-- Start the port of the set's context. -/
def Dev.bootPort (d : Dev) (s : StartUp) : Option Dev :=
  match d.bootBuffers kIngest s.ctx s.raws with
  | none => none
  | some (hs, d) =>
    let d := (d.putVals (portAll s.ctx) s.port).ingMod s.ctx (fun g => { g with asid := 0, raws := hs, rawNext := 0, staged := [] })
    (d.internal 0xA4 s.ctx 0 [] startSensorPort).map (fun d => d.ingMod s.ctx (fun g => { g with startSeq := none }))

/-- Start service of the set's context into a new SINK buffer. -/
def Dev.bootService (d : Dev) (s : StartUp) : Option (Nat × Dev) :=
  match d.bootBuffer kPilot 0 s.sink with
  | none => none
  | some (h, d) => ((d.stagePilot s.ctx s.pilot).internal 0xAC s.ctx h [] startPilot).map (fun d => (h, d))

/-- Start the set's compositor on the SINK. -/
def Dev.bootComp (d : Dev) (s : StartUp) (sink : Nat) : Option Dev :=
  match s.comp with
  | none => some d
  | some (c, b) =>
    let w := field b 0 2
    let h := field b 2 2
    let n := field b 0x0A 1
    match d.bootBuffers kCompositor c (List.replicate n (rgbPitch w * h)), d.buf sink with
    | some (hs, d), some m =>
      -- the buffers and the base layer's address are those of this priming
      let b := b.take 0x0C ++ le 2 0 ++ (b.drop 0x0E).take 2 ++ hs.flatMap (le 4) ++ b.drop (0x10 + 4 * n)
      let base := putAt ((b.drop 0x40).take 32) 0x10 (le 8 m.va)
      d.internal 0x9D c 0 (b.take 0x40 ++ base ++ b.drop 0x60) startCompositor
    | _, _ => none

/-- Start a flow of the set. -/
def Dev.bootFlow (d : Dev) (n : Nat) (b : List Byte) : Option Dev :=
  let need := if fdDest b = 1 then List.replicate (fdBufs b).length (memFlowBytes b) else []
  match d.bootBuffers kFlow n need with
  | none => none
  | some (hs, d) =>
    let b := if hs.isEmpty then b else putAt b 0x24 (hs.flatMap (le 4))
    match d.internal 0xA5 n 0 b configureFlow with
    | none => none
    | some d => d.internal 0xB0 n 0 [] startFlow

/-- PM14's work. -/
def Dev.bootSet (d : Dev) (s : StartUp) : Option Dev :=
  let d := s.triggers.foldl (fun d e => d.putVals (trgAll e.1) e.2) d
  let d := s.ips.zipIdx.foldl (fun d e => d.fset (fEthIpAddr e.2) e.1) d
  let d := d.putVals [fTimeCtlSrc, fTimeCtlStepEn, fTimeCtlDomain, fTimeCtlStepMax] s.timeCtl
  let d := s.triggers.foldl (fun d e => triggerArm e.1 d) d
  (d.bootPort s).bind (fun d => (d.bootService s).bind (fun (sink, d) => (d.bootComp s sink).bind (fun d =>
    (s.flows.foldl (fun (acc : Option Dev) e => acc.bind (fun d => d.bootFlow e.1 e.2)) (some d)).bind (fun d =>
      s.rasters.foldl (fun (acc : Option Dev) e => acc.bind (fun d =>
        (d.putVals (rasAll e.1) e.2.2).internal 0xBC e.1 e.2.1 [] startRaster)) (some d)))))

/-- PM14_START_UP_SET. -/
def pm14 (r : StepEnd) (d : Dev) : Dev :=
  d.pmStep 14 r (fun d =>
    if d.variant 14 = 1 then some d
    else match d.prime.rr.startUp with
      | none => some d
      | some s => d.bootSet s)

/-! ### PM15 and re-priming (R492, R498, R522) -/

/-- PM15_COMMIT: the record's commit has written its last page; the fused count rises to the image's ROLLBACK, and the device
is in service. -/
def pm15 (r : StepEnd) (d : Dev) : Dev :=
  match r with
  | .pass =>
    if d.variant 15 = 0 && d.nv.commits.any (·.body.isRecord) then d
    else d.pmStep 15 r (fun d => some (d.raiseRollback d.prime.imageRollback))
  | _ => d.pmStep 15 r some

/-- REPRIME: the commits that the reset waits for are written, or the gate has not reopened for 10 s; the device resets every
island and primes again, or halts when this was its fourth failure in a row (R498). -/
def reprime (d : Dev) : Dev :=
  let done := d.nv.commits.isEmpty || (!d.gateOpen && d.prime.waitSince + 10000000000 ≤ d.nowNs)
  if !d.prime.waitReset || !done then d
  else
    let n := d.fget fPrmStatReprime
    if 3 ≤ n then
      let d := d.fsets [(fPrmStatReprime, 4), (fPrmStatState, 2)]
      { d with prime := { d.prime with waitReset := false } }
    else (d.islandReset.fset fPrmStatReprime (n + 1)).startPriming

end Sys2Proof.Machine
end

