-- ==== Sys2Proof/Machine/Security.lean ====
section
/-!
DEFINITION. The security commands (R525 to R529), lifecycle changes and recovery (R519, R524, R527).
-/
set_option autoImplicit false

namespace Sys2Proof.Machine

/-! ## Identity and attestation (R528, R529) -/

/-- "LZ-ATTEST". -/
def attestContext : List Byte := [0x4C, 0x5A, 0x2D, 0x41, 0x54, 0x54, 0x45, 0x53, 0x54]
/-- "LZ-OWNER". -/
def ownerContext : List Byte := [0x4C, 0x5A, 0x2D, 0x4F, 0x57, 0x4E, 0x45, 0x52]

def uidBytes : List Byte := le 16 Config.uid.toNat

/-- Byte strings in rising order of their numbers. -/
def sortDigests (l : List (BitVec 384)) : List (BitVec 384) :=
  l.foldl (fun acc x => acc.filter (fun y => y.toNat ≤ x.toNat) ++ [x] ++ acc.filter (fun y => x.toNat < y.toNat)) []

/-- KEYS: the 16 slots, each as its KEY_ID or zeros. -/
def Dev.keySlots (d : Dev) : List Byte :=
  (List.range 16).flatMap (fun k => match tget d.nv.keys k with | some pk => keyId pk | none => zeros 16)

/-- SYS_ID (R3): its fields are those of the register. -/
def Dev.sysId (d : Dev) : List Byte :=
  le 4 (d.fget fSysIdPart * 65536 + d.fget fSysIdMember * 4096 + d.fget fSysIdStep * 256 + d.fget fSysIdScreen * 16)

/-- The body of Table SY-6 for the ATTEST command `seq`. -/
def Dev.attestBody (d : Dev) (seq : Nat) (nonce : List Byte) : List Byte :=
  let flags := d.fget fPrmStatDefaults + 2 * d.qf.dbgUsed.toNat
  le 4 0x4C5A4154 ++ le 2 1 ++ le 1 (d.fget fSecStatLc) ++ le 1 flags ++ d.sysId ++ le 2 d.prime.boots
    ++ le 2 d.prime.activations ++ uidBytes ++ nonce ++ le 8 d.nowNs ++ le 8 seq ++ le 1 (d.fget fSecStatRollback) ++ zeros 15
    ++ digestBytes Config.romMeasurement ++ digestBytes d.prime.bootMeas ++ digestBytes d.prime.activeMeas
    ++ digestBytes (Config.sha3_384 d.keySlots)
    ++ digestBytes (Config.sha3_384 ((sortDigests ((tvals d.cores.programs).map (·.digest))).flatMap digestBytes))
    ++ (if d.fget fSecStatLc = 1 then zeros 48 else digestBytes d.nv.ownerHash) ++ zeros 128

/-- ATTEST: the report goes to the result buffer. In RETURNED the device key is destroyed (Table SY-3). -/
def attest (seq : Nat) (d : Dev) : Dev :=
  d.run seq true 0xE1 (fun d c =>
    if c.data.length ≠ 32 then d.fail seq stBadParam
    else if d.fget fSecStatLc = 3 then d.fail seq stNotPermitted
    else
      let d := d.startCmd seq
      let body := d.attestBody seq c.data
      d.finish seq { dw0 := 3840, dg1 := c.w10, dgData := c.data, list := body ++ dkBlock attestContext body })

/-- The device certificate: header, public key of DK and signature block, 5,344 bytes (R528). -/
def deviceCertificate : List Byte :=
  let pk := le 1952 Config.dkPublic.toNat
  le 4 0x4C5A4443 ++ le 2 1 ++ zeros 10 ++ uidBytes ++ keyId pk ++ le 16 Config.caKeyId.toNat ++ pk ++ sigBlock Config.certSignature

def readIdentity (seq : Nat) (d : Dev) : Dev :=
  d.run seq true 0xE2 (fun d c => (d.startCmd seq).finish seq { dw0 := 5344, dg1 := c.w10, out := deviceCertificate })

/-! ## Key blocks (R526) -/

def blkPurpose (b : List Byte) : Nat := field b 0 1
def blkSlot (b : List Byte) : Nat := field b 1 1
def blkSerial (b : List Byte) : Nat := field b 4 4
def blkUid (b : List Byte) : List Byte := (b.drop 8).take 16
def blkKey (b : List Byte) : List Byte := (b.drop 0x20).take 1952
def blkBody (b : List Byte) : List Byte := b.take 0x7C0
def blkSig (b : List Byte) : List Byte := (b.drop 0x7C0).take 3328

/-- The form of a block: its length, zero bytes and slot; the signature block of 3,328 bytes ends the 5,312. -/
def blkForm (b : List Byte) : Bool := b.length == 5312 && allZero b 2 2 && allZero b 0x18 8 && blkSlot b < 16

/-- A block verifies under a key. -/
def blkVerify (key b : List Byte) : Bool := blockVerifies key ownerContext (blkBody b) (blkSig b)

/-- What the check of a key block finds: none where it passes, or the failing status. -/
def Dev.keyBlockError (d : Dev) (b : List Byte) : Option Nat :=
  let lc := d.fget fSecStatLc
  if !blkForm b || blkPurpose b != 1 then some stBadParam
  else if lc = 3 then some stNotPermitted
  else if lc = 2 && (blkUid b != uidBytes || blkSerial b ≤ d.nv.serial) then some stBadParam
  else if lc = 2 && !blkVerify d.nv.ownerKey b then some stSignature
  else none

/-- SEC_STAT.SERIAL takes SERIAL; the full value is kept. -/
def Dev.takeSerial (d : Dev) (n : Nat) : Dev :=
  ({ d with nv := { d.nv with serial := n } }).fset fSecStatSerial (n % 65536)

/-- SERIAL is taken in SECURED, where it is checked. -/
def Dev.acceptSerial (d : Dev) (b : List Byte) : Dev := if d.fget fSecStatLc = 2 then d.takeSerial (blkSerial b) else d

def enrollKey (seq : Nat) (d : Dev) : Dev :=
  d.run seq true 0xE5 (fun d c =>
    let b := c.data
    match d.keyBlockError b with
    | some e => d.fail seq e
    | none =>
      if (tget d.nv.keys (blkSlot b)).isSome then d.fail seq stBusy
      else if !d.gateOpen then d.gateRefuse.fail seq stBusy
      else
        let d := (d.startCmd seq).acceptSerial b
        ({ d with nv := { d.nv with keys := tput d.nv.keys (blkSlot b) (blkKey b) } }).okOther seq c (blkSlot b))

def revokeKey (seq : Nat) (d : Dev) : Dev :=
  d.run seq true 0xE9 (fun d c =>
    let b := c.data
    match d.keyBlockError b with
    | some e => d.fail seq e
    | none =>
      match d.nv.keys.find? (fun (e : Nat × List Byte) => e.2 == blkKey b) with
      | none => d.fail seq stBadParam
      | some e =>
        if !d.gateOpen then d.gateRefuse.fail seq stBusy
        else
          let d := (d.startCmd seq).acceptSerial b
          ({ d with nv := { d.nv with keys := terase d.nv.keys e.1 } }).okOther seq c e.1)

/-! ## Lifecycle (R519, R527, R544) -/

/-- Fuses can only change from 0 to 1. -/
def fusable (old new : BitVec 384) : Bool := old ||| new == new

/-- Enter a lifecycle state: every key slot is emptied, and the record is committed before the command completes. -/
def Dev.enterLifecycle (d : Dev) (seq lc serial : Nat) : Dev :=
  let d := (d.startCmd seq).takeSerial serial
  let d := { d with nv := { d.nv with keys := [] }, qf := { d.qf with lifecycle := some seq } }
  (d.fset fSecStatLc lc).commitRecord

def setLifecycle (seq : Nat) (d : Dev) : Dev :=
  d.run seq true 0xED (fun d c =>
    let b := c.data
    let lc := d.fget fSecStatLc
    let p := blkPurpose b
    if !blkForm b || (p != 0x10 && p != 0x11) || blkSlot b != 0 then d.fail seq stBadParam
    else if (p == 0x10 && lc != 1) || (p == 0x11 && lc != 2) then d.fail seq stNotPermitted
    else if blkUid b != uidBytes || blkSerial b ≤ d.nv.serial then d.fail seq stBadParam
    else
      let key := if p == 0x10 then blkKey b else d.nv.ownerKey
      let h := Config.sha3_384 (blkKey b)
      if !blkVerify key b then d.fail seq stSignature
      else if p == 0x10 && !fusable d.nv.ownerHash h then d.fail seq stNotPermitted
      else if d.anyRuns || d.qf.lifecycle.isSome then d.fail seq stBusy
      else if !d.fuseOk then d.gateRefuse.fail seq stBusy
      else if p == 0x10 then
        ({ d with nv := { d.nv with ownerHash := h, ownerKey := key } }).enterLifecycle seq 2 (blkSerial b)
      else d.enterLifecycle seq 3 (blkSerial b))

/-! ## Recovery (R524) -/

/-- STATUS for an image that a check refuses. -/
def rcvCode : ImageCheck → Nat
  | .ok => 2
  | .format => 3
  | .key => 4
  | .signature => 5
  | .rollback => 6

/-- RECOVERY_GO: a write of SYS_RCV_CTL with GO set. The image in the buffer is verified, and written to both slots where the
gate allows it; the device then primes again. -/
def recoveryGo (key len : Nat) (d : Dev) : Dev :=
  if d.fget fPrmStatState ≠ 3 || key ≠ 0xC3 then d
  else if len = 0 || 1048576 < len then d.fset fSysRcvStatStatus 3
  else
    let img := (List.range len).map (fun k => d.prime.rcvBuf.getD k 0)
    let r := d.checkImage img
    if r ≠ .ok then d.fset fSysRcvStatStatus (rcvCode r)
    else if !d.gateOpen then d.gateRefuse.fset fSysRcvStatStatus 7
    else (((d.setSlot false img).setSlot true img).islandReset).startPriming

end Sys2Proof.Machine
end

