-- ==== Sys2Proof/WellFormed.lean ====
section
/-!
DEFINITION. Which commands are well formed: their operands name units that the device has, and lists have the lengths that
their rows fix. A command that is not well formed is none that the device can be given.
-/
set_option autoImplicit false

namespace Sys2Proof

/-- The unit exists (Table PF-8, R510). -/
def TUnit.ok : TUnit → Bool
  | .pump w u => w < 16 && u < 5
  | .pailBank w u b => w < 16 && u < 5 && b < 16
  | .cistern w b => w < 16 && b < 64
  | .lookup w t => w < 16 && t < 9
  | .cacheWay w k => w < 16 && k < 16
  | .siphon w n => w < 16 && n < 2
  | .wellControl w => w < 16
  | .compositor c => c < 4
  | .spout s => s < 16
  | .raster r => r < 16
  | .compressor k => k < 4
  | .encoder n => n < 2
  | .dramRow ch _ _ => ch < 24
  | .lane n => n < 96
  | .windlass k => k < 4
  | .dieLinkLane l n => l < 4 && n < 64
  | .decoder | .pilot | .timeUnit | .queueFront | .journal | .sumpWriter | .secureElement => true

/-- The requester exists (Table ME-5). -/
def Requester.ok : Requester → Bool
  | .pump c => c < 80
  | .windlass c => 80 ≤ c && c < 84
  | .siphonCh w s k => w < 16 && s < 2 && k < 8
  | .siphonRt w => w < 16
  | .compositor c l => c < 4 && l < 16
  | .spout f => f < 512
  | .raster r => r < 16
  | .encoder n => n < 2
  | .compressor k => k < 4
  | .ingest c => c < 5
  | .audio p => p < 16
  | .decoder | .pilot | .none => true

/-- Taps of a PCIe or CXL request fit their fields of six bits (R415). -/
def TrainReq.ok : TrainReq → Bool
  | .step _ _ => true
  | .pcie a b c => a < 64 && b < 64 && c < 64

/-- A command is well formed. -/
def Instr.wf : Instr → Bool
  | .addi _ => true
  | .andi _ => true
  | .ori _ => true
  | .xori _ => true
  | .slti _ => true
  | .muli _ => true
  | .addai _ => true
  | .vimm _ => true
  | .salu _ => true
  | .pred _ => true
  | .ldl _ => true
  | .ldlu _ => true
  | .stl _ => true
  | .ldg _ => true
  | .stg _ => true
  | .bcc _ => true
  | .bp _ => true
  | .jal _ => true
  | .loop _ => true
  | .valu _ => true
  | .vcmp _ => true
  | .vperm _ => true
  | .vmac _ => true
  | .vlut _ => true
  | .sin _ => true
  | .sout _ => true
  | .smarkr _ => true
  | .smarkw _ => true
  | .savail _ => true
  | .shead _ => true
  | .crd _ => true
  | .cwr _ => true
  | .cset _ => true
  | .cclr _ => true
  | .yield _ => true
  | .halt _ => true
  | .svc _ => true
  | .wdkick _ => true
  | .fence _ => true
  | .iflush _ => true
  | .skipstrip _ => true
  | .resume _ => true
  | .resumei _ => true
  | .waiti _ => true
  | .globalLoadReturn _ _ => true
  | .watchdog _ => true
  | .windlassInterrupt _ _ => true
  | .stripSkip _ => true
  | .preemptRequest _ _ => true
  | .loadProgram _ => true
  | .buildGraph _ => true
  | .startGraph _ => true
  | .stopGraph _ => true
  | .releaseGraph _ => true
  | .setParameters _ => true
  | .setParamsBankFree _ => true
  | .replaceProgram _ => true
  | .stripDispatch _ => true
  | .pilotCoverStripDone => true
  | .rtStallPreempt _ => true
  | .bgQuantumExpiry _ => true
  | .frameAdmit _ _ => true
  | .framePublish _ _ => true
  | .pumpWithdraw _ => true
  | .pumpSelfTestStart _ => true
  | .cisternCopyDone _ => true
  | .boundaryTimeout kind _ => kind != 0
  | .createSpace _ => true
  | .destroySpace _ => true
  | .mapMemory _ => true
  | .unmapMemory _ => true
  | .remapMemory _ => true
  | .pinMemory _ => true
  | .unpinMemory _ => true
  | .invalidationPoint _ => true
  | .leaseRetire _ => true
  | .leaseBroken _ => true
  | .translationResolve _ => true
  | .faultService requester _ => requester.ok
  | .pageMove _ _ => true
  | .memoryReadComplete requester _ _ _ _ => requester.ok
  | .patrolScrub _ _ _ _ => true
  | .selfRefreshEntry _ _ => true
  | .selfRefreshExit _ => true
  | .refreshInterval _ waiting => waiting.all Requester.ok
  | .dqsOscillatorCheck _ _ _ => true
  | .zqCalibration _ => true
  | .writeQueueDrain _ _ writers => writers.all Requester.ok
  | .floatCrossing _ _ => true
  | .regulatorWindow _ _ => true
  | .channelLastingFault _ _ => true
  | .spareOutDone => true
  | .cxlEventRecord _ _ bytes => decide (bytes.length ≤ 16)
  | .cxlLaneRetrain _ _ => true
  | .cxlMemoryUnavailable _ => true
  | .startSiphon _ => true
  | .stopSiphon _ => true
  | .siphonDescriptorDone _ => true
  | .siphonRtWork _ _ => true
  | .configureSensorPort _ => true
  | .startSensorPort _ => true
  | .alignmentDone _ _ => true
  | .alignmentTimeout _ _ => true
  | .stopSensorPort _ => true
  | .sensorClockWindow _ _ _ => true
  | .sensorFrameStart _ _ => true
  | .sensorLine _ _ => true
  | .sensorExpEdge _ _ => true
  | .sensorFrameEnd _ _ => true
  | .lineTimeout _ => true
  | .frameTimeout _ => true
  | .blankingCheck _ _ => true
  | .rawRowVisible _ => true
  | .calibrateSensorPort _ => true
  | .calMeasurementDone _ _ => true
  | .calTapStep _ => true
  | .calWindowClose _ => true
  | .obTrackUpdate _ _ => true
  | .configurePilot _ => true
  | .startPilot _ => true
  | .stopPilot _ => true
  | .pilotFrameDone => true
  | .pilotError _ _ => true
  | .startCompositor _ => true
  | .setLayers _ => true
  | .stopCompositor _ => true
  | .compositeRelease _ => true
  | .configureFlow _ => true
  | .startFlow _ => true
  | .stopFlow _ => true
  | .packetSend _ _ => true
  | .flowRegionSignature _ _ => true
  | .memoryFlowFrameDone _ => true
  | .loadScalingProfile _ => true
  | .loadToneProfile _ => true
  | .setGuards _ => true
  | .armGuards _ => true
  | .disarmGuards _ => true
  | .loadSafeImage _ => true
  | .getFlowSdp _ => true
  | .startRaster _ => true
  | .stopRaster _ => true
  | .releaseRaster _ => true
  | .rasterUnderrun _ => true
  | .rasterLineReadback _ _ => true
  | .startRecording _ => true
  | .stopRecording _ => true
  | .bandReady _ _ => true
  | .bandPlaneDone _ _ => true
  | .startEncoder _ => true
  | .setEncoderParameters _ => true
  | .stopEncoder _ => true
  | .encoderRowDone _ _ => true
  | .encoderPictureDone _ _ _ => true
  | .encoderCoreError _ _ _ => true
  | .startDecoder _ => true
  | .restartDecoder _ => true
  | .stopDecoder _ => true
  | .decoderNal _ _ => true
  | .decoderCoreError _ _ => true
  | .doorbellWrite _ _ _ => true
  | .commandFetch _ _ _ => true
  | .controllerEnable _ _ => true
  | .controllerReset => true
  | .shutdownNotification _ => true
  | .createIoSq _ => true
  | .deleteIoSq _ => true
  | .createIoCq _ => true
  | .deleteIoCq _ => true
  | .getLogPage _ => true
  | .identify _ => true
  | .abort _ => true
  | .setFeatures _ => true
  | .setPowerState _ => true
  | .ps2BufferEmpty => true
  | .ps2DrainDone _ => true
  | .getFeatures _ => true
  | .asynchronousEventRequest _ => true
  | .firmwareImageDownload _ => true
  | .firmwareCommit _ => true
  | .firmwareActivate _ => true
  | .fwActivationPause => true
  | .fwActivationSwitch => true
  | .fwSelfCheckPass => true
  | .fwSelfCheckFail => true
  | .flush _ => true
  | .write _ => true
  | .writeBufferRoom => true
  | .read _ => true
  | .writeZeroes _ => true
  | .datasetManagement _ => true
  | .storeWriteDone _ => true
  | .indexPageFlush _ => true
  | .extentNeeded _ => true
  | .clipClose _ => true
  | .manifestReadbackDone _ _ => true
  | .registerWrite _ => true
  | .registerRead _ => true
  | .readJournal _ => true
  | .configureStore _ => true
  | .readSump _ => true
  | .readRetainedRecord _ => true
  | .readInventory _ => true
  | .readFrameRecords _ => true
  | .listClips _ => true
  | .releaseProgram _ => true
  | .releaseImage _ => true
  | .clipDelete _ => true
  | .clipProtect _ => true
  | .clipUnprotect _ => true
  | .safeAll _ => true
  | .safeClear _ => true
  | .fetchHalt _ => true
  | .recStop _ => true
  | .journalCheckpoint => true
  | .bar0BadAccess _ _ _ _ => true
  | .debugWindowAccess _ _ _ _ => true
  | .flitCrcRetry _ _ _ _ => true
  | .dieLinkRetrained _ => true
  | .timeCountBroadcast => true
  | .laneSignalDetect _ => true
  | .trainingRequest _ request => request.ok
  | .laneTrainingDone _ => true
  | .laneBitLock _ => true
  | .laneBlockLock _ => true
  | .linkCapexDone _ _ => true
  | .flowResume _ _ => true
  | .bringupTimeout _ => true
  | .bringupRetry _ => true
  | .laneLockLoss _ _ => true
  | .adaptationFreeze _ => true
  | .adaptationResume _ => true
  | .laneDrift _ _ _ _ => true
  | .laneFence _ _ _ => true
  | .endpointLinkDown => true
  | .nvmeRootPortLoss _ => true
  | .refclkWindow _ _ => true
  | .laneTest _ => true
  | .laneRetry _ => true
  | .laneTestDone _ _ _ => true
  | .laneEqWrite _ _ => true
  | .laneGrpSelWrite _ => true
  | .ethIpWrite _ _ => true
  | .ethFrameReceived _ _ => true
  | .arpRefresh _ => true
  | .sdiRateSteer => true
  | .timeIncWrite _ _ => true
  | .timeStepWrite _ _ => true
  | .timeNowSnapshot => true
  | .ptpAnnounce _ _ => true
  | .ptpSync _ _ => true
  | .ptpFollowUp _ _ _ _ _ => true
  | .ptpDelayResp _ _ _ _ => true
  | .delayReqSend _ _ => true
  | .announceTimeout _ => true
  | .syncTimeout _ => true
  | .timeRefclkWindow _ => true
  | .triggerArm _ => true
  | .triggerPulse _ => true
  | .triggerStagedWrite _ _ _ => true
  | .triggerPulseEnd _ => true
  | .trgLastRead _ => true
  | .captureEdge _ _ _ => true
  | .capturePop _ => true
  | .capTimeout _ => true
  | .startAudioPort _ => true
  | .stopAudioPort _ => true
  | .pdmClockWindow _ _ _ => true
  | .audioBlockDone _ _ => true
  | .audioMaskWrite _ _ => true
  | .audStuck _ _ _ => true
  | .audioStreamEnable _ _ => true
  | .audioStreamPacket _ => true
  | .startMotionAxis _ => true
  | .stopMotionAxis _ => true
  | .axisCount _ _ _ => true
  | .speedDecay _ _ => true
  | .axisStandstill _ _ => true
  | .axisIndexEdge _ => true
  | .axisCompareArm _ => true
  | .axisSampleRead _ => true
  | .axCmpTimeRead _ => true
  | .primingStart _ => true
  | .pm00BootRom _ => true
  | .pm01RetainedRecord _ => true
  | .pm02ClocksIslands _ => true
  | .pm03PcieEndpoint _ => true
  | .pm04DieLinks _ _ => true
  | .pm05DramTraining channels _ => channels.length == 24
  | .pm06DramInit _ => true
  | .pm07PixelDieTest bad _ => bad.all TUnit.ok
  | .pm08IoDieTest bad _ => bad.all TUnit.ok
  | .pm09Cxl capacities _ => capacities.length == 2
  | .pm10Nvme ssds _ => ssds.length == 4
  | .pm11JournalClips _ => true
  | .pm12NetworkSdiLanes _ => true
  | .pm13TimePtp _ => true
  | .pm14StartUpSet _ => true
  | .pm15Commit _ => true
  | .primingStepTimeout _ => true
  | .reprime => true
  | .sumpCommit => true
  | .hardwareError unit _ cls _ _ => unit.ok && cls != 0
  | .selfTestDequeue => true
  | .selfTest unit _ => unit.ok
  | .retainedRecordCommit => true
  | .sysRefclkWindow _ => true
  | .sysRefclkFatal => true
  | .attest _ => true
  | .readIdentity _ => true
  | .enrollKey _ => true
  | .revokeKey _ => true
  | .setLifecycle _ => true
  | .recoveryGo _ _ => true
  | .thermalSample readings => readings.length == 28
  | .thermalRiseCheck => true
  | .thmLevelWrite _ _ => true
  | .shutdownLatchClear => true
  | .railSample _ _ => true
  | .coreRailRecovered _ => true
  | .avsSetpointDone _ _ _ => true
  | .porstLFall => true
  | .perstLFall => true
  | .perstLRise => true
  | .smbusRead _ => true
  | .pwrgdFall => true
  | .faultSignalled _ _ => true
  | .pageProgramDone => true
  | .dataTransferTimeout _ => true
  | .lookupCopyDone _ => true
  | .announceSend _ => true
  | .boundaryScan _ => true

end Sys2Proof
end

