-- ==== Sys2Proof/Machine/CmdCoding.lean ====
section
/-!
DEFINITION. The meaning of each command of recordings, encoders and the decoder.
Recording and coding (R309 to R358).
-/
set_option autoImplicit false

namespace Sys2Proof.Machine

/-- START_RECORDING (R313). -/
def execStartRecording (seq : Nat) (s : State) : Host.Outcome State Fault Refusal := onDev (startRecording seq) s

/-- STOP_RECORDING (R332). -/
def execStopRecording (seq : Nat) (s : State) : Host.Outcome State Fault Refusal := onDev (stopRecording seq) s

/-- BAND_READY (R316). -/
def execBandReady (ctx : Fin 5) (band : Nat) (s : State) : Host.Outcome State Fault Refusal := onDev (bandReady ctx.val band) s

/-- BAND_PLANE_DONE (R322). -/
def execBandPlaneDone (compressor : Fin 4) (bad : List Nat) (s : State) : Host.Outcome State Fault Refusal := onDev (bandPlaneDone compressor.val bad) s

/-- START_ENCODER (R335). -/
def execStartEncoder (seq : Nat) (s : State) : Host.Outcome State Fault Refusal := onDev (startEncoder seq) s

/-- SET_ENCODER_PARAMETERS (R339). -/
def execSetEncoderParameters (seq : Nat) (s : State) : Host.Outcome State Fault Refusal := onDev (setEncoderParameters seq) s

/-- STOP_ENCODER (R351). -/
def execStopEncoder (seq : Nat) (s : State) : Host.Outcome State Fault Refusal := onDev (stopEncoder seq) s

/-- ENCODER_ROW_DONE (R346). -/
def execEncoderRowDone (core : Fin 2) (row : EncRow) (s : State) : Host.Outcome State Fault Refusal := onDev (encoderRowDone core.val row) s

/-- ENCODER_PICTURE_DONE (R346). -/
def execEncoderPictureDone (core : Fin 2) (hash : List Byte) (filler : List Byte) (s : State) : Host.Outcome State Fault Refusal := onDev (encoderPictureDone core.val hash filler) s

/-- ENCODER_CORE_ERROR (R350). -/
def execEncoderCoreError (core : Fin 2) (check : Byte) (state : List Byte) (s : State) : Host.Outcome State Fault Refusal := onDev (encoderCoreError core.val check.toNat state) s

/-- START_DECODER (R357). -/
def execStartDecoder (seq : Nat) (s : State) : Host.Outcome State Fault Refusal := onDev (startDecoder seq) s

/-- RESTART_DECODER (R357). -/
def execRestartDecoder (seq : Nat) (s : State) : Host.Outcome State Fault Refusal := onDev (restartDecoder seq) s

/-- STOP_DECODER (R358). -/
def execStopDecoder (seq : Nat) (s : State) : Host.Outcome State Fault Refusal := onDev (stopDecoder seq) s

/-- DECODER_NAL (R354). -/
def execDecoderNal (length : Nat) (result : NalResult) (s : State) : Host.Outcome State Fault Refusal := onDev (decoderNal length result) s

/-- DECODER_CORE_ERROR (R358). -/
def execDecoderCoreError (check : Byte) (state : List Byte) (s : State) : Host.Outcome State Fault Refusal := onDev (decoderCoreError check.toNat state) s

end Sys2Proof.Machine
end

