-- ==== Sys2Proof/Machine/CmdCore.lean ====
section
/-!
DEFINITION. The meaning of each command of the Yumar cores: one row per instruction, and the events of a core.
Yumar cores (R43 to R99).
-/
set_option autoImplicit false

namespace Sys2Proof.Machine

/-- ADDI (R60). -/
def execAddi (core : Fin 84) (s : State) : Host.Outcome State Fault Refusal := onDev (fun d => d.coreRow core.val .addi) s

/-- ANDI (R60). -/
def execAndi (core : Fin 84) (s : State) : Host.Outcome State Fault Refusal := onDev (fun d => d.coreRow core.val .andi) s

/-- ORI (R60). -/
def execOri (core : Fin 84) (s : State) : Host.Outcome State Fault Refusal := onDev (fun d => d.coreRow core.val .ori) s

/-- XORI (R60). -/
def execXori (core : Fin 84) (s : State) : Host.Outcome State Fault Refusal := onDev (fun d => d.coreRow core.val .xori) s

/-- SLTI (R60). -/
def execSlti (core : Fin 84) (s : State) : Host.Outcome State Fault Refusal := onDev (fun d => d.coreRow core.val .slti) s

/-- MULI (R60). -/
def execMuli (core : Fin 84) (s : State) : Host.Outcome State Fault Refusal := onDev (fun d => d.coreRow core.val .muli) s

/-- ADDAI (R60). -/
def execAddai (core : Fin 84) (s : State) : Host.Outcome State Fault Refusal := onDev (fun d => d.coreRow core.val .addai) s

/-- VIMM (R60). -/
def execVimm (core : Fin 84) (s : State) : Host.Outcome State Fault Refusal := onDev (fun d => d.coreRow core.val .vimm) s

/-- SALU (R61). -/
def execSalu (core : Fin 84) (s : State) : Host.Outcome State Fault Refusal := onDev (fun d => d.coreRow core.val .salu) s

/-- PRED (R67). -/
def execPred (core : Fin 84) (s : State) : Host.Outcome State Fault Refusal := onDev (fun d => d.coreRow core.val .pred) s

/-- LDL (R72). -/
def execLdl (core : Fin 84) (s : State) : Host.Outcome State Fault Refusal := onDev (fun d => d.coreRow core.val .ldl) s

/-- LDLU (R72). -/
def execLdlu (core : Fin 84) (s : State) : Host.Outcome State Fault Refusal := onDev (fun d => d.coreRow core.val .ldlu) s

/-- STL (R72). -/
def execStl (core : Fin 84) (s : State) : Host.Outcome State Fault Refusal := onDev (fun d => d.coreRow core.val .stl) s

/-- LDG (R75). -/
def execLdg (core : Fin 84) (s : State) : Host.Outcome State Fault Refusal := onDev (fun d => d.coreRow core.val .ldg) s

/-- STG (R72). -/
def execStg (core : Fin 84) (s : State) : Host.Outcome State Fault Refusal := onDev (fun d => d.coreRow core.val .stg) s

/-- BCC (R68). -/
def execBcc (core : Fin 84) (s : State) : Host.Outcome State Fault Refusal := onDev (fun d => d.coreRow core.val .bcc) s

/-- BP (R68). -/
def execBp (core : Fin 84) (s : State) : Host.Outcome State Fault Refusal := onDev (fun d => d.coreRow core.val .bp) s

/-- JAL (R68). -/
def execJal (core : Fin 84) (s : State) : Host.Outcome State Fault Refusal := onDev (fun d => d.coreRow core.val .jal) s

/-- LOOP (R77). -/
def execLoop (core : Fin 84) (s : State) : Host.Outcome State Fault Refusal := onDev (fun d => d.coreRow core.val .loop) s

/-- VALU (R62). -/
def execValu (core : Fin 84) (s : State) : Host.Outcome State Fault Refusal := onDev (fun d => d.coreRow core.val .valu) s

/-- VCMP (R63). -/
def execVcmp (core : Fin 84) (s : State) : Host.Outcome State Fault Refusal := onDev (fun d => d.coreRow core.val .vcmp) s

/-- VPERM (R64). -/
def execVperm (core : Fin 84) (s : State) : Host.Outcome State Fault Refusal := onDev (fun d => d.coreRow core.val .vperm) s

/-- VMAC (R65). -/
def execVmac (core : Fin 84) (s : State) : Host.Outcome State Fault Refusal := onDev (fun d => d.coreRow core.val .vmac) s

/-- VLUT (R66). -/
def execVlut (core : Fin 84) (s : State) : Host.Outcome State Fault Refusal := onDev (fun d => d.coreRow core.val .vlut) s

/-- SIN (R79). -/
def execSin (core : Fin 84) (s : State) : Host.Outcome State Fault Refusal := onDev (fun d => d.coreRow core.val .sin) s

/-- SOUT (R79). -/
def execSout (core : Fin 84) (s : State) : Host.Outcome State Fault Refusal := onDev (fun d => d.coreRow core.val .sout) s

/-- SMARKR (R79). -/
def execSmarkr (core : Fin 84) (s : State) : Host.Outcome State Fault Refusal := onDev (fun d => d.coreRow core.val .smarkr) s

/-- SMARKW (R79). -/
def execSmarkw (core : Fin 84) (s : State) : Host.Outcome State Fault Refusal := onDev (fun d => d.coreRow core.val .smarkw) s

/-- SAVAIL (R79). -/
def execSavail (core : Fin 84) (s : State) : Host.Outcome State Fault Refusal := onDev (fun d => d.coreRow core.val .savail) s

/-- SHEAD (R79). -/
def execShead (core : Fin 84) (s : State) : Host.Outcome State Fault Refusal := onDev (fun d => d.coreRow core.val .shead) s

/-- CRD (R83). -/
def execCrd (core : Fin 84) (s : State) : Host.Outcome State Fault Refusal := onDev (fun d => d.coreRow core.val .crd) s

/-- CWR (R83). -/
def execCwr (core : Fin 84) (s : State) : Host.Outcome State Fault Refusal := onDev (fun d => d.coreRow core.val .cwr) s

/-- CSET (R83). -/
def execCset (core : Fin 84) (s : State) : Host.Outcome State Fault Refusal := onDev (fun d => d.coreRow core.val .cset) s

/-- CCLR (R83). -/
def execCclr (core : Fin 84) (s : State) : Host.Outcome State Fault Refusal := onDev (fun d => d.coreRow core.val .cclr) s

/-- YIELD (R117). -/
def execYield (core : Fin 84) (s : State) : Host.Outcome State Fault Refusal := onDev (fun d => d.coreRow core.val .yield) s

/-- HALT (R69). -/
def execHalt (core : Fin 84) (s : State) : Host.Outcome State Fault Refusal := onDev (fun d => d.coreRow core.val .halt) s

/-- SVC (R69). -/
def execSvc (core : Fin 84) (s : State) : Host.Outcome State Fault Refusal := onDev (fun d => d.coreRow core.val .svc) s

/-- WDKICK (R93). -/
def execWdkick (core : Fin 84) (s : State) : Host.Outcome State Fault Refusal := onDev (fun d => d.coreRow core.val .wdkick) s

/-- FENCE (R69). -/
def execFence (core : Fin 84) (s : State) : Host.Outcome State Fault Refusal := onDev (fun d => d.coreRow core.val .fence) s

/-- IFLUSH (R69). -/
def execIflush (core : Fin 84) (s : State) : Host.Outcome State Fault Refusal := onDev (fun d => d.coreRow core.val .iflush) s

/-- SKIPSTRIP (R69). -/
def execSkipstrip (core : Fin 84) (s : State) : Host.Outcome State Fault Refusal := onDev (fun d => d.coreRow core.val .skipstrip) s

/-- RESUME (R49). -/
def execResume (core : Fin 84) (s : State) : Host.Outcome State Fault Refusal := onDev (fun d => d.coreRow core.val .resume) s

/-- RESUMEI (R69). -/
def execResumei (core : Fin 84) (s : State) : Host.Outcome State Fault Refusal := onDev (fun d => d.coreRow core.val .resumei) s

/-- WAITI (R69). -/
def execWaiti (core : Fin 84) (s : State) : Host.Outcome State Fault Refusal := onDev (fun d => d.coreRow core.val .waiti) s

/-- GLOBAL_LOAD_RETURN (R75). -/
def execGlobalLoadReturn (core : Fin 84) (load : Nat) (s : State) : Host.Outcome State Fault Refusal := onDev (globalLoadReturn core.val load) s

/-- WATCHDOG (R93). -/
def execWatchdog (core : Fin 84) (s : State) : Host.Outcome State Fault Refusal := onDev (watchdogRow core.val) s

/-- WINDLASS_INTERRUPT (R92). -/
def execWindlassInterrupt (core : Fin 4) (source : Option Byte) (s : State) : Host.Outcome State Fault Refusal := onDev (windlassInterrupt core.val (source.map (·.toNat))) s

/-- STRIP_SKIP (R94). -/
def execStripSkip (core : Fin 80) (s : State) : Host.Outcome State Fault Refusal := onDev (stripSkip core.val) s

end Sys2Proof.Machine
end

