-- ==== Sys2Proof/Machine/CmdGraph.lean ====
section
/-!
DEFINITION. The meaning of each command of graphs, stages and strips.
Graphs and stages (R100 to R141).
-/
set_option autoImplicit false

namespace Sys2Proof.Machine

/-- PREEMPT_REQUEST (R96). -/
def execPreemptRequest (core : Fin 80) (slot : Nat) (s : State) : Host.Outcome State Fault Refusal := onDev (preemptRequest core.val slot) s

/-- LOAD_PROGRAM (R103). -/
def execLoadProgram (seq : Nat) (s : State) : Host.Outcome State Fault Refusal := onDev (loadProgram seq) s

/-- BUILD_GRAPH (R105). -/
def execBuildGraph (seq : Nat) (s : State) : Host.Outcome State Fault Refusal := onDev (buildGraph seq) s

/-- START_GRAPH (R125). -/
def execStartGraph (seq : Nat) (s : State) : Host.Outcome State Fault Refusal := onDev (startGraph seq) s

/-- STOP_GRAPH (R141). -/
def execStopGraph (seq : Nat) (s : State) : Host.Outcome State Fault Refusal := onDev (stopGraph seq) s

/-- RELEASE_GRAPH (R140). -/
def execReleaseGraph (seq : Nat) (s : State) : Host.Outcome State Fault Refusal := onDev (releaseGraph seq) s

/-- SET_PARAMETERS (R126). -/
def execSetParameters (seq : Nat) (s : State) : Host.Outcome State Fault Refusal := onDev (setParameters seq) s

/-- SET_PARAMS_BANK_FREE (R128). -/
def execSetParamsBankFree (seq : Nat) (s : State) : Host.Outcome State Fault Refusal := onDev (setParamsBankFree seq) s

/-- REPLACE_PROGRAM (R129). -/
def execReplaceProgram (seq : Nat) (s : State) : Host.Outcome State Fault Refusal := onDev (replaceProgram seq) s

/-- STRIP_DISPATCH (R121). -/
def execStripDispatch (graph : Nat) (s : State) : Host.Outcome State Fault Refusal := onDev (stripDispatch graph) s

/-- PILOT_COVER_STRIP_DONE (R261). -/
def execPilotCoverStripDone (s : State) : Host.Outcome State Fault Refusal := onDev pilotCoverStripDone s

/-- RT_STALL_PREEMPT (R123). -/
def execRtStallPreempt (core : Fin 80) (s : State) : Host.Outcome State Fault Refusal := onDev (rtStallPreempt core.val) s

/-- BG_QUANTUM_EXPIRY (R120). -/
def execBgQuantumExpiry (core : Fin 80) (s : State) : Host.Outcome State Fault Refusal := onDev (bgQuantumExpiry core.val) s

/-- FRAME_ADMIT (R130). -/
def execFrameAdmit (graph : Nat) (ctx : Fin 5) (s : State) : Host.Outcome State Fault Refusal := onDev (frameAdmit graph ctx.val) s

/-- FRAME_PUBLISH (R134). -/
def execFramePublish (graph : Nat) (ctx : Fin 5) (s : State) : Host.Outcome State Fault Refusal := onDev (framePublish graph ctx.val) s

/-- PUMP_WITHDRAW (R137). -/
def execPumpWithdraw (core : Fin 80) (s : State) : Host.Outcome State Fault Refusal := onDev (pumpWithdraw core.val) s

/-- PUMP_SELF_TEST_START (R137). -/
def execPumpSelfTestStart (core : Fin 80) (s : State) : Host.Outcome State Fault Refusal := onDev (pumpSelfTestStart core.val) s

/-- CISTERN_COPY_DONE (R139). -/
def execCisternCopyDone (well : Fin 16) (s : State) : Host.Outcome State Fault Refusal := onDev (cisternCopyDone well.val) s

/-- BOUNDARY_TIMEOUT (R141). -/
def execBoundaryTimeout (kind : Fin 13) (index : Nat) (s : State) : Host.Outcome State Fault Refusal :=
  onDevIf (kind != 0) (boundaryTimeout kind.val index) s

end Sys2Proof.Machine
end

