-- ==== Sys2Proof/Machine/CmdHost.lean ====
section
/-!
DEFINITION. The meaning of each command of the queue front, the clip store, the journal and the host interface.
Host queues, clip store and journal (R359 to R402), register access and die links.
-/
set_option autoImplicit false

namespace Sys2Proof.Machine

/-- DOORBELL_WRITE (R362). -/
def execDoorbellWrite (completion : Bool) (queue : Word16) (value : Word32) (s : State) : Host.Outcome State Fault Refusal := onDev (doorbellWrite completion queue.toNat value.toNat) s

/-- COMMAND_FETCH (R369). -/
def execCommandFetch (queue : Word16) (entry : Sqe) (data : List Byte) (s : State) : Host.Outcome State Fault Refusal := onDev (commandFetch queue.toNat entry data) s

/-- CONTROLLER_ENABLE (R499). -/
def execControllerEnable (asq : Nat) (acq : Nat) (s : State) : Host.Outcome State Fault Refusal := onDev (controllerEnable asq acq) s

/-- CONTROLLER_RESET (R375). -/
def execControllerReset (s : State) : Host.Outcome State Fault Refusal := onDev controllerReset s

/-- SHUTDOWN_NOTIFICATION (R377). -/
def execShutdownNotification (shn : BitVec 2) (s : State) : Host.Outcome State Fault Refusal := onDev (shutdownNotification shn.toNat) s

/-- CREATE_IO_SQ (R360). -/
def execCreateIoSq (seq : Nat) (s : State) : Host.Outcome State Fault Refusal := onDev (createIoSq seq) s

/-- DELETE_IO_SQ (R376). -/
def execDeleteIoSq (seq : Nat) (s : State) : Host.Outcome State Fault Refusal := onDev (deleteIoSq seq) s

/-- CREATE_IO_CQ (R360). -/
def execCreateIoCq (seq : Nat) (s : State) : Host.Outcome State Fault Refusal := onDev (createIoCq seq) s

/-- DELETE_IO_CQ (R360). -/
def execDeleteIoCq (seq : Nat) (s : State) : Host.Outcome State Fault Refusal := onDev (deleteIoCq seq) s

/-- GET_LOG_PAGE (R381). -/
def execGetLogPage (seq : Nat) (s : State) : Host.Outcome State Fault Refusal := onDev (getLogPage seq) s

/-- IDENTIFY (R360). -/
def execIdentify (seq : Nat) (s : State) : Host.Outcome State Fault Refusal := onDev (identify seq) s

/-- ABORT (R374). -/
def execAbort (seq : Nat) (s : State) : Host.Outcome State Fault Refusal := onDev (abort seq) s

/-- SET_FEATURES (R360). -/
def execSetFeatures (seq : Nat) (s : State) : Host.Outcome State Fault Refusal := onDev (setFeatures seq) s

/-- SET_POWER_STATE (R379). -/
def execSetPowerState (seq : Nat) (s : State) : Host.Outcome State Fault Refusal := onDev (setPowerState seq) s

/-- PS2_BUFFER_EMPTY (R380). -/
def execPs2BufferEmpty (s : State) : Host.Outcome State Fault Refusal := onDev ps2BufferEmpty s

/-- PS2_DRAIN_DONE (R380). -/
def execPs2DrainDone (timeout : Bool) (s : State) : Host.Outcome State Fault Refusal := onDev (ps2DrainDone timeout) s

/-- GET_FEATURES (R360). -/
def execGetFeatures (seq : Nat) (s : State) : Host.Outcome State Fault Refusal := onDev (getFeatures seq) s

/-- ASYNCHRONOUS_EVENT_REQUEST (R381). -/
def execAsynchronousEventRequest (seq : Nat) (s : State) : Host.Outcome State Fault Refusal := onDev (asynchronousEventRequest seq) s

/-- FIRMWARE_IMAGE_DOWNLOAD (R522). -/
def execFirmwareImageDownload (seq : Nat) (s : State) : Host.Outcome State Fault Refusal := onDev (firmwareImageDownload seq) s

/-- FIRMWARE_COMMIT (R522). -/
def execFirmwareCommit (seq : Nat) (s : State) : Host.Outcome State Fault Refusal := onDev (firmwareCommit seq) s

/-- FIRMWARE_ACTIVATE (R378). -/
def execFirmwareActivate (seq : Nat) (s : State) : Host.Outcome State Fault Refusal := onDev (firmwareActivate seq) s

/-- FW_ACTIVATION_PAUSE (R378). -/
def execFwActivationPause (s : State) : Host.Outcome State Fault Refusal := onDev fwActivationPause s

/-- FW_ACTIVATION_SWITCH (R378). -/
def execFwActivationSwitch (s : State) : Host.Outcome State Fault Refusal := onDev fwActivationSwitch s

/-- FW_SELF_CHECK_PASS (R378). -/
def execFwSelfCheckPass (s : State) : Host.Outcome State Fault Refusal := onDev fwSelfCheckPass s

/-- FW_SELF_CHECK_FAIL (R378). -/
def execFwSelfCheckFail (s : State) : Host.Outcome State Fault Refusal := onDev fwSelfCheckFail s

/-- FLUSH (R373). -/
def execFlush (seq : Nat) (s : State) : Host.Outcome State Fault Refusal := onDev (flush seq) s

/-- WRITE (R372). -/
def execWrite (seq : Nat) (s : State) : Host.Outcome State Fault Refusal := onDev (write seq) s

/-- WRITE_BUFFER_ROOM (R372). -/
def execWriteBufferRoom (s : State) : Host.Outcome State Fault Refusal := onDev writeBufferRoom s

/-- READ (R371). -/
def execRead (seq : Nat) (s : State) : Host.Outcome State Fault Refusal := onDev (read seq) s

/-- WRITE_ZEROES (R371). -/
def execWriteZeroes (seq : Nat) (s : State) : Host.Outcome State Fault Refusal := onDev (writeZeroes seq) s

/-- DATASET_MANAGEMENT (R371). -/
def execDatasetManagement (seq : Nat) (s : State) : Host.Outcome State Fault Refusal := onDev (datasetManagement seq) s

/-- STORE_WRITE_DONE (R392). -/
def execStoreWriteDone (part : StoreDone) (s : State) : Host.Outcome State Fault Refusal := onDev (storeWriteDone part) s

/-- INDEX_PAGE_FLUSH (R391). -/
def execIndexPageFlush (slot : Word16) (s : State) : Host.Outcome State Fault Refusal := onDev (indexPageFlush slot.toNat) s

/-- EXTENT_NEEDED (R394). -/
def execExtentNeeded (ctx : Fin 5) (s : State) : Host.Outcome State Fault Refusal := onDev (extentNeeded ctx.val) s

/-- CLIP_CLOSE (R393). -/
def execClipClose (ctx : Fin 5) (s : State) : Host.Outcome State Fault Refusal := onDev (clipClose ctx.val) s

/-- MANIFEST_READBACK_DONE (R532). -/
def execManifestReadbackDone (slot : Word16) (bad : List Nat) (s : State) : Host.Outcome State Fault Refusal := onDev (manifestReadbackDone slot.toNat bad) s

/-- REGISTER_WRITE (R383). -/
def execRegisterWrite (seq : Nat) (s : State) : Host.Outcome State Fault Refusal := onDev (registerWrite seq) s

/-- REGISTER_READ (R383). -/
def execRegisterRead (seq : Nat) (s : State) : Host.Outcome State Fault Refusal := onDev (registerRead seq) s

/-- READ_JOURNAL (R400). -/
def execReadJournal (seq : Nat) (s : State) : Host.Outcome State Fault Refusal := onDev (readJournal seq) s

/-- CONFIGURE_STORE (R396). -/
def execConfigureStore (seq : Nat) (s : State) : Host.Outcome State Fault Refusal := onDev (configureStore seq) s

/-- READ_SUMP (R505). -/
def execReadSump (seq : Nat) (s : State) : Host.Outcome State Fault Refusal := onDev (readSump seq) s

/-- READ_RETAINED_RECORD (R492). -/
def execReadRetainedRecord (seq : Nat) (s : State) : Host.Outcome State Fault Refusal := onDev (readRetainedRecord seq) s

/-- READ_INVENTORY (R402). -/
def execReadInventory (seq : Nat) (s : State) : Host.Outcome State Fault Refusal := onDev (readInventory seq) s

/-- READ_FRAME_RECORDS (R569). -/
def execReadFrameRecords (seq : Nat) (s : State) : Host.Outcome State Fault Refusal := onDev (readFrameRecords seq) s

/-- LIST_CLIPS (R366). -/
def execListClips (seq : Nat) (s : State) : Host.Outcome State Fault Refusal := onDev (listClips seq) s

/-- RELEASE_PROGRAM (R365). -/
def execReleaseProgram (seq : Nat) (s : State) : Host.Outcome State Fault Refusal := onDev (releaseProgram seq) s

/-- RELEASE_IMAGE (R365). -/
def execReleaseImage (seq : Nat) (s : State) : Host.Outcome State Fault Refusal := onDev (releaseImage seq) s

/-- CLIP_DELETE (R393). -/
def execClipDelete (seq : Nat) (s : State) : Host.Outcome State Fault Refusal := onDev (clipDelete seq) s

/-- CLIP_PROTECT (R393). -/
def execClipProtect (seq : Nat) (s : State) : Host.Outcome State Fault Refusal := onDev (clipProtect seq) s

/-- CLIP_UNPROTECT (R393). -/
def execClipUnprotect (seq : Nat) (s : State) : Host.Outcome State Fault Refusal := onDev (clipUnprotect seq) s

/-- SAFE_ALL (R385). -/
def execSafeAll (key : Byte) (s : State) : Host.Outcome State Fault Refusal := onDev (safeAll key.toNat) s

/-- SAFE_CLEAR (R385). -/
def execSafeClear (key : Byte) (s : State) : Host.Outcome State Fault Refusal := onDev (safeClear key.toNat) s

/-- FETCH_HALT (R385). -/
def execFetchHalt (key : Byte) (s : State) : Host.Outcome State Fault Refusal := onDev (fetchHalt key.toNat) s

/-- REC_STOP (R385). -/
def execRecStop (key : Byte) (s : State) : Host.Outcome State Fault Refusal := onDev (recStop key.toNat) s

/-- JOURNAL_CHECKPOINT (R401). -/
def execJournalCheckpoint (s : State) : Host.Outcome State Fault Refusal := onDev journalCheckpoint s

/-- BAR0_BAD_ACCESS (R41). -/
def execBar0BadAccess (offset : Word32) (width : Nat) (isWrite : Bool) (value : Word64) (s : State) : Host.Outcome State Fault Refusal := onDev (bar0Access offset.toNat width isWrite value.toNat) s

/-- DEBUG_WINDOW_ACCESS (R42). -/
def execDebugWindowAccess (window : Fin 4) (offset : BitVec 18) (isWrite : Bool) (value : Word32) (s : State) : Host.Outcome State Fault Refusal := onDev (debugWindowAccess window.val offset.toNat isWrite value.toNat) s

/-- FLIT_CRC_RETRY (R25). -/
def execFlitCrcRetry (link : Fin 3) (far : Bool) (linkLane : Fin 64) (ok : Bool) (s : State) : Host.Outcome State Fault Refusal :=
  onDev (flitCrcRetry link.val far linkLane.val ok) s

/-- DIE_LINK_RETRAINED (R27). -/
def execDieLinkRetrained (link : Fin 3) (s : State) : Host.Outcome State Fault Refusal := onDev (dieLinkRetrained link.val) s

end Sys2Proof.Machine
end

