-- ==== Sys2Proof/Machine/CmdLane.lean ====
section
/-!
DEFINITION. The meaning of each command of time distribution, serial lanes and Ethernet ports.
Serial lanes (R403 to R439).
-/
set_option autoImplicit false

namespace Sys2Proof.Machine

/-- TIME_COUNT_BROADCAST (R38). -/
def execTimeCountBroadcast (s : State) : Host.Outcome State Fault Refusal := onDev timeCountBroadcast s

/-- LANE_SIGNAL_DETECT (R411). -/
def execLaneSignalDetect (lane : Fin 96) (s : State) : Host.Outcome State Fault Refusal := onDev (laneSignalDetect lane.val) s

/-- TRAINING_REQUEST (R414). -/
def execTrainingRequest (lane : Fin 96) (request : TrainReq) (s : State) : Host.Outcome State Fault Refusal :=
  onDevIf (request.ok) (trainingRequest lane.val request) s

/-- LANE_TRAINING_DONE (R414). -/
def execLaneTrainingDone (lane : Fin 96) (s : State) : Host.Outcome State Fault Refusal := onDev (laneTrainingDone lane.val) s

/-- LANE_BIT_LOCK (R418). -/
def execLaneBitLock (lane : Fin 96) (s : State) : Host.Outcome State Fault Refusal := onDev (laneBitLock lane.val) s

/-- LANE_BLOCK_LOCK (R418). -/
def execLaneBlockLock (lane : Fin 96) (s : State) : Host.Outcome State Fault Refusal := onDev (laneBlockLock lane.val) s

/-- LINK_CAPEX_DONE (R411). -/
def execLinkCapexDone (lane : Fin 96) (rate : Fin 8) (s : State) : Host.Outcome State Fault Refusal := onDev (linkCapexDone lane.val rate.val) s

/-- FLOW_RESUME (R424). -/
def execFlowResume (port : Fin 6) (member : Fin 4) (s : State) : Host.Outcome State Fault Refusal := onDev (flowResume port.val member.val) s

/-- BRINGUP_TIMEOUT (R412). -/
def execBringupTimeout (lane : Fin 96) (s : State) : Host.Outcome State Fault Refusal := onDev (bringupTimeout lane.val) s

/-- BRINGUP_RETRY (R425). -/
def execBringupRetry (lane : Fin 96) (s : State) : Host.Outcome State Fault Refusal := onDev (bringupRetry lane.val) s

/-- LANE_LOCK_LOSS (R423). -/
def execLaneLockLoss (lane : Fin 96) (cause : Fin 2) (s : State) : Host.Outcome State Fault Refusal := onDev (laneLockLoss lane.val cause.val) s

/-- ADAPTATION_FREEZE (R421). -/
def execAdaptationFreeze (lane : Fin 96) (s : State) : Host.Outcome State Fault Refusal := onDev (adaptationFreeze lane.val) s

/-- ADAPTATION_RESUME (R421). -/
def execAdaptationResume (lane : Fin 96) (s : State) : Host.Outcome State Fault Refusal := onDev (adaptationResume lane.val) s

/-- LANE_DRIFT (R422). -/
def execLaneDrift (lane : Fin 96) (coefficient : Byte) (value : Word16) (quiet : Nat) (s : State) : Host.Outcome State Fault Refusal := onDev (laneDrift lane.val coefficient.toNat value.toNat quiet) s

/-- LANE_FENCE (R426). -/
def execLaneFence (lane : Fin 96) (width : Nat) (rate : Fin 8) (s : State) : Host.Outcome State Fault Refusal := onDev (laneFence lane.val width rate.val) s

/-- ENDPOINT_LINK_DOWN (R427). -/
def execEndpointLinkDown (s : State) : Host.Outcome State Fault Refusal := onDev endpointLinkDown s

/-- NVME_ROOT_PORT_LOSS (R428). -/
def execNvmeRootPortLoss (ssd : Fin 4) (s : State) : Host.Outcome State Fault Refusal := onDev (nvmeRootPortLoss ssd.val) s

/-- REFCLK_WINDOW (R408). -/
def execRefclkWindow (island : Fin 6) (ppm : Option Int) (s : State) : Host.Outcome State Fault Refusal := onDev (refclkWindow island.val ppm) s

/-- LANE_TEST (R431). -/
def execLaneTest (lane : Fin 96) (s : State) : Host.Outcome State Fault Refusal := onDev (laneTest lane.val) s

/-- LANE_RETRY (R439). -/
def execLaneRetry (lane : Fin 96) (s : State) : Host.Outcome State Fault Refusal := onDev (laneRetry lane.val) s

/-- LANE_TEST_DONE (R431). -/
def execLaneTestDone (lane : Fin 96) (errors : Word32) (checked : Word64) (s : State) : Host.Outcome State Fault Refusal := onDev (laneTestEvent lane.val errors.toNat checked.toNat) s

/-- LANE_EQ_WRITE (R439). -/
def execLaneEqWrite (lane : Fin 96) (value : Word32) (s : State) : Host.Outcome State Fault Refusal := onDev (laneEqWrite lane.val value.toNat) s

/-- LANE_GRP_SEL_WRITE (R439). -/
def execLaneGrpSelWrite (value : Word32) (s : State) : Host.Outcome State Fault Refusal := onDev (laneGrpSelWrite value.toNat) s

/-- ETH_IP_WRITE (R439). -/
def execEthIpWrite (port : Fin 6) (value : Word32) (s : State) : Host.Outcome State Fault Refusal := onDev (ethIpWrite port.val value.toNat) s

/-- ETH_FRAME_RECEIVED (R433). -/
def execEthFrameReceived (port : Fin 6) (frame : EthFrame) (s : State) : Host.Outcome State Fault Refusal := onDev (ethFrameReceived port.val frame) s

/-- ARP_REFRESH (R433). -/
def execArpRefresh (port : Fin 6) (s : State) : Host.Outcome State Fault Refusal := onDev (arpRefresh port.val) s

/-- SDI_RATE_STEER (R409). -/
def execSdiRateSteer (s : State) : Host.Outcome State Fault Refusal := onDev sdiRateSteer s

end Sys2Proof.Machine
end

