-- ==== Sys2Proof/Machine/CmdMemory.lean ====
section
/-!
DEFINITION. The meaning of each command of address spaces, mappings, DRAM, CXL and siphons.
Memory and siphons (R142 to R194).
-/
set_option autoImplicit false

namespace Sys2Proof.Machine

/-- CREATE_SPACE (R147). -/
def execCreateSpace (seq : Nat) (s : State) : Host.Outcome State Fault Refusal := onDev (createSpace seq) s

/-- DESTROY_SPACE (R147). -/
def execDestroySpace (seq : Nat) (s : State) : Host.Outcome State Fault Refusal := onDev (destroySpace seq) s

/-- MAP_MEMORY (R148). -/
def execMapMemory (seq : Nat) (s : State) : Host.Outcome State Fault Refusal := onDev (mapMemory seq) s

/-- UNMAP_MEMORY (R154). -/
def execUnmapMemory (seq : Nat) (s : State) : Host.Outcome State Fault Refusal := onDev (unmapMemory seq) s

/-- REMAP_MEMORY (R154). -/
def execRemapMemory (seq : Nat) (s : State) : Host.Outcome State Fault Refusal := onDev (remapMemory seq) s

/-- PIN_MEMORY (R150). -/
def execPinMemory (seq : Nat) (s : State) : Host.Outcome State Fault Refusal := onDev (pinMemory seq) s

/-- UNPIN_MEMORY (R154). -/
def execUnpinMemory (seq : Nat) (s : State) : Host.Outcome State Fault Refusal := onDev (unpinMemory seq) s

/-- INVALIDATION_POINT (R154). -/
def execInvalidationPoint (walk : Nat) (s : State) : Host.Outcome State Fault Refusal := onDev (invalidationPoint walk) s

/-- LEASE_RETIRE (R158). -/
def execLeaseRetire (lease : Nat) (s : State) : Host.Outcome State Fault Refusal := onDev (leaseRetire lease) s

/-- LEASE_BROKEN (R161). -/
def execLeaseBroken (lease : Nat) (s : State) : Host.Outcome State Fault Refusal := onDev (leaseBroken lease) s

/-- TRANSLATION_RESOLVE (R153). -/
def execTranslationResolve (walk : Nat) (s : State) : Host.Outcome State Fault Refusal := onDev (translationResolve walk) s

/-- FAULT_SERVICE (R157). -/
def execFaultService (requester : Requester) (resume : Bool) (s : State) : Host.Outcome State Fault Refusal :=
  onDevIf (requester.ok) (faultService requester resume) s

/-- PAGE_MOVE (R150). -/
def execPageMove (asid : BitVec 12) (va : BitVec 48) (s : State) : Host.Outcome State Fault Refusal := onDev (pageMove asid.toNat va.toNat) s

/-- MEMORY_READ_COMPLETE (R173). -/
def execMemoryReadComplete (requester : Requester) (pa : BitVec 52) (bank : Nat) (row : Nat) (how : ReadEnd) (s : State) : Host.Outcome State Fault Refusal :=
  onDevIf (requester.ok) (memoryReadComplete requester pa.toNat bank row how) s

/-- PATROL_SCRUB (R178). -/
def execPatrolScrub (pa : BitVec 52) (bank : Nat) (row : Nat) (how : ReadEnd) (s : State) : Host.Outcome State Fault Refusal := onDev (patrolScrub pa.toNat bank row how) s

/-- SELF_REFRESH_ENTRY (R179). -/
def execSelfRefreshEntry (channel : Fin 24) (idle : Word32) (s : State) : Host.Outcome State Fault Refusal :=
  onDev (selfRefreshEntry channel.val idle.toNat) s

/-- SELF_REFRESH_EXIT (R179). -/
def execSelfRefreshExit (channel : Fin 24) (s : State) : Host.Outcome State Fault Refusal := onDev (selfRefreshExit channel.val) s

/-- REFRESH_INTERVAL (R175). -/
def execRefreshInterval (channel : Fin 24) (waiting : List Requester) (s : State) : Host.Outcome State Fault Refusal :=
  onDevIf (waiting.all Requester.ok) (refreshInterval channel.val waiting) s

/-- DQS_OSCILLATOR_CHECK (R180). -/
def execDqsOscillatorCheck (channel : Fin 24) (drift : Bool) (retrained : Bool) (s : State) : Host.Outcome State Fault Refusal := onDev (dqsOscillatorCheck channel.val drift retrained) s

/-- ZQ_CALIBRATION (R180). -/
def execZqCalibration (channel : Fin 24) (s : State) : Host.Outcome State Fault Refusal := onDev (zqCalibration channel.val) s

/-- WRITE_QUEUE_DRAIN (R174). -/
def execWriteQueueDrain (channel : Fin 24) (filled : Fin 65) (writers : List Requester) (s : State) : Host.Outcome State Fault Refusal :=
  onDevIf (writers.all Requester.ok) (writeQueueDrain channel.val filled.val writers) s

/-- FLOAT_CROSSING (R182). -/
def execFloatCrossing (float : Fin 128) (level : BitVec 14) (s : State) : Host.Outcome State Fault Refusal := onDev (floatCrossing float.val level.toNat) s

/-- REGULATOR_WINDOW (R183). -/
def execRegulatorWindow (controller : Fin 12) (share : Fin 101) (s : State) : Host.Outcome State Fault Refusal := onDev (regulatorWindow controller.val share.val) s

/-- CHANNEL_LASTING_FAULT (R185). -/
def execChannelLastingFault (channel : Fin 24) (why : ChanFault) (s : State) : Host.Outcome State Fault Refusal := onDev (channelLastingFault channel.val why) s

/-- SPARE_OUT_DONE (R186). -/
def execSpareOutDone (s : State) : Host.Outcome State Fault Refusal := onDev spareOutDone s

/-- CXL_EVENT_RECORD (R191). -/
def execCxlEventRecord (port : Fin 2) (addr : Word64) (bytes : List Byte) (s : State) : Host.Outcome State Fault Refusal :=
  onDevIf (bytes.length ≤ 16) (cxlEventRecord port.val addr.toNat bytes) s

/-- CXL_LANE_RETRAIN (R192). -/
def execCxlLaneRetrain (port : Fin 2) (width : Nat) (s : State) : Host.Outcome State Fault Refusal := onDev (cxlLaneRetrain port.val width) s

/-- CXL_MEMORY_UNAVAILABLE (R193). -/
def execCxlMemoryUnavailable (port : Fin 2) (s : State) : Host.Outcome State Fault Refusal := onDev (cxlMemoryUnavailable port.val) s

/-- START_SIPHON (R164). -/
def execStartSiphon (seq : Nat) (s : State) : Host.Outcome State Fault Refusal := onDev (startSiphon seq) s

/-- STOP_SIPHON (R171). -/
def execStopSiphon (seq : Nat) (s : State) : Host.Outcome State Fault Refusal := onDev (stopSiphon seq) s

/-- SIPHON_DESCRIPTOR_DONE (R167). -/
def execSiphonDescriptorDone (chan : Nat) (s : State) : Host.Outcome State Fault Refusal := onDev (siphonDescriptorDone chan) s

/-- SIPHON_RT_WORK (R165). -/
def execSiphonRtWork (well : Fin 16) (units : Nat) (s : State) : Host.Outcome State Fault Refusal := onDev (siphonRtWork well.val units) s

end Sys2Proof.Machine
end

