-- ==== Sys2Proof/Machine/CmdMotion.lean ====
section
/-!
DEFINITION. The meaning of each command of audio ports and motion axes.
Audio and motion (R462 to R488).
-/
set_option autoImplicit false

namespace Sys2Proof.Machine

/-- START_AUDIO_PORT (R468). -/
def execStartAudioPort (seq : Nat) (s : State) : Host.Outcome State Fault Refusal := onDev (startAudioPort seq) s

/-- STOP_AUDIO_PORT (R472). -/
def execStopAudioPort (seq : Nat) (s : State) : Host.Outcome State Fault Refusal := onDev (stopAudioPort seq) s

/-- PDM_CLOCK_WINDOW (R464). -/
def execPdmClockWindow (clock : Fin 4) (hz : Option Nat) (part : List (Nat × AudBits)) (s : State) : Host.Outcome State Fault Refusal := onDev (pdmClockWindow clock.val hz part) s

/-- AUDIO_BLOCK_DONE (R466). -/
def execAudioBlockDone (port : Fin 16) (bits : AudBits) (s : State) : Host.Outcome State Fault Refusal := onDev (audioBlockDone port.val bits) s

/-- AUDIO_MASK_WRITE (R470). -/
def execAudioMaskWrite (port : Fin 16) (value : BitVec 2) (s : State) : Host.Outcome State Fault Refusal := onDev (audioMaskWrite port.val value.toNat) s

/-- AUD_STUCK (R485). -/
def execAudStuck (port : Fin 16) (slot : Fin 2) (level : Bool) (s : State) : Host.Outcome State Fault Refusal := onDev (audStuck port.val slot.val level) s

/-- AUDIO_STREAM_ENABLE (R473). -/
def execAudioStreamEnable (stream : Fin 32) (enable : Bool) (s : State) : Host.Outcome State Fault Refusal := onDev (audioStreamEnable stream.val enable) s

/-- AUDIO_STREAM_PACKET (R473). -/
def execAudioStreamPacket (stream : Fin 32) (s : State) : Host.Outcome State Fault Refusal := onDev (audioStreamPacket stream.val) s

/-- START_MOTION_AXIS (R484). -/
def execStartMotionAxis (seq : Nat) (s : State) : Host.Outcome State Fault Refusal := onDev (startMotionAxis seq) s

/-- STOP_MOTION_AXIS (R484). -/
def execStopMotionAxis (seq : Nat) (s : State) : Host.Outcome State Fault Refusal := onDev (stopMotionAxis seq) s

/-- AXIS_COUNT (R475). -/
def execAxisCount (axis : Fin 32) (edge : AxisEdge) (time : Nat) (s : State) : Host.Outcome State Fault Refusal := onDev (axisCount axis.val edge time) s

/-- SPEED_DECAY (R478). -/
def execSpeedDecay (axis : Fin 32) (time : Nat) (s : State) : Host.Outcome State Fault Refusal := onDev (speedDecay axis.val time) s

/-- AXIS_STANDSTILL (R479). -/
def execAxisStandstill (axis : Fin 32) (time : Nat) (s : State) : Host.Outcome State Fault Refusal := onDev (axisStandstill axis.val time) s

/-- AXIS_INDEX_EDGE (R480). -/
def execAxisIndexEdge (axis : Fin 32) (s : State) : Host.Outcome State Fault Refusal := onDev (axisIndexEdge axis.val) s

/-- AXIS_COMPARE_ARM (R481). -/
def execAxisCompareArm (axis : Fin 32) (s : State) : Host.Outcome State Fault Refusal := onDev (axisCompareArm axis.val) s

/-- AXIS_SAMPLE_READ (R488). -/
def execAxisSampleRead (axis : Fin 32) (s : State) : Host.Outcome State Fault Refusal := onDev (axisSampleRead axis.val) s

/-- AX_CMP_TIME_READ (R488). -/
def execAxCmpTimeRead (axis : Fin 32) (s : State) : Host.Outcome State Fault Refusal := onDev (axCmpTimeRead axis.val) s

end Sys2Proof.Machine
end

