-- ==== Sys2Proof/Machine/CmdPrime.lean ====
section
/-!
DEFINITION. The meaning of each command of priming, the sump and self-tests.
Priming and faults (R489 to R516).
-/
set_option autoImplicit false

namespace Sys2Proof.Machine

/-- PRIMING_START (R494). -/
def execPrimingStart (straps : BitVec 4) (s : State) : Host.Outcome State Fault Refusal := onDev (primingStart straps.toNat) s

/-- PM00_BOOT_ROM (R521). -/
def execPm00BootRom (how : StepEnd) (s : State) : Host.Outcome State Fault Refusal := onDev (pm00 how) s

/-- PM01_RETAINED_RECORD (R497). -/
def execPm01RetainedRecord (how : StepEnd) (s : State) : Host.Outcome State Fault Refusal := onDev (pm01 how) s

/-- PM02_CLOCKS_ISLANDS (R494). -/
def execPm02ClocksIslands (how : StepEnd) (s : State) : Host.Outcome State Fault Refusal := onDev (pm02 how) s

/-- PM03_PCIE_ENDPOINT (R494). -/
def execPm03PcieEndpoint (how : StepEnd) (s : State) : Host.Outcome State Fault Refusal := onDev (pm03 how) s

/-- PM04_DIE_LINKS (R494). -/
def execPm04DieLinks (repairs : List (Fin 4 × Fin 64)) (how : StepEnd) (s : State) : Host.Outcome State Fault Refusal :=
  onDev (pm04 (repairs.map (fun e => (e.1.val, e.2.val))) how) s

/-- PM05_DRAM_TRAINING (R172). -/
def execPm05DramTraining (channels : List ChanProbe) (how : StepEnd) (s : State) : Host.Outcome State Fault Refusal :=
  onDevIf (channels.length == 24) (pm05 channels how) s

/-- PM06_DRAM_INIT (R494). -/
def execPm06DramInit (how : StepEnd) (s : State) : Host.Outcome State Fault Refusal := onDev (pm06 how) s

/-- PM07_PIXEL_DIE_TEST (R494). -/
def execPm07PixelDieTest (bad : List TUnit) (how : StepEnd) (s : State) : Host.Outcome State Fault Refusal :=
  onDevIf (bad.all TUnit.ok) (pm07 bad how) s

/-- PM08_IO_DIE_TEST (R494). -/
def execPm08IoDieTest (bad : List TUnit) (how : StepEnd) (s : State) : Host.Outcome State Fault Refusal :=
  onDevIf (bad.all TUnit.ok) (pm08 bad how) s

/-- PM09_CXL (R190). -/
def execPm09Cxl (capacities : List (Option Nat)) (how : StepEnd) (s : State) : Host.Outcome State Fault Refusal :=
  onDevIf (capacities.length == 2) (pm09 capacities how) s

/-- PM10_NVME (R386). -/
def execPm10Nvme (ssds : List (Option SsdProbe)) (how : StepEnd) (s : State) : Host.Outcome State Fault Refusal :=
  onDevIf (ssds.length == 4) (pm10 ssds how) s

/-- PM11_JOURNAL_CLIPS (R395). -/
def execPm11JournalClips (how : StepEnd) (s : State) : Host.Outcome State Fault Refusal := onDev (pm11 how) s

/-- PM12_NETWORK_SDI_LANES (R494). -/
def execPm12NetworkSdiLanes (how : StepEnd) (s : State) : Host.Outcome State Fault Refusal := onDev (pm12 how) s

/-- PM13_TIME_PTP (R494). -/
def execPm13TimePtp (how : StepEnd) (s : State) : Host.Outcome State Fault Refusal := onDev (pm13 how) s

/-- PM14_START_UP_SET (R501). -/
def execPm14StartUpSet (how : StepEnd) (s : State) : Host.Outcome State Fault Refusal := onDev (pm14 how) s

/-- PM15_COMMIT (R492). -/
def execPm15Commit (how : StepEnd) (s : State) : Host.Outcome State Fault Refusal := onDev (pm15 how) s

/-- PRIMING_STEP_TIMEOUT (R494). -/
def execPrimingStepTimeout (place : Place) (s : State) : Host.Outcome State Fault Refusal := onDev (primingStepTimeout place) s

/-- REPRIME (R498). -/
def execReprime (s : State) : Host.Outcome State Fault Refusal := onDev reprime s

/-- SUMP_COMMIT (R504). -/
def execSumpCommit (s : State) : Host.Outcome State Fault Refusal := onDev sumpCommit s

/-- HARDWARE_ERROR (R506). -/
def execHardwareError (unit : TUnit) (part : Fin 64) (cls : Fin 4) (detail : Byte) (payload : List Byte) (s : State) :
    Host.Outcome State Fault Refusal :=
  onDevIf (unit.ok && cls != 0) (hardwareError unit part.val cls.val detail.toNat payload) s

/-- SELF_TEST_DEQUEUE (R508). -/
def execSelfTestDequeue (s : State) : Host.Outcome State Fault Refusal := onDev selfTestDequeue s

/-- SELF_TEST (R507). -/
def execSelfTest (unit : TUnit) (pass : Bool) (s : State) : Host.Outcome State Fault Refusal :=
  onDevIf (unit.ok) (selfTest unit pass) s

/-- RETAINED_RECORD_COMMIT (R492). -/
def execRetainedRecordCommit (s : State) : Host.Outcome State Fault Refusal := onDev retainedRecordCommit s

/-- SYS_REFCLK_WINDOW (R511). -/
def execSysRefclkWindow (ppm : Option Int) (s : State) : Host.Outcome State Fault Refusal := onDev (sysRefclkWindow ppm) s

/-- SYS_REFCLK_FATAL (R510). -/
def execSysRefclkFatal (s : State) : Host.Outcome State Fault Refusal := onDev sysRefclkFatal s

end Sys2Proof.Machine
end

