-- ==== Sys2Proof/Machine/CmdSensor.lean ====
section
/-!
DEFINITION. The meaning of each command of sensor ports, calibration and the pilot path.
Sensor ports and the raw pipeline (R195 to R268).
-/
set_option autoImplicit false

namespace Sys2Proof.Machine

/-- CONFIGURE_SENSOR_PORT (R222). -/
def execConfigureSensorPort (seq : Nat) (s : State) : Host.Outcome State Fault Refusal := onDev (configureSensorPort seq) s

/-- START_SENSOR_PORT (R206). -/
def execStartSensorPort (seq : Nat) (s : State) : Host.Outcome State Fault Refusal := onDev (startSensorPort seq) s

/-- ALIGNMENT_DONE (R206). -/
def execAlignmentDone (ctx : Fin 5) (lanes : List (Nat × Nat)) (s : State) : Host.Outcome State Fault Refusal := onDev (alignmentDone ctx.val lanes) s

/-- ALIGNMENT_TIMEOUT (R206). -/
def execAlignmentTimeout (ctx : Fin 5) (failing : List Nat) (s : State) : Host.Outcome State Fault Refusal := onDev (alignmentTimeout ctx.val failing) s

/-- STOP_SENSOR_PORT (R224). -/
def execStopSensorPort (seq : Nat) (s : State) : Host.Outcome State Fault Refusal := onDev (stopPortCommand seq) s

/-- SENSOR_CLOCK_WINDOW (R200). -/
def execSensorClockWindow (ctx : Fin 5) (clock : Fin 2) (ppm : Option Int) (s : State) : Host.Outcome State Fault Refusal := onDev (clockWindowEvent ctx.val clock.val ppm) s

/-- SENSOR_FRAME_START (R210). -/
def execSensorFrameStart (ctx : Fin 5) (edge : SyncEdge) (s : State) : Host.Outcome State Fault Refusal := onDev (frameStartEvent ctx.val edge) s

/-- SENSOR_LINE (R201). -/
def execSensorLine (ctx : Fin 5) (line : SnsLine) (s : State) : Host.Outcome State Fault Refusal := onDev (lineEvent ctx.val line) s

/-- SENSOR_EXP_EDGE (R203). -/
def execSensorExpEdge (ctx : Fin 5) (edge : SyncEdge) (s : State) : Host.Outcome State Fault Refusal := onDev (sensorExpEdge ctx.val edge) s

/-- SENSOR_FRAME_END (R211). -/
def execSensorFrameEnd (ctx : Fin 5) (edge : SyncEdge) (s : State) : Host.Outcome State Fault Refusal := onDev (frameEndEvent ctx.val edge) s

/-- LINE_TIMEOUT (R211). -/
def execLineTimeout (ctx : Fin 5) (s : State) : Host.Outcome State Fault Refusal := onDev (lineTimeoutEvent ctx.val) s

/-- FRAME_TIMEOUT (R212). -/
def execFrameTimeout (ctx : Fin 5) (s : State) : Host.Outcome State Fault Refusal := onDev (frameTimeoutEvent ctx.val) s

/-- BLANKING_CHECK (R207). -/
def execBlankingCheck (ctx : Fin 5) (bad : List Nat) (s : State) : Host.Outcome State Fault Refusal := onDev (blankingEvent ctx.val bad) s

/-- RAW_ROW_VISIBLE (R220). -/
def execRawRowVisible (ctx : Fin 5) (s : State) : Host.Outcome State Fault Refusal := onDev (rowVisibleEvent ctx.val) s

/-- CALIBRATE_SENSOR_PORT (R225). -/
def execCalibrateSensorPort (seq : Nat) (s : State) : Host.Outcome State Fault Refusal := onDev (calibrateSensorPort seq) s

/-- CAL_MEASUREMENT_DONE (R227). -/
def execCalMeasurementDone (unit : Fin 6) (eyes : List LaneEye) (s : State) : Host.Outcome State Fault Refusal := onDev (calMeasurementDone unit.val eyes) s

/-- CAL_TAP_STEP (R228). -/
def execCalTapStep (unit : Fin 6) (s : State) : Host.Outcome State Fault Refusal := onDev (calTapStep unit.val) s

/-- CAL_WINDOW_CLOSE (R228). -/
def execCalWindowClose (unit : Fin 6) (s : State) : Host.Outcome State Fault Refusal := onDev (calWindowClose unit.val) s

/-- OB_TRACK_UPDATE (R248). -/
def execObTrackUpdate (graph : Nat) (ctx : Fin 5) (s : State) : Host.Outcome State Fault Refusal := onDev (obTrackUpdate graph ctx.val) s

/-- CONFIGURE_PILOT (R262). -/
def execConfigurePilot (seq : Nat) (s : State) : Host.Outcome State Fault Refusal := onDev (configurePilot seq) s

/-- START_PILOT (R263). -/
def execStartPilot (seq : Nat) (s : State) : Host.Outcome State Fault Refusal := onDev (startPilot seq) s

/-- STOP_PILOT (R268). -/
def execStopPilot (seq : Nat) (s : State) : Host.Outcome State Fault Refusal := onDev (stopPilot seq) s

/-- PILOT_FRAME_DONE (R259). -/
def execPilotFrameDone (s : State) : Host.Outcome State Fault Refusal := onDev pilotFrameDone s

/-- PILOT_ERROR (R268). -/
def execPilotError (check : Byte) (state : List Byte) (s : State) : Host.Outcome State Fault Refusal := onDev (pilotError check.toNat state) s

end Sys2Proof.Machine
end

