-- ==== Sys2Proof/Machine/CmdSystem.lean ====
section
/-!
DEFINITION. The meaning of each command of security, temperature, power and pins.
Security, temperature, power and pins (R517 to R569).
-/
set_option autoImplicit false

namespace Sys2Proof.Machine

/-- ATTEST (R529). -/
def execAttest (seq : Nat) (s : State) : Host.Outcome State Fault Refusal := onDev (attest seq) s

/-- READ_IDENTITY (R528). -/
def execReadIdentity (seq : Nat) (s : State) : Host.Outcome State Fault Refusal := onDev (readIdentity seq) s

/-- ENROLL_KEY (R526). -/
def execEnrollKey (seq : Nat) (s : State) : Host.Outcome State Fault Refusal := onDev (enrollKey seq) s

/-- REVOKE_KEY (R526). -/
def execRevokeKey (seq : Nat) (s : State) : Host.Outcome State Fault Refusal := onDev (revokeKey seq) s

/-- SET_LIFECYCLE (R527). -/
def execSetLifecycle (seq : Nat) (s : State) : Host.Outcome State Fault Refusal := onDev (setLifecycle seq) s

/-- RECOVERY_GO (R524). -/
def execRecoveryGo (key : Byte) (length : BitVec 21) (s : State) : Host.Outcome State Fault Refusal := onDev (recoveryGo key.toNat length.toNat) s

/-- THERMAL_SAMPLE (R535). -/
def execThermalSample (readings : List (Option Int)) (s : State) : Host.Outcome State Fault Refusal :=
  onDevIf (readings.length == 28) (thermalSample readings) s

/-- THERMAL_RISE_CHECK (R538). -/
def execThermalRiseCheck (s : State) : Host.Outcome State Fault Refusal := onDev thermalRiseCheck s

/-- THM_LEVEL_WRITE (R536). -/
def execThmLevelWrite (level : Fin 4) (value : Word32) (s : State) : Host.Outcome State Fault Refusal := onDev (thmLevelWrite level.val value.toNat) s

/-- SHUTDOWN_LATCH_CLEAR (R541). -/
def execShutdownLatchClear (s : State) : Host.Outcome State Fault Refusal := onDev shutdownLatchClear s

/-- RAIL_SAMPLE (R548). -/
def execRailSample (rail : Fin 12) (mv : Option Nat) (s : State) : Host.Outcome State Fault Refusal := onDev (railSample rail.val mv) s

/-- CORE_RAIL_RECOVERED (R548). -/
def execCoreRailRecovered (rail : Fin 2) (s : State) : Host.Outcome State Fault Refusal := onDev (coreRailRecovered rail.val) s

/-- AVS_SETPOINT_DONE (R546). -/
def execAvsSetpointDone (rail : Fin 3) (mv : Nat) (vmv : List (Nat × Nat)) (s : State) : Host.Outcome State Fault Refusal := onDev (avsSetpointDone rail.val mv vmv) s

/-- PORST_L_FALL (R550). -/
def execPorstLFall (s : State) : Host.Outcome State Fault Refusal := onDev porstLFall s

/-- PERST_L_FALL (R551). -/
def execPerstLFall (s : State) : Host.Outcome State Fault Refusal := onDev perstLFall s

/-- PERST_L_RISE (R551). -/
def execPerstLRise (s : State) : Host.Outcome State Fault Refusal := onDev perstLRise s

/-- SMBUS_READ (R556). -/
def execSmbusRead (code : Byte) (s : State) : Host.Outcome State Fault Refusal := onDev (smbusRead code.toNat) s

/-- PWRGD_FALL (R548). -/
def execPwrgdFall (s : State) : Host.Outcome State Fault Refusal := onDev pwrgdFall s

/-- FAULT_SIGNALLED (R423). -/
def execFaultSignalled (lane : Fin 96) (cause : Fin 2) (s : State) : Host.Outcome State Fault Refusal := onDev (faultSignalled lane.val (2 + cause.val)) s

/-- PAGE_PROGRAM_DONE (R490). -/
def execPageProgramDone (s : State) : Host.Outcome State Fault Refusal := onDev pageProgramDone s

/-- DATA_TRANSFER_TIMEOUT (R511). -/
def execDataTransferTimeout (seq : Nat) (s : State) : Host.Outcome State Fault Refusal := onDev (dataTransferTimeout seq) s

/-- LOOKUP_COPY_DONE (R506). -/
def execLookupCopyDone (well : Fin 16) (s : State) : Host.Outcome State Fault Refusal := onDev (lookupCopyDone well.val) s

/-- ANNOUNCE_SEND (R444). -/
def execAnnounceSend (port : Fin 6) (s : State) : Host.Outcome State Fault Refusal := onDev (announceSend port.val) s

/-- BOUNDARY_SCAN (R555). -/
def execBoundaryScan (edge : JtagEdge) (s : State) : Host.Outcome State Fault Refusal := onDev (boundaryScan edge) s

end Sys2Proof.Machine
end

