-- ==== Sys2Proof/Machine/CmdTime.lean ====
section
/-!
DEFINITION. The meaning of each command of the time unit, triggers and captures.
Time and triggers (R440 to R461).
-/
set_option autoImplicit false

namespace Sys2Proof.Machine

/-- TIME_INC_WRITE (R460). -/
def execTimeIncWrite (upper : Bool) (value : Word32) (s : State) : Host.Outcome State Fault Refusal := onDev (timeIncWrite upper value.toNat) s

/-- TIME_STEP_WRITE (R443). -/
def execTimeStepWrite (upper : Bool) (value : Word32) (s : State) : Host.Outcome State Fault Refusal := onDev (timeStepWrite upper value.toNat) s

/-- TIME_NOW_SNAPSHOT (R460). -/
def execTimeNowSnapshot (s : State) : Host.Outcome State Fault Refusal := onDev timeNowSnapshot s

/-- PTP_ANNOUNCE (R445). -/
def execPtpAnnounce (port : Fin 6) (message : PtpAnnounce) (s : State) : Host.Outcome State Fault Refusal := onDev (ptpAnnounce port.val message) s

/-- PTP_SYNC (R446). -/
def execPtpSync (port : Fin 6) (message : PtpSyncMsg) (s : State) : Host.Outcome State Fault Refusal := onDev (ptpSync port.val message) s

/-- PTP_FOLLOW_UP (R446). -/
def execPtpFollowUp (port : Fin 6) (source : Word64) (seqId : Word16) (t1 : Int) (corr : Int) (s : State) : Host.Outcome State Fault Refusal := onDev (ptpFollowUp port.val source.toNat seqId.toNat t1 corr) s

/-- PTP_DELAY_RESP (R446). -/
def execPtpDelayResp (port : Fin 6) (seqId : Word16) (t4 : Int) (corr : Int) (s : State) : Host.Outcome State Fault Refusal := onDev (ptpDelayResp port.val seqId.toNat t4 corr) s

/-- DELAY_REQ_SEND (R451). -/
def execDelayReqSend (port : Fin 6) (raw : Int) (s : State) : Host.Outcome State Fault Refusal := onDev (delayReqSend port.val raw) s

/-- ANNOUNCE_TIMEOUT (R446). -/
def execAnnounceTimeout (port : Fin 6) (s : State) : Host.Outcome State Fault Refusal := onDev (announceTimeout port.val) s

/-- SYNC_TIMEOUT (R447). -/
def execSyncTimeout (port : Fin 6) (s : State) : Host.Outcome State Fault Refusal := onDev (syncTimeout port.val) s

/-- TIME_REFCLK_WINDOW (R442). -/
def execTimeRefclkWindow (ppm : Option Int) (s : State) : Host.Outcome State Fault Refusal := onDev (timeRefclkWindow ppm) s

/-- TRIGGER_ARM (R454). -/
def execTriggerArm (unit : Fin 32) (s : State) : Host.Outcome State Fault Refusal := onDev (triggerArm unit.val) s

/-- TRIGGER_PULSE (R452). -/
def execTriggerPulse (unit : Fin 32) (s : State) : Host.Outcome State Fault Refusal := onDev (triggerPulse unit.val) s

/-- TRIGGER_STAGED_WRITE (R456). -/
def execTriggerStagedWrite (unit : Fin 32) (register : Fin 5) (value : Word32) (s : State) : Host.Outcome State Fault Refusal := onDev (triggerStagedWrite unit.val register.val value.toNat) s

/-- TRIGGER_PULSE_END (R456). -/
def execTriggerPulseEnd (unit : Fin 32) (s : State) : Host.Outcome State Fault Refusal := onDev (triggerPulseEnd unit.val) s

/-- TRG_LAST_READ (R461). -/
def execTrgLastRead (unit : Fin 32) (s : State) : Host.Outcome State Fault Refusal := onDev (trgLastRead unit.val) s

/-- CAPTURE_EDGE (R457). -/
def execCaptureEdge (unit : Fin 16) (rising : Bool) (held : Nat) (s : State) : Host.Outcome State Fault Refusal := onDev (captureEdge unit.val rising held) s

/-- CAPTURE_POP (R458). -/
def execCapturePop (unit : Fin 16) (s : State) : Host.Outcome State Fault Refusal := onDev (capturePop unit.val) s

/-- CAP_TIMEOUT (R458). -/
def execCapTimeout (unit : Fin 16) (s : State) : Host.Outcome State Fault Refusal := onDev (capTimeout unit.val) s

end Sys2Proof.Machine
end

