-- ==== Sys2Proof/Machine/CmdVideo.lean ====
section
/-!
DEFINITION. The meaning of each command of compositors, flows and rasters.
Composition, flows and rasters (R269 to R308).
-/
set_option autoImplicit false

namespace Sys2Proof.Machine

/-- START_COMPOSITOR (R273). -/
def execStartCompositor (seq : Nat) (s : State) : Host.Outcome State Fault Refusal := onDev (startCompositor seq) s

/-- SET_LAYERS (R275). -/
def execSetLayers (seq : Nat) (s : State) : Host.Outcome State Fault Refusal := onDev (setLayers seq) s

/-- STOP_COMPOSITOR (R308). -/
def execStopCompositor (seq : Nat) (s : State) : Host.Outcome State Fault Refusal := onDev (stopCompositor seq) s

/-- COMPOSITE_RELEASE (R274). -/
def execCompositeRelease (comp : Fin 4) (s : State) : Host.Outcome State Fault Refusal := onDev (compositeRelease comp.val) s

/-- CONFIGURE_FLOW (R281). -/
def execConfigureFlow (seq : Nat) (s : State) : Host.Outcome State Fault Refusal := onDev (configureFlow seq) s

/-- START_FLOW (R298). -/
def execStartFlow (seq : Nat) (s : State) : Host.Outcome State Fault Refusal := onDev (startFlow seq) s

/-- STOP_FLOW (R308). -/
def execStopFlow (seq : Nat) (s : State) : Host.Outcome State Fault Refusal := onDev (stopFlow seq) s

/-- PACKET_SEND (R297). -/
def execPacketSend (flow : Fin 512) (ready : Bool) (s : State) : Host.Outcome State Fault Refusal := onDev (packetSend flow.val ready) s

/-- FLOW_REGION_SIGNATURE (R295). -/
def execFlowRegionSignature (flow : Fin 512) (region : Fin 32) (s : State) : Host.Outcome State Fault Refusal := onDev (flowRegionSignature flow.val region.val) s

/-- MEMORY_FLOW_FRAME_DONE (R303). -/
def execMemoryFlowFrameDone (flow : Fin 512) (s : State) : Host.Outcome State Fault Refusal := onDev (memoryFlowFrameDone flow.val) s

/-- LOAD_SCALING_PROFILE (R283). -/
def execLoadScalingProfile (seq : Nat) (s : State) : Host.Outcome State Fault Refusal := onDev (loadScalingProfile seq) s

/-- LOAD_TONE_PROFILE (R286). -/
def execLoadToneProfile (seq : Nat) (s : State) : Host.Outcome State Fault Refusal := onDev (loadToneProfile seq) s

/-- SET_GUARDS (R290). -/
def execSetGuards (seq : Nat) (s : State) : Host.Outcome State Fault Refusal := onDev (setGuards seq) s

/-- ARM_GUARDS (R292). -/
def execArmGuards (seq : Nat) (s : State) : Host.Outcome State Fault Refusal := onDev (armGuards seq) s

/-- DISARM_GUARDS (R292). -/
def execDisarmGuards (seq : Nat) (s : State) : Host.Outcome State Fault Refusal := onDev (disarmGuards seq) s

/-- LOAD_SAFE_IMAGE (R295). -/
def execLoadSafeImage (seq : Nat) (s : State) : Host.Outcome State Fault Refusal := onDev (loadSafeImage seq) s

/-- GET_FLOW_SDP (R301). -/
def execGetFlowSdp (seq : Nat) (s : State) : Host.Outcome State Fault Refusal := onDev (getFlowSdp seq) s

/-- START_RASTER (R304). -/
def execStartRaster (seq : Nat) (s : State) : Host.Outcome State Fault Refusal := onDev (startRaster seq) s

/-- STOP_RASTER (R308). -/
def execStopRaster (seq : Nat) (s : State) : Host.Outcome State Fault Refusal := onDev (stopRaster seq) s

/-- RELEASE_RASTER (R308). -/
def execReleaseRaster (seq : Nat) (s : State) : Host.Outcome State Fault Refusal := onDev (releaseRaster seq) s

/-- RASTER_UNDERRUN (R305). -/
def execRasterUnderrun (raster : Fin 16) (s : State) : Host.Outcome State Fault Refusal := onDev (rasterUnderrun raster.val) s

/-- RASTER_LINE_READBACK (R306). -/
def execRasterLineReadback (raster : Fin 16) (ok : Bool) (s : State) : Host.Outcome State Fault Refusal := onDev (rasterLineReadback raster.val ok) s

end Sys2Proof.Machine
end

