-- ==== Sys2Proof/Machine/Dispatch.lean ====
section
/-!
DEFINITION. What each command does: one arm per constructor.
-/

namespace Sys2Proof.Machine

def exec (i : Instr) (s : State) : Host.Outcome State Fault Refusal :=
  match i with
  | .addi core => Sys2Proof.Machine.execAddi core s
  | .andi core => Sys2Proof.Machine.execAndi core s
  | .ori core => Sys2Proof.Machine.execOri core s
  | .xori core => Sys2Proof.Machine.execXori core s
  | .slti core => Sys2Proof.Machine.execSlti core s
  | .muli core => Sys2Proof.Machine.execMuli core s
  | .addai core => Sys2Proof.Machine.execAddai core s
  | .vimm core => Sys2Proof.Machine.execVimm core s
  | .salu core => Sys2Proof.Machine.execSalu core s
  | .pred core => Sys2Proof.Machine.execPred core s
  | .ldl core => Sys2Proof.Machine.execLdl core s
  | .ldlu core => Sys2Proof.Machine.execLdlu core s
  | .stl core => Sys2Proof.Machine.execStl core s
  | .ldg core => Sys2Proof.Machine.execLdg core s
  | .stg core => Sys2Proof.Machine.execStg core s
  | .bcc core => Sys2Proof.Machine.execBcc core s
  | .bp core => Sys2Proof.Machine.execBp core s
  | .jal core => Sys2Proof.Machine.execJal core s
  | .loop core => Sys2Proof.Machine.execLoop core s
  | .valu core => Sys2Proof.Machine.execValu core s
  | .vcmp core => Sys2Proof.Machine.execVcmp core s
  | .vperm core => Sys2Proof.Machine.execVperm core s
  | .vmac core => Sys2Proof.Machine.execVmac core s
  | .vlut core => Sys2Proof.Machine.execVlut core s
  | .sin core => Sys2Proof.Machine.execSin core s
  | .sout core => Sys2Proof.Machine.execSout core s
  | .smarkr core => Sys2Proof.Machine.execSmarkr core s
  | .smarkw core => Sys2Proof.Machine.execSmarkw core s
  | .savail core => Sys2Proof.Machine.execSavail core s
  | .shead core => Sys2Proof.Machine.execShead core s
  | .crd core => Sys2Proof.Machine.execCrd core s
  | .cwr core => Sys2Proof.Machine.execCwr core s
  | .cset core => Sys2Proof.Machine.execCset core s
  | .cclr core => Sys2Proof.Machine.execCclr core s
  | .yield core => Sys2Proof.Machine.execYield core s
  | .halt core => Sys2Proof.Machine.execHalt core s
  | .svc core => Sys2Proof.Machine.execSvc core s
  | .wdkick core => Sys2Proof.Machine.execWdkick core s
  | .fence core => Sys2Proof.Machine.execFence core s
  | .iflush core => Sys2Proof.Machine.execIflush core s
  | .skipstrip core => Sys2Proof.Machine.execSkipstrip core s
  | .resume core => Sys2Proof.Machine.execResume core s
  | .resumei core => Sys2Proof.Machine.execResumei core s
  | .waiti core => Sys2Proof.Machine.execWaiti core s
  | .globalLoadReturn core load => Sys2Proof.Machine.execGlobalLoadReturn core load s
  | .watchdog core => Sys2Proof.Machine.execWatchdog core s
  | .windlassInterrupt core source => Sys2Proof.Machine.execWindlassInterrupt core source s
  | .stripSkip core => Sys2Proof.Machine.execStripSkip core s
  | .preemptRequest core slot => Sys2Proof.Machine.execPreemptRequest core slot s
  | .loadProgram seq => Sys2Proof.Machine.execLoadProgram seq s
  | .buildGraph seq => Sys2Proof.Machine.execBuildGraph seq s
  | .startGraph seq => Sys2Proof.Machine.execStartGraph seq s
  | .stopGraph seq => Sys2Proof.Machine.execStopGraph seq s
  | .releaseGraph seq => Sys2Proof.Machine.execReleaseGraph seq s
  | .setParameters seq => Sys2Proof.Machine.execSetParameters seq s
  | .setParamsBankFree seq => Sys2Proof.Machine.execSetParamsBankFree seq s
  | .replaceProgram seq => Sys2Proof.Machine.execReplaceProgram seq s
  | .stripDispatch graph => Sys2Proof.Machine.execStripDispatch graph s
  | .pilotCoverStripDone => Sys2Proof.Machine.execPilotCoverStripDone s
  | .rtStallPreempt core => Sys2Proof.Machine.execRtStallPreempt core s
  | .bgQuantumExpiry core => Sys2Proof.Machine.execBgQuantumExpiry core s
  | .frameAdmit graph ctx => Sys2Proof.Machine.execFrameAdmit graph ctx s
  | .framePublish graph ctx => Sys2Proof.Machine.execFramePublish graph ctx s
  | .pumpWithdraw core => Sys2Proof.Machine.execPumpWithdraw core s
  | .pumpSelfTestStart core => Sys2Proof.Machine.execPumpSelfTestStart core s
  | .cisternCopyDone well => Sys2Proof.Machine.execCisternCopyDone well s
  | .boundaryTimeout kind index => Sys2Proof.Machine.execBoundaryTimeout kind index s
  | .createSpace seq => Sys2Proof.Machine.execCreateSpace seq s
  | .destroySpace seq => Sys2Proof.Machine.execDestroySpace seq s
  | .mapMemory seq => Sys2Proof.Machine.execMapMemory seq s
  | .unmapMemory seq => Sys2Proof.Machine.execUnmapMemory seq s
  | .remapMemory seq => Sys2Proof.Machine.execRemapMemory seq s
  | .pinMemory seq => Sys2Proof.Machine.execPinMemory seq s
  | .unpinMemory seq => Sys2Proof.Machine.execUnpinMemory seq s
  | .invalidationPoint walk => Sys2Proof.Machine.execInvalidationPoint walk s
  | .leaseRetire lease => Sys2Proof.Machine.execLeaseRetire lease s
  | .leaseBroken lease => Sys2Proof.Machine.execLeaseBroken lease s
  | .translationResolve walk => Sys2Proof.Machine.execTranslationResolve walk s
  | .faultService requester resume => Sys2Proof.Machine.execFaultService requester resume s
  | .pageMove asid va => Sys2Proof.Machine.execPageMove asid va s
  | .memoryReadComplete requester pa bank row how => Sys2Proof.Machine.execMemoryReadComplete requester pa bank row how s
  | .patrolScrub pa bank row how => Sys2Proof.Machine.execPatrolScrub pa bank row how s
  | .selfRefreshEntry channel idle => Sys2Proof.Machine.execSelfRefreshEntry channel idle s
  | .selfRefreshExit channel => Sys2Proof.Machine.execSelfRefreshExit channel s
  | .refreshInterval channel waiting => Sys2Proof.Machine.execRefreshInterval channel waiting s
  | .dqsOscillatorCheck channel drift retrained => Sys2Proof.Machine.execDqsOscillatorCheck channel drift retrained s
  | .zqCalibration channel => Sys2Proof.Machine.execZqCalibration channel s
  | .writeQueueDrain channel filled writers => Sys2Proof.Machine.execWriteQueueDrain channel filled writers s
  | .floatCrossing float level => Sys2Proof.Machine.execFloatCrossing float level s
  | .regulatorWindow controller share => Sys2Proof.Machine.execRegulatorWindow controller share s
  | .channelLastingFault channel why => Sys2Proof.Machine.execChannelLastingFault channel why s
  | .spareOutDone => Sys2Proof.Machine.execSpareOutDone s
  | .cxlEventRecord port addr bytes => Sys2Proof.Machine.execCxlEventRecord port addr bytes s
  | .cxlLaneRetrain port width => Sys2Proof.Machine.execCxlLaneRetrain port width s
  | .cxlMemoryUnavailable port => Sys2Proof.Machine.execCxlMemoryUnavailable port s
  | .startSiphon seq => Sys2Proof.Machine.execStartSiphon seq s
  | .stopSiphon seq => Sys2Proof.Machine.execStopSiphon seq s
  | .siphonDescriptorDone chan => Sys2Proof.Machine.execSiphonDescriptorDone chan s
  | .siphonRtWork well units => Sys2Proof.Machine.execSiphonRtWork well units s
  | .configureSensorPort seq => Sys2Proof.Machine.execConfigureSensorPort seq s
  | .startSensorPort seq => Sys2Proof.Machine.execStartSensorPort seq s
  | .alignmentDone ctx lanes => Sys2Proof.Machine.execAlignmentDone ctx lanes s
  | .alignmentTimeout ctx failing => Sys2Proof.Machine.execAlignmentTimeout ctx failing s
  | .stopSensorPort seq => Sys2Proof.Machine.execStopSensorPort seq s
  | .sensorClockWindow ctx clock ppm => Sys2Proof.Machine.execSensorClockWindow ctx clock ppm s
  | .sensorFrameStart ctx edge => Sys2Proof.Machine.execSensorFrameStart ctx edge s
  | .sensorLine ctx line => Sys2Proof.Machine.execSensorLine ctx line s
  | .sensorExpEdge ctx edge => Sys2Proof.Machine.execSensorExpEdge ctx edge s
  | .sensorFrameEnd ctx edge => Sys2Proof.Machine.execSensorFrameEnd ctx edge s
  | .lineTimeout ctx => Sys2Proof.Machine.execLineTimeout ctx s
  | .frameTimeout ctx => Sys2Proof.Machine.execFrameTimeout ctx s
  | .blankingCheck ctx bad => Sys2Proof.Machine.execBlankingCheck ctx bad s
  | .rawRowVisible ctx => Sys2Proof.Machine.execRawRowVisible ctx s
  | .calibrateSensorPort seq => Sys2Proof.Machine.execCalibrateSensorPort seq s
  | .calMeasurementDone unit eyes => Sys2Proof.Machine.execCalMeasurementDone unit eyes s
  | .calTapStep unit => Sys2Proof.Machine.execCalTapStep unit s
  | .calWindowClose unit => Sys2Proof.Machine.execCalWindowClose unit s
  | .obTrackUpdate graph ctx => Sys2Proof.Machine.execObTrackUpdate graph ctx s
  | .configurePilot seq => Sys2Proof.Machine.execConfigurePilot seq s
  | .startPilot seq => Sys2Proof.Machine.execStartPilot seq s
  | .stopPilot seq => Sys2Proof.Machine.execStopPilot seq s
  | .pilotFrameDone => Sys2Proof.Machine.execPilotFrameDone s
  | .pilotError check state => Sys2Proof.Machine.execPilotError check state s
  | .startCompositor seq => Sys2Proof.Machine.execStartCompositor seq s
  | .setLayers seq => Sys2Proof.Machine.execSetLayers seq s
  | .stopCompositor seq => Sys2Proof.Machine.execStopCompositor seq s
  | .compositeRelease comp => Sys2Proof.Machine.execCompositeRelease comp s
  | .configureFlow seq => Sys2Proof.Machine.execConfigureFlow seq s
  | .startFlow seq => Sys2Proof.Machine.execStartFlow seq s
  | .stopFlow seq => Sys2Proof.Machine.execStopFlow seq s
  | .packetSend flow ready => Sys2Proof.Machine.execPacketSend flow ready s
  | .flowRegionSignature flow region => Sys2Proof.Machine.execFlowRegionSignature flow region s
  | .memoryFlowFrameDone flow => Sys2Proof.Machine.execMemoryFlowFrameDone flow s
  | .loadScalingProfile seq => Sys2Proof.Machine.execLoadScalingProfile seq s
  | .loadToneProfile seq => Sys2Proof.Machine.execLoadToneProfile seq s
  | .setGuards seq => Sys2Proof.Machine.execSetGuards seq s
  | .armGuards seq => Sys2Proof.Machine.execArmGuards seq s
  | .disarmGuards seq => Sys2Proof.Machine.execDisarmGuards seq s
  | .loadSafeImage seq => Sys2Proof.Machine.execLoadSafeImage seq s
  | .getFlowSdp seq => Sys2Proof.Machine.execGetFlowSdp seq s
  | .startRaster seq => Sys2Proof.Machine.execStartRaster seq s
  | .stopRaster seq => Sys2Proof.Machine.execStopRaster seq s
  | .releaseRaster seq => Sys2Proof.Machine.execReleaseRaster seq s
  | .rasterUnderrun raster => Sys2Proof.Machine.execRasterUnderrun raster s
  | .rasterLineReadback raster ok => Sys2Proof.Machine.execRasterLineReadback raster ok s
  | .startRecording seq => Sys2Proof.Machine.execStartRecording seq s
  | .stopRecording seq => Sys2Proof.Machine.execStopRecording seq s
  | .bandReady ctx band => Sys2Proof.Machine.execBandReady ctx band s
  | .bandPlaneDone compressor bad => Sys2Proof.Machine.execBandPlaneDone compressor bad s
  | .startEncoder seq => Sys2Proof.Machine.execStartEncoder seq s
  | .setEncoderParameters seq => Sys2Proof.Machine.execSetEncoderParameters seq s
  | .stopEncoder seq => Sys2Proof.Machine.execStopEncoder seq s
  | .encoderRowDone core row => Sys2Proof.Machine.execEncoderRowDone core row s
  | .encoderPictureDone core hash filler => Sys2Proof.Machine.execEncoderPictureDone core hash filler s
  | .encoderCoreError core check state => Sys2Proof.Machine.execEncoderCoreError core check state s
  | .startDecoder seq => Sys2Proof.Machine.execStartDecoder seq s
  | .restartDecoder seq => Sys2Proof.Machine.execRestartDecoder seq s
  | .stopDecoder seq => Sys2Proof.Machine.execStopDecoder seq s
  | .decoderNal length result => Sys2Proof.Machine.execDecoderNal length result s
  | .decoderCoreError check state => Sys2Proof.Machine.execDecoderCoreError check state s
  | .doorbellWrite completion queue value => Sys2Proof.Machine.execDoorbellWrite completion queue value s
  | .commandFetch queue entry data => Sys2Proof.Machine.execCommandFetch queue entry data s
  | .controllerEnable asq acq => Sys2Proof.Machine.execControllerEnable asq acq s
  | .controllerReset => Sys2Proof.Machine.execControllerReset s
  | .shutdownNotification shn => Sys2Proof.Machine.execShutdownNotification shn s
  | .createIoSq seq => Sys2Proof.Machine.execCreateIoSq seq s
  | .deleteIoSq seq => Sys2Proof.Machine.execDeleteIoSq seq s
  | .createIoCq seq => Sys2Proof.Machine.execCreateIoCq seq s
  | .deleteIoCq seq => Sys2Proof.Machine.execDeleteIoCq seq s
  | .getLogPage seq => Sys2Proof.Machine.execGetLogPage seq s
  | .identify seq => Sys2Proof.Machine.execIdentify seq s
  | .abort seq => Sys2Proof.Machine.execAbort seq s
  | .setFeatures seq => Sys2Proof.Machine.execSetFeatures seq s
  | .setPowerState seq => Sys2Proof.Machine.execSetPowerState seq s
  | .ps2BufferEmpty => Sys2Proof.Machine.execPs2BufferEmpty s
  | .ps2DrainDone timeout => Sys2Proof.Machine.execPs2DrainDone timeout s
  | .getFeatures seq => Sys2Proof.Machine.execGetFeatures seq s
  | .asynchronousEventRequest seq => Sys2Proof.Machine.execAsynchronousEventRequest seq s
  | .firmwareImageDownload seq => Sys2Proof.Machine.execFirmwareImageDownload seq s
  | .firmwareCommit seq => Sys2Proof.Machine.execFirmwareCommit seq s
  | .firmwareActivate seq => Sys2Proof.Machine.execFirmwareActivate seq s
  | .fwActivationPause => Sys2Proof.Machine.execFwActivationPause s
  | .fwActivationSwitch => Sys2Proof.Machine.execFwActivationSwitch s
  | .fwSelfCheckPass => Sys2Proof.Machine.execFwSelfCheckPass s
  | .fwSelfCheckFail => Sys2Proof.Machine.execFwSelfCheckFail s
  | .flush seq => Sys2Proof.Machine.execFlush seq s
  | .write seq => Sys2Proof.Machine.execWrite seq s
  | .writeBufferRoom => Sys2Proof.Machine.execWriteBufferRoom s
  | .read seq => Sys2Proof.Machine.execRead seq s
  | .writeZeroes seq => Sys2Proof.Machine.execWriteZeroes seq s
  | .datasetManagement seq => Sys2Proof.Machine.execDatasetManagement seq s
  | .storeWriteDone part => Sys2Proof.Machine.execStoreWriteDone part s
  | .indexPageFlush slot => Sys2Proof.Machine.execIndexPageFlush slot s
  | .extentNeeded ctx => Sys2Proof.Machine.execExtentNeeded ctx s
  | .clipClose ctx => Sys2Proof.Machine.execClipClose ctx s
  | .manifestReadbackDone slot bad => Sys2Proof.Machine.execManifestReadbackDone slot bad s
  | .registerWrite seq => Sys2Proof.Machine.execRegisterWrite seq s
  | .registerRead seq => Sys2Proof.Machine.execRegisterRead seq s
  | .readJournal seq => Sys2Proof.Machine.execReadJournal seq s
  | .configureStore seq => Sys2Proof.Machine.execConfigureStore seq s
  | .readSump seq => Sys2Proof.Machine.execReadSump seq s
  | .readRetainedRecord seq => Sys2Proof.Machine.execReadRetainedRecord seq s
  | .readInventory seq => Sys2Proof.Machine.execReadInventory seq s
  | .readFrameRecords seq => Sys2Proof.Machine.execReadFrameRecords seq s
  | .listClips seq => Sys2Proof.Machine.execListClips seq s
  | .releaseProgram seq => Sys2Proof.Machine.execReleaseProgram seq s
  | .releaseImage seq => Sys2Proof.Machine.execReleaseImage seq s
  | .clipDelete seq => Sys2Proof.Machine.execClipDelete seq s
  | .clipProtect seq => Sys2Proof.Machine.execClipProtect seq s
  | .clipUnprotect seq => Sys2Proof.Machine.execClipUnprotect seq s
  | .safeAll key => Sys2Proof.Machine.execSafeAll key s
  | .safeClear key => Sys2Proof.Machine.execSafeClear key s
  | .fetchHalt key => Sys2Proof.Machine.execFetchHalt key s
  | .recStop key => Sys2Proof.Machine.execRecStop key s
  | .journalCheckpoint => Sys2Proof.Machine.execJournalCheckpoint s
  | .bar0BadAccess offset width isWrite value => Sys2Proof.Machine.execBar0BadAccess offset width isWrite value s
  | .debugWindowAccess window offset isWrite value => Sys2Proof.Machine.execDebugWindowAccess window offset isWrite value s
  | .flitCrcRetry link far linkLane ok => Sys2Proof.Machine.execFlitCrcRetry link far linkLane ok s
  | .dieLinkRetrained link => Sys2Proof.Machine.execDieLinkRetrained link s
  | .timeCountBroadcast => Sys2Proof.Machine.execTimeCountBroadcast s
  | .laneSignalDetect lane => Sys2Proof.Machine.execLaneSignalDetect lane s
  | .trainingRequest lane request => Sys2Proof.Machine.execTrainingRequest lane request s
  | .laneTrainingDone lane => Sys2Proof.Machine.execLaneTrainingDone lane s
  | .laneBitLock lane => Sys2Proof.Machine.execLaneBitLock lane s
  | .laneBlockLock lane => Sys2Proof.Machine.execLaneBlockLock lane s
  | .linkCapexDone lane rate => Sys2Proof.Machine.execLinkCapexDone lane rate s
  | .flowResume port member => Sys2Proof.Machine.execFlowResume port member s
  | .bringupTimeout lane => Sys2Proof.Machine.execBringupTimeout lane s
  | .bringupRetry lane => Sys2Proof.Machine.execBringupRetry lane s
  | .laneLockLoss lane cause => Sys2Proof.Machine.execLaneLockLoss lane cause s
  | .adaptationFreeze lane => Sys2Proof.Machine.execAdaptationFreeze lane s
  | .adaptationResume lane => Sys2Proof.Machine.execAdaptationResume lane s
  | .laneDrift lane coefficient value quiet => Sys2Proof.Machine.execLaneDrift lane coefficient value quiet s
  | .laneFence lane width rate => Sys2Proof.Machine.execLaneFence lane width rate s
  | .endpointLinkDown => Sys2Proof.Machine.execEndpointLinkDown s
  | .nvmeRootPortLoss ssd => Sys2Proof.Machine.execNvmeRootPortLoss ssd s
  | .refclkWindow island ppm => Sys2Proof.Machine.execRefclkWindow island ppm s
  | .laneTest lane => Sys2Proof.Machine.execLaneTest lane s
  | .laneRetry lane => Sys2Proof.Machine.execLaneRetry lane s
  | .laneTestDone lane errors checked => Sys2Proof.Machine.execLaneTestDone lane errors checked s
  | .laneEqWrite lane value => Sys2Proof.Machine.execLaneEqWrite lane value s
  | .laneGrpSelWrite value => Sys2Proof.Machine.execLaneGrpSelWrite value s
  | .ethIpWrite port value => Sys2Proof.Machine.execEthIpWrite port value s
  | .ethFrameReceived port frame => Sys2Proof.Machine.execEthFrameReceived port frame s
  | .arpRefresh port => Sys2Proof.Machine.execArpRefresh port s
  | .sdiRateSteer => Sys2Proof.Machine.execSdiRateSteer s
  | .timeIncWrite upper value => Sys2Proof.Machine.execTimeIncWrite upper value s
  | .timeStepWrite upper value => Sys2Proof.Machine.execTimeStepWrite upper value s
  | .timeNowSnapshot => Sys2Proof.Machine.execTimeNowSnapshot s
  | .ptpAnnounce port message => Sys2Proof.Machine.execPtpAnnounce port message s
  | .ptpSync port message => Sys2Proof.Machine.execPtpSync port message s
  | .ptpFollowUp port source seqId t1 corr => Sys2Proof.Machine.execPtpFollowUp port source seqId t1 corr s
  | .ptpDelayResp port seqId t4 corr => Sys2Proof.Machine.execPtpDelayResp port seqId t4 corr s
  | .delayReqSend port raw => Sys2Proof.Machine.execDelayReqSend port raw s
  | .announceTimeout port => Sys2Proof.Machine.execAnnounceTimeout port s
  | .syncTimeout port => Sys2Proof.Machine.execSyncTimeout port s
  | .timeRefclkWindow ppm => Sys2Proof.Machine.execTimeRefclkWindow ppm s
  | .triggerArm unit => Sys2Proof.Machine.execTriggerArm unit s
  | .triggerPulse unit => Sys2Proof.Machine.execTriggerPulse unit s
  | .triggerStagedWrite unit register value => Sys2Proof.Machine.execTriggerStagedWrite unit register value s
  | .triggerPulseEnd unit => Sys2Proof.Machine.execTriggerPulseEnd unit s
  | .trgLastRead unit => Sys2Proof.Machine.execTrgLastRead unit s
  | .captureEdge unit rising held => Sys2Proof.Machine.execCaptureEdge unit rising held s
  | .capturePop unit => Sys2Proof.Machine.execCapturePop unit s
  | .capTimeout unit => Sys2Proof.Machine.execCapTimeout unit s
  | .startAudioPort seq => Sys2Proof.Machine.execStartAudioPort seq s
  | .stopAudioPort seq => Sys2Proof.Machine.execStopAudioPort seq s
  | .pdmClockWindow clock hz part => Sys2Proof.Machine.execPdmClockWindow clock hz part s
  | .audioBlockDone port bits => Sys2Proof.Machine.execAudioBlockDone port bits s
  | .audioMaskWrite port value => Sys2Proof.Machine.execAudioMaskWrite port value s
  | .audStuck port slot level => Sys2Proof.Machine.execAudStuck port slot level s
  | .audioStreamEnable stream enable => Sys2Proof.Machine.execAudioStreamEnable stream enable s
  | .audioStreamPacket stream => Sys2Proof.Machine.execAudioStreamPacket stream s
  | .startMotionAxis seq => Sys2Proof.Machine.execStartMotionAxis seq s
  | .stopMotionAxis seq => Sys2Proof.Machine.execStopMotionAxis seq s
  | .axisCount axis edge time => Sys2Proof.Machine.execAxisCount axis edge time s
  | .speedDecay axis time => Sys2Proof.Machine.execSpeedDecay axis time s
  | .axisStandstill axis time => Sys2Proof.Machine.execAxisStandstill axis time s
  | .axisIndexEdge axis => Sys2Proof.Machine.execAxisIndexEdge axis s
  | .axisCompareArm axis => Sys2Proof.Machine.execAxisCompareArm axis s
  | .axisSampleRead axis => Sys2Proof.Machine.execAxisSampleRead axis s
  | .axCmpTimeRead axis => Sys2Proof.Machine.execAxCmpTimeRead axis s
  | .primingStart straps => Sys2Proof.Machine.execPrimingStart straps s
  | .pm00BootRom how => Sys2Proof.Machine.execPm00BootRom how s
  | .pm01RetainedRecord how => Sys2Proof.Machine.execPm01RetainedRecord how s
  | .pm02ClocksIslands how => Sys2Proof.Machine.execPm02ClocksIslands how s
  | .pm03PcieEndpoint how => Sys2Proof.Machine.execPm03PcieEndpoint how s
  | .pm04DieLinks repairs how => Sys2Proof.Machine.execPm04DieLinks repairs how s
  | .pm05DramTraining channels how => Sys2Proof.Machine.execPm05DramTraining channels how s
  | .pm06DramInit how => Sys2Proof.Machine.execPm06DramInit how s
  | .pm07PixelDieTest bad how => Sys2Proof.Machine.execPm07PixelDieTest bad how s
  | .pm08IoDieTest bad how => Sys2Proof.Machine.execPm08IoDieTest bad how s
  | .pm09Cxl capacities how => Sys2Proof.Machine.execPm09Cxl capacities how s
  | .pm10Nvme ssds how => Sys2Proof.Machine.execPm10Nvme ssds how s
  | .pm11JournalClips how => Sys2Proof.Machine.execPm11JournalClips how s
  | .pm12NetworkSdiLanes how => Sys2Proof.Machine.execPm12NetworkSdiLanes how s
  | .pm13TimePtp how => Sys2Proof.Machine.execPm13TimePtp how s
  | .pm14StartUpSet how => Sys2Proof.Machine.execPm14StartUpSet how s
  | .pm15Commit how => Sys2Proof.Machine.execPm15Commit how s
  | .primingStepTimeout place => Sys2Proof.Machine.execPrimingStepTimeout place s
  | .reprime => Sys2Proof.Machine.execReprime s
  | .sumpCommit => Sys2Proof.Machine.execSumpCommit s
  | .hardwareError unit part cls detail payload => Sys2Proof.Machine.execHardwareError unit part cls detail payload s
  | .selfTestDequeue => Sys2Proof.Machine.execSelfTestDequeue s
  | .selfTest unit pass => Sys2Proof.Machine.execSelfTest unit pass s
  | .retainedRecordCommit => Sys2Proof.Machine.execRetainedRecordCommit s
  | .sysRefclkWindow ppm => Sys2Proof.Machine.execSysRefclkWindow ppm s
  | .sysRefclkFatal => Sys2Proof.Machine.execSysRefclkFatal s
  | .attest seq => Sys2Proof.Machine.execAttest seq s
  | .readIdentity seq => Sys2Proof.Machine.execReadIdentity seq s
  | .enrollKey seq => Sys2Proof.Machine.execEnrollKey seq s
  | .revokeKey seq => Sys2Proof.Machine.execRevokeKey seq s
  | .setLifecycle seq => Sys2Proof.Machine.execSetLifecycle seq s
  | .recoveryGo key length => Sys2Proof.Machine.execRecoveryGo key length s
  | .thermalSample readings => Sys2Proof.Machine.execThermalSample readings s
  | .thermalRiseCheck => Sys2Proof.Machine.execThermalRiseCheck s
  | .thmLevelWrite level value => Sys2Proof.Machine.execThmLevelWrite level value s
  | .shutdownLatchClear => Sys2Proof.Machine.execShutdownLatchClear s
  | .railSample rail mv => Sys2Proof.Machine.execRailSample rail mv s
  | .coreRailRecovered rail => Sys2Proof.Machine.execCoreRailRecovered rail s
  | .avsSetpointDone rail mv vmv => Sys2Proof.Machine.execAvsSetpointDone rail mv vmv s
  | .porstLFall => Sys2Proof.Machine.execPorstLFall s
  | .perstLFall => Sys2Proof.Machine.execPerstLFall s
  | .perstLRise => Sys2Proof.Machine.execPerstLRise s
  | .smbusRead code => Sys2Proof.Machine.execSmbusRead code s
  | .pwrgdFall => Sys2Proof.Machine.execPwrgdFall s
  | .faultSignalled lane cause => Sys2Proof.Machine.execFaultSignalled lane cause s
  | .pageProgramDone => Sys2Proof.Machine.execPageProgramDone s
  | .dataTransferTimeout seq => Sys2Proof.Machine.execDataTransferTimeout seq s
  | .lookupCopyDone well => Sys2Proof.Machine.execLookupCopyDone well s
  | .announceSend port => Sys2Proof.Machine.execAnnounceSend port s
  | .boundaryScan edge => Sys2Proof.Machine.execBoundaryScan edge s

end Sys2Proof.Machine
end

