-- ==== Sys2Proof/Safety.lean ====
section
/-!
DEFINITION. What counts as a safe state and a safe run, in the terms that statements use.
-/
set_option autoImplicit false

namespace Sys2Proof.Machine

/-- Every waiting command is one that the device can be given. -/
def State.queueOk (s : State) : Bool := s.pending.all Instr.wf

/-- The byte memories of a core are in canonical form. -/
def Core.memOk (k : Core) : Bool := Memory.wf k.mem && Memory.wf k.fetch

/-- The byte memories of the device are in canonical form: local and CXL memory, pails, windlass memories, cisterns, the
MSI-X table, the clips' streams and the store's media. -/
def Dev.memOk (d : Dev) : Bool :=
  Memory.wf d.mem.bytes && (tvals d.cores.core).all Core.memOk && (tvals d.cores.well).all (fun w => Memory.wf w.cistern)
    && Memory.wf d.qf.msix && Memory.wf d.store.media
    && (tvals d.store.clips).all (fun c => Memory.wf c.stream && Memory.wf c.index)

/-- The fuses of `b` hold every fuse that is set in `a` (R518): lifecycle and security version only rise, and the owner
hash only gains bits. -/
def Dev.fusesGrow (a b : Dev) : Prop :=
  a.fget fSecStatLc ≤ b.fget fSecStatLc ∧ a.fget fSecStatRollback ≤ b.fget fSecStatRollback
    ∧ a.nv.ownerHash ||| b.nv.ownerHash = b.nv.ownerHash

/-! ## Vocabulary of the statements about Yumar bundles -/

/-- The command that executes a bundle as instruction `op` on a core. -/
def Op.row (c : Fin 84) : Op → Instr
  | .addi => .addi c | .andi => .andi c | .ori => .ori c | .xori => .xori c | .slti => .slti c | .muli => .muli c
  | .addai => .addai c | .vimm => .vimm c | .salu => .salu c | .pred => .pred c | .ldl => .ldl c | .ldlu => .ldlu c
  | .stl => .stl c | .ldg => .ldg c | .stg => .stg c | .bcc => .bcc c | .bp => .bp c | .jal => .jal c | .loop => .loop c
  | .valu => .valu c | .vcmp => .vcmp c | .vperm => .vperm c | .vmac => .vmac c | .vlut => .vlut c | .sin => .sin c
  | .sout => .sout c | .smarkr => .smarkr c | .smarkw => .smarkw c | .savail => .savail c | .shead => .shead c
  | .crd => .crd c | .cwr => .cwr c | .cset => .cset c | .cclr => .cclr c | .yield => .yield c | .halt => .halt c
  | .svc => .svc c | .wdkick => .wdkick c | .fence => .fence c | .iflush => .iflush c | .skipstrip => .skipstrip c
  | .resume => .resume c | .resumei => .resumei c | .waiti => .waiti c

/-- The instructions whose effect is on the core's registers alone, and goes on with the advance of the pc. -/
def Op.onRegs : Op → Bool
  | .addi | .andi | .ori | .xori | .slti | .muli | .addai | .vimm | .salu | .pred | .valu | .vcmp | .vperm | .vmac | .vlut
  | .bcc | .bp => true
  | _ => false

/-- A core can issue the bundle at its pc: it runs, the bundle's words are `w0` and `w1`, the decode checks of R56 and R77
pass, and no source or destination waits for an outstanding load or a table being copied (R85). -/
def Dev.issues (d : Dev) (c w0 w1 : Nat) : Prop :=
  let r := (d.core c).regs
  let ends := fun n => r.stBit (armedBit n) && r.pc.toNat % 4294967296 == r.loopEnd n
  d.coreRuns c = true ∧ d.fetch c = some (w0, w1) ∧ illegalSlot (isPump c) (d.nlut c) w0 w1 = none
    ∧ ((ends 0 || ends 1) && loopEndBad w0) = false
    ∧ waitsLoad r w0 = false ∧ (bit w0 31 && waitsLoad r w1) = false
    ∧ d.lutStalls c w0 = false ∧ (bit w0 31 && d.lutStalls c w1) = false

/-- The save frame of a task in the pail holds the registers `q` (R98, Table YI-15). -/
def Core.holds (k : Core) (t : Task) (q : Regs) : Prop := mread k.mem t.savePtr 3328 = frameBytes q ∧ t.cr = q.cr

/-- What the slot-1 syllable of a paired bundle adds to the registers that slot 0 leaves: it reads the registers `old` from
before the bundle (R55, R56). -/
def Dev.slot1 (d : Dev) (c w0 w1 : Nat) (old r : Regs) : Regs :=
  if bit w0 31 then (match opOf w1 with | some op => semReg (d.lutRead c) op w1 0 old r | none => r) else r

/-- The registers of a core change, and nothing else. -/
def State.withRegs (s : State) (c : Nat) (f : Regs → Regs) : State := { s with dev := s.dev.regsMod c f }

/-- The registers after a bundle whose slot 0 makes `f r` of the registers `r`: slot 1 follows, then the advance of the pc, to
`jump` for a taken branch (R68, R77, R88). -/
def State.bundleTo (s : State) (c w0 w1 : Nat) (f : Regs → Regs) : State :=
  s.withRegs c (fun r => (s.dev.slot1 c w0 w1 r (f r)).advance r.pc (target r w0) none)

/-- The strip of a pump's real-time task `t` in slot `i` has ended: the task has none and stands as `st`, and the strip's state
in its frame is `how`, the frame's other strips being as they were (R117, R133). -/
def Dev.stripEnds (d u : Dev) (c i : Nat) (t : Task) (st : TaskSt) (how : StripSt) : Prop :=
  (∃ t', tget (u.core c).tasks i = some t' ∧ t'.strip = none ∧ t'.st = st) ∧
    ∀ sr g f, t.strip = some sr → d.graph t.graph = some g → g.frame sr.ctx sr.frame = some f →
      ∃ g' f', u.graph t.graph = some g' ∧ g'.frame sr.ctx sr.frame = some f'
        ∧ ∀ k, tget f'.strips k = if k = stripKey t.stage sr.strip then some how else tget f.strips k

/-! ## Vocabulary of the statements about host commands -/

/-- The command `seq` has ended with a status and a result: its context is free, and its journal record is DONE, or DONE_UNPOSTED
where its queue is gone, with that status and result (R364, R397). -/
def Dev.doneAs (t : Dev) (seq sct sc dw0 : Nat) : Prop :=
  tget t.qf.ctxs seq = none ∧
    ∃ r, t.jrec seq = some r ∧ r.status = sct * 256 + sc ∧ r.result = dw0 ∧ (r.st = .done ∨ r.st = .doneUnposted)

/-- Apart from the queue front, the count of contexts in use and the count of free values, the device is `d`. -/
def Dev.quiet (t d : Dev) : Prop :=
  t = { d with qf := t.qf, regs := t.regs, free := t.free } ∧ ∀ f : Fld, f.key ≠ fQfStatCtx.key → t.fget f = d.fget f

/-- The command `seq` has ended with a status and a result, on a device that is `d` apart from its queue front. -/
def Dev.endsAs (t d : Dev) (seq sct sc dw0 : Nat) : Prop := t.quiet d ∧ t.doneAs seq sct sc dw0

/-- A command's completion will be posted: it has not lost its queue, and its completion queue exists (R375, R376). -/
def Dev.posts (d : Dev) (c : Ctx) : Prop := c.unposted = false ∧ d.cqLives c.sqid = true

/-- A completion of the command `seq` has been posted that carries data from device to host. -/
def Dev.returns (t : Dev) (seq : Nat) (out : List Byte) : Prop := ∃ p ∈ t.qf.posted, p.seq = seq ∧ p.out = out

/-- A checkpoint of the journal, or the retained record, is committed or waits for the write gate. -/
def Dev.checkpoints (t : Dev) : Prop := ∃ c ∈ t.nv.commits, c.body.isRecord = false
def Dev.commitsRecord (t : Dev) : Prop := ∃ c ∈ t.nv.commits, c.body.isRecord = true

/-- Lanes have moved to a state and the others have kept theirs; the groups of the lanes that moved show which of their lanes
are ACTIVE, and which FENCED or in FAULT (R439). -/
def Dev.lanesMove (t d : Dev) (l : List Nat) (v : Nat) : Prop :=
  (∀ m, m < 96 → t.laneSt m = if m ∈ l then v else d.laneSt m) ∧
    ∀ m ∈ l, m < 96 → ∀ k, k < 8 →
      bit (t.fget (fLaneGrpCfgUp (m / 8))) k = (t.laneSt (8 * (m / 8) + k) == lsActive) ∧
      bit (t.fget (fLaneGrpCfgFence (m / 8))) k = (t.laneSt (8 * (m / 8) + k) == lsFenced || t.laneSt (8 * (m / 8) + k) == lsFault)

/-- Priming step `k` has ended with a state of PRM_STEP, and the next step runs. -/
def Dev.stepEnds (t : Dev) (k st : Nat) : Prop :=
  t.fget (fPrmStepState k) = st ∧ t.prime.next = k + 1 ∧ t.fget fPrmStatStep = k + 1 ∧ t.fget (fPrmStepState (k + 1)) = 1
    ∧ t.prime.waitReset = false

/-- Only registers have changed. -/
def Dev.regsOnly (t d : Dev) : Prop := t = { d with regs := t.regs }

/-- The device with another content. -/
def State.to (s : State) (d : Dev) : State := { s with dev := d }

/-- The sensor ports feed no recording, no graph and no pilot path, and no calibration runs. -/
def Dev.portsAlone (d : Dev) : Prop :=
  d.vid.pool.recs = [] ∧ d.cores.graphs = [] ∧ d.sns.pilot.service = none ∧ d.sns.pilot.cover = none ∧ d.sns.cals = []

/-! ## Continuity of outputs (R512) -/

/-- The marks that make a frame period of an output count: OVERFLOW, STALE and SKIPPED. A frame marked PILOT counts as continuous. -/
def countedMarks : Nat := mOverflow + mStale + mSkipped

/-- A frame period of a flow or raster that counts: its record carries one of these marks, REPEAT, UNDERRUN or ABORTED. -/
def OutRec.counted (r : OutRec) : Bool := r.marks &&& countedMarks != 0 || r.flags &&& (oRepeat + oUnderrun + oAborted) != 0

/-- A frame unit of a recording that counts, with the marks of its frame. -/
def FrameUnit.counted (u : FrameUnit) (marks : Nat) : Bool := u.truncated || u.srcFault || marks &&& (countedMarks + mRawlost) != 0

/-- A frame period of an HEVC session that counts: nothing was coded, or the record carries one of the marks, REPEAT or ABORTED. -/
def PicRec.counted (r : PicRec) : Bool := r.ty == 255 || r.marks &&& countedMarks != 0 || bit r.flags 2 || bit r.flags 7

/-! ## Runs -/

/-- A run of `n` steps neither faults nor is refused. -/
def State.runsSafely (s : State) (n : Nat) : Prop := ∃ t, Sys2Proof.core.run n s = .next t

end Sys2Proof.Machine

/-- The rows that end priming step `k`, with what the rows of PM05 and PM07 to PM10 report of their units. -/
def Sys2Proof.Instr.endsStep (chans : List ChanProbe) (bad : List TUnit) (caps : List (Option Nat)) (ssds : List (Option SsdProbe)) (k : Nat)
    (how : StepEnd) (i : Sys2Proof.Instr) : Prop :=
  match k with
  | 0 => i = .pm00BootRom how | 1 => i = .pm01RetainedRecord how | 2 => i = .pm02ClocksIslands how | 3 => i = .pm03PcieEndpoint how
  | 4 => ∃ repairs, i = .pm04DieLinks repairs how | 5 => i = .pm05DramTraining chans how | 6 => i = .pm06DramInit how
  | 7 => i = .pm07PixelDieTest bad how | 8 => i = .pm08IoDieTest bad how | 9 => i = .pm09Cxl caps how
  | 10 => i = .pm10Nvme ssds how | 11 => i = .pm11JournalClips how | 12 => i = .pm12NetworkSdiLanes how
  | 13 => i = .pm13TimePtp how | 14 => i = .pm14StartUpSet how | 15 => i = .pm15Commit how
  | _ => False
end

