-- ==== Sys2Proof/Certificates/Slice0/Obligations.lean ====
section
/-!
DEFINITION. The statements for the provers.
-/
set_option autoImplicit false

open Sys2Proof Sys2Proof.Machine

/-- A step runs the command at the front of the queue on the queue's rest. -/
def Obligations.StepRunsFront : Prop :=
  ∀ (c : Instr) (s : State), step { s with pending := c :: s.pending } = exec c s

/-! ## Yumar cores -/

/-- From R55, R56, R85, R88: a bundle whose slot-0 instruction acts on registers alone answers a next state under the row of each of
its instructions: ADDI, ANDI, ORI, XORI, SLTI, MULI, ADDAI, SALU, PRED, BCC and BP in slot 0, and VIMM, VALU, VCMP, VPERM, VMAC
and VLUT alone or in slot 1. Both slots read the registers from before the bundle; then the pc advances. Nothing but the
registers of that core changes. -/
def Obligations.RegisterBundleRuns : Prop :=
  ∀ (c : Fin 84) (s : State) (w0 w1 : Nat) (op0 op : Op),
    s.dev.issues c w0 w1 → opOf w0 = some op0 → op0.onRegs = true → (op = op0 ∨ (bit w0 31 = true ∧ opOf w1 = some op)) →
    exec (op.row c) s = .next (s.bundleTo c w0 w1 (fun r => semReg (s.dev.lutRead c) op0 w0 w1 r r))

/-- From R60: the I-format instructions on scalar and address registers. A write of s0 is discarded (Table YI-1). R61, Table YI-6: every scalar ALU function that neither saturates nor moves an address register, with the jumps. Of the
other functions, ADDS and SUBS set SAT when they clip. -/
def Obligations.ImmediateAndScalarResults : Prop :=
  (∀ (c : Fin 84) (s : State) (w0 w1 : Nat), s.dev.issues c w0 w1 →
    (opOf w0 = some .addi → exec (.addi c) s = .next (s.bundleTo c w0 w1
      (fun r => r.sput (yRd w0) (r.sget (yRs1 w0) + BitVec.ofInt 32 (yImm w0 w1))))) ∧
    (opOf w0 = some .andi → exec (.andi c) s = .next (s.bundleTo c w0 w1
      (fun r => r.sput (yRd w0) (r.sget (yRs1 w0) &&& BitVec.ofInt 32 (yImm w0 w1))))) ∧
    (opOf w0 = some .ori → exec (.ori c) s = .next (s.bundleTo c w0 w1
      (fun r => r.sput (yRd w0) (r.sget (yRs1 w0) ||| BitVec.ofInt 32 (yImm w0 w1))))) ∧
    (opOf w0 = some .xori → exec (.xori c) s = .next (s.bundleTo c w0 w1
      (fun r => r.sput (yRd w0) (r.sget (yRs1 w0) ^^^ BitVec.ofInt 32 (yImm w0 w1))))) ∧
    (opOf w0 = some .slti → exec (.slti c) s = .next (s.bundleTo c w0 w1
      (fun r => r.sput (yRd w0) (if (r.sget (yRs1 w0)).toInt < yImm w0 w1 then 1 else 0)))) ∧
    (opOf w0 = some .muli → exec (.muli c) s = .next (s.bundleTo c w0 w1
      (fun r => r.sput (yRd w0) (r.sget (yRs1 w0) * BitVec.ofInt 32 (yImm w0 w1))))) ∧
    (opOf w0 = some .addai → exec (.addai c) s = .next (s.bundleTo c w0 w1
      (fun r => r.aput (yRd w0) (r.aget (yRs1 w0) + BitVec.ofInt 48 (yImm w0 w1))))) ∧
    (∀ (r : Regs) (v : BitVec 32), r.sget 0 = 0 ∧ r.sput 0 v = r)) ∧
  (∀ (c : Fin 84) (s : State) (w0 w1 : Nat), s.dev.issues c w0 w1 → opOf w0 = some .salu →
    (∀ v : Regs → BitVec 32,
      (∀ (r : Regs), let a := r.sget (yRs1 w0); let b := r.sget (yRs2 w0); let n := b.toNat % 32
        (yFn6 w0 = 0x00 ∧ v r = a + b) ∨ (yFn6 w0 = 0x01 ∧ v r = a - b) ∨ (yFn6 w0 = 0x04 ∧ v r = a &&& b)
        ∨ (yFn6 w0 = 0x05 ∧ v r = a ||| b) ∨ (yFn6 w0 = 0x06 ∧ v r = a ^^^ b) ∨ (yFn6 w0 = 0x07 ∧ v r = a &&& ~~~b)
        ∨ (yFn6 w0 = 0x08 ∧ v r = a <<< n) ∨ (yFn6 w0 = 0x09 ∧ v r = a >>> n) ∨ (yFn6 w0 = 0x0A ∧ v r = a.sshiftRight n)
        ∨ (yFn6 w0 = 0x0B ∧ v r = a <<< ySh w0) ∨ (yFn6 w0 = 0x0C ∧ v r = a >>> ySh w0)
        ∨ (yFn6 w0 = 0x0D ∧ v r = a.sshiftRight (ySh w0))
        ∨ (yFn6 w0 = 0x0E ∧ v r = if a.slt b then 1 else 0) ∨ (yFn6 w0 = 0x0F ∧ v r = if a.ult b then 1 else 0)
        ∨ (yFn6 w0 = 0x10 ∧ v r = if a.sle b then a else b) ∨ (yFn6 w0 = 0x11 ∧ v r = if a.sle b then b else a)
        ∨ (yFn6 w0 = 0x12 ∧ v r = if a.ule b then a else b) ∨ (yFn6 w0 = 0x13 ∧ v r = if a.ule b then b else a)
        ∨ (yFn6 w0 = 0x14 ∧ v r = a * b)
        ∨ (yFn6 w0 = 0x15 ∧ v r = ((a.signExtend 64 * b.signExtend 64) >>> 32).truncate 32)
        ∨ (yFn6 w0 = 0x16 ∧ v r = ((a.zeroExtend 64 * b.zeroExtend 64) >>> 32).truncate 32)
        ∨ (yFn6 w0 = 0x17 ∧ v r = if b = 0 then BitVec.allOnes 32 else a / b)
        ∨ (yFn6 w0 = 0x18 ∧ v r = if b = 0 then a else a % b)
        ∨ (yFn6 w0 = 0x19 ∧ ((a = 0 ∧ v r = 32) ∨ (a ≠ 0 ∧ (v r).toNat < 32 ∧ a >>> (31 - (v r).toNat) = 1)))
        ∨ (yFn6 w0 = 0x1A ∧ v r = BitVec.ofNat 32 ((List.range 32).countP (fun i => a.getLsbD i)))
        ∨ (yFn6 w0 = 0x1C ∧ v r = (r.pc + 8).truncate 32) ∨ (yFn6 w0 = 0x1E ∧ v r = (r.aget (yRs1 w0)).truncate 32)
        ∨ (yFn6 w0 = 0x1F ∧ v r = ((r.aget (yRs1 w0)) >>> 32).truncate 32)) →
      exec (.salu c) s = .next (s.bundleTo c w0 w1 (fun r => r.sput (yRd w0) (v r)))) ∧
    (yFn6 w0 = 0x1B → exec (.salu c) s = .next (s.bundleTo c w0 w1 (fun r => r))) ∧
    (yFn6 w0 = 0x1D → exec (.salu c) s = .next (s.bundleTo c w0 w1
      (fun r => r.aput (yRd w0) ((r.sget (yRs2 w0)).truncate 16 ++ r.sget (yRs1 w0))))) ∧
    (yFn6 w0 = 0x20 → exec (.salu c) s = .next (s.bundleTo c w0 w1
      (fun r => r.aput (yRd w0) (r.aget (yRs1 w0) + (r.sget (yRs2 w0)).signExtend 48)))) ∧
    (∀ r : Regs, (yFn6 w0 = 0x1B ∨ yFn6 w0 = 0x1C) →
      target r w0 = some ((r.sget (yRs1 w0)).zeroExtend 48 &&& 0xFFFFFFFFFFF8#48)) ∧
    (yFn6 w0 = 0x02 ∨ yFn6 w0 = 0x03 → ∀ x : Int,
      let r := (s.dev.core c).regs
      x = (r.sget (yRs1 w0)).toInt + (if yFn6 w0 = 0x02 then 1 else -1) * (r.sget (yRs2 w0)).toInt →
      exec (.salu c) s = .next (s.bundleTo c w0 w1 (fun q =>
        if x < -2147483648 then (q.sput (yRd w0) 0x80000000#32).stSet stSAT true
        else if 2147483647 < x then (q.sput (yRd w0) 0x7FFFFFFF#32).stSet stSAT true
        else q.sput (yRd w0) (BitVec.ofInt 32 x)))))

/-- From R67: predicate functions, unmasked; p0 reads all ones and takes no write. R70, R71: no arithmetic traps; SAT is set by ADDS when it clips and
by VADDS in 16-bit lanes when it clips a lane that is written, VADD leaves it, nothing clears it, and no other control register and no
other bit of PIPE_STATUS changes. -/
def Obligations.PredicatesAndSaturation : Prop :=
  (∀ (c : Fin 84) (s : State) (w0 w1 : Nat), s.dev.issues c w0 w1 → opOf w0 = some .pred →
    let P := fun (v : Regs → BitVec 32) => exec (.pred c) s = .next (s.bundleTo c w0 w1 (fun r => r.pput (yRd w0) (v r)))
    let S := fun (v : Regs → BitVec 32) => exec (.pred c) s = .next (s.bundleTo c w0 w1 (fun r => r.sput (yRd w0) (v r)))
    (yFn6 w0 = 0 → P (fun r => r.pget (yRs1 w0) &&& r.pget (yRs2 w0))) ∧
    (yFn6 w0 = 1 → P (fun r => r.pget (yRs1 w0) ||| r.pget (yRs2 w0))) ∧
    (yFn6 w0 = 2 → P (fun r => r.pget (yRs1 w0) ^^^ r.pget (yRs2 w0))) ∧
    (yFn6 w0 = 3 → P (fun r => r.pget (yRs1 w0) &&& ~~~r.pget (yRs2 w0))) ∧
    (yFn6 w0 = 4 → P (fun r => ~~~r.pget (yRs1 w0))) ∧
    (yFn6 w0 = 5 → P (fun r => r.sget (yRs1 w0))) ∧
    (yFn6 w0 = 6 → S (fun r => r.pget (yRs1 w0))) ∧
    (yFn6 w0 = 7 → P (fun r => if (r.sget (yRs1 w0)).toNat < 32 then 1#32 <<< (r.sget (yRs1 w0)).toNat - 1#32
      else BitVec.allOnes 32)) ∧
    (yFn6 w0 = 8 → S (fun r => BitVec.ofNat 32 ((List.range 32).countP (fun i => (r.pget (yRs1 w0)).getLsbD i)))) ∧
    (∀ (r : Regs) (v : BitVec 32), r.pget 0 = BitVec.allOnes 32 ∧ r.pput 0 v = r)) ∧
  (∀ (lut : Nat → Nat → Nat) (op : Op) (w ext : Nat) (old new : Regs),
    (∀ j, j < 32 → j ≠ stSAT → (semReg lut op w ext old new).stBit j = new.stBit j) ∧
    (new.stBit stSAT = true → (semReg lut op w ext old new).stBit stSAT = true) ∧
    (∀ j, (semReg lut op w ext old new).crget (j + 1) = new.crget (j + 1)) ∧
    (op = .salu → yFn6 w = 0x02 → (semReg lut op w ext old new).stBit stSAT = (new.stBit stSAT
      || decide ((old.sget (yRs1 w)).toInt + (old.sget (yRs2 w)).toInt < -2147483648)
      || decide (2147483647 < (old.sget (yRs1 w)).toInt + (old.sget (yRs2 w)).toInt))) ∧
    (op = .valu → yW w = false → yFn7 w = 0x01 →
      ((semReg lut op w ext old new).stBit stSAT = true ↔ new.stBit stSAT = true ∨ ∃ i, i < 32 ∧ (old.pget (yPg w)).getLsbD i = true
        ∧ (sext 16 (laneOf 16 (old.vget (yRs1 w)).toNat i) + sext 16 (laneOf 16 (old.vget (yRs2 w)).toNat i) < -32768
          ∨ 32767 < sext 16 (laneOf 16 (old.vget (yRs1 w)).toNat i) + sext 16 (laneOf 16 (old.vget (yRs2 w)).toNat i)))) ∧
    (op = .valu → yFn7 w = 0x00 → (semReg lut op w ext old new).stBit stSAT = new.stBit stSAT))

/-- From R46, R47, R62, R70: every VALU function by lane, in lanes of 16 bits and, where Table YI-7 allows it, in pair mode. A lane
that the predicate does not govern keeps its old value (VSEL selects and does not mask), and no other vector register
changes. -/
def Obligations.VectorAluLanes : Prop :=
  (∀ (c : Fin 84) (s : State) (w0 w1 : Nat), s.dev.issues c w0 w1 → opOf w0 = some .valu →
    exec (.valu c) s = .next (s.bundleTo c w0 w1 (fun r => semReg (s.dev.lutRead c) .valu w0 w1 r r))) ∧
  (∀ (lut : Nat → Nat → Nat) (w ext : Nat) (old new : Regs),
    (∀ n, n ≠ yRd w → (semReg lut .valu w ext old new).vget n = new.vget n) ∧
    (∀ lw i, (lw = if yW w then 32 else 16) → i < laneCount lw →
      let fn := yFn7 w
      let a := laneOf lw (old.vget (yRs1 w)).toNat i
      let b := laneOf lw (old.vget (yRs2 w)).toNat i
      let k := yRs2 w
      let n := b % lw
      let x := laneOf lw ((semReg lut .valu w ext old new).vget (yRd w)).toNat i
      let on := (old.pget (yPg w)).getLsbD (govBit lw i)
      let clip := fun (v : Int) => max (-(2 ^ (lw - 1))) (min (2 ^ (lw - 1) - 1) v)
      ((fn ≤ 0x1A ∨ fn = 0x1C ∨ fn = 0x1D) → on = false → x = laneOf lw (new.vget (yRd w)).toNat i) ∧
      (fn = 0x1B → x = if on then a else b) ∧
      (on = true →
        (fn = 0x00 → x = (a + b) % 2 ^ lw) ∧ (fn = 0x01 → sext lw x = clip (sext lw a + sext lw b)) ∧
        (fn = 0x02 → x = min (2 ^ lw - 1) (a + b)) ∧ (fn = 0x03 → x = (a + (2 ^ lw - b)) % 2 ^ lw) ∧
        (fn = 0x04 → sext lw x = clip (sext lw a - sext lw b)) ∧ (fn = 0x05 → x = a - b) ∧
        (fn = 0x06 → sext lw x = min (sext lw a) (sext lw b)) ∧ (fn = 0x07 → sext lw x = max (sext lw a) (sext lw b)) ∧
        (fn = 0x08 → x = min a b) ∧ (fn = 0x09 → x = max a b) ∧
        (fn = 0x0A → x = max a b - min a b) ∧ (fn = 0x0B → x = (a + b + 1) / 2) ∧
        (fn = 0x0C → x = a &&& b) ∧ (fn = 0x0D → x = a ||| b) ∧ (fn = 0x0E → x = a ^^^ b) ∧
        (fn = 0x0F → x = a &&& (2 ^ lw - 1 - b)) ∧
        (fn = 0x10 → x = a * 2 ^ n % 2 ^ lw) ∧ (fn = 0x11 → x = a / 2 ^ n) ∧ (fn = 0x12 → sext lw x = sext lw a / 2 ^ n) ∧
        (fn = 0x13 → x = a * 2 ^ k % 2 ^ lw) ∧ (fn = 0x14 → x = a / 2 ^ k) ∧ (fn = 0x15 → sext lw x = sext lw a / 2 ^ k) ∧
        (fn = 0x16 → x = trunc lw (rshr (sext lw a) k)) ∧ (fn = 0x17 → x = trunc lw (rshr a k)) ∧
        (fn = 0x18 → x = a * b % 2 ^ lw) ∧ (fn = 0x19 → sext lw x = clip (rshr (sext lw a * sext lw b) 15)) ∧
        (fn = 0x1A → lw = 16 → x = a * b / 65536) ∧
        (fn = 0x1C → x = (old.sget (yRs1 w)).toNat % 2 ^ lw) ∧ (fn = 0x1D → x = a))) ∧
    -- widening into pair-mode lanes, and narrowing out of them
    (∀ j, j < 16 → let a := fun i => laneOf 16 (old.vget (yRs1 w)).toNat i
      let x := laneOf 32 ((semReg lut .valu w ext old new).vget (yRd w)).toNat j
      ((0x1E ≤ yFn7 w ∧ yFn7 w ≤ 0x21) → (old.pget (yPg w)).getLsbD (2 * j) = false → x = laneOf 32 (new.vget (yRd w)).toNat j) ∧
      ((old.pget (yPg w)).getLsbD (2 * j) = true →
        (yFn7 w = 0x1E → x = trunc 32 (sext 16 (a j))) ∧ (yFn7 w = 0x1F → x = trunc 32 (sext 16 (a (16 + j)))) ∧
        (yFn7 w = 0x20 → x = a j) ∧ (yFn7 w = 0x21 → x = a (16 + j)))) ∧
    (∀ i, i < 32 → let v := sext 32 (if i < 16 then laneOf 32 (old.vget (yRs1 w)).toNat i
        else laneOf 32 (old.vget (yRs2 w)).toNat (i - 16))
      let x := laneOf 16 ((semReg lut .valu w ext old new).vget (yRd w)).toNat i
      ((0x22 ≤ yFn7 w ∧ yFn7 w ≤ 0x23) → (old.pget (yPg w)).getLsbD i = false → x = laneOf 16 (new.vget (yRd w)).toNat i) ∧
      ((old.pget (yPg w)).getLsbD i = true →
        (yFn7 w = 0x22 → sext 16 x = max (-32768) (min 32767 v)) ∧ (yFn7 w = 0x23 → (x : Int) = max 0 (min 65535 v)))))

/-- From R46, R47, R60, R63, R64: VIMM, VPERM and VCMP by lane. VIMM sets every lane; an ungoverned lane or predicate bit keeps its
old value; no other register changes. -/
def Obligations.VectorMoveAndCompareLanes : Prop :=
  (∀ (c : Fin 84) (s : State) (w0 w1 : Nat), s.dev.issues c w0 w1 →
    (opOf w0 = some .vimm →
      exec (.vimm c) s = .next (s.bundleTo c w0 w1 (fun r => semReg (s.dev.lutRead c) .vimm w0 w1 r r))) ∧
    (opOf w0 = some .vperm →
      exec (.vperm c) s = .next (s.bundleTo c w0 w1 (fun r => semReg (s.dev.lutRead c) .vperm w0 w1 r r))) ∧
    (opOf w0 = some .vcmp →
      exec (.vcmp c) s = .next (s.bundleTo c w0 w1 (fun r => semReg (s.dev.lutRead c) .vcmp w0 w1 r r)))) ∧
  (∀ (lut : Nat → Nat → Nat) (w ext : Nat) (old new : Regs),
    (∀ lw i, (lw = if bit (yRs1 w) 0 then 32 else 16) → i < laneCount lw →
      laneOf lw ((semReg lut .vimm w ext old new).vget (yRd w)).toNat i = trunc lw (yImm w ext)) ∧
    (∀ i, i < 32 →
      let a := fun k => laneOf 16 (old.vget (yRs1 w)).toNat k
      let b := fun k => laneOf 16 (old.vget (yRs2 w)).toNat k
      let cc := fun k => if k < 32 then a k else b (k - 32)
      let x := laneOf 16 ((semReg lut .vperm w ext old new).vget (yRd w)).toNat i
      let fn := yFn7 w
      ((old.pget (yPg w)).getLsbD i = false → x = laneOf 16 (new.vget (yRd w)).toNat i) ∧
      ((old.pget (yPg w)).getLsbD i = true →
        (fn = 0 → x = cc (2 * i)) ∧ (fn = 1 → x = cc (2 * i + 1)) ∧
        (fn = 2 → x = if i % 2 = 0 then a (i / 2) else b (i / 2)) ∧
        (fn = 3 → x = if i % 2 = 0 then a (16 + i / 2) else b (16 + i / 2)) ∧
        (fn = 4 → x = a (b i % 32)) ∧ (fn = 5 → x = a (31 - i)) ∧
        (0x20 ≤ fn → fn < 0x40 → x = cc (i + (fn - 0x20))) ∧
        (0x40 ≤ fn → fn < 0x60 → x = if fn - 0x40 ≤ i then a (i - (fn - 0x40)) else b (32 - (fn - 0x40) + i)))) ∧
    (∀ lw i, (lw = if yW w then 32 else 16) → i < 32 → 0 < yRd w →
      let j := if lw = 32 then i / 2 else i
      let a := laneOf lw (old.vget (yRs1 w)).toNat j
      let b := laneOf lw (old.vget (yRs2 w)).toNat j
      let x := ((semReg lut .vcmp w ext old new).pget (yRd w)).getLsbD i
      let on := (old.pget (yPg w)).getLsbD (govBit lw j)
      (on = false → x = (old.pget (yRd w)).getLsbD i) ∧
      (on = true →
        (yFn7 w = 0 → x = decide (a = b)) ∧ (yFn7 w = 1 → x = decide (a ≠ b)) ∧
        (yFn7 w = 2 → x = decide (sext lw a < sext lw b)) ∧ (yFn7 w = 3 → x = decide (sext lw a ≤ sext lw b)) ∧
        (yFn7 w = 4 → x = decide (a < b)) ∧ (yFn7 w = 5 → x = decide (a ≤ b)))) ∧
    (∀ n, n ≠ yRd w → (semReg lut .vperm w ext old new).vget n = new.vget n
      ∧ (semReg lut .vimm w ext old new).vget n = new.vget n ∧ (semReg lut .vcmp w ext old new).pget n = new.pget n) ∧
    (∀ n, (semReg lut .vcmp w ext old new).vget n = new.vget n))

/-- From R65, R66, R71: multiply-accumulate, extraction and lookup by lane. -/
def Obligations.VmacAndLookupLanes : Prop :=
  (∀ (c : Fin 84) (s : State) (w0 w1 : Nat), s.dev.issues c w0 w1 →
    (opOf w0 = some .vmac →
      exec (.vmac c) s = .next (s.bundleTo c w0 w1 (fun r => semReg (s.dev.lutRead c) .vmac w0 w1 r r))) ∧
    (opOf w0 = some .vlut →
      exec (.vlut c) s = .next (s.bundleTo c w0 w1 (fun r => semReg (s.dev.lutRead c) .vlut w0 w1 r r)))) ∧
  (∀ (lut : Nat → Nat → Nat) (w ext : Nat) (old new : Regs) (i : Nat), i < 32 →
    let fn := yFn6 w
    let on := (old.pget (yMPg w)).getLsbD i
    let a := laneOf 16 (old.vget (yVa w)).toNat i
    let a' := laneOf 16 (old.vget (yVa w + 1)).toNat i
    let b := if ySB w then (old.sget (yVb w)).toNat % 65536 else laneOf 16 (old.vget (yVb w)).toNat i
    let b' := if ySB w then (old.sget (yVb w)).toNat / 65536 else laneOf 16 (old.vget (yVb w + 1)).toNat i
    let z := sext 48 (laneOf 48 (new.accget (yAd w)).toNat i)
    let x := laneOf 48 ((semReg lut .vmac w ext old new).accget (yAd w)).toNat i
    let q := sext 48 (laneOf 48 (old.accget (yAd w)).toNat i)
    let y := laneOf 16 ((semReg lut .vmac w ext old new).vget (yVa w)).toNat i
    (fn < 0x1C → on = false → x = laneOf 48 (new.accget (yAd w)).toNat i) ∧
    (0x1C ≤ fn → on = false → y = laneOf 16 (new.vget (yVa w)).toNat i) ∧
    (on = true →
      (fn = 0x00 → x = trunc 48 (z + sext 16 a * sext 16 b)) ∧ (fn = 0x01 → x = trunc 48 (z + a * b)) ∧
      (fn = 0x02 → x = trunc 48 (z + a * sext 16 b)) ∧
      (fn = 0x03 → x = trunc 48 (z - sext 16 a * sext 16 b)) ∧ (fn = 0x04 → x = trunc 48 (z - a * sext 16 b)) ∧
      (fn = 0x08 → x = trunc 48 (z + sext 16 a * sext 16 b + sext 16 a' * sext 16 b')) ∧
      (fn = 0x09 → x = trunc 48 (z + a * b + a' * b')) ∧
      (fn = 0x0A → x = trunc 48 (z + a * sext 16 b + a' * sext 16 b')) ∧
      (fn = 0x10 → x = trunc 48 (sext 16 a * sext 16 b)) ∧ (fn = 0x11 → x = trunc 48 (a * sext 16 b)) ∧
      (fn = 0x18 → x = trunc 48 (old.sget (yVb w)).toInt) ∧ (fn = 0x19 → x = trunc 48 (sext 16 a * 2 ^ yMSh w)) ∧
      (fn = 0x1C → sext 16 y = max (-32768) (min 32767 (rshr q (yMSh w)))) ∧
      (fn = 0x1D → (y : Int) = max 0 (min 65535 (rshr q (yMSh w)))) ∧
      (fn = 0x1E → y = trunc 16 (q / 2 ^ yMSh w))) ∧
    (∀ n, (n ≠ yAd w → (semReg lut .vmac w ext old new).accget n = new.accget n)
      ∧ (n ≠ yVa w ∨ (legalVmac w = true ∧ fn < 0x1C) → (semReg lut .vmac w ext old new).vget n = new.vget n)
      ∧ (n ≠ yRd w → (semReg lut .vlut w ext old new).vget n = new.vget n)) ∧
    (let v := laneOf 16 (old.vget (yRs1 w)).toNat i
     let t := lut (yRs2 w % 8)
     let l := laneOf 16 ((semReg lut .vlut w ext old new).vget (yRd w)).toNat i
     ((old.pget (yPg w)).getLsbD i = false → l = laneOf 16 (new.vget (yRd w)).toNat i) ∧
     ((old.pget (yPg w)).getLsbD i = true →
      (yFn7 w = 0 → l = t (v % 4096) % 65536) ∧ (yFn7 w = 1 → l = t (v / 16) % 65536) ∧
      ((∀ n, t n < 65536) → yFn7 w = 2 → (l : Int) = t (v / 16)
        + (((t (min (v / 16 + 1) 4095) : Int) - t (v / 16)) * (v % 16 : Nat) + 8) / 16))))

/-- From R51, R52, R58, R72, R73: LDL and LDLU read their local space at the effective offset, extend, and with U set leave the post-updated
base. A misaligned access, and one outside its space, raises its exception on a pump and loads nothing. R51, R58, R72, R73: STL stores the
low bytes of its register, or a whole vector, at the effective offset of its local space. Every byte of pails, windlass memories and
cisterns outside the stored bytes, every other core, local and CXL memory and the other registers stay as they were. (The model's choices
that it meets are those of log entry 27.) -/
def Obligations.LocalLoadsAndStores : Prop :=
  (∀ (c : Fin 84) (s : State) (w0 w1 : Nat) (signed : Bool), s.dev.issues c w0 w1 →
    opOf w0 = some (if signed then .ldl else .ldlu) →
    let r := (s.dev.core c).regs
    let n := sizeBytes (ySz w0)
    let next := r.aget (yAb w0) + BitVec.ofInt 48 (yOff13 w0 * n)
    let o := if yU w0 then (r.aget (yAb w0)).toNat else next.toNat
    let size := if ySp w0 = 1 then (r.crget 0x12).toNat else if c.val < 80 then 262144 else 524288
    let bytes := if ySp w0 = 1 then mread (s.dev.well (wellOf c)).cistern ((r.crget 0x11).toNat + o) n
      else mread (s.dev.core c).mem o n
    (o % (if ySz w0 = 3 then 2 else n) = 0 → o + n ≤ size → s.dev.windowStalls c (ySp w0) o n = false →
      exec ((if signed then Op.ldl else Op.ldlu).row c) s = .next (s.bundleTo c w0 w1 (fun q =>
        let q := if yU w0 then q.aput (yAb w0) next else q
        if ySz w0 = 3 then q.vput (yRd w0) (BitVec.ofNat 512 (leNat bytes))
        else q.sput (yRd w0) (if signed then BitVec.ofInt 32 (sext (8 * n) (leNat bytes)) else BitVec.ofNat 32 (leNat bytes))))) ∧
    (c.val < 80 → o % (if ySz w0 = 3 then 2 else n) ≠ 0 →
      exec ((if signed then Op.ldl else Op.ldlu).row c) s
        = .next { s with dev := s.dev.exception c excAlignment 0 0 r.pc.toNat o })) ∧
  (∀ (c : Fin 84) (s : State) (w0 w1 : Nat), s.dev.issues c w0 w1 → opOf w0 = some .stl →
    let r := (s.dev.core c).regs
    let n := sizeBytes (ySz w0)
    let next := r.aget (yAb w0) + BitVec.ofInt 48 (yOff13 w0 * n)
    let o := if yU w0 then (r.aget (yAb w0)).toNat else next.toNat
    let size := if ySp w0 = 1 then (r.crget 0x12).toNat else if c.val < 80 then 262144 else 524288
    let bytes := if ySz w0 = 3 then le 64 (r.vget (yRd w0)).toNat else le n (r.sget (yRd w0)).toNat
    o % n = 0 → o + n ≤ size → (c.val < 80 → ySp w0 = 0 → (s.dev.well (wellOf c)).codeLim ≤ o) →
    s.dev.windowStalls c (ySp w0) o n = false →
    ∃ t, exec (.stl c) s = .next t ∧
      (let mem := if ySp w0 = 1 then (t.dev.well (wellOf c)).cistern else (t.dev.core c).mem
       let old := if ySp w0 = 1 then (s.dev.well (wellOf c)).cistern else (s.dev.core c).mem
       let at' := if ySp w0 = 1 then (r.crget 0x11).toNat + o else o
       mread mem at' n = bytes ∧ (∀ a, a < at' ∨ at' + n ≤ a → mget mem a = mget old a)) ∧
      (ySp w0 = 1 → (t.dev.core c).mem = (s.dev.core c).mem) ∧
      (ySp w0 ≠ 1 → t.dev.well (wellOf c) = s.dev.well (wellOf c)) ∧
      (t.dev.core c).regs = (s.dev.slot1 c w0 w1 r (if yU w0 then r.aput (yAb w0) next else r)).advance r.pc none none ∧
      (∀ c', c' ≠ c.val → t.dev.core c' = s.dev.core c') ∧ t.dev.mem = s.dev.mem ∧ t.dev.regs = s.dev.regs
      ∧ t.pending = s.pending)

/-- From R74, R75: LDG with a translation at hand and fewer than eight loads in flight leaves its load outstanding, in the address
space of its issue; beside the registers it changes the translation caches alone. Its data arrive with GLOBAL_LOAD_RETURN, which writes
the register, or zero and PSN when the data are poisoned or the page is gone; a load leaves once the older ones have returned too. R72, R74: STG with a translation at hand writes the bytes of its register to the physical address, leaves every
other byte of local and CXL memory, and with U set leaves the post-updated base. (The model's choices that it meets are those of log entry
24.) -/
def Obligations.GlobalLoadsAndStores : Prop :=
  ((∀ (c : Fin 84) (s : State) (w0 w1 pa : Nat), s.dev.issues c w0 w1 → opOf w0 = some .ldg →
    let r := (s.dev.core c).regs
    let n := sizeBytes (yGSz w0)
    let next := r.aget (yAb w0) + BitVec.ofInt 48 (yOff14 w0 * n)
    let va := if yGU w0 then (r.aget (yAb w0)).toNat else next.toNat
    va % n = 0 → s.dev.coreXlat c r va false = .ok pa → r.loads.length < 8 →
    let space := if r.mode = 1 ∧ 80 ≤ c.val then 0 else (r.crget 0x10).toNat % 4096
    let load : Load := { space := some space, va := va, sz := yGSz w0, signed := yS w0, rt := yRd w0 }
    (c.val < 80 ∨ r.mode ≠ 3 → exec (.ldg c) s = .next ((s.to (s.dev.coreFill c r va)).bundleTo c w0 w1 (fun q =>
      let q := if yGU w0 then q.aput (yAb w0) next else q
      { q with loads := q.loads ++ [load] }))) ∧
    (80 ≤ c.val → r.mode = 3 → exec (.ldg c) s = .next (s.bundleTo c w0 w1 (fun q =>
      let q := if yGU w0 then q.aput (yAb w0) next else q
      { q with loads := q.loads ++ [{ load with space := none, va := pa }] })))) ∧
  (∀ (d : Dev) (c va : Nat) (r : Regs), ∃ l, d.coreFill c r va = { d with mem := { d.mem with caches := l } }) ∧
  (∀ (c : Fin 84) (s : State) (i : Nat) (l : Load) (pa : Nat),
    let r := (s.dev.core c).regs
    r.loads[i]? = some l → l.done = false →
    (∀ e ∈ r.loads.take i, e.done = false → overlap e.va (sizeBytes e.sz) l.va (sizeBytes l.sz) = false) →
    (∀ asid, l.space = some asid → s.dev.phys asid l.va = some pa ∨ s.dev.phys asid l.va = none) →
    (l.space = none → pa = l.va) →
    ∃ t, exec (.globalLoadReturn c i) s = .next t ∧
      (let gone := match l.space with | some asid => (s.dev.phys asid l.va).isNone | none => false
       let bad := gone || s.dev.poisoned pa
       let bs := if bad then zeros (sizeBytes l.sz) else (List.range (sizeBytes l.sz)).map (fun j => s.dev.physByte (pa + j))
       let q := if l.sz = 3 then r.vput l.rt (BitVec.ofNat 512 (leNat bs))
         else r.sput l.rt (if l.signed then BitVec.ofInt 32 (sext (8 * sizeBytes l.sz) (leNat bs)) else BitVec.ofNat 32 (leNat bs))
       (t.dev.core c).regs = { (if bad then q.stSet stPSN true else q) with
         loads := (r.loads.modify i (fun l => { l with done := true })).dropWhile (·.done) }) ∧
      (∀ c', c' ≠ c.val → t.dev.core c' = s.dev.core c') ∧ t.dev.mem = s.dev.mem ∧ t.pending = s.pending)) ∧
  (∀ (c : Fin 84) (s : State) (w0 w1 pa : Nat), s.dev.issues c w0 w1 → opOf w0 = some .stg →
    let r := (s.dev.core c).regs
    let n := sizeBytes (yGSz w0)
    let next := r.aget (yAb w0) + BitVec.ofInt 48 (yOff14 w0 * n)
    let va := if yGU w0 then (r.aget (yAb w0)).toNat else next.toNat
    let bytes := if yGSz w0 = 3 then le 64 (r.vget (yRd w0)).toNat else le n (r.sget (yRd w0)).toNat
    va % n = 0 → s.dev.coreXlat c r va true = .ok pa → (∀ j, j < n → s.dev.behind (pa + j) = 0) →
    (∀ l ∈ r.loads, l.done = false → overlap l.va (sizeBytes l.sz) (if l.space = none then pa else va) n = false) →
    ∃ t, exec (.stg c) s = .next t ∧ mread t.dev.mem.bytes pa n = bytes
      ∧ (∀ a, a < pa ∨ pa + n ≤ a → mget t.dev.mem.bytes a = mget s.dev.mem.bytes a)
      ∧ (t.dev.core c).mem = (s.dev.core c).mem ∧ (∀ w, t.dev.well w = s.dev.well w)
      ∧ (t.dev.core c).regs = (s.dev.slot1 c w0 w1 r (if yGU w0 then r.aput (yAb w0) next else r)).advance r.pc none none
      ∧ (∀ c', c' ≠ c.val → t.dev.core c' = s.dev.core c'))

/-- From R68, R77, R88: branches, JAL and LOOP. A branch taken goes to its pc plus 8 times its offset, after both slots, and disarms the loops
it leaves; one not taken goes on as any bundle does. LOOP arms its loop, or with a count of 0 skips the body. R77: the end of a bundle
that no branch leaves. Loop 1 is tested first; the count of a loop that the bundle ends falls by one, control returns to the loop's start
until the count is spent, and a spent loop is disarmed. Elsewhere the pc moves on by 8. (The model's choices that it meets are those of
log entry 23.) -/
def Obligations.BranchesAndLoops : Prop :=
  (∀ (c : Fin 84) (s : State) (w0 w1 : Nat), s.dev.issues c w0 w1 →
    let r := (s.dev.core c).regs
    let v := r.sget (yBRs w0)
    let p := r.pget (yBPn w0)
    let to18 := r.pc + BitVec.ofInt 48 (8 * yOff18 w0)
    (opOf w0 = some .bcc →
      let taken := (yCond w0 = 0 ∧ v = 0) ∨ (yCond w0 = 1 ∧ v ≠ 0) ∨ (yCond w0 = 2 ∧ v.toInt < 0) ∨ (yCond w0 = 3 ∧ 0 ≤ v.toInt)
        ∨ (yCond w0 = 4 ∧ 0 < v.toInt) ∨ (yCond w0 = 5 ∧ v.toInt ≤ 0) ∨ yCond w0 = 6
      (taken → exec (.bcc c) s = .next (s.withRegs c (fun q => { (s.dev.slot1 c w0 w1 q q).leave to18 with pc := to18 }))) ∧
      (¬ taken → exec (.bcc c) s = .next (s.withRegs c (fun q => (s.dev.slot1 c w0 w1 q q).advance q.pc none none)))) ∧
    (opOf w0 = some .bp →
      let taken := (yCond w0 = 0 ∧ p ≠ 0) ∨ (yCond w0 = 1 ∧ p = 0) ∨ (yCond w0 = 2 ∧ p = BitVec.allOnes 32)
        ∨ (yCond w0 = 3 ∧ p ≠ BitVec.allOnes 32)
      (taken → exec (.bp c) s = .next (s.withRegs c (fun q => { (s.dev.slot1 c w0 w1 q q).leave to18 with pc := to18 }))) ∧
      (¬ taken → exec (.bp c) s = .next (s.withRegs c (fun q => (s.dev.slot1 c w0 w1 q q).advance q.pc none none)))) ∧
    (opOf w0 = some .jal →
      let to26 := r.pc + BitVec.ofInt 48 (8 * yOff26 w0)
      exec (.jal c) s = .next (s.withRegs c (fun q =>
        { (s.dev.slot1 c w0 w1 q (q.sput 31 ((r.pc + 8).truncate 32))).leave to26 with pc := to26 }))) ∧
    (opOf w0 = some .loop →
      let n := yLoopN w0
      let cnt := r.sget (yLoopRs w0)
      let first := r.pc + 8
      let last := first + BitVec.ofNat 48 (8 * (yLoopLen w0 - 1))
      (cnt = 0 → ∃ armed, exec (.loop c) s = .next (s.withRegs c (fun q =>
        { s.dev.slot1 c w0 w1 q (q.stSet (armedBit n) armed) with pc := first + BitVec.ofNat 48 (8 * yLoopLen w0) }))) ∧
      (cnt ≠ 0 → exec (.loop c) s = .next (s.withRegs c (fun q =>
        (s.dev.slot1 c w0 w1 q ((((q.crput (0x20 + n) cnt).crput (0x22 + 2 * n) (first.truncate 32)).crput (0x23 + 2 * n)
          (last.truncate 32)).stSet (armedBit n) true)).advance r.pc none none))))) ∧
  (∀ (r : Regs) (pc : BitVec 48),
    let ends := fun n => r.stBit (armedBit n) = true ∧ pc.toNat % 4294967296 = r.loopEnd n
    (¬ ends 0 → ¬ ends 1 → r.advance pc none none = { r with pc := pc + 8 }) ∧
    (ends 1 → r.crget 0x21 ≠ 1 →
      r.advance pc none none = { r.crput 0x21 (r.crget 0x21 - 1) with pc := (r.crget 0x24).zeroExtend 48 &&& 0xFFFFFFFFFFF8#48 }) ∧
    (ends 1 → r.crget 0x21 = 1 → ¬ ends 0 →
      r.advance pc none none = { (r.crput 0x21 0).stSet stL1A false with pc := pc + 8 }) ∧
    (ends 0 → ¬ ends 1 → r.crget 0x20 ≠ 1 →
      r.advance pc none none = { r.crput 0x20 (r.crget 0x20 - 1) with pc := (r.crget 0x22).zeroExtend 48 &&& 0xFFFFFFFFFFF8#48 }) ∧
    (ends 0 → ¬ ends 1 → r.crget 0x20 = 1 →
      r.advance pc none none = { (r.crput 0x20 0).stSet stL0A false with pc := pc + 8 }))

/-- From R78, R79, R80, R139: the stream functions on a bound port whose slot is not being copied to another sub-bank. SIN takes a data word, SMARKR a marker, SOUT and SMARKW append where
there is room, SAVAIL and SHEAD look without taking. The task's ports read in-order items; nothing of local or CXL memory
changes. R79, R80, R82: a stream function that cannot issue. An empty in-port, and a full out-port, leave the pump where it is; the
wrong kind of head item, and a port that is not bound, raise a stream protocol error. A SKIP at the head is consumed and starts a strip
skip that posts no record. (The model's choice that it meets there is that of log entry 117.) -/
def Obligations.Streams : Prop :=
  (∀ (c : Fin 84) (s : State) (w0 w1 : Nat), s.dev.issues c w0 w1 →
    let d := s.dev
    let r := (d.core c).regs
    let k := yPort w0
    let done := fun (d' : Dev) (f : Regs → Regs) => { s with dev := d'.regsMod c (fun q =>
      (d.slot1 c w0 w1 r (f q)).advance r.pc none none) }
    portBound (r.port k) = true →
    (d.portStalls c k = false → opOf w0 = some .sin → ∀ v rest, d.portItems c k = .data v :: rest →
      exec (.sin c) s = .next (done (d.setItems c k rest) (fun q => q.vput (yRd w0) v))) ∧
    (d.portStalls c k = false → opOf w0 = some .smarkr → ∀ m rest, d.portItems c k = .mark m :: rest → markKind m ≠ markSkip →
      exec (.smarkr c) s = .next (done (d.setItems c k rest) (fun q => q.sput (yRd w0) (BitVec.ofNat 32 m)))) ∧
    (d.portStalls c k = false → opOf w0 = some .sout → 0 < d.portRoom c k →
      exec (.sout c) s = .next (done (d.portPush c k (.data (r.vget (yRd w0)))) (fun q => q))) ∧
    (d.portStalls c k = false → opOf w0 = some .smarkw → 0 < d.portRoom c k →
      let kind := bits (yOpd w0) 13 12
      let psn := kind = markEos ∧ r.stBit stPSN = true
      exec (.smarkw c) s = .next (done (d.portPush c k (.mark (kind * 2 ^ 30 + (if psn then 2 ^ 29 else 0) + yOpd w0 % 4096)))
        (fun q => if psn then q.stSet stPSN false else q))) ∧
    (opOf w0 = some .savail →
      exec (.savail c) s = .next (done d (fun q => q.sput (yRd w0)
        (BitVec.ofNat 32 (min 255 (if k < 4 then (d.portItems c k).length else d.portRoom c k)))))) ∧
    (opOf w0 = some .shead →
      exec (.shead c) s = .next (done d (fun q => q.sput (yRd w0)
        (match d.portItems c k with | [] => 4 | .data _ :: _ => 0 | .mark m :: _ => BitVec.ofNat 32 (markKind m + 1)))))) ∧
  (∀ (c : Fin 84) (s : State) (w0 w1 : Nat), s.dev.issues c w0 w1 → c.val < 80 →
    let d := s.dev
    let r := (d.core c).regs
    let k := yPort w0
    let raises := fun (sub : Nat) => .next { s with dev := d.exception c excStream sub 0 r.pc.toNat 0 }
    (∀ op, opOf w0 = some op → op = .sin ∨ op = .sout ∨ op = .smarkr ∨ op = .smarkw ∨ op = .savail ∨ op = .shead →
      portBound (r.port k) = false → exec (op.row c) s = raises 1) ∧
    (portBound (r.port k) = true → d.portStalls c k = false →
      (∀ op m rest, op = .sin ∨ op = .smarkr → opOf w0 = some op → d.portItems c k = .mark m :: rest → markKind m = markSkip →
        exec (op.row c) s = .next { s with dev := ((d.setItems c k rest).startSkip c false 1 [k]).regsMod c (d.slot1 c w0 w1 r) }) ∧
      (opOf w0 = some .sin → d.portItems c k = [] → exec (.sin c) s = .next s) ∧
      (opOf w0 = some .smarkr → d.portItems c k = [] → exec (.smarkr c) s = .next s) ∧
      (opOf w0 = some .sout → d.portRoom c k = 0 → exec (.sout c) s = .next s) ∧
      (opOf w0 = some .smarkw → d.portRoom c k = 0 → exec (.smarkw c) s = .next s) ∧
      (opOf w0 = some .sin → ∀ m rest, d.portItems c k = .mark m :: rest → markKind m ≠ markSkip → exec (.sin c) s = raises 2) ∧
      (opOf w0 = some .smarkr → ∀ v rest, d.portItems c k = .data v :: rest → exec (.smarkr c) s = raises 3)))

/-- From R83, Table YI-12: reading and writing control registers. Those that count cycles (PIPE_WDOG_CNT, PIPE_CYCLE) read as free values (log
entry 10), and PIPE_CODE_LIM reads the end of the well's code region. CSET and CCLR act on the bits that are 1 in the operand; a W1C flag
of PIPE_STATUS is cleared by CWR and CCLR, and a write of the read-only PIPE_CAUSE has no effect; an access that the table forbids raises privileged instruction. (The model's choices that it
meets are those of log entries 10 and 26.) -/
def Obligations.ControlRegisters : Prop :=
  ∀ (c : Fin 84) (s : State) (w0 w1 : Nat), s.dev.issues c w0 w1 →
    let r := (s.dev.core c).regs
    let n := yCreg w0
    let v := r.sget (yRs1 w0)
    (opOf w0 = some .crd → (cregPerm r.mode n).1 = true →
      (n ≠ 0x13 → n ≠ 0x31 → n ≠ 0x40 → n ≠ 0x41 → exec (.crd c) s = .next (s.bundleTo c w0 w1
        (fun q => q.sput (yRd w0) (if n = 0x60 then corePlace c else q.crget n)))) ∧
      (n = 0x13 → exec (.crd c) s = .next (s.bundleTo c w0 w1
        (fun q => q.sput (yRd w0) (BitVec.ofNat 32 (s.dev.well (wellOf c)).codeLim)))) ∧
      (n = 0x31 ∨ n = 0x40 ∨ n = 0x41 → ∃ v t, exec (.crd c) s = .next t
        ∧ (t.dev.core c).regs = (s.dev.slot1 c w0 w1 r (r.sput (yRd w0) v)).advance r.pc none none ∧ t.dev.free = s.dev.free + 1)) ∧
    (∀ op, (op = .cwr ∨ op = .cset ∨ op = .cclr) → opOf w0 = some op → (cregPerm r.mode n).2 = true → n = 1 →
      exec (op.row c) s = .next (s.bundleTo c w0 w1 (fun q => q))) ∧
    (∀ op, (op = .cwr ∨ op = .cset ∨ op = .cclr) → opOf w0 = some op → (cregPerm r.mode n).2 = true → n ≠ 0 → n ≠ 1 →
      exec (op.row c) s = .next (s.bundleTo c w0 w1 (fun q => q.crput n (cregMask n &&&
        (if op = .cwr then v else if op = .cset then q.crget n ||| v else q.crget n &&& ~~~v))))) ∧
    (∀ op, (op = .cwr ∨ op = .cset ∨ op = .cclr) → opOf w0 = some op → n = 0 → ∃ q,
      exec (op.row c) s = .next (s.bundleTo c w0 w1 (fun _ => q)) ∧
      (∀ m, m ≠ 0 → q.crget m = r.crget m) ∧ (∀ m, q.sget m = r.sget m) ∧
      (∀ j, j < 32 → q.stBit j =
        if j = stSKIPPED ∨ j = stSAT then r.stBit j && !(decide (op ≠ .cset) && v.getLsbD j)
        else if r.mode ≠ 0 ∧ (j = stIE ∨ j = 20 ∨ j = 21) then
          (if op = .cwr then v.getLsbD j else if op = .cset then r.stBit j || v.getLsbD j else r.stBit j && !v.getLsbD j)
        else r.stBit j)) ∧
    (c.val < 80 → (opOf w0 = some .crd → (cregPerm r.mode n).1 = false →
        exec (.crd c) s = .next { s with dev := s.dev.exception c excPrivileged 0 0 r.pc.toNat 0 }) ∧
      (∀ op, (op = .cwr ∨ op = .cset ∨ op = .cclr) → opOf w0 = some op → (cregPerm r.mode n).2 = false →
        exec (op.row c) s = .next { s with dev := s.dev.exception c excPrivileged 0 0 r.pc.toNat 0 }))

/-- From R49, R51, R69, R93: the CTL functions that act on the core alone. WDKICK reloads the watchdog count from PIPE_WDOG_LIM;
FENCE waits for the core's outstanding loads; IFLUSH makes fetch see local memory; WAITI ends once an interrupt is pending;
RESUME goes on at PIPE_EPC in the mode RMODE, and RESUMEI sets IE as well. In Task mode IFLUSH has its effect, while WAITI
and RESUME raise privileged instruction. -/
def Obligations.CoreControl : Prop :=
  ∀ (c : Fin 84) (s : State) (w0 w1 : Nat), s.dev.issues c w0 w1 →
    let d := s.dev
    let r := (d.core c).regs
    (opOf w0 = some .wdkick → exec (.wdkick c) s = .next (s.bundleTo c w0 w1 (fun q => q.crput 0x31 (q.crget 0x30)))) ∧
    (opOf w0 = some .fence → r.loads = [] → exec (.fence c) s = .next (s.bundleTo c w0 w1 (fun q => q))) ∧
    (opOf w0 = some .fence → r.loads ≠ [] → exec (.fence c) s = .next s) ∧
    (opOf w0 = some .iflush → ∃ d', exec (.iflush c) s = .next { s with dev := d' } ∧
      d' = (d.coreMod c (fun k => { k with fetch := k.mem })).regsMod c (fun q => (d.slot1 c w0 w1 r q).advance r.pc none none)) ∧
    (opOf w0 = some .waiti → r.mode = 1 ∨ r.mode = 3 → (d.core c).irqs ≠ [] →
      exec (.waiti c) s = .next (s.bundleTo c w0 w1 (fun q => q))) ∧
    (opOf w0 = some .waiti → r.mode = 1 ∨ r.mode = 3 → (d.core c).irqs = [] → exec (.waiti c) s = .next s) ∧
    (∀ op, op = .resume ∨ op = .resumei → opOf w0 = some op →
      (r.mode = 3 ∧ r.rmode = 1) ∨ (r.mode = 1 ∧ (r.rmode = 1 ∨ r.rmode = 0)) →
      ∃ q, exec (op.row c) s = .next (s.withRegs c (fun _ => q)) ∧ q.mode = r.rmode
        ∧ q.pc = (r.crget 2).zeroExtend 48 &&& 0xFFFFFFFFFFF8#48 ∧ q.stBit stIE = (r.stBit stIE || op == .resumei)
        ∧ (∀ n, q.sget n = r.sget n ∧ q.aget n = r.aget n ∧ (n ≠ 0 → q.crget n = r.crget n))) ∧
    (∀ op, op = .resume ∨ op = .resumei ∨ op = .waiti → opOf w0 = some op → r.mode = 0 →
      exec (op.row c) s = .next (s.withRegs c (fun q => (q.setCause false excPrivileged 0 0 r.pc.toNat 0).enterSup)))

/-- From R49, R92: taking an exception on a windlass core, by SVC in Task mode and by an interrupt with IE set. PIPE_CAUSE, PIPE_EPC and
PIPE_TVAL are written, the interrupted mode goes into RMODE, the mode becomes Supervisor, IE clears and the pc goes to PIPE_ENTRY; the
other registers stay. R56, R89 to R92, R94: what an exception does to a pump's task. A bundle that fails its decode checks raises illegal
instruction without any effect of its own. A real-time task starts a strip skip with its loops disarmed and its loads dropped; a
background task is saved and waits for the windlass firmware. WATCHDOG raises its exception between bundles and reloads the count; a limit
of 0 disables it. (The model's choices that it meets are those of log entries 28 and 30.) -/
def Obligations.ExceptionEntry : Prop :=
  (∀ (s : State),
    let entered := fun (r q : Regs) (code sub epc : Nat) =>
      q.mode = 1 ∧ q.rmode = r.mode ∧ q.stBit stIE = false
      ∧ q.pc = (r.crget 5).zeroExtend 48 &&& 0xFFFFFFFFFFF8#48
      ∧ q.crget 1 = BitVec.ofNat 32 (sub * 2 ^ 16 + code) ∧ q.crget 2 = BitVec.ofNat 32 epc ∧ q.crget 3 = 0 ∧ q.crget 4 = 0
      ∧ (∀ n, 4 < n → q.crget n = r.crget n) ∧ (∀ n, q.sget n = r.sget n) ∧ (∀ n, q.aget n = r.aget n)
      ∧ (∀ j, j < 30 → j ≠ stIE → j ≠ 20 → j ≠ 21 → q.stBit j = r.stBit j)
    (∀ (c : Fin 84) (w0 w1 : Nat), 80 ≤ c.val → s.dev.issues c w0 w1 → opOf w0 = some .svc →
      (s.dev.core c).regs.mode = 0 →
      ∃ q, exec (.svc c) s = .next (s.withRegs c (fun _ => q))
        ∧ entered (s.dev.core c).regs q excSvc (yCreg w0 % 256) (s.dev.core c).regs.pc.toNat) ∧
    (∀ (k : Fin 4) (source : Option Byte),
      let core := s.dev.core (80 + k)
      let irqs := core.irqs ++ (match source with | some b => [b.toNat] | none => [])
      ∀ i rest, irqs = i :: rest →
      (core.regs.stBit stIE = true → core.regs.mode ≠ 3 → core.stopped = false →
        ∃ t, exec (.windlassInterrupt k source) s = .next t
          ∧ entered core.regs (t.dev.core (80 + k)).regs excInterrupt (i % 256) core.regs.pc.toNat
          ∧ (t.dev.core (80 + k)).irqs = rest ∧ (∀ c, c ≠ 80 + k.val → t.dev.core c = s.dev.core c)) ∧
      (core.regs.stBit stIE = false →
        ∃ t, exec (.windlassInterrupt k source) s = .next t ∧ (t.dev.core (80 + k)).regs = core.regs
          ∧ (t.dev.core (80 + k)).irqs = irqs ∧ (∀ c, c ≠ 80 + k.val → t.dev.core c = s.dev.core c)))) ∧
  (∀ (c : Fin 84) (s : State), c.val < 80 →
    let r := (s.dev.core c).regs
    let cause := fun (q : Regs) (rt : Bool) (code sub slot : Nat) =>
      q.crget 1 = BitVec.ofNat 32 (rt.toNat * 2 ^ 31 + slot * 2 ^ 24 + sub * 2 ^ 16 + code)
        ∧ q.crget 2 = BitVec.ofNat 32 r.pc.toNat
    (∀ (w0 w1 slot : Nat) (op : Op) (i : Nat) (t : Task), s.dev.coreRuns c = true → s.dev.fetch c = some (w0, w1) →
      (opOf w0 = some op ∨ opOf w0 = none) → illegalSlot true (s.dev.nlut c) w0 w1 = some slot →
      slot = 0 ∨ loopEndBad w0 = false → (s.dev.core c).task = some (i, t) →
      (t.rt = true → ∃ u, exec (op.row c) s = .next u ∧ cause (u.dev.core c).regs true excIllegal 0 slot
        ∧ (u.dev.core c).regs.stBit stSKIPPING = true ∧ (u.dev.core c).regs.stBit stL0A = false
        ∧ (u.dev.core c).regs.stBit stL1A = false ∧ (u.dev.core c).regs.loads = []
        ∧ (∀ n, (u.dev.core c).regs.sget n = r.sget n) ∧ u.dev.mem = s.dev.mem) ∧
      (t.rt = false → ∃ u, exec (op.row c) s = .next u ∧ (u.dev.core c).cur = none
        ∧ u.dev.cores.service = s.dev.cores.service ++ [c.val]
        ∧ (∃ t' q, tget (u.dev.core c).tasks i = some t' ∧ t'.st = .suspended ∧ (u.dev.core c).holds t' q
          ∧ q.pc = r.pc ∧ cause q false excIllegal 0 slot)
        ∧ u.dev.mem = s.dev.mem)) ∧
    (∀ (i : Nat) (t : Task), (s.dev.core c).task = some (i, t) → t.rt = true → r.stBit stSKIPPING = false →
      r.crget 0x30 ≠ 0 →
      ∃ u, exec (.watchdog c) s = .next u ∧ cause (u.dev.core c).regs true excWatchdog 0 0
        ∧ (u.dev.core c).regs.crget 0x31 = r.crget 0x30 ∧ (u.dev.core c).regs.stBit stSKIPPING = true) ∧
    (r.crget 0x30 = 0 → exec (.watchdog c) s = .next s))

/-- From R69, R92, R94, R117: the ends of a pump's bundle stream. SVC of a background task suspends it at the next bundle; SKIPSTRIP of a
real-time task starts a strip skip. YIELD of a real-time task whose out-ports hold their end markers ends its strip as done and leaves the
task waiting; while an out-port without one is full it stalls, and where there is room the strip ends as skipped, its out-slots complete,
with a fault record of KIND 3. YIELD of a background task goes on when no other one is ready, gives the pump to the one that is, and ends
the task when its graph drains. HALT ends the task. SVC in a real-time task and SKIPSTRIP in a background task raise privileged
instruction. R94, R117: a strip skip under STRIP_SKIP serves the out-ports in turn, then the in-ports. An out-port with room receives its
SKIP marker with PSN and the strip number, a full one at which the task had not overrun its slot stalls the skip; an in-port without its
end marker is emptied and waited for. Once every port is served, SKIPPING clears and SKIPPED sets, PIPE_STRIP_NO counts up, and the task
gives up the pump, to go on at PIPE_STRIP_ENTRY. (The model's choices that it meets are those of log entries 29 and 126.) -/
def Obligations.TaskAndStripEnds : Prop :=
  (∀ (c : Fin 84) (s : State) (w0 w1 i : Nat) (t : Task), c.val < 80 → s.dev.issues c w0 w1 →
    (s.dev.core c).task = some (i, t) →
    let r := (s.dev.core c).regs
    let after := (s.dev.slot1 c w0 w1 r r).advance r.pc none none
    (opOf w0 = some .svc → t.rt = false → ∃ u, exec (.svc c) s = .next u ∧ (u.dev.core c).cur = none
      ∧ u.dev.cores.service = s.dev.cores.service ++ [c.val]
      ∧ (∃ t' q, tget (u.dev.core c).tasks i = some t' ∧ t'.st = .suspended ∧ (u.dev.core c).holds t' q ∧ q.pc = r.pc + 8)) ∧
    (opOf w0 = some .skipstrip → t.rt = true → ∃ u, exec (.skipstrip c) s = .next u
      ∧ (u.dev.core c).regs.stBit stSKIPPING = true ∧ (u.dev.core c).regs.loads = []
      ∧ (∃ t', (u.dev.core c).task = some (i, t') ∧ t'.skipPost = false)) ∧
    (t.rt = true → t.strip.isSome → s.dev.role c ≠ .withdrawing → (∀ k ∈ r.boundPorts 4, s.dev.portEnded c k = true) →
      (opOf w0 = some .yield → ∃ u, exec (.yield c) s = .next u ∧ s.dev.stripEnds u.dev c i t .waiting .done) ∧
      (opOf w0 = some .halt → ∃ u, exec (.halt c) s = .next u ∧ s.dev.stripEnds u.dev c i t .ended .done)) ∧
    (t.rt = true → t.strip.isSome → s.dev.role c ≠ .withdrawing → (∃ k ∈ r.boundPorts 4, s.dev.portEnded c k = false) →
      (∀ k ∈ r.boundPorts 4, s.dev.portEnded c k = true ∨ 0 < s.dev.portRoom c k) →
      opOf w0 = some .yield → ∃ u b, exec (.yield c) s = .next u ∧ s.dev.stripEnds u.dev c i t .waiting .skipped
        ∧ u.dev.cores.rtFaults = s.dev.cores.rtFaults ++ [b] ∧ field b 4 1 = 3) ∧
    (t.rt = true → (∃ k ∈ r.boundPorts 4, s.dev.portEnded c k = false ∧ s.dev.portRoom c k = 0) →
      (opOf w0 = some .yield → exec (.yield c) s = .next s) ∧ (opOf w0 = some .halt → exec (.halt c) s = .next s)) ∧
    (t.rt = false → (s.dev.graph t.graph).map (·.st) ≠ some .draining →
      (opOf w0 = some .yield → (∀ e ∈ (s.dev.core c).tasks, e.1 = i ∨ e.2.rt = true ∨ e.2.st ≠ .ready) →
        exec (.yield c) s = .next (s.bundleTo c w0 w1 (fun q => q))) ∧
      (opOf w0 = some .yield → ∀ j tj, j ≠ i → tget (s.dev.core c).tasks j = some tj → tj.st = .ready → tj.rt = false →
        (∀ e ∈ (s.dev.core c).tasks, e.1 = i ∨ e.1 = j ∨ e.2.rt = true ∨ e.2.st ≠ .ready) →
        ∃ u ti, exec (.yield c) s = .next u ∧ (u.dev.core c).task = some (j, { tj with st := .running })
          ∧ (u.dev.core c).regs = (u.dev.core c).saved tj
          ∧ tget (u.dev.core c).tasks i = some ti ∧ ti.st = .ready ∧ (u.dev.core c).holds ti after) ∧
      (opOf w0 = some .halt → ∃ u t', exec (.halt c) s = .next u
        ∧ tget (u.dev.core c).tasks i = some t' ∧ t'.st = .ended ∧ (u.dev.core c).holds t' after)) ∧
    (∀ g op, t.rt = false → s.dev.graph t.graph = some g → g.st = .draining → g.frames ≠ [] → op = .yield ∨ op = .halt →
      opOf w0 = some op → ∃ u t', exec (op.row c) s = .next u ∧ tget (u.dev.core c).tasks i = some t' ∧ t'.st = .ended) ∧
    (opOf w0 = some .svc → t.rt = true →
      exec (.svc c) s = .next { s with dev := s.dev.exception c excPrivileged 0 0 r.pc.toNat 0 }) ∧
    (opOf w0 = some .skipstrip → t.rt = false →
      exec (.skipstrip c) s = .next { s with dev := s.dev.exception c excPrivileged 0 0 r.pc.toNat 0 })) ∧
  (∀ (c : Fin 80) (s : State) (i : Nat) (t : Task),
    (s.dev.core c).task = some (i, t) → (s.dev.core c).regs.stBit stSKIPPING = true →
    let r := (s.dev.core c).regs
    (∀ k pre post, r.boundPorts 4 = pre ++ k :: post → (∀ p ∈ pre, p ∈ t.skipDone) → k ∉ t.skipDone → s.dev.portRoom c k = 0 →
      k ∉ s.dev.overPorts c → exec (.stripSkip c) s = .next s) ∧
    (∀ k j pre ins rest, r.boundPorts 4 = pre ++ [k] → r.boundPorts 0 = ins ++ j :: rest → (∀ p ∈ pre ++ ins, p ∈ t.skipDone) →
      k ∉ t.skipDone → j ∉ t.skipDone → 0 < s.dev.portRoom c k →
      portKind (r.port j) = 1 → portKind (r.port k) ≠ 1 → dropStrip (s.dev.portItems c j) = none →
      ∃ u, exec (.stripSkip c) s = .next u
        ∧ u.dev.portItems c k = s.dev.portItems c k
          ++ [.mark (2 * 2 ^ 30 + (if r.stBit stPSN then 2 ^ 29 else 0) + (r.crget 0x51).toNat % 4096)]
        ∧ u.dev.portItems c j = [] ∧ (u.dev.core c).regs.stBit stSKIPPING = true ∧ (u.dev.core c).regs.stBit stPSN = false) ∧
    (t.strip.isSome → s.dev.role c ≠ .withdrawing → (∀ p ∈ r.boundPorts 4 ++ r.boundPorts 0, p ∈ t.skipDone) →
      ∃ u t' q, exec (.stripSkip c) s = .next u ∧ s.dev.stripEnds u.dev c i t .waiting .skipped
        ∧ tget (u.dev.core c).tasks i = some t' ∧ (u.dev.core c).holds t' q
        ∧ q.pc = (r.crget 0x50).zeroExtend 48 &&& 0xFFFFFFFFFFF8#48
        ∧ q.stBit stSKIPPING = false ∧ q.stBit stSKIPPED = true ∧ q.stBit stPSN = false
        ∧ q.crget 0x51 = BitVec.ofNat 32 (((r.crget 0x51).toNat + 1) % 4096)))

/-! ## Programs and graphs -/

/-- From R103, R365, R366: LOAD PROGRAM stores an image whose header is in range and whose signature verifies under a fresh handle, and
completes with the handle; one out of range or unsigned completes with IMAGE_FORMAT or SIGNATURE. RELEASE removes an unbound program, and
completes with BUSY for a bound one. R126, R128, R129, R255: SET PARAMETERS writes a new copy of a stage's block for a context, with the
bank in use or, with tables, a bank that no frame in flight uses, and completes with its effect frame; the cube is the one at CUBE_VA when
CUBE_NEW is set, else that of the copy in use. It waits while no copy or neither bank is free, and SET_PARAMS_BANK_FREE carries it out. REPLACE PROGRAM places the new code and names its effect frame. (The model's choices that it meets
are those of log entries 5, 35 and 46.) -/
def Obligations.ProgramsAndParameters : Prop :=
  (∀ (s : State) (seq : Nat) (c : Ctx),
    let d := s.dev
    (d.ready seq false 0x89 = some c → ∀ p, parseImage c.data = some p →
      (d.imageSigned p c.data = true → ∃ t, exec (.loadProgram seq) s = .next (s.to t)
        ∧ tget t.cores.programs d.qf.handle = some p ∧ (∀ h, h ≠ d.qf.handle → tget t.cores.programs h = tget d.cores.programs h)
        ∧ t.cores.graphs = d.cores.graphs ∧ t.qf.handle = d.qf.handle + 1 ∧ t.mem = d.mem
        ∧ t.doneAs seq 0 0 (d.qf.handle % 4294967296)) ∧
      (d.imageSigned p c.data = false → exec (.loadProgram seq) s = .next (s.to (d.fail seq stSignature)))) ∧
    (d.ready seq false 0x89 = some c → parseImage c.data = none →
      exec (.loadProgram seq) s = .next (s.to (d.fail seq stImageFormat))) ∧
    (d.ready seq false 0x84 = some c → c.w10 % 256 = 0x12 → (tget d.cores.programs c.w11).isSome = true →
      ((∀ g ∈ tvals d.cores.graphs, ∀ st ∈ g.stages, st.prog ≠ c.w11 ∧ (∀ x ∈ st.newProgs, x.prog ≠ c.w11)) →
        ∃ t, exec (.releaseProgram seq) s = .next (s.to t) ∧ tget t.cores.programs c.w11 = none
          ∧ (∀ h, h ≠ c.w11 → tget t.cores.programs h = tget d.cores.programs h) ∧ t.doneAs seq 0 0 0) ∧
      ((∃ g ∈ tvals d.cores.graphs, ∃ st ∈ g.stages, st.prog = c.w11 ∨ ∃ x ∈ st.newProgs, x.prog = c.w11) →
        exec (.releaseProgram seq) s = .next (s.to (d.fail seq stBusy))))) ∧
  (∀ (s : State) (seq : Nat) (c : Ctx) (g : Graph) (st : Stage) (p : Program),
    let d := s.dev
    let h := c.w10
    let m := c.w11 % 256
    let ctx := bits c.w11 9 8
    let effect := d.nextFrame g ctx
    let block := c.data.take p.paramSize
    let cubeNew := p.lib = some .look ∧ bit (field block 2 1) 3 = true
    let cubeVa := field block 8 8
    let tables := bit c.w11 16 = true
    let written := fun (t : Dev) (bank : Nat) => ∃ g' st' q, t.graph h = some g' ∧ g'.stage m = some st'
      ∧ (tgetD st'.params ctx []).head? = some q ∧ q.effect = effect ∧ q.block = block
      ∧ q.bank = bank ∧ q.seq = some seq ∧ t.doneAs seq 0 0 (effect % 4294967296)
      ∧ (cubeNew → q.cube = d.vread g.asid cubeVa 215680)
      ∧ (¬ cubeNew → ∀ q0, (tgetD st.params ctx []).find? (fun x => x.effect < effect) = some q0 → q.cube = q0.cube)
    d.graph h = some g → g.stage m = some st → tget d.cores.programs st.prog = some p → ctx < g.nctx →
    c.data.length = p.paramSize + (if tables then p.nlut * 8192 else 0) → libBlockOk p.lib block = true →
    (cubeNew → 647040 * g.nctx ≤ st.cscratch ∧ d.rangeFault false g.asid cubeVa 215680 false = none) →
    (d.ready seq false 0x91 = some c →
      (g.freeCopy st ctx effect = none ∨ (tables ∧ g.freeBank st ctx effect = none) →
        ∃ t g', exec (.setParameters seq) s = .next (s.to t) ∧ t.graph h = some g' ∧ seq ∈ g'.waiting ∧ tget t.qf.ctxs seq = some c) ∧
      (g.freeCopy st ctx effect ≠ none →
        (¬ tables → ∃ t, exec (.setParameters seq) s = .next (s.to t) ∧ written t
          (match (tgetD st.params ctx []).find? (fun x => x.effect < effect) with | some q0 => q0.bank | none => 0)) ∧
        (tables → ∀ bank, g.freeBank st ctx effect = some bank → ∃ t, exec (.setParameters seq) s = .next (s.to t) ∧ written t bank))) ∧
    (d.ready seq false 0x91 = some c → (h, g) ∈ d.cores.graphs → seq ∈ g.waiting → tables → g.freeCopy st ctx effect ≠ none →
      ∀ bank, g.freeBank st ctx effect = some bank → ∃ t, exec (.setParamsBankFree seq) s = .next (s.to t) ∧ written t bank)) ∧
  (∀ (s : State) (seq : Nat) (c : Ctx) (g : Graph) (st : Stage) (p : Program),
    let d := s.dev
    let h := c.w10
    let m := c.w11 % 256
    d.graph h = some g → g.stage m = some st → tget d.cores.programs st.prog = some p →
    (d.ready seq false 0xA0 = some c → ∀ q, tget d.cores.programs c.sqe.cdw13.toNat = some q →
      q.nin = p.nin → q.nout = p.nout → q.nlut = p.nlut → q.paramSize = p.paramSize →
      (∀ k, q.outIpk.getD k 0 ≤ p.outIpk.getD k 0) →
      (if st.rt then bit q.flags 0 else bit q.flags 1) = true →
      ∀ d1 offs, (d.startCmd seq).placeCode h m st q = .ok (d1, offs) →
      ∃ t, exec (.replaceProgram seq) s = .next (s.to t) ∧
        t = ((d1.graphMod h (fun g => g.stageMod m (fun x => { x with
          newProgs := x.newProgs ++ [{
            prog := c.sqe.cdw13.toNat, offs := offs, effects := (List.range g.nctx).map (d1.nextFrame g), seq := seq }] }))).markChanged kGraph h seq).finish seq
          { dw0 := ((List.range g.nctx).map (d1.nextFrame g)).headD 0 % 4294967296,
            dg0 := ((List.range g.nctx).map (d1.nextFrame g)).headD 0, dg1 := h, dgData := c.data, notes := g.lateNote }))

/-- From R105, R113, R125, R140, R141: BUILD GRAPH binds a graph whose descriptor is in range, whose handles exist, whose topology is within
the limits and whose memory can be placed, under a fresh handle; START GRAPH arms one that fits the wells' utilisation and the ingest
buffers; STOP at a boundary admits no further frame and STOP_NOW cuts it; RELEASE unbinds a stopped one. (The model's choices that it
meets are those of log entries 32, 33, 45, 46 and 52.) -/
def Obligations.GraphLifeCycle : Prop :=
  ∀ (s : State) (seq : Nat) (c : Ctx),
    let d := s.dev
    (d.ready seq false 0x8D = some c →
      let asid := c.w10 % 4096
      let g := parseGraph asid c.data
      let g' := { g with chans := d.sizeChans g }
      let d1 := (d.startCmd seq).newHandle.2
      asid ∈ d.mem.spaces → 64 ≤ c.data.length → descOk c.data = true →
      (∀ i, i < field c.data 4 1 → (tget d.cores.programs (field c.data (64 + 32 * i) 4)).isSome = true) →
      (∀ ch ∈ g.chans, ch.kind = 2 → (d.buf ch.target).isSome = true) → (g.source = 2 → g.srcSel < 4 ∨ (d.buf g.srcSel).isSome = true) →
      (d.topologyOk g = true →
        ∀ d3, (d1.coresMod (fun k => { k with graphs := tput k.graphs d.qf.handle g' })).bindGraph d.qf.handle g' = .ok d3 →
          exec (.buildGraph seq) s = .next (s.to ((d3.markCreated kGraph d.qf.handle seq).okCreate seq c d.qf.handle 0))) ∧
      (d.topologyOk g = false → exec (.buildGraph seq) s = .next (s.to (d.fail seq stBadTopology)))) ∧
    (d.ready seq false 0x9C = some c → d.noStart = false → ∀ g, d.graph c.w10 = some g → (g.st = .built ∨ g.st = .stopped) →
      (g.isRt = true → (d.runningGraphs.filter (fun e => e.2.isRt)).length < 8) → d.bufOk g = true →
      let all := d.runningGraphs.map (·.2) ++ [g]
      ((∀ w, w < 16 → ∀ x ∈ all, x.inWell w ≠ [] → d.overUtil Stage.pumpCount all w x.utilMax = false) →
        (bit g.flags 0 = true → (∀ x ∈ d.runningGraphs, bit x.2.flags 0 = false)
          ∧ ∀ v, d.sns.pilot.service = some v → v.sink ∈ g.sinkHandles) →
        exec (.startGraph seq) s = .next (s.to ((((d.startCmd seq).armGraph c.w10 g).markCreated kGraph c.w10 seq).okOther seq c 0))) ∧
      ((∃ w, w < 16 ∧ ∃ x ∈ all, x.inWell w ≠ [] ∧ d.overUtil Stage.pumpCount all w x.utilMax = true) →
        exec (.startGraph seq) s = .next (s.to (d.fail seq stOverUtil)))) ∧
    (d.ready seq false 0x98 = some c → c.w10 % 256 = kGraph → ∀ g, d.graph c.w11 = some g → (g.st = .armed ∨ g.st = .draining) →
      (c.stopNow = true →
        exec (.stopGraph seq) s = .next (s.to ((d.startCmd seq).graphStopNow c.w11 g.stops noteSuperseded (some seq)))) ∧
      (c.stopNow = false → g.frames ≠ [] →
        ∃ t g', exec (.stopGraph seq) s = .next (s.to t) ∧ t.graph c.w11 = some g' ∧ g'.st = .draining
          ∧ g'.frames = g.frames ∧ g'.stops = g.stops ++ [seq] ∧ tget t.qf.ctxs seq = some c)) ∧
    (d.ready seq false 0x84 = some c → c.w10 % 256 = kGraph → ∀ g, d.graph c.w11 = some g →
      ((g.st = .built ∨ g.st = .stopped) →
        exec (.releaseGraph seq) s = .next (s.to (((d.startCmd seq).unbindGraph c.w11).okOther seq c 0))
        ∧ ((d.startCmd seq).unbindGraph c.w11).graph c.w11 = none) ∧
      ((g.st = .armed ∨ g.st = .draining ∨ g.st = .cutting) → exec (.releaseGraph seq) s = .next (s.to (d.fail seq stGraphRunning))))

/-- From R96, R116, R120, R121, R123, R130, Table GS-8: the dispatchers. FRAME_ADMIT admits the oldest waiting frame of a context while at
most one earlier frame is unfinished. STRIP_DISPATCH gives the ready strip that comes first in the order of R121, of those for which a pump
is free, to such a pump, whose task then stands at STRIP_ENTRY with its strip number and watchdog limit. A stalled real-time task gives way
to the strip that ranks first of those ahead of its own that no other pump could take. A background task gives way to the next waiting task
of equal priority when its quantum expires, and on request to one of higher priority. R96, R98, R99: a task that a pump saves and later
restores has its registers back: scalar, address, predicate, accumulator and vector registers, the pc, the control registers and the loads
that it waits for. (The model's choices that it meets are those of log entries 9, 50 and 121.) -/
def Obligations.DispatchSaveRestore : Prop :=
  ((∀ (s : State) (h : Nat) (ctx : Fin 5) (g : Graph) (a b : List GFrame) (f : GFrame),
    s.dev.graph h = some g → g.frames.filter (fun x => x.ctx == ctx.val) = a ++ f :: b →
    (a ++ f :: b).Pairwise (fun x y => x.frame < y.frame) → (∀ x ∈ a, x.admitted = true) → f.admitted = false →
    ((a.filter (fun x => !g.frameDone x)).length ≤ 1 →
      exec (.frameAdmit h ctx) s = .next (s.to (s.dev.graphMod h (fun x => x.frameMod ctx f.frame
        (fun y => { y with admitted := true }))))) ∧
    (2 ≤ (a.filter (fun x => !g.frameDone x)).length → exec (.frameAdmit h ctx) s = .next s)) ∧
  (∀ (s : State) (h : Nat) (g : Graph), s.dev.graph h = some g →
    let resume := fun (d : Dev) => (List.range 80).foldl (fun d c => if (d.core c).tasks.isEmpty then d else d.nextTask c) d
    -- a strip for which some pump of its stage is free
    let free := fun (r : Ready) => r ∈ s.dev.readyStrips g ∧ ∃ st c, g.stage r.stage = some st
      ∧ c ∈ s.dev.candidates h g r.stage st ∧ s.dev.pumpFree c = true
    ((∃ r, free r) → ∃ r c st, free r ∧ g.stage r.stage = some st ∧ c ∈ s.dev.candidates h g r.stage st ∧ s.dev.pumpFree c = true
      ∧ (∀ r', free r' → r'.rank.ahead r.rank = false)
      ∧ ((g.source ≠ 2 ∨ r.stage ∉ g.sourceStages) → exec (.stripDispatch h) s = .next (s.to (resume (s.dev.dispatch h r c)))) ∧
      (∀ f asid va sub, g.frame r.ctx r.frame = some f → r.stage ∈ g.sourceStages → s.dev.srcFault g f r.strip = some (asid, va, sub) →
        exec (.stripDispatch h) s = .next (s.to (resume (s.dev.srcAbandon h g r.ctx r.frame r.strip asid va sub)))) ∧
      (∀ f, g.frame r.ctx r.frame = some f → s.dev.srcFault g f r.strip = none →
        exec (.stripDispatch h) s = .next (s.to (resume (s.dev.dispatch h r c))))) ∧
    ((∀ r, ¬ free r) → exec (.stripDispatch h) s = .next (s.to (resume s.dev)))) ∧
  (∀ (d : Dev) (h : Nat) (r : Ready) (c : Nat) (g : Graph) (st : Stage) (f : GFrame) (slot : Nat) (t : Task) (p : Program),
    d.graph h = some g → g.stage r.stage = some st → g.frame r.ctx r.frame = some f → (d.core c).slotFor h r.stage = some slot →
    tget (d.core c).tasks slot = some t → (d.core c).cur ≠ some slot →
    tget d.cores.programs (st.codeFor r.ctx r.frame (wellOf c)).1 = some p →
    let k := (d.dispatch h r c).core c
    let entry := p.stripEntry + (st.codeFor r.ctx r.frame (wellOf c)).2
    k.cur = some slot ∧ k.regs.pc = (BitVec.ofNat 32 entry).zeroExtend 48 &&& 0xFFFFFFFFFFF8#48
      ∧ k.regs.crget 0x50 = BitVec.ofNat 32 entry
      ∧ k.regs.crget 0x51 = BitVec.ofNat 32 r.strip ∧ k.regs.crget 0x31 = k.regs.crget 0x30
      ∧ (∃ t', tget k.tasks slot = some t' ∧ t'.st = .running ∧ t'.strip = some ⟨r.ctx, r.frame, r.strip⟩)
      ∧ (∀ c', c' ≠ c → (d.dispatch h r c).core c' = d.core c')) ∧
  (∀ (s : State) (c : Fin 80) (i : Nat) (t : Task), (s.dev.core c).task = some (i, t) → t.rt = false →
    let equal := (s.dev.core c).tasks.filter (fun e => e.1 != i && !e.2.rt && e.2.st == .ready && e.2.prio == t.prio)
    (∀ j u, equal.find? (fun e => i < e.1) = some (j, u) ∨ (equal.find? (fun e => i < e.1) = none ∧ equal.head? = some (j, u)) →
      exec (.bgQuantumExpiry c) s = .next (s.to ((s.dev.saveTask c .ready).restoreTask c j))) ∧
    (equal = [] → exec (.bgQuantumExpiry c) s = .next s)) ∧
  (∀ (s : State) (c : Fin 80) (i : Nat) (t : Task), (s.dev.core c).task = some (i, t) → t.rt = true →
    exec (.bgQuantumExpiry c) s = .next s) ∧
  (∀ (s : State) (c : Fin 80) (slot : Nat) (n : Task), tget (s.dev.core c).tasks slot = some n →
    (∀ i t, n.st = .ready → (s.dev.core c).task = some (i, t) → t.rt = false → (n.rt = true ∨ n.prio < t.prio) →
      exec (.preemptRequest c slot) s = .next (s.to ((s.dev.saveTask c .ready).restoreTask c slot))) ∧
    (n.st = .ready → (s.dev.core c).task = none → exec (.preemptRequest c slot) s = .next (s.to (s.dev.restoreTask c slot))) ∧
    (∀ i t, (s.dev.core c).task = some (i, t) → t.rt = true ∨ (n.rt = false ∧ t.prio ≤ n.prio) →
      exec (.preemptRequest c slot) s = .next s) ∧
    (n.st ≠ .ready → exec (.preemptRequest c slot) s = .next s)) ∧
  (∀ (s : State) (c : Fin 80) (i : Nat) (t : Task) (mine : Rank),
    (s.dev.core c).task = some (i, t) → t.rt = true → s.dev.stalledIssue c = true → s.dev.taskRank t = some mine →
    -- a ready strip of another stage, ahead of the stalled one, that this pump could take and no other free one
    let ahead := fun (h : Nat) (r : Ready) => ∃ g st, (h, g) ∈ s.dev.cores.graphs ∧ r ∈ s.dev.readyStrips g
      ∧ g.stage r.stage = some st ∧ r.rank.ahead mine = true ∧ (h ≠ t.graph ∨ r.stage ≠ t.stage)
      ∧ c.val ∈ s.dev.candidates h g r.stage st ∧ ∀ x ∈ s.dev.candidates h g r.stage st, x = c.val ∨ s.dev.pumpFree x = false
    ((∃ h r, ahead h r) → ∃ h r, ahead h r ∧ (∀ h' r', ahead h' r' → r'.rank.ahead r.rank = false)
      ∧ exec (.rtStallPreempt c) s = .next (s.to (s.dev.dispatch h r c))) ∧
    ((∀ h r, ¬ ahead h r) → exec (.rtStallPreempt c) s = .next s)) ∧
  (∀ (s : State) (c : Fin 80), s.dev.stalledIssue c = false → exec (.rtStallPreempt c) s = .next s)) ∧
  (∀ (d : Dev) (c i : Nat) (t : Task) (st : TaskSt), (d.core c).cur = some i → tget (d.core c).tasks i = some t →
    let r := (d.core c).regs
    let q := (((d.saveTask c st).restoreTask c i).core c).regs
    (∀ n, n < 32 → q.sget n = r.sget n) ∧ (∀ n, n < 8 → q.aget n = r.aget n) ∧ (∀ n, n < 8 → q.pget n = r.pget n)
      ∧ (∀ n, n < 4 → q.accget n = r.accget n) ∧ (∀ n, n < 32 → q.vget n = r.vget n)
      ∧ q.pc = r.pc ∧ (∀ n, q.crget n = r.crget n)
      ∧ ((r.loads.filter (fun l => !l.done)).length ≤ 8 →
          (∀ l ∈ r.loads, l.space = some ((r.crget 0x10).toNat % 4096) ∧ l.va < 2 ^ 48 ∧ l.sz < 4 ∧ l.rt < 32) →
          q.loads = r.loads.filter (fun l => !l.done))
      ∧ (∀ a, a < t.savePtr ∨ t.savePtr + 3328 ≤ a →
          mget ((d.saveTask c st).core c).mem a = mget (d.core c).mem a))

/-- From R134, R137, R139, R140, R141, R261, Table PF-8: the ends of frames and withdrawals. A complete frame without repairs is published
into its SINK buffer with its marks and leaves its graph; a strip that the pilot path covers is counted; a pump without a task that is
withdrawn goes to its self-test and the spare takes its place; the copies that a self-test waits for end and the test begins; a
STOP_AT_BOUNDARY that has run out its limit becomes STOP_NOW, and the spec gives audio ports and the decoder no limit. (The model's
choices that it meets are those of log entries 49, 79 and 99.) -/
def Obligations.FrameEndsAndWithdrawals : Prop :=
  (∀ (s : State) (h : Nat) (ctx : Fin 5) (g : Graph) (f : GFrame) (ch : Chan) (m : Mapping), s.dev.graph h = some g →
    g.frames = [f] → f.ctx = ctx.val → g.stages.length ≤ f.obDone.length → g.chans = [ch] → ch.kind = 2 → g.st = .armed →
    (∀ e ∈ s.dev.cores.graphs, e.2.source ≠ 2 ∨ e.2.srcSel ≠ ch.target) → s.dev.buf ch.target = some m → s.dev.sinkLeased h f.frame m = true →
    f.repair = [] →
    (s.dev.publishable h g f = true →
      ∃ t g' p, exec (.framePublish h ctx) s = .next (s.to t) ∧ t.graph h = some g' ∧ g'.frames = [] ∧ g'.lastPub = some f.frame
        ∧ g'.announced = true ∧ tget t.mem.published ch.target = some p ∧ p.frame = f.frame
        ∧ p.marks = (s.dev.marksOf g f).1 ||| (if 0 < f.skipped then 64 else 0) ||| (if 0 < f.covered then 128 else 0)
            ||| (if f.stale then 16 else 0)
        ∧ p.producer = kGraph + 256 * h ∧ p.width = f.width ∧ p.height = f.height) ∧
    (s.dev.publishable h g f = false → exec (.framePublish h ctx) s = .next s)) ∧
  (∀ (s : State) (h i : Nat) (sr : StripRef) (g : Graph) (f : GFrame) (ch : Chan) (m : Mapping) (b : List Byte),
    s.dev.sns.pilot.cover = some (h, sr) → s.dev.graph h = some g → g.frame sr.ctx sr.frame = some f → g.ingestOf sr.ctx = some i →
    i < 5 → g.chans.find? (fun c => c.kind == 2) = some ch → s.dev.fget fPipePltCtlState = 2 → s.dev.coverRows i g f sr.strip = true →
    s.dev.pilotBlock i sr.frame = some b → s.dev.buf ch.target = some m → f.rows = none → s.dev.sinkLeased h f.frame m = true →
    (∀ r ∈ (let (l0, ls, p0, pw) := g.strip f.width f.height sr.strip; stripArea f.width f.height 3 ch.plane l0 ls p0 pw),
      s.dev.rangeFault true m.asid (m.va + r.1) r.2 true = none) → (g.strip f.width f.height sr.strip).1 + (g.strip f.width f.height sr.strip).2.1 ≤ f.height →
    (s.dev.ing i).rows.length < g.shed →
    ∃ t, exec .pilotCoverStripDone s = .next (s.to t) ∧ t.sns.pilot.cover = none
      ∧ t.fget fPipePltStatStrips = min fPipePltStatStrips.max (s.dev.fget fPipePltStatStrips + 1)) ∧
  (∀ (s : State) (c : Fin 80) (x : Nat), s.dev.role c = .active → (s.dev.core c).task = none → s.dev.spareOf (wellOf c) = some x →
    c.val % 5 ∈ (s.dev.well (wellOf c)).order →
    ∃ t, exec (.pumpWithdraw c) s = .next (s.to t) ∧ t.role c = .testing ∧ t.role x = .substitute
      ∧ (t.well (wellOf c)).order = (s.dev.well (wellOf c)).order.map (fun y => if y = c.val % 5 then x % 5 else y)
      ∧ (∀ k, k ≠ c.val → k ≠ x → t.core k = s.dev.core k)) ∧
  (∀ (s : State) (c : Fin 80), s.dev.role c = .testing →
    exec (.pumpSelfTestStart c) s = .next (s.to { s.dev with test := { s.dev.test with
      running := s.dev.test.running.map (fun x => if pumpOfUnit x.unit == some c.val && !x.begun
        then { x with begun := true, start := s.dev.nowNs } else x) } })) ∧
  (∀ (s : State) (w : Fin 16) (b : Nat), (s.dev.well w).copyBank = some b →
    ∃ t, exec (.cisternCopyDone w) s = .next (s.to t) ∧ (t.well w).copyBank = none ∧ (t.well w).cistern = (s.dev.well w).cistern
      ∧ t.test.running = s.dev.test.running.map (fun x => if x.unit == .cistern w b && !x.begun
        then { x with begun := true, start := s.dev.nowNs } else x)) ∧
  (∀ (s : State) (w : Fin 16) (k : Nat), (s.dev.well w).copying = some k →
    ∃ t, exec (.lookupCopyDone w) s = .next (s.to t) ∧ (t.well w).copying = none ∧ (t.well w).ninthFor = some k
      ∧ (t.well w).luts = copyTable (s.dev.well w).luts k 8
      ∧ t.test.running = s.dev.test.running.map (fun x => if x.unit == .lookup w k && !x.begun
        then { x with begun := true, start := s.dev.nowNs } else x)) ∧
  (∀ (s : State) (h : Nat) (g : Graph), s.dev.graph h = some g → g.st = .draining →
    exec (.boundaryTimeout 1 h) s = .next (s.to (s.dev.graphStopNow h g.stops noteBoundaryTimeout none))) ∧
  (∀ (s : State) (i : Nat), exec (.boundaryTimeout 9 i) s = .next s ∧ exec (.boundaryTimeout 11 i) s = .next s
    ∧ exec (.boundaryTimeout 0 i) s = .fault .illFormed)

/-! ## Address spaces, memory and siphons -/

/-- From R147, R148, R149, R150, R154, R568: CREATE SPACE gives the lowest free ASID; RELEASE of a space that nothing uses waits for its
invalidation point. MAP MEMORY takes zeroed memory for an aligned range that nothing maps and gives a fresh handle, and changes no other
byte; a misaligned range fails with MAP_ALIGN, one without memory with NO_MEMORY. UNMAP, REMAP and UNPIN wait for their invalidation
point; PIN backs and pins the pages at once. (The lowest ASID is the model's choice, log entry 12.) (The model's choices that it meets are
those of log entries 12 and 37.) -/
def Obligations.SpaceAndMapCommands : Prop :=
  ∀ (s : State) (seq : Nat) (c : Ctx),
    let d := s.dev
    (d.ready seq false 0x80 = some c → ∀ a, 1 ≤ a → a ≤ 4095 → a ∉ d.mem.spaces → (∀ b, 1 ≤ b → b < a → b ∈ d.mem.spaces) →
      ∃ t, exec (.createSpace seq) s = .next (s.to t)
        ∧ t.endsAs { d with mem := { d.mem with spaces := d.mem.spaces ++ [a] } } seq 0 0 a) ∧
    (d.ready seq false 0x84 = some c → c.w10 % 256 = kSpace →
      ((c.w11 = 0 ∨ c.w11 ∉ d.mem.spaces) → exec (.destroySpace seq) s = .next (s.to (d.fail seq stBadHandle))) ∧
      (c.w11 ≠ 0 → c.w11 ∈ d.mem.spaces → (∀ w ∈ d.mem.waits, w.asid ≠ c.w11) →
        (d.spaceBusy c.w11 = true → exec (.destroySpace seq) s = .next (s.to (d.fail seq stBusy))) ∧
        (d.spaceBusy c.w11 = false → exec (.destroySpace seq) s = .next (s.to { d.startCmd seq with
          mem := { d.mem with waits := d.mem.waits ++ [{
            seq := some seq, op := .destroy, asid := c.w11, va := 0, len := 2 ^ 48,
            leaseHeld := d.rangeLeased c.w11 0 (2 ^ 48) }] } })))) ∧
    (d.ready seq false 0x81 = some c → c.asid ∈ d.mem.spaces →
      (c.va % 4096 ≠ 0 → exec (.mapMemory seq) s = .next (s.to (d.fail seq stMapAlign))) ∧
      (c.va % 4096 = 0 → c.w11 ≠ 0 → c.va + c.mlen ≤ 2 ^ 48 → c.mkind < 2 → c.data = [] →
        (∀ p ∈ d.pagesOf c.asid, overlap p.va p.size c.va c.mlen = false) →
        let like : Page := { va := c.va, size := 4096, pa := none, rd := bit c.w10 16, wr := bit c.w10 17, pin := bit c.w10 18, kind := c.mkind }
        (d.newPages like c.mlen [] d.usedRanges = none → exec (.mapMemory seq) s = .next (s.to (d.fail seq stNoMemory))) ∧
        (∀ ps, d.newPages like c.mlen [] d.usedRanges = some ps → d.pinsWith [] + pinCount ps ≤ pinTable →
          ∃ t, exec (.mapMemory seq) s = .next (s.to t) ∧ t.doneAs seq 0 0 (d.qf.handle % 4294967296)
            ∧ t.qf.handle = d.qf.handle + 1 ∧ t.cores = d.cores ∧ t.store = d.store ∧ t.nv = d.nv
            ∧ t.mem.pages = tput d.mem.pages c.asid (insertPages (d.pagesOf c.asid) ps)
            ∧ t.mem.maps = tput d.mem.maps d.qf.handle { asid := c.asid, va := c.va, len := c.mlen, kind := c.mkind }
            ∧ (∀ p ∈ ps, ∀ pa, p.pa = some pa → p.kind ≠ 2 → ∀ i, i < p.size → mget t.mem.bytes (pa + i) = 0)
            ∧ (∀ a, (∀ p ∈ ps, ∀ pa, p.pa = some pa → a < pa ∨ pa + p.size ≤ a) → mget t.mem.bytes a = mget d.mem.bytes a)))) ∧
    (d.ready seq false 0x88 = some c → d.changeRefusal c = none → d.pinsAfterSplit c.asid c.va c.mlen ≤ pinTable →
      exec (.unmapMemory seq) s = .next (s.to { d.startCmd seq with mem := { d.mem with waits := d.mem.waits ++ [{
        seq := some seq, op := .unmap, asid := c.asid, va := c.va, len := c.mlen,
        leaseHeld := d.rangeLeased c.asid c.va c.mlen }] } })) ∧
    (d.ready seq false 0x90 = some c → d.changeRefusal c = none → d.pinsAfterSplit c.asid c.va c.mlen ≤ pinTable →
      exec (.unpinMemory seq) s = .next (s.to { d.startCmd seq with mem := { d.mem with waits := d.mem.waits ++ [{
        seq := some seq, op := .unpin, asid := c.asid, va := c.va, len := c.mlen, leaseHeld := false }] } })) ∧
    (d.ready seq false 0x85 = some c → d.changeRefusal c = none → kindRefusal c = none →
      let old := (splitPages (d.pagesOf c.asid) c.va c.mlen).filter (fun p => inRange p c.va c.mlen)
      ∀ ps, d.remapPages c.mkind (busList c.data c.w11) c.va old = some ps →
      d.pinsAfterSplit c.asid c.va c.mlen - pinCount old + pinCount ps ≤ pinTable →
      ∃ t, exec (.remapMemory seq) s = .next (s.to t) ∧ tget t.qf.ctxs seq = some c ∧ t.mem.pages = d.mem.pages
        ∧ t.mem.waits = d.mem.waits ++ [{ seq := some seq, op := .remap ps, asid := c.asid, va := c.va, len := c.mlen, leaseHeld := d.rangeLeased c.asid c.va c.mlen }]) ∧
    (d.ready seq false 0x8C = some c → d.changeRefusal c = none →
      let split := splitPages (d.pagesOf c.asid) c.va c.mlen
      let out := split.filter (fun p => !inRange p c.va c.mlen)
      (d.pinPages (split.filter (fun p => inRange p c.va c.mlen)) = none →
        exec (.pinMemory seq) s = .next (s.to (d.fail seq stNoMemory))) ∧
      (∀ ps, d.pinPages (split.filter (fun p => inRange p c.va c.mlen)) = some (ps, []) →
        (pinTable < (d.setPages c.asid (insertPages out ps)).pinsWith [] →
          exec (.pinMemory seq) s = .next (s.to (d.fail seq stPinFull))) ∧
        ((d.setPages c.asid (insertPages out ps)).pinsWith [] ≤ pinTable →
          ∃ t, exec (.pinMemory seq) s = .next (s.to t) ∧ t.endsAs { d with
            mem := { d.mem with pages := tput d.mem.pages c.asid (insertPages out ps) } } seq 0 0 0)))

/-- From R150, R153, R154, R157, R158, R159, R161, R168: a held UNMAP takes effect at its invalidation point, when no lease and no load is
left in its range: its pages go, no cache holds them, and its command completes; before that nothing changes. A lease retires when its
unit is done with the frame; one that holds a change too long is broken, with its frame abandoned. A walk fills the cache of its
requester, in the set of its page. The firmware's service of a fault lets its requester go on; a task with another translation fault ends
with TRANSLATION. A moved page is a held change without a command. (The model's
choices that it meets are those of log entry 79.) -/
def Obligations.InvalidationAndWalks : Prop :=
  (∀ (s : State) (i : Nat) (w : InvWait), s.dev.mem.waits[i]? = some w → w.op = .unmap →
    ((s.dev.rangeLeased w.asid w.va w.len = true ∨ s.dev.noLoads w.asid w.va w.len = false) →
      exec (.invalidationPoint i) s = .next s) ∧
    (s.dev.rangeLeased w.asid w.va w.len = false → s.dev.noLoads w.asid w.va w.len = true →
      ∃ t, exec (.invalidationPoint i) s = .next (s.to t) ∧ t.mem.waits = s.dev.mem.waits.eraseIdx i ∧ t.mem.leases = s.dev.mem.leases
        ∧ t.mem.bytes = s.dev.mem.bytes
        ∧ t.pagesOf w.asid = (splitPages (s.dev.pagesOf w.asid) w.va w.len).filter (fun p => !inRange p w.va w.len)
        ∧ (∀ a, a ≠ w.asid → t.pagesOf a = s.dev.pagesOf a)
        ∧ (∀ k, ∀ e ∈ tgetD t.mem.caches k [], e.asid = w.asid → overlap e.va e.size w.va w.len = false)
        ∧ (∀ q c, w.seq = some q → tget s.dev.qf.ctxs q = some c → (s.dev.jrec q).isSome = true → t.doneAs q 0 0 0))) ∧
  (∀ (s : State) (i : Nat) (l : Lease), s.dev.mem.leases[i]? = some l →
    (s.dev.leaseOpen l = true → exec (.leaseRetire i) s = .next s) ∧
    (s.dev.leaseOpen l = false → exec (.leaseRetire i) s = .next (s.to { s.dev with
      mem := { s.dev.mem with leases := s.dev.mem.leases.eraseIdx i } }))) ∧
  (∀ (s : State) (w : InvWait) (l : Lease) (f : CompFrame) (q : Nat) (c : Ctx), s.dev.mem.waits = [w] → s.dev.mem.leases = [l] →
    w.op = .unmap → l.kind = kCompositor → l.asid = w.asid → overlap l.va l.len w.va w.len = true →
    (s.dev.mix l.index).cur = some f → f.oframe = l.frame → s.dev.noLoads w.asid w.va w.len = true →
    w.seq = some q → tget s.dev.qf.ctxs q = some c → (s.dev.jrec q).isSome = true →
    ∃ t, exec (.leaseBroken 0) s = .next (s.to t) ∧ t.mem.leases = [] ∧ t.mem.waits = [] ∧ (t.mix l.index).cur = none
      ∧ t.doneAs q 0 0 0 ∧ (∃ r, t.jrec q = some r ∧ bit r.notes 3 = true)) ∧
  (∀ (s : State) (i : Nat) (q : XlatReq), s.dev.mem.reqs[i]? = some q →
    ((∃ w ∈ s.dev.mem.waits, w.asid = q.asid ∧ overlap w.va w.len q.va 1 = true) → exec (.translationResolve i) s = .next s) ∧
    ((∀ w ∈ s.dev.mem.waits, ¬(w.asid = q.asid ∧ overlap w.va w.len q.va 1 = true)) → ∀ p pa, s.dev.pageOf q.asid q.va = some p →
      (if q.write then p.wr else p.rd) = true → p.pa = some pa →
      exec (.translationResolve i) s = .next (s.to
        ({ s.dev with mem := { s.dev.mem with reqs := s.dev.mem.reqs.eraseIdx i } }.fillCache q.req.cache q.asid q.va)))) ∧
  (∀ (d : Dev) (cache asid va : Nat) (p : Page), d.pageOf asid va = some p → 0 < d.cacheWays cache →
    let e : CacheEntry := { asid := asid, va := p.va, size := p.size }
    let l := (d.fillCache cache asid va).mem.caches
    d.fillCache cache asid va = { d with mem := { d.mem with caches := l } } ∧ e ∈ tgetD l (cacheKey cache e) []
      ∧ ∀ k, k ≠ cacheKey cache e → tgetD l k [] = tgetD d.mem.caches k []) ∧
  (∀ (s : State) (w h n : Nat) (resume : Bool) (x : Siphon), (Requester.siphonCh w h n).ok = true →
    tget s.dev.mem.siphons (sphIndex w h n) = some x → x.suspended = true → s.dev.rangeFault false x.asid x.desc 64 false = none →
    s.dev.unitFault (parseDesc (s.dev.vread x.asid x.desc 64)) x.asid x.progress = none →
    exec (.faultService (.siphonCh w h n) resume) s = .next (s.to { s.dev with
      mem := { s.dev.mem with siphons := tadj s.dev.mem.siphons (sphIndex w h n) (fun x => { x with suspended := false }) } })) ∧
  (∀ (s : State) (c i : Nat) (t : Task), (Requester.pump c).ok = true → (s.dev.core c).tasks = [(i, t)] → t.st = .suspended →
    ((((s.dev.core c).saved t).crget 1).toNat % 256 = excTranslation →
      bits (((s.dev.core c).saved t).crget 1).toNat 23 16 ≠ subNotPresent → (s.dev.graph t.graph).map (·.st) ≠ some .draining →
      ∀ resume, ∃ u t', exec (.faultService (.pump c) resume) s = .next (s.to u) ∧ tget (u.core c).tasks i = some t' ∧ t'.st = .ended
        ∧ t'.status = stTranslation) ∧
    ((((s.dev.core c).saved t).crget 1).toNat % 256 ≠ excTranslation →
    exec (.faultService (.pump c) true) s = .next (s.to ((({ s.dev with cores := { s.dev.cores with
      service := s.dev.cores.service.erase c } }).coreMod c (fun k => { k with tasks := [(i, { t with st := .ready })] })).nextTask c)))) ∧
  (∀ (s : State) (r : Requester) (resume : Bool), r.ok = false → exec (.faultService r resume) s = .fault .illFormed) ∧
  (∀ (s : State) (asid : BitVec 12) (va : BitVec 48) (p : Page), s.dev.pageOf asid.toNat va.toNat = some p →
    (p.pin = true → exec (.pageMove asid va) s = .next s) ∧
    (p.pin = false → p.kind ≠ 2 → p.pa.isSome = true → s.dev.invPending asid.toNat p.va p.size = false →
      ∀ pa, lowestFree s.dev.usedRanges (s.dev.pool p.kind) p.size p.size = some pa →
      exec (.pageMove asid va) s = .next (s.to { s.dev with mem := { s.dev.mem with waits := s.dev.mem.waits ++ [{
        seq := none, op := .move pa, asid := asid.toNat, va := p.va, len := p.size,
        leaseHeld := s.dev.rangeLeased asid.toNat p.va p.size }] } })))

/-- From R43, R144, R145, R156, R173 to R180, R182, R187: reads of DRAM. One flipped bit is corrected and counts; two, or a burst of another
address, count and poison the burst; what three or more give is a free value. An access behind which nothing stands, or a fenced channel,
writes a sump entry; the patrol scrub runs while enabled and remembers its place. Self-refresh is entered when SR_AUTO allows it and the
channel has idled as long as MEM_SR_CFG asks, or in PS2, and left by a request; the islands show it. Refresh is postponed for PANIC requests
up to eight intervals; a failed retrain of the write timing is a lasting fault; ZQ calibration changes nothing; the write queue drains at 48
entries or for a PANIC write. (The model's choices that it meets are those of log entries 34, 39 and 103.) -/
def Obligations.DramService : Prop :=
  (∀ (s : State) (r : Requester) (pa : BitVec 52) (bank row : Nat), r.ok = true →
    let d := s.dev
    let ch := d.channelAt pa.toNat
    let entry := le 8 pa.toNat ++ le 4 r.place.toNat ++ le 1 ch
    (d.behind pa.toNat = 0 → exec (.memoryReadComplete r pa bank row (.flips 0)) s = .next s) ∧
    (d.behind pa.toNat = 1 → ∀ e, exec (.memoryReadComplete r pa bank row e) s = .next (s.to (d.sumpWrite r.place 6 2 2 0 entry))) ∧
    (d.behind pa.toNat = 2 → ∀ e, exec (.memoryReadComplete r pa bank row e) s = .next (s.to (d.sumpWrite r.place 6 3 2 0 entry))) ∧
    (d.behind pa.toNat = 0 → pa.toNat < cxlBase →
      (∃ t, exec (.memoryReadComplete r pa bank row (.flips 1)) s = .next (s.to t) ∧ t.mem.bytes = d.mem.bytes ∧ t.mem.poison = d.mem.poison
        ∧ t.fget (fMemChanStatCe ch) = min (fMemChanStatCe ch).max (d.fget (fMemChanStatCe ch) + 1)) ∧
      (∀ e, e = .flips 2 ∨ e = .wrongAddress →
        ∃ t, exec (.memoryReadComplete r pa bank row e) s = .next (s.to t) ∧ t.mem.bytes = d.mem.bytes
        ∧ tgetD t.mem.poison (pa.toNat / 64) false = true
        ∧ (∀ b, b ≠ pa.toNat / 64 → tgetD t.mem.poison b false = tgetD d.mem.poison b false)
        ∧ t.fget (fMemChanStatUe ch) = min (fMemChanStatUe ch).max (d.fget (fMemChanStatUe ch) + 1)) ∧
      (∀ n, 3 ≤ n → ∃ t, exec (.memoryReadComplete r pa bank row (.flips n)) s = .next (s.to t) ∧ t.mem.bytes = d.mem.bytes)) ∧
    (d.behind pa.toNat = 0 → cxlBase ≤ pa.toNat →
      ∃ t, exec (.memoryReadComplete r pa bank row .cxlPoison) s = .next (s.to t) ∧ t.mem.bytes = d.mem.bytes
        ∧ tgetD t.mem.poison (pa.toNat / 64) false = true)) ∧
  (∀ (s : State) (r : Requester) (pa : BitVec 52) (bank row : Nat) (e : ReadEnd), r.ok = false →
    exec (.memoryReadComplete r pa bank row e) s = .fault .illFormed) ∧
  (∀ (s : State) (pa : BitVec 52) (bank row : Nat),
    let d := s.dev
    let ch := d.channelAt pa.toNat
    (d.flag fMemCtlScrubEn = false → ∀ e, exec (.patrolScrub pa bank row e) s = .next s) ∧
    (d.flag fMemCtlScrubEn = true → d.behind pa.toNat = 0 → pa.toNat < cxlBase →
      exec (.patrolScrub pa bank row (.flips 0)) s = .next (s.to { d with mem := { d.mem with
        chans := tput d.mem.chans ch { d.dchan ch with scrub := pa.toNat } } }) ∧
      ∃ t, exec (.patrolScrub pa bank row (.flips 1)) s = .next (s.to t) ∧ (t.dchan ch).scrub = pa.toNat ∧ t.mem.bytes = d.mem.bytes
        ∧ t.fget (fMemChanStatCe ch) = min (fMemChanStatCe ch).max (d.fget (fMemChanStatCe ch) + 1))) ∧
  (∀ (s : State) (ch : Fin 24) (idle : Word32),
    let d := s.dev
    let st := d.fget (fMemChanStatState ch)
    (st = 0 → d.flag fMemCtlSrAuto = true → (∀ n, n < 128 → d.flag (fMemFloatCfgEn n) = false) →
      max 1 (d.fget fMemSrCfgIdle) ≤ idle.toNat →
      exec (.selfRefreshEntry ch idle) s = .next (s.to (d.fset (fMemChanStatState ch) 1).showDram)) ∧
    (st = 0 → d.flag fMemCtlSrAuto = false ∨ idle.toNat < max 1 (d.fget fMemSrCfgIdle) → d.fget fQfStatPstate ≠ 2 →
      exec (.selfRefreshEntry ch idle) s = .next s) ∧
    (st = 0 → d.fget fQfStatPstate = 2 →
      exec (.selfRefreshEntry ch idle) s = .next (s.to (d.fset (fMemChanStatState ch) 1).showDram)) ∧
    (st = 1 → exec (.selfRefreshExit ch) s = .next (s.to (d.fset (fMemChanStatState ch) 0).showDram)) ∧
    (st ≠ 1 → exec (.selfRefreshExit ch) s = .next s)) ∧
  (∀ (d : Dev) (g : Nat), g < 3 → d.fget (fSysIslStatState (23 + g)) ≠ 3 →
    d.showDram.fget (fSysIslStatState (23 + g))
      = if (∃ k ∈ List.range 8, d.fget (fMemChanStatState (8 * g + k)) = 1)
          ∧ (∀ k ∈ List.range 8, d.fget (fMemChanStatState (8 * g + k)) ≠ 0) then 2 else 0) ∧
  (∀ (s : State) (ch : Fin 24) (l : List Requester), (∀ r ∈ l, r.ok = true) →
    ((∃ r ∈ l, s.dev.panics r = true) →
      exec (.refreshInterval ch l) s = .next (s.to { s.dev with mem := { s.dev.mem with
        chans := tput s.dev.mem.chans ch { s.dev.dchan ch with postponed := min 8 ((s.dev.dchan ch).postponed + 1) } } })) ∧
    ((∀ r ∈ l, s.dev.panics r = false) →
      exec (.refreshInterval ch l) s = .next (s.to { s.dev with mem := { s.dev.mem with
        chans := tput s.dev.mem.chans ch { s.dev.dchan ch with postponed := 0 } } }))) ∧
  (∀ (s : State) (ch : Fin 24),
    (s.dev.fget (fMemChanStatState ch) < 2 → s.dev.fget fMemCapReserve ≠ 0 → s.dev.mem.sparing = none →
      exec (.dqsOscillatorCheck ch true false) s = .next (s.to { s.dev with mem := { s.dev.mem with sparing := some ch } })) ∧
    (∀ drift retrained, drift = false ∨ retrained = true → exec (.dqsOscillatorCheck ch drift retrained) s = .next s) ∧
    exec (.zqCalibration ch) s = .next s) ∧
  (∀ (s : State) (ch : Fin 24) (n : Fin 65) (l : List Requester), (∀ r ∈ l, r.ok = true) →
    (48 ≤ n.val ∨ (∃ r ∈ l, s.dev.panics r = true) →
      exec (.writeQueueDrain ch n l) s = .next (s.to { s.dev with mem := { s.dev.mem with
        chans := tput s.dev.mem.chans ch { s.dev.dchan ch with writes := 0 } } })) ∧
    (n.val < 48 → (∀ r ∈ l, s.dev.panics r = false) →
      exec (.writeQueueDrain ch n l) s = .next (s.to { s.dev with mem := { s.dev.mem with
        chans := tput s.dev.mem.chans ch { s.dev.dchan ch with writes := n } } }))) ∧
  (∀ (s : State) (ch : Fin 24) (n : Fin 65) (l : List Requester) (r : Requester), r ∈ l → r.ok = false →
    exec (.refreshInterval ch l) s = .fault .illFormed ∧ exec (.writeQueueDrain ch n l) s = .fault .illFormed)

/-- From R181 to R187, R191 to R193: the floats and the regulators, and faults of channels and ports. A float in PANIC shows it and remembers
the hit; a regulator engages above its ceiling and lets go below it. The first channel with a lasting fault is spared out while RESERVE
stands, the next is fenced; the spare-out ends with a smaller USABLE. A CXL port that retrains narrower shows its bandwidth; one that
stays down makes its memory unavailable and the journal falls back to local DRAM. (The model's choices that it meets are those of log
entries 40, 41, 51 and 80.) -/
def Obligations.FloatsAndFaultyMemory : Prop :=
  (∀ (s : State) (n : Fin 128) (v : BitVec 14), ∃ t, exec (.floatCrossing n v) s = .next (s.to t) ∧
    t.fget (fMemFloatStatLevel n) = v.toNat % 2 ^ (fMemFloatStatLevel n).width ∧
    (s.dev.flag (fMemFloatCfgEn n) = true → s.dev.flag (fMemFloatCfgDir n) = false → s.dev.fget (fMemFloatStatPanic n) = 0 →
      v.toNat < s.dev.fget (fMemFloatCfgOn n) → t.fget (fMemFloatStatPanic n) = 1 ∧ t.fget (fMemFloatStatHit n) = 1) ∧
    (s.dev.flag (fMemFloatCfgDir n) = false → s.dev.fget (fMemFloatCfgOff n) < v.toNat → s.dev.fget (fMemFloatCfgOn n) ≤ v.toNat →
      t.fget (fMemFloatStatPanic n) = 0 ∧ t.fget (fMemFloatStatHit n) = s.dev.fget (fMemFloatStatHit n))) ∧
  (∀ (s : State) (k : Fin 12) (share : Fin 101),
    let d := s.dev
    (d.panicCeil < share.val → k.val ∉ d.mem.engaged → tgetD d.mem.released k 0 + 1000000 ≤ d.nowNs →
      exec (.regulatorWindow k share) s = .next (s.to (({ d with mem := { d.mem with engaged := d.mem.engaged ++ [k.val] } }).post
        0x06 0 k (ioPlace 3 k noSlice) (le 4 k)))) ∧
    (share.val ≤ d.panicCeil → d.flag fMemCtlPanicEn = true → d.flag fMemCtlRegForce = false → k.val ∈ d.mem.engaged →
      exec (.regulatorWindow k share) s = .next (s.to { d with mem := { d.mem with
        engaged := d.mem.engaged.filter (· != k.val), released := tput d.mem.released k d.nowNs } }))) ∧
  (∀ (s : State) (ch : Fin 24),
    let d := s.dev
    (d.fget (fMemChanStatState ch) < 2 → d.fget fMemCapReserve ≠ 0 → d.mem.sparing = none →
      exec (.channelLastingFault ch .training) s = .next (s.to { d with mem := { d.mem with sparing := some ch.val } })) ∧
    (d.fget (fMemChanStatState ch) < 2 → d.fget fMemCapReserve = 0 → d.mem.sparing ≠ some ch.val → 10000000000 ≤ d.nowNs →
      (∀ i, i < 10 → 1000 < tgetD (d.dchan ch).ceCount (d.nowNs / 1000000000 - 1 - i) 0) →
      ∃ t, exec (.channelLastingFault ch .ceRate) s = .next (s.to t) ∧ t.fget (fMemChanStatState ch) = 3
        ∧ t.fget fMemCapSpared = min fMemCapSpared.max (d.fget fMemCapSpared + 1) ∧ t.mem = d.mem) ∧
    ((d.dchan ch).badRows.length ≤ 8 → exec (.channelLastingFault ch .badRows) s = .next s) ∧
    (d.mem.sparing = some ch.val →
      ∃ t, exec .spareOutDone s = .next (s.to t) ∧ t.mem = { d.mem with
        sparing := none, spareTo := (List.range 24).filter (fun k => k != ch.val && d.fget (fMemChanStatState k) < 2) } ∧ t.fget (fMemChanStatState ch) = 2
        ∧ t.fget fMemCapReserve = 0
        ∧ t.fget fMemCapUsable = 23 * d.fget (fMemChanStatCap ch) * 31 / 32 % 2 ^ fMemCapUsable.width)) ∧
  (∀ (s : State) (p : Fin 2) (a : Word64) (bytes : List Byte),
    (bytes.length ≤ 16 → exec (.cxlEventRecord p a bytes) s = .next (s.to
      (s.dev.sumpWrite (cxlPlace p) 7 p 1 0 (le 8 a.toNat ++ padTo 16 bytes)))) ∧
    (16 < bytes.length → exec (.cxlEventRecord p a bytes) s = .fault .illFormed)) ∧
  (∀ (s : State) (p : Fin 2) (w : Nat), (w = 8 ∨ w = 4) → s.dev.fget (fCxlPortStatState p) ≠ 0 →
    ∃ t, exec (.cxlLaneRetrain p w) s = .next (s.to t) ∧ t.fget (fCxlPortStatWidth p) = w ∧ t.fget (fCxlPortStatState p) = 3
      ∧ t.fget (fCxlPortStatBw p) = w * cxlRate (s.dev.fget (fCxlPortStatSpeed p)) / 80 % 2 ^ (fCxlPortStatBw p).width
      ∧ t.mem = s.dev.mem) ∧
  (∀ (s : State) (p : Fin 2), p.val ∉ s.dev.mem.cxlDown → s.dev.fget (fCxlPortStatState p) ≠ 0 → s.dev.vid.pool.recs = [] →
    ∃ t, exec (.cxlMemoryUnavailable p) s = .next (s.to t) ∧ t.mem = { s.dev.mem with cxlDown := s.dev.mem.cxlDown ++ [p.val] }
      ∧ t.fget (fCxlPortStatState p) = 0 ∧ t.fget (fCxlPortStatWidth p) = 0 ∧ t.qf.fallback = true)

/-- From R164 to R171: START SIPHON gives a free channel its descriptor; a descriptor that ends leads to the next one, or ends the channel; a
descriptor out of range ends it too, and a fault suspends it. STOP_NOW ends a channel at once, STOP_AT_BOUNDARY after its descriptor. A
siphon serves the ready channel of the highest priority, by units. A unit's copy puts the bytes read at its source addresses at its
destination addresses. Real-time work pre-empts the channel whose turn it is, which writes its PROGRESS: a complete SINK slot drains into
its frame's buffer at its strip's place, and one that carries SKIP writes nothing and is repaired. (The model's choices that it meets are those of log entries 38 and 52.) -/
def Obligations.SiphonChannels : Prop :=
  (∀ (s : State) (seq : Nat) (c : Ctx), s.dev.ready seq false 0x94 = some c → s.dev.noStart = false →
    bits c.w10 27 16 ∈ s.dev.mem.spaces → c.va % 64 = 0 →
    let k := c.w10 % 256
    ((tget s.dev.mem.siphons k).isSome = true → exec (.startSiphon seq) s = .next (s.to (s.dev.fail seq stBusy))) ∧
    (tget s.dev.mem.siphons k = none → ∃ t, exec (.startSiphon seq) s = .next (s.to t) ∧
      t.endsAs { s.dev with mem := { s.dev.mem with
        siphons := tput s.dev.mem.siphons k { asid := bits c.w10 27 16, desc := c.va, prio := bits c.w10 9 8 } } } seq 0 0 0)) ∧
  (∀ (s : State) (seq : Nat) (c : Ctx) (x : Siphon), s.dev.ready seq false 0x98 = some c → c.w10 % 256 = kSiphon →
    tget s.dev.mem.siphons (c.w11 % 256) = some x →
    (c.stopNow = false → x.suspended = false →
      exec (.stopSiphon seq) s = .next (s.to { s.dev.startCmd seq with mem := { s.dev.mem with
        siphons := tput s.dev.mem.siphons (c.w11 % 256) { x with stops := x.stops ++ [seq] } } })) ∧
    (c.stopNow = true → x.stops = [] →
      ∃ t, exec (.stopSiphon seq) s = .next (s.to t) ∧ tget t.mem.siphons (c.w11 % 256) = none ∧ t.cores = s.dev.cores
        ∧ t.doneAs seq 0 0 allOnes32)) ∧
  (∀ (s : State) (k : Nat) (x : Siphon), tget s.dev.mem.siphons k = some x → x.suspended = false →
    (s.dev.rangeFault false x.asid x.desc 64 false ≠ none →
      ∃ t y, exec (.siphonDescriptorDone k) s = .next (s.to t) ∧ tget t.mem.siphons k = some y ∧ y.suspended = true) ∧
    (s.dev.rangeFault false x.asid x.desc 64 false = none → s.dev.sphDesc x = none →
      ∃ t, exec (.siphonDescriptorDone k) s = .next (s.to t) ∧ tget t.mem.siphons k = none) ∧
    (∀ q y, s.dev.sphDesc x = some q →
      let d1 := s.dev.sphRun (k % 32) (some k) (s.dev.sphLeft (k % 32))
      tget d1.mem.siphons k = some y → y.suspended = false → q.total ≤ 256 * y.progress →
      ∃ t, exec (.siphonDescriptorDone k) s = .next (s.to t) ∧
        tget t.mem.siphons k = (if q.next = 0 ∨ y.stops ≠ [] then none
          else some { y with desc := q.next % 2 ^ 48, progress := 0, poison := none }))) ∧
  -- the schedule: the next channel is ready and of the highest priority, and its unit counts
  (∀ (d : Dev) (j c : Nat), d.sphNext j = some c → c < 8 ∧ d.sphReady (j + 32 * c) = true ∧
    ∀ e x y, e < 8 → d.sphReady (j + 32 * e) = true → tget d.mem.siphons (j + 32 * c) = some x →
      tget d.mem.siphons (j + 32 * e) = some y → x.prio ≤ y.prio) ∧
  (∀ (d : Dev) (k : Nat) (x : Siphon) (q : SphDesc), tget d.mem.siphons k = some x → d.sphDesc x = some q →
    (d.unitFault q x.asid x.progress = none →
      ∃ y, tget (d.sphUnit k).mem.siphons k = some y ∧ y.progress = x.progress + 1 ∧ y.desc = x.desc ∧ y.suspended = x.suspended) ∧
    (d.unitFault q x.asid x.progress ≠ none →
      ∃ y, tget (d.sphUnit k).mem.siphons k = some y ∧ y.progress = x.progress ∧ y.suspended = true)) ∧
  (∀ (d : Dev) (q : SphDesc) (k asid u : Nat) (pa : Nat → Nat), q.srcCistern = false → q.dstCistern = false →
    (∀ o ∈ q.unit u, d.phys asid (q.dstAt o) = some (pa o) ∧ d.behind (pa o) = 0) →
    (∀ o ∈ q.unit u, ∀ o' ∈ q.unit u, pa o = pa o' → o = o') →
    (∀ o ∈ q.unit u, ∀ b, d.phys asid (q.srcAt o) = some b → d.poisoned b = false) →
    ((d.copyUnit q k asid u).2 = none) ∧
    (∀ o ∈ q.unit u, mget (d.copyUnit q k asid u).1.mem.bytes (pa o) = d.vbyte asid (q.srcAt o)) ∧
    (∀ a, (∀ o ∈ q.unit u, pa o ≠ a) → mget (d.copyUnit q k asid u).1.mem.bytes a = mget d.mem.bytes a)) ∧
  (∀ (s : State) (w : Fin 16) (units : Nat),
    ((∀ e ∈ s.dev.cores.graphs, ∀ ch ∈ e.2.chans, ch.kind = 2 → ∀ sl ∈ ch.slots, sl.2.complete = false) →
      exec (.siphonRtWork w units) s = .next s) ∧
    (∀ h ci k, s.dev.rtDrain w = some (h, ci, k) →
      let d1 := s.dev.sphRun w none units
      let c := w.val + 32 * (tgetD d1.mem.sphTurn w (7, 0)).1
      let d2 := match tget d1.mem.siphons c with
        | some x => if x.suspended || x.progress = 0 then d1 else d1.writeProgress c x 0
        | none => d1
      exec (.siphonRtWork w units) s = .next (s.to (d2.drainSlot h ci k w)))) ∧
  (∀ (d : Dev) (h ci k w : Nat) (g : Graph) (ch : Chan) (sl : ChSlot) (f : GFrame), d.graph h = some g → g.chan ci = some ch →
    tget ch.slots k = some sl → g.frame sl.strip.ctx sl.strip.frame = some f →
    let t := d.drainSlot h ci k w
    ((∃ m, Item.mark m ∈ sl.items ∧ markKind m = markSkip) → sl.strip.strip ∉ f.repair →
      ∃ g' f', t.mem = d.mem ∧ t.graph h = some g' ∧ g'.chan ci = some { ch with slots := terase ch.slots k }
        ∧ g'.frame sl.strip.ctx sl.strip.frame = some f' ∧ f'.repair = f.repair ++ [sl.strip.strip] ∧ f'.skipped = f.skipped + 1) ∧
    ((∀ m, Item.mark m ∈ sl.items → markKind m ≠ markSkip) → ∀ m, d.buf ch.target = some m → d.sinkLeased h f.frame m = true →
      let (_, _, _, pw) := g.strip f.width f.height sl.strip.strip
      let drained := d.drainRuns (.siphonRt w) m
        (stripRuns (d.sinkPlanes g ci ch) pw (d.sinkArea g f ci ch sl.strip.strip) (itemLines sl.items []))
      drained.2 = none →
      ∃ g' f', t.graph h = some g' ∧ g'.chan ci = some { ch with slots := terase ch.slots k }
        ∧ g'.frame sl.strip.ctx sl.strip.frame = some f' ∧ f'.repair = f.repair ∧ t.mem = drained.1.mem
        ∧ ((∀ j x e, g.chan j = some x → x.kind = 2 → e ∈ x.slots → e.2.strip = sl.strip → j = ci ∧ e.1 = k) →
            sl.strip.strip ∈ f'.drained)))

/-! ## Sensor ports and the pilot path -/

/-- From R196, R200, R206, R207, R222 to R224: a port's life. CONFIGURE SENSOR PORT writes a valid block at once while the port is stopped,
and stages it while it runs; START begins alignment and stays outstanding; alignment done means running and completes the START, a timeout
means STATE fault and NO_ALIGN; STOP_AT_BOUNDARY between frames and STOP_NOW stop the port and complete with the last frame number, and a
STOP_AT_BOUNDARY within a frame waits. A clock out of its window, or a lane that fails eight training checks in a row, counts lost lock
and realigns. (The model's choices that it meets are those of log entries 42, 43, 52, 54 and 56.) -/
def Obligations.SensorPortLife : Prop :=
  (∀ (s : State) (seq : Nat) (c : Ctx),
    let d := s.dev
    let i := c.w10 % 8
    let b := c.data
    d.ready seq false 0x95 = some c → i ≤ 4 → b.length = 96 → field b 0x21 1 = 0 → allZero b 0x24 28 = true →
    2 ≤ field b 0x20 1 → field b 0x20 1 ≤ 8 → allZero b (0x40 + 4 * field b 0x20 1) (32 - 4 * field b 0x20 1) = true →
    (i ≠ 0 → d.wideMode = false) → (1 < i → d.splitMode = true) →
    geomOk i (i == 0 && d.wideMode) (i != 0 && d.splitMode) (bits (field b 8 4) 23 16) (bits (field b 8 4) 15 0)
      (bits (field b 12 4) 31 16) (bits (field b 12 4) 7 0) (field b 16 4) = true →
    field b 0x22 2 ∈ d.mem.spaces → (∀ k, k < field b 0x20 1 → (d.buf (field b (0x40 + 4 * k) 4)).isSome = true) → d.cores.graphs = [] →
    ((d.ing i).st = 0 → ∃ t, exec (.configureSensorPort seq) s = .next (s.to t) ∧ t.doneAs seq 0 0 ((d.ing i).count % 4294967296)
      ∧ t.mem = d.mem ∧ (∀ e ∈ portFields i b, t.fget e.1 = e.2) ∧ (t.ing i).asid = field b 0x22 2
      ∧ (t.ing i).raws = (List.range (field b 0x20 1)).map (fun k => field b (0x40 + 4 * k) 4) ∧ (t.ing i).staged = []) ∧
    ((d.ing i).st ≠ 0 → bits (field b 12 4) 15 12 = d.fget (fSnsFrameWell i) → bits (field b 12 4) 7 0 = d.fget (fSnsFrameBuf i) →
      ∃ t, exec (.configureSensorPort seq) s = .next (s.to t) ∧ t.doneAs seq 0 0 ((d.ing i).count % 4294967296) ∧ t.mem = d.mem
      ∧ (∀ e ∈ portFields i b, t.fget e.1 = d.fget e.1)
      ∧ (t.ing i).staged = (d.ing i).staged ++ (portFields i b).map (fun e => (e.1.key, e.2))) ∧
    ((d.ing i).st ≠ 0 → bits (field b 12 4) 7 0 ≠ d.fget (fSnsFrameBuf i) →
      exec (.configureSensorPort seq) s = .next (s.to (d.fail seq stPortRunning)))) ∧
  (∀ (s : State) (seq : Nat) (c : Ctx),
    let d := s.dev
    let i := c.w10 % 8
    d.ready seq false 0xA4 = some c → d.noStart = false → i ≤ 4 → d.ctxExists i = true →
    geomOk i (i == 0 && d.wideMode) (i != 0 && d.splitMode) (d.fget (fSnsFmtNlane i)) (d.fget (fSnsFmtWidth i)) (d.fget (fSnsFrameLines i))
      (d.fget (fSnsFrameBuf i)) (d.fget (fSnsTimePeriod i)) = true →
    ((d.ing i).st = 0 → (i = 0 → d.wideMode = false) → ∀ a, gapFor ((d.well (d.fget (fSnsFrameWell i))).alloc.filter (fun a => a.2.2 != iOwner i)) 0 cisternLimit
        (d.ingestBytes i) 131072 = some a →
      ∃ t, exec (.startSensorPort seq) s = .next (s.to t) ∧ (t.ing i).st = 1 ∧ (t.ing i).startSeq = some seq ∧ tget t.qf.ctxs seq = some c
        ∧ t.mem = d.mem ∧ (∀ n ∈ d.lanesOfCtx i, t.fget (fSnsLaneCfgUsed n) = 1)
        ∧ (a, d.ingestBytes i, iOwner i) ∈ (t.well (d.fget (fSnsFrameWell i))).alloc) ∧
    ((d.ing i).st = 2 → exec (.startSensorPort seq) s = .next (s.to (d.fail seq stBusy)))) ∧
  (∀ (s : State) (i : Fin 5) (lanes : List (Nat × Nat)) (bad : List Nat) (q : Nat) (c : Ctx),
    ((s.dev.ing i).st ≠ 1 → exec (.alignmentDone i lanes) s = .next s ∧ exec (.alignmentTimeout i bad) s = .next s) ∧
    ((s.dev.ing i).st = 1 → (s.dev.ing i).startSeq = some q → tget s.dev.qf.ctxs q = some c → (s.dev.jrec q).isSome = true →
      (∃ t, exec (.alignmentDone i lanes) s = .next (s.to t) ∧ (t.ing i).st = 2 ∧ (t.ing i).startSeq = none ∧ t.doneAs q 0 0 0) ∧
      (∃ t, exec (.alignmentTimeout i bad) s = .next (s.to t) ∧ (t.ing i).st = 3 ∧ t.doneAs q 7 stNoAlign 0)) ∧
    ((s.dev.ing i).st = 1 → (s.dev.ing i).startSeq = none →
      (∃ t, exec (.alignmentDone i lanes) s = .next (s.to t) ∧ (t.ing i).st = 2 ∧ t.qf = s.dev.qf) ∧
      (∃ t, exec (.alignmentTimeout i bad) s = .next (s.to t) ∧ (t.ing i).st = 3 ∧ t.qf = s.dev.qf))) ∧
  (∀ (s : State) (seq : Nat) (c : Ctx),
    let d := s.dev
    let i := c.w11
    let last := if (d.ing i).count = 0 then allOnes32 else (d.ing i).count - 1
    d.ready seq false 0x98 = some c → c.w10 % 256 = kIngest → i ≤ 4 → d.portsAlone → (d.ing i).st = 2 → (d.ing i).stops = [] →
    (d.ing i).startSeq = none →
    (c.stopNow = false → (d.ing i).inFrame = false → ∃ t, exec (.stopSensorPort seq) s = .next (s.to t) ∧ (t.ing i).st = 0
      ∧ t.doneAs seq 0 0 (last % 4294967296)) ∧
    (c.stopNow = false → (d.ing i).inFrame = true → ∃ t, exec (.stopSensorPort seq) s = .next (s.to t) ∧ (t.ing i).st = 2
      ∧ (t.ing i).stops = [seq] ∧ tget t.qf.ctxs seq = some c) ∧
    (c.stopNow = true → ∃ t, exec (.stopSensorPort seq) s = .next (s.to t) ∧ (t.ing i).st = 0 ∧ (t.ing i).inFrame = false
      ∧ t.doneAs seq 0 0 (last % 4294967296))) ∧
  (∀ (s : State) (i : Fin 5) (k : Fin 2), s.dev.portsAlone → s.dev.wideMode = false → (s.dev.ing i).st = 2 → (s.dev.ing i).inFrame = false →
    (∀ v : Int, -20000 ≤ v → v ≤ 20000 → ∃ t, exec (.sensorClockWindow i k (some v)) s = .next (s.to t) ∧ t.sns = s.dev.sns ∧ t.sump = s.dev.sump) ∧
    (∀ v : Int, 20000 < v → s.dev.clockLanes i k ≠ [] →
      ∃ t, exec (.sensorClockWindow i k (some v)) s = .next (s.to t) ∧ (t.ing i).st = 1 ∧
        ∀ n, n ∉ s.dev.clockLanes i k → t.fget (fSnsLaneStatLockloss n) = s.dev.fget (fSnsLaneStatLockloss n))) ∧
  (∀ (s : State) (i : Fin 5) (bad : List Nat), s.dev.portsAlone → (s.dev.ing i).st = 2 → (s.dev.ing i).inFrame = false →
    (s.dev.ing i).window = none →
    let lanes := s.dev.lanesOfCtx i
    let fails := fun n => if n ∈ bad then tgetD (s.dev.ing i).bad n 0 + 1 else 0
    ((∀ n ∈ lanes, fails n < 8) → ∃ t, exec (.blankingCheck i bad) s = .next (s.to t) ∧ (t.ing i).st = 2 ∧ t.regs = s.dev.regs
      ∧ (∀ n ∈ lanes, tgetD (t.ing i).bad n 0 = fails n)) ∧
    ((∃ n ∈ lanes, 8 ≤ fails n) → ∃ t, exec (.blankingCheck i bad) s = .next (s.to t) ∧ (t.ing i).st = 1 ∧ (t.ing i).bad = []
      ∧ (∀ n ∈ lanes, t.fget (fSnsLaneStatLockloss n) = (if 8 ≤ fails n
          then min (fSnsLaneStatLockloss n).max (s.dev.fget (fSnsLaneStatLockloss n) + 1) else s.dev.fget (fSnsLaneStatLockloss n)))))

/-- From R38, R201, R203, R208 to R212, R216, R217, R220, R235: a frame. An edge counts when the filter confirms it, and its time is that of
the last copy stamp. A frame start opens the next record; a line lays its samples over the lanes, pixel p on lane p mod NLANE, and becomes a
row; the first EXP edge stamps the frame or the next; the frame's end closes it, short of rows with the mark SHORT and a count of lost ones;
a missing frame start opens a STALE record, in a frame too; the write-out packs a row into its frame's raw buffer. (The model's choices that
it meets are those of log entries 47, 48, 54 and 55.) -/
def Obligations.SensorFrames : Prop :=
  ∀ (s : State) (i : Fin 5), s.dev.portsAlone → (s.dev.ing i).st = 2 → (s.dev.ing i).stops = [] →
    let d := s.dev
    let g := d.ing i
    (∀ (e : SyncEdge) (l : SnsLine), d.edgeCounts i e = false → l.rise = e →
      (∃ t, exec (.sensorFrameStart i e) s = .next (s.to t) ∧ t.sns = d.sns) ∧ exec (.sensorExpEdge i e) s = .next s ∧
      (∃ t, exec (.sensorFrameEnd i e) s = .next (s.to t) ∧ t.sns = d.sns) ∧
      (∃ t, exec (.sensorLine i l) s = .next (s.to t) ∧ t.sns = d.sns)) ∧
    (∀ (e : SyncEdge), d.embedded i = false →
      (d.edgeCounts i e = true ↔ max 1 (d.fget (fSnsCtlFilt (snsPort i))) ≤ e.stable) ∧
      (∀ l t, e.copies = l ++ [t] → t ≤ e.confirm → (e.confirm - t) * d.fget (fSnsCtlRate (snsPort i)) ≤ 64000 → d.edgeTime i e = t) ∧
      (e.copies = [] → d.edgeTime i e = d.recTime)) ∧
    (∀ (e : SyncEdge), d.edgeCounts i e = true → (∀ t0, g.lastStart = some t0 → d.fget (fSnsTimePeriod i) ≤ 2 * (d.edgeTime i e - t0)) →
      g.staged = [] → g.window = none →
      ∃ t r, exec (.sensorFrameStart i e) s = .next (s.to t) ∧ (t.ing i).cur = some r ∧ r.frame = g.count ∧ (t.ing i).count = g.count + 1
        ∧ (t.ing i).inFrame = true ∧ (t.ing i).lines = 0 ∧ (t.ing i).width = d.fget (fSnsFmtWidth i)
        ∧ (t.ing i).height = d.fget (fSnsFrameLines i) ∧ (t.ing i).lastStart = some (d.edgeTime i e)
        ∧ (d.embedded i = false → r.tstart = some (d.edgeTime i e))) ∧
    (∀ (e : SyncEdge) t0, d.edgeCounts i e = true → g.lastStart = some t0 → 2 * (d.edgeTime i e - t0) < d.fget (fSnsTimePeriod i) →
      ∃ t, exec (.sensorFrameStart i e) s = .next (s.to t) ∧ (t.ing i).rejected = true ∧ (t.ing i).count = g.count) ∧
    (∀ (l : SnsLine) (r : FrameRec), d.edgeCounts i l.rise = true → g.rejected = false → g.inFrame = true → g.cur = some r →
      r.frame = g.frameNo → g.chk = false → g.nexp = 1 → 0 < g.nlane →
      l.bitTimes = g.width / g.nlane * g.depth → 32 ≤ l.gap → l.disagree = false → d.embedded i = false →
      d.inWindow i (d.edgeTime i l.rise) = false → g.winLost = 0 →
      g.part = [] → g.rows.length < d.bufRows i 1 g.width (d.fget (fSnsFrameBuf i)) → g.lines + 1 < g.height →
      ∃ t px, exec (.sensorLine i l) s = .next (s.to t) ∧ (t.ing i).lines = g.lines + 1
        ∧ (t.ing i).rows = g.rows ++ [{ frame := r.frame, row := g.lines, lines := [px], depth := g.depth, written := false }]
        ∧ (t.ing i).cur = some { r with rows := r.rows + 1 } ∧ px.length = g.width
        ∧ (∀ p v, p < g.width → (l.lanes[p % g.nlane]?).bind (fun x => x.1[p / g.nlane]?) = some v → px[p]? = some (v % 2 ^ g.depth))) ∧
    (∀ (e : SyncEdge), d.embedded i = false → d.edgeCounts i e = true →
      (∀ r, g.fv = true → g.inFrame = true → g.cur = some r → r.frame = g.frameNo → g.expSeen = false →
        ∃ t, exec (.sensorExpEdge i e) s = .next (s.to t) ∧ (t.ing i).cur = some { r with texp := some (d.edgeTime i e) }
          ∧ (t.ing i).expSeen = true) ∧
      (g.fv = false → g.nextExp = none →
        ∃ t, exec (.sensorExpEdge i e) s = .next (s.to t) ∧ (t.ing i).nextExp = some (d.edgeTime i e) ∧ (t.ing i).cur = g.cur)) ∧
    (∀ r, g.inFrame = true → g.cur = some r → r.frame = g.frameNo → g.winLost = 0 → g.dropping = false → g.rowsIn < g.height →
      let ended := fun (at' : Nat) => some { r with lost := g.height - g.rowsIn, tend := some at', marks := r.marks ||| mShort }
      (∀ e : SyncEdge, d.edgeCounts i e = true → ∃ t, exec (.sensorFrameEnd i e) s = .next (s.to t) ∧ (t.ing i).inFrame = false
        ∧ (t.ing i).fv = false ∧ (t.ing i).cur = ended (if d.embedded i then d.recTime else d.edgeTime i e)) ∧
      (∃ t, exec (.lineTimeout i) s = .next (s.to t) ∧ (t.ing i).inFrame = false ∧ (t.ing i).cur = ended d.recTime)) ∧
    (g.inFrame = false → ∃ t, exec (.lineTimeout i) s = .next (s.to t) ∧ t.sns = d.sns) ∧
    (let per := d.fget (fSnsTimePeriod i)
     (∀ t0, d.flag (fSnsGlEn i) = false → g.lastStart = some t0 →
       d.staleDue i = some (if g.stales = 0 then t0 + d.ctxTout i * per / 16 else g.staleAt + per)) ∧
     (∀ due, d.staleDue i = some due →
      (d.nowNs < due → ∃ t, exec (.frameTimeout i) s = .next (s.to t) ∧ t.sns = d.sns) ∧
      (due ≤ d.nowNs → ∃ t r, exec (.frameTimeout i) s = .next (s.to t) ∧ (t.ing i).cur = some r ∧ r.frame = g.count ∧ r.marks = mStale
        ∧ r.tstart = (if d.embedded i ∧ d.flag (fSnsGlEn i) = false then none else some (due - (d.ctxTout i - 16) * per / 16))
        ∧ (t.ing i).count = g.count + 1 ∧ (t.ing i).stales = g.stales + 1
        ∧ (t.ing i).staleAt = due ∧ (t.ing i).inFrame = g.inFrame))) ∧
    (∀ row h m, g.rows = [row] → row.written = false → tget g.rawBuf row.frame = some h → d.buf h = some m →
      let bytes := (row.lines.map (packLine row.depth)).flatten
      d.rangeFault true m.asid (m.va + row.row * bytes.length) bytes.length true = none →
      ∃ t, exec (.rawRowVisible i) s = .next (s.to t) ∧ (t.ing i).rows = []
        ∧ t.mem.bytes = (d.vwrite (.ingest i) m.asid (m.va + row.row * bytes.length) bytes).mem.bytes) ∧
    ((∀ r ∈ g.rows, r.written = true) → exec (.rawRowVisible i) s = .next s)

/-- From R225 to R231: the calibration of a receiver. A measurement starts on a running unit alone, gives way to a temperature that has moved
by more than 3 °C, and is pending once every lane passes; the longest run of error-free taps is found, the lowest of equal ones; in the
window each tap moves by one every 4 line times up to 44; its close after 48 stores the set, saved only with the write gate open, or brings the old values back where
a training check failed. (The model's choices that it meets are those of log entries 53 and 57.) -/
def Obligations.ReceiverCalibration : Prop :=
  (∀ (s : State) (seq : Nat) (c : Ctx), s.dev.ready seq false 0xA8 = some c → s.dev.unitExists (c.w10 % 8) = true →
    tget s.dev.sns.cals (c.w10 % 8) = none →
    ((s.dev.ing (unitCtx (c.w10 % 8))).st ≠ 2 → exec (.calibrateSensorPort seq) s = .next (s.to (s.dev.fail seq stNoSignal))) ∧
    ((s.dev.ing (unitCtx (c.w10 % 8))).st = 2 → ∃ t, exec (.calibrateSensorPort seq) s = .next (s.to t) ∧ tget t.qf.ctxs seq = some c
      ∧ tget t.sns.cals (c.w10 % 8) = some { seq := seq, phase := .measuring, temp := s.dev.maxReading })) ∧
  (∀ (s : State) (u : Fin 6) (eyes : List LaneEye) (cal : Cal) (c : Ctx), tget s.dev.sns.cals u = some cal → cal.phase = .measuring →
    tget s.dev.qf.ctxs cal.seq = some c → (s.dev.jrec cal.seq).isSome = true →
    let d := s.dev
    let fits := ((d.lanesOfCtx (unitCtx u)).zip eyes).map (fun e => (e.1, fitEye (d.laneTarget u e.1 (cal.temp / 4)).2 e.2))
    (12 < (d.maxReading - cal.temp).natAbs → ∃ t, exec (.calMeasurementDone u eyes) s = .next (s.to t) ∧ tget t.sns.cals u = none
      ∧ t.doneAs cal.seq 7 stTempMoved 0) ∧
    ((d.maxReading - cal.temp).natAbs ≤ 12 → (∃ e ∈ fits, d.eyeFails u e.1 (cal.temp / 4) e.2 = 1) →
      ∃ t, exec (.calMeasurementDone u eyes) s = .next (s.to t) ∧ tget t.sns.cals u = none ∧ t.doneAs cal.seq 7 stRejectedEye 0) ∧
    ((d.maxReading - cal.temp).natAbs ≤ 12 → (∀ e ∈ fits, d.eyeFails u e.1 (cal.temp / 4) e.2 = 0) →
      ∃ t k, exec (.calMeasurementDone u eyes) s = .next (s.to t) ∧ tget t.sns.cals u = some k ∧ k.phase = .pending
        ∧ k.new = fits.map (fun e => (e.1, e.2.tap % 64, e.2.thr)) ∧ tget t.qf.ctxs cal.seq = some c)) ∧
  (∀ m : Nat, let (n, a) := longestRun m
    a + n ≤ 64 ∧ (∀ x, a ≤ x → x < a + n → bit m x = true) ∧
    (∀ b k, b + k ≤ 64 → (∀ x, b ≤ x → x < b + k → bit m x = true) → k ≤ n ∧ (0 < k → k = n → a ≤ b))) ∧
  (∀ (s : State) (u : Fin 6) (cal : Cal), tget s.dev.sns.cals u = some cal → cal.phase = .window →
    (∀ w, (s.dev.ing (unitCtx u)).window = some w → w < 44) →
    exec (.calTapStep u) s = .next (s.to ((s.dev.stepTaps cal).ingMod (unitCtx u) (fun g => { g with window := g.window.map (· + 4) })))) ∧
  (∀ (s : State) (u : Fin 6) (cal : Cal) (n tap : Nat) (thr : Int), tget s.dev.sns.cals u = some cal → cal.phase = .window →
    cal.new = [(n, tap, thr)] → tap < 64 →
    ((∃ w, (s.dev.ing (unitCtx u)).window = some w ∧ 44 ≤ w) → exec (.calTapStep u) s = .next s) ∧
    ((∀ w, (s.dev.ing (unitCtx u)).window = some w → w < 44) → ∃ t, exec (.calTapStep u) s = .next (s.to t) ∧ (∀ w, (s.dev.ing (unitCtx u)).window = some w → (t.ing (unitCtx u)).window = some (w + 4)) ∧
      let p := s.dev.fget (fSnsLaneCfgTap n)
      t.fget (fSnsLaneCfgTap n) = (if p < tap then p + 1 else if tap < p then min 63 (p - 1) else p))) ∧
  (∀ (s : State) (u : Fin 6) (cal : Cal) (c : Ctx), tget s.dev.sns.cals u = some cal → cal.phase = .window →
    tget s.dev.qf.ctxs cal.seq = some c → (s.dev.jrec cal.seq).isSome = true → (s.dev.ing (unitCtx u)).stops = [] →
    (s.dev.inWindow (unitCtx u) s.dev.nowNs = true → ∃ t, exec (.calWindowClose u) s = .next (s.to t) ∧ t.sns = s.dev.sns) ∧
    (s.dev.inWindow (unitCtx u) s.dev.nowNs = false → cal.failed = false →
      ∃ t k x, exec (.calWindowClose u) s = .next (s.to t) ∧ tget t.sns.cals u = none ∧ (t.ing (unitCtx u)).window = none
        ∧ tget t.sns.sets k = some x ∧ x.saved = s.dev.gateOpen ∧ x.lanes = cal.new.map (fun e => (e.1, e.2.1, trunc 5 e.2.2))
        ∧ (∃ w, t.doneAs cal.seq 0 0 w) ∧ (s.dev.gateOpen = true → t.commitsRecord)
        ∧ (∃ r, t.jrec cal.seq = some r ∧ (s.dev.gateOpen = false → bit r.notes 6 = true))) ∧
    (s.dev.inWindow (unitCtx u) s.dev.nowNs = false → cal.failed = true → ∀ n tap thr, cal.old = [(n, tap, thr)] → tap < 64 →
      ∃ t, exec (.calWindowClose u) s = .next (s.to t) ∧ tget t.sns.cals u = none ∧ t.fget (fSnsLaneCfgTap n) = tap
        ∧ t.sns.sets = s.dev.sns.sets ∧ t.doneAs cal.seq 7 stRejectedLock 0))

/-- From R248, R261 to R268: black tracking keeps the mean of each frame that makes an update, and moves a stage's level by the rounded part
of its distance from each mean, two frames later; the pilot path
takes a block for the next frame start, serves a context into a buffer from its next frame on, publishes a frame that it has written whole
with the mark PILOT, discards one that failed, and stops at a boundary or at once; its error marks every frame in service as failed. (The
model's choices that it meets are those of log entries 52 and 58.) -/
def Obligations.TrackingAndPilot : Prop :=
  (∀ (s : State) (h : Nat) (ctx : Fin 5) (g : Graph) (f : GFrame) (st : Stage) (p : Program) (q : ParamCopy), s.dev.graph h = some g →
    g.frames = [f] → f.ctx = ctx.val → g.stages = [st] → f.obDone = [] →
    (g.frameDone f = false → exec (.obTrackUpdate h ctx) s = .next s) ∧
    (g.frameDone f = true → tget s.dev.cores.programs st.prog = some p → p.lib = some .front → st.params = [(ctx.val, [q])] → q.effect ≤ f.frame →
      q.block ≠ [] → fbObTrack q.block = true → s.dev.obUpdates g f 0 q.block = true →
      let mval := frontM q.block (s.dev.stageLut st q.bank) f.nexp f.depth (fun e x y => ((tgetD f.obRows y []).getD e []).getD x 0)
      ∃ t g' q', exec (.obTrackUpdate h ctx) s = .next (s.to t) ∧ t.graph h = some g' ∧ g'.frames = [{ f with obDone := [0] }]
        ∧ g'.stages = [{ st with params := [(ctx.val, [q'])] }] ∧ q'.block = q.block
        ∧ q'.ob = (f.frame, (List.range 4).map (obMean q.block mval)) :: q.ob)) ∧
  (∀ (q : ParamCopy) (l : List (Nat × List Int)) (f n φ : Nat) (mean : List Int),
    let before := ({ q with ob := l } : ParamCopy).black n φ
    ({ q with ob := (f, mean) :: l } : ParamCopy).black n φ
      = (if f + 2 ≤ n then sat16s (before + rshr (mean.getD φ 0 - before) (fbObK q.block)) else before) ∧
    ({ q with ob := [] } : ParamCopy).black n φ = fbB q.block φ) ∧
  (∀ (s : State) (seq : Nat) (c : Ctx), s.dev.ready seq false 0x99 = some c → c.w10 % 8 ≤ 4 → bit c.w10 8 = false → pilotOk c.data = true →
    s.dev.ownedBusy 8 = false →
    ∃ t, exec (.configurePilot seq) s = .next (s.to t) ∧ t.doneAs seq 0 0 ((s.dev.ing (c.w10 % 8)).count % 4294967296)
      ∧ t.pilotBlock (c.w10 % 8) (s.dev.ing (c.w10 % 8)).count = some c.data ∧ t.mem = s.dev.mem ∧ t.prime = s.dev.prime) ∧
  (∀ (s : State) (seq : Nat) (c : Ctx) (e : Nat) (b : List Byte),
    let d := s.dev
    let i := c.w10 % 8
    d.ready seq false 0xAC = some c → d.noStart = false → (tgetD d.sns.pilot.blocks i []).head? = some (e, b) → i ≤ 4 →
    (d.buf c.w11).isSome = true → d.ownedBusy 8 = false →
    (d.fget fPipePltCtlState ≠ 0 → exec (.startPilot seq) s = .next (s.to (d.fail seq stPilotBusy))) ∧
    (d.fget fPipePltCtlState = 0 → d.pilotRate i (plBin2 b) = false → exec (.startPilot seq) s = .next (s.to (d.fail seq stOverRate))) ∧
    (d.fget fPipePltCtlState = 0 → d.pilotRate i (plBin2 b) = true → d.sinkRunning c.w11 = true →
      exec (.startPilot seq) s = .next (s.to (d.fail seq stSinkBusy))) ∧
    (d.fget fPipePltCtlState = 0 → d.pilotRate i (plBin2 b) = true → d.sinkRunning c.w11 = false →
      ∃ t, exec (.startPilot seq) s = .next (s.to t) ∧ t.sns.pilot.service = some { ctx := i, sink := c.w11, first := (d.ing i).count }
        ∧ t.fget fPipePltCtlState = 1 ∧ t.mem = d.mem ∧ t.doneAs seq 0 0 ((d.ing i).count % 4294967296))) ∧
  (∀ (s : State) (seq : Nat) (c : Ctx) (x : PilotService), s.dev.ready seq false 0x98 = some c → c.w10 % 256 = kPilot →
    s.dev.sns.pilot.service = some x → x.stops = [] →
    ((c.stopNow = true ∨ (x.frames = [] ∧ x.handTo = none)) →
      ∃ t, exec (.stopPilot seq) s = .next (s.to t) ∧ t.sns.pilot.service = none ∧ t.doneAs seq 0 0 (x.lastPub.getD allOnes32 % 4294967296)) ∧
    (c.stopNow = false → x.frames ≠ [] →
      ∃ t, exec (.stopPilot seq) s = .next (s.to t) ∧ t.sns.pilot.service = some { x with stops := [seq] } ∧ tget t.qf.ctxs seq = some c)) ∧
  (∀ (s : State) (x : PilotService) (f : PilotFrame), s.dev.sns.pilot.service = some x → x.frames = [f] → f.hi.isSome = true → x.stops = [] →
    x.handTo = none → s.dev.cores.graphs = [] →
    (f.failed = true → ∃ t, exec .pilotFrameDone s = .next (s.to t) ∧ t.mem.published = s.dev.mem.published
      ∧ t.sns.pilot.service = some { x with frames := [] }) ∧
    (f.failed = false → ∀ r, s.dev.frameRec x.ctx f.frame = some r →
      ∃ t p, exec .pilotFrameDone s = .next (s.to t) ∧ tget t.mem.published x.sink = some p ∧ p.frame = f.frame ∧ p.producer = kPilot
        ∧ p.marks = r.marks ||| mPilot ∧ p.width = f.width ∧ p.height = f.height
        ∧ t.fget fPipePltStatFrames = min fPipePltStatFrames.max (s.dev.fget fPipePltStatFrames + 1)
        ∧ t.sns.pilot.service = some { x with frames := [], lastPub := some f.frame, announced := true })) ∧
  (∀ (s : State) (check : Byte) (b : List Byte) (x : PilotService), s.dev.sns.pilot.service = some x → s.dev.sns.pilot.cover = none →
    ∃ t, exec (.pilotError check b) s = .next (s.to t) ∧ t.mem = s.dev.mem
      ∧ t.sns.pilot.service = some { x with frames := x.frames.map (fun f => { f with failed := true }) })

/-! ## Compositors, flows and rasters -/

/-- From R270 to R279, R365: compositors. START COMPOSITOR runs a valid block; SET LAYERS stages entries for the next frame; a release without
layers writes the background and shows the composite to its readers, and a cut compositor aborts it; STOP waits for the composite in
progress, or discards it. (The model's choices that it meets are those of log entries 52, 60, 61 and 62.) -/
def Obligations.Compositors : Prop :=
  (∀ (s : State) (seq : Nat) (c : Ctx),
    let d := s.dev
    let i := c.w10 % 4
    let b := c.data
    let w := field b 0 2
    let h := field b 2 2
    let nbuf := field b 0x0A 1
    let trg := field b 0x0B 1
    let asid := field b 0x0C 2
    let layers := (List.range 16).map (fun k => (b.drop (0x40 + 32 * k)).take 32)
    d.ready seq false 0x9D = some c → d.noStart = false → b.length = 576 → 2 ≤ w → w ≤ 17280 → 2 ≤ h → h ≤ 9120 → 3 ≤ nbuf → nbuf ≤ 6 →
    trg ≤ 31 → allZero b 0x0E 2 = true → allZero b (0x10 + 4 * nbuf) (24 - 4 * nbuf) = true → allZero b 0x28 24 = true →
    (∀ k, k < 16 → layerOk (k == 0) w h (layers.getD k []) = true) → asid ∈ d.mem.spaces →
    (∀ k, k < nbuf → ∃ m, d.buf (field b (0x10 + 4 * k) 4) = some m ∧ m.asid = asid ∧ rgbPitch w * h ≤ m.len) →
    ((d.mix i).running = true → exec (.startCompositor seq) s = .next (s.to (d.fail seq stBusy))) ∧
    ((d.mix i).running = false → d.unitBusy (.compositor i) 7 = false →
      (d.mixRate w h trg layers = false → exec (.startCompositor seq) s = .next (s.to (d.fail seq stOverRate))) ∧
      (d.mixRate w h trg layers = true → ∃ t, exec (.startCompositor seq) s = .next (s.to t) ∧ (t.mix i).running = true
        ∧ (t.mix i).width = w ∧ (t.mix i).height = h ∧ (t.mix i).trg = trg ∧ (t.mix i).layers = layers ∧ (t.mix i).next = (d.mix i).next
        ∧ (t.mix i).bufs = (List.range nbuf).map (fun k => field b (0x10 + 4 * k) 4) ∧ t.fget (fMixStatState i) = 1 ∧ t.mem = d.mem
        ∧ (∀ j, j ≠ i → t.mix j = d.mix j) ∧ t.doneAs seq 0 0 ((d.mix i).next % 4294967296)))) ∧
  (∀ (s : State) (seq : Nat) (c : Ctx),
    let d := s.dev
    let i := c.w10 % 4
    let x := d.mix i
    let ks := (List.range 16).filter (bit (c.w11 % 65536))
    let new := ks.zipIdx.map (fun e => (e.1, (c.data.drop (32 * e.2)).take 32))
    d.ready seq false 0xA1 = some c →
    (x.running = false → exec (.setLayers seq) s = .next (s.to (d.fail seq stBadHandle))) ∧
    (x.running = true → c.data.length = 32 * ks.length → (∀ e ∈ new, layerOk (e.1 == 0) x.width x.height e.2 = true) →
      d.mixRate x.width x.height x.trg (new.foldl (fun l e => l.set e.1 e.2) x.newLayers) = true →
      ∃ t, exec (.setLayers seq) s = .next (s.to t) ∧ (t.mix i).staged = x.staged ++ new ∧ (t.mix i).layers = x.layers ∧ t.mem = d.mem
        ∧ t.doneAs seq 0 0 (x.next % 4294967296))) ∧
  (∀ (s : State) (seq : Nat) (c : Ctx),
    let d := s.dev
    let i := c.w11
    let x := d.mix i
    d.ready seq false 0x98 = some c → c.w10 % 256 = kCompositor → i ≤ 3 → x.running = true → x.stops = [] →
    (c.stopNow = false → x.cur.isSome = true → exec (.stopCompositor seq) s = .next (s.to ((d.startCmd seq).mixMod i (fun x => { x with stops := [seq] })))) ∧
    ((c.stopNow = true ∨ x.cur = none) → ∃ t, exec (.stopCompositor seq) s = .next (s.to t) ∧ (t.mix i).running = false ∧ (t.mix i).cur = none
      ∧ t.fget (fMixStatState i) = 0 ∧ (∀ l ∈ t.mem.leases, ¬(l.kind = kCompositor ∧ l.index = i))
      ∧ t.doneAs seq 0 0 (x.lastDone.getD allOnes32 % 4294967296))) ∧
  (∀ (s : State) (i : Fin 4) (f : CompFrame) (m : Mapping),
    let d := s.dev
    let x := d.mix i
    x.cur = some f → x.stops = [] →
    (∃ t, exec (.compositeRelease i) s = .next (s.to t) ∧ (t.mix i).cur = none ∧ (t.mix i).next = x.next) ∧
    (d.mixCut i = true → ∃ t, exec (.compositeRelease i) s = .next (s.to t) ∧ (t.mix i).cur = none ∧ (t.mix i).out = x.out
      ∧ t.mem.bytes = d.mem.bytes ∧ (t.mix i).recs = modRec x.recs f.oframe (fun r => r.set oAborted)) ∧
    (d.mixCut i = false → f.epoch = none → (∀ r ∈ x.guards.regions, r.latched = false) → f.absent = [] →
      (∀ k, k < 16 → leOn (f.layers.getD k []) = false) → d.buf f.buf = some m →
      d.rangeFault true m.asid m.va (rgbPitch x.width * x.height) true = none →
      ∃ (v : Video) (d1 : Dev) (o : Released), exec (.compositeRelease i) s = .next (s.to ((d1.feedComposite i).retireLeases kCompositor i f.oframe))
        ∧ (d1.mix i).cur = none ∧ (d1.mix i).lastDone = some f.oframe ∧ (d1.mix i).out = some o
        ∧ o.buf = f.buf ∧ o.oframe = f.oframe ∧ o.marks = f.marks ∧ o.width = x.width ∧ o.height = x.height
        ∧ o.oflags = (if f.late then oLate else 0)
        ∧ d1.mem = ((List.range x.height).foldl (fun (d : Dev) y => d.vwrite (.compositor i 255) m.asid
            (m.va + y * rgbPitch x.width) (rgbLine x.width (fun _ c => x.bg.getD c 0))) { d with vid := v }).mem)) ∧
  (∀ (s : State) (i : Fin 4), (s.dev.mix i).cur = none → exec (.compositeRelease i) s = .next s)

/-- From R283, R286, R290 to R295, R308: guards, profiles and images. SET GUARDS replaces the regions and disarms; ARM forgets what was
learned; DISARM ends checking. A profile out of range is refused. An image is a copy of its buffer. (The model's choices that it meets are
those of log entries 59, 66 and 69.) -/
def Obligations.GuardsAndProfiles : Prop :=
  (∀ (s : State) (seq : Nat) (c : Ctx),
    let d := s.dev
    let i := c.w10 % 512
    let g := (d.mix i).guards
    let n := c.w11 % 128
    bit c.w10 9 = false → i ≤ 3 →
    (d.ready seq false 0xB1 = some c → n ≤ 64 → regionEntriesOk c.data n = true →
      (∀ r ∈ regionsOf c.data n, regionFits false 0 (d.mix i).width (d.mix i).height r = true ∧ r.action ≠ 1) →
      ∃ t, exec (.setGuards seq) s = .next (s.to t) ∧ (t.mix i).guards = { g with regions := regionsOf c.data n, armed := false, epoch := g.epoch + 1 }
        ∧ t.mem = d.mem ∧ t.doneAs seq 0 0 0) ∧
    (d.ready seq false 0xB4 = some c → (∀ r ∈ g.regions, r.action ≠ 2) →
      ∃ t, exec (.armGuards seq) s = .next (s.to t) ∧ (t.mix i).guards.armed = true ∧ (t.mix i).guards.epoch = g.epoch + 1
        ∧ (t.mix i).guards.regions = g.regions.map (fun r => { r with learned := none, bad := false, latched := false })
        ∧ t.doneAs seq 0 0 ((d.mix i).next % 4294967296)) ∧
    (d.ready seq false 0xB8 = some c →
      ∃ t, exec (.disarmGuards seq) s = .next (s.to t) ∧ (t.mix i).guards = { g with armed := false }
        ∧ t.doneAs seq 0 0 ((if (d.mix i).next = 0 || !g.armed then allOnes64 else (d.mix i).next - 1) % 4294967296))) ∧
  (∀ (s : State) (seq : Nat) (c : Ctx),
    let d := s.dev
    d.ready seq false 0xD0 = some c → c.w10 % 512 = 511 →
    (d.buf c.w11 = none → exec (.loadSafeImage seq) s = .next (s.to (d.fail seq stBadHandle))) ∧
    (∀ m, d.buf c.w11 = some m → d.rangeFault false m.asid m.va m.len false = none →
      ∃ t, exec (.loadSafeImage seq) s = .next (s.to t) ∧ t.mem = d.mem
        ∧ tget t.vid.images d.qf.handle = some { flow := none, data := d.vread m.asid m.va m.len }
        ∧ t.doneAs seq 0 0 (d.qf.handle % 4294967296))) ∧
  (∀ (s : State) (seq : Nat) (c : Ctx),
    let d := s.dev
    let b := c.data
    let th := field b 0 1
    let tv := field b 1 1
    let ch := coeffs b 4 (64 * th)
    let cv := coeffs b (4 + 128 * th) (64 * tv)
    (d.ready seq false 0xA9 = some c → th % 8 = 0 → 8 ≤ th → th ≤ 64 → tv % 8 = 0 → 8 ≤ tv → tv ≤ 32 → allZero b 2 2 = true →
      b.length = 4 + 128 * (th + tv) →
      (phasesOk th ch = false → exec (.loadScalingProfile seq) s = .next (s.to (d.fail seq stBadParam))) ∧
      (phasesOk th ch = true → phasesOk tv cv = true → ∃ t, exec (.loadScalingProfile seq) s = .next (s.to t)
        ∧ tget (t.spout (c.w10 % 16)).scale (c.w10 / 16 % 8) = some { th := th, tv := tv, ch := ch, cv := cv }
        ∧ t.vid.mix = d.vid.mix ∧ t.vid.flow = d.vid.flow ∧ t.doneAs seq 0 0 0)) ∧
    (d.ready seq false 0xAD = some c → b.length = 8196 → allZero b 2 2 = true → 100 ≤ field b 0 2 → field b 0 2 ≤ 10000 →
      ∃ t, exec (.loadToneProfile seq) s = .next (s.to t)
        ∧ tget (t.spout (c.w10 % 16)).tone (c.w10 / 16 % 8) =
          some { peak := field b 0 2, tone := (List.range 4096).map (fun k => field b (4 + 2 * k) 2) }
        ∧ t.vid.flow = d.vid.flow ∧ t.doneAs seq 0 0 0))

/-- From R280 to R285, R291 to R293, R297, R299 to R304: flows. A stopped flow takes a valid descriptor at once, a running one only with the
same streams; START places its streams; packets leave in line order, and with a line late it and all later ones are black; a region's
signature is checked once a frame; a memory frame becomes the ring's newest; STOP waits for a frame in progress. (The model's choices that
it meets are those of log entries 52, 65, 66, 67 and 68.) -/
def Obligations.RegionFlows : Prop :=
  (∀ (s : State) (seq : Nat) (c : Ctx),
    let d := s.dev
    let n := c.w10 % 512
    let b := c.data
    d.ready seq false 0xA5 = some c → fdShapeOk b = true → d.fdStreamsOk b = true → d.toneRefused b = false →
    (d.scaleRefused n b = true → exec (.configureFlow seq) s = .next (s.to (d.fail seq stScaleRange))) ∧
    (d.scaleRefused n b = false → d.flowSt n = 0 → ∃ t, exec (.configureFlow seq) s = .next (s.to t) ∧ (t.flow n).desc = some b
      ∧ ((d.flow n).staged = none → (d.flow n).desc ≠ some b → (t.flow n).version = (d.flow n).version + 1
        ∧ (t.flow n).sdp = d.sdpText n b ((d.flow n).version + 1))
      ∧ t.fget (fSptFlowCfgDest n) = fdDest b ∧ t.flowSt n = 0 ∧ t.mem = d.mem ∧ (∀ k, k ≠ n → t.flow k = d.flow k) ∧ t.doneAs seq 0 0 0) ∧
    (d.scaleRefused n b = false → d.flowSt n ≠ 0 → sameStreams (d.flowDesc n) b = false →
      exec (.configureFlow seq) s = .next (s.to (d.fail seq stFlowRunning)))) ∧
  (∀ (s : State) (seq : Nat) (c : Ctx) (b : List Byte),
    let d := s.dev
    let n := c.w10 % 512
    d.ready seq false 0xB0 = some c → d.noStart = false → (d.flow n).desc = some b →
    (d.flowSt n ≠ 0 → exec (.startFlow seq) s = .next (s.to (d.fail seq stBusy))) ∧
    (d.flowSt n = 0 → d.unitBusy (spoutUnit n) 7 = false → d.fget fQfStatPstate ≠ 1 → loadFits (d.spoutLoad (n / 32) n (some b)) = true →
      (tget (d.spout (n / 32)).scale (fdSprof b)).isSome = true → fdTonemap b = false → d.scaleRefused n b = false → fdDest b = 0 →
      d.safeMissing (fdSrc b) n = false →
      (d.planFlow n b [] = none → exec (.startFlow seq) s = .next (s.to (d.fail seq stPortFull))) ∧
      (∀ p, d.planFlow n b [] = some p → ∃ t, exec (.startFlow seq) s = .next (s.to t) ∧ t.flowSt n = 1 ∧ (t.flow n).place = p
        ∧ (t.flow n).cur = none ∧ (t.flow n).next = (d.flow n).next ∧ t.mem = d.mem ∧ t.doneAs seq 0 0 ((d.flow n).next % 4294967296)))) ∧
  (∀ (s : State) (seq : Nat) (c : Ctx),
    let d := s.dev
    let n := c.w11
    let x := d.flow n
    d.ready seq false 0x98 = some c → c.w10 % 256 = kFlow → n ≤ 511 → d.flowSt n ≠ 0 → c.stopNow = false → x.stops = [] →
    (x.busy = true → ∃ t, exec (.stopFlow seq) s = .next (s.to t) ∧ t.flowSt n = 2 ∧ (t.flow n).stops = [seq] ∧ tget t.qf.ctxs seq = some c) ∧
    (x.busy = false → ∃ t, exec (.stopFlow seq) s = .next (s.to t) ∧ t.flowSt n = 0 ∧ (t.flow n).place = [] ∧ (t.flow n).send = none
      ∧ t.doneAs seq 0 0 (x.lastDone.getD allOnes32 % 4294967296))) ∧
  (∀ (s : State) (n : Fin 512) (ready : Bool) (f : FlowFrame),
    let d := s.dev
    let x := d.flow n
    (x.sending = none → exec (.packetSend n ready) s = .next s) ∧
    (x.sending = some f → f.pkt + 1 < framePackets f.desc → fdAnc f.desc = false →
      ∃ t g p, exec (.packetSend n ready) s = .next (s.to t) ∧ (t.flow n).sending = some g ∧ g.pkt = f.pkt + 1 ∧ g.oframe = f.oframe
        ∧ g.black = (if ready = false ∧ f.black = none ∧ f.safe = false then some f.pkt else f.black)
        ∧ (t.flow n).rtp = (x.rtp + 1) % 4294967296 ∧ (t.flow n).last = some p ∧ p.line = f.pkt / linePackets f.desc
        ∧ p.off = f.pkt % linePackets f.desc * 1200 ∧ p.ts = rtpStamp f.tsend ∧ p.data.length ≤ 1200
        ∧ p.heads.length = p.paths.length ∧ (∀ h ∈ p.heads, h.udpSrc = field f.desc 0x34 2 ∧ h.udpDst = field f.desc 0x30 2)
        ∧ t.mem = d.mem)) ∧
  (∀ (s : State) (n : Fin 512) (g : Fin 32) (f : FlowFrame) (r : Region),
    let d := s.dev
    let x := d.flow n
    let b := f.desc
    let sig := flowSig (fdSamp b) (fdDepth b) r (fun l => blackFrom f l (packSamples (fdDepth b)
      (if f.src.isNone then blackSamples (fdSamp b) (fdDepth b) (fdOutW b) else d.flowBase f l)))
    x.cur = some f → x.guards.regions[g.val]? = some r → f.epoch = some x.guards.epoch → f.unchecked = false → r.learn = false →
    (g.val ∈ f.checked → exec (.flowRegionSignature n g) s = .next s) ∧
    (g.val ∉ f.checked → sig = r.expect → ∃ t, exec (.flowRegionSignature n g) s = .next (s.to t) ∧ t.sump = d.sump ∧ t.ev = d.ev
      ∧ (t.flow n).guards.regions[g.val]? = some { r with bad := false } ∧ (t.flow n).cur = some { f with checked := g.val :: f.checked }) ∧
    (g.val ∉ f.checked → sig ≠ r.expect → r.action = 0 → ∃ t, exec (.flowRegionSignature n g) s = .next (s.to t)
      ∧ (t.flow n).guards.regions[g.val]? = some { r with bad := true, latched := r.latched || r.latch } ∧ (t.flow n).nextAct = x.nextAct
      ∧ t.sump = (d.sumpWrite (flowPlace n) 0x10 kFlow 0 0 (le 4 n.val ++ (le 1 g.val ++ le 4 r.expect ++ le 4 sig))).sump)) ∧
  (∀ (s : State) (n : Fin 512) (f : FlowFrame) (h : Nat) (m : Mapping) (d1 : Dev),
    let d := s.dev
    let b := f.desc
    let line := fun l => if f.black.isSome then blackSamples (fdSamp b) (fdDepth b) (fdOutW b) else d.flowLine n f l
    (d.flow n).cur = some f → (d.flow n).stops = [] → f.buf = some h → d.buf h = some m →
    d.writeRuns (.spout n) m ((List.range (lineCount (fdSamp b) (fdOutH b))).flatMap (fun l => planeLines b l (line l))) = (d1, none) →
    ∃ t, exec (.memoryFlowFrameDone n) s = .next (s.to t) ∧ t.mem.bytes = d1.mem.bytes ∧ (t.flow n).cur = none
      ∧ (t.flow n).lastDone = some f.oframe ∧ (t.flow n).out.map (·.buf) = f.src.map (fun _ => h)
      ∧ (t.flow n).out.map (·.oframe) = f.src.map (fun _ => f.oframe)
      ∧ (∀ l ∈ t.mem.leases, ¬(l.kind = kFlow ∧ l.index = n.val ∧ l.frame = f.oframe))) ∧
  (∀ (s : State) (seq : Nat) (c : Ctx),
    let d := s.dev
    let n := c.w10 % 512
    d.ready seq false 0x82 = some c → bit c.w10 16 = false →
    ((d.flow n).desc = none → exec (.getFlowSdp seq) s = .next (s.to (d.fail seq stBadParam))) ∧
    (∀ b, (d.flow n).desc = some b → fdDest b = 0 → ∃ t, exec (.getFlowSdp seq) s = .next (s.to t)
      ∧ t.endsAs d seq 0 0 ((d.flow n).sdp.length % 4294967296)
      ∧ (d.cqLives c.sqid = true → c.unposted = false → ∃ x ∈ t.qf.posted, x.seq = seq ∧ x.out = (d.flow n).sdp)))

/-- From R305 to R308: monitor rasters. A raster runs only with a timing of Table CF-10, goes black on an underrun, counts CRC mismatches of
its lines read back, and after STOP sends black until released. (The model's choices that it meets are those of log entries 31, 52 and
70.) -/
def Obligations.MonitorRasters : Prop :=
  (∀ (s : State) (seq : Nat) (c : Ctx),
    let d := s.dev
    let r := c.w10 % 16
    d.ready seq false 0xBC = some c → d.noStart = false → d.isSdi (rasLane r) = true → d.rasRuns r = false →
    d.unitBusy (.raster r) 12 = false → d.flag (fRasCtlClone r) = false →
    (d.rasTimingOk r (c.w11 % 32) = false → exec (.startRaster seq) s = .next (s.to (d.fail seq stBadTiming))) ∧
    (d.rasTimingOk r (c.w11 % 32) = true → d.rasFlowOk r = true → ∃ t, exec (.startRaster seq) s = .next (s.to t) ∧ t.rasSt r = 1
      ∧ (t.ras r).trg = c.w11 % 32 ∧ (t.ras r).cur = none ∧ t.mem = d.mem ∧ t.doneAs seq 0 0 ((d.ras r).next % 4294967296))) ∧
  (∀ (s : State) (seq : Nat) (c : Ctx),
    let d := s.dev
    let r := c.w11
    r ≤ 15 →
    (d.ready seq false 0x98 = some c → c.w10 % 256 = kRaster → d.rasRuns r = true → c.stopNow = false → (d.ras r).stops = [] →
      ((d.ras r).cur.isSome = true → exec (.stopRaster seq) s = .next (s.to ((d.startCmd seq).rasMod r (fun x => { x with stops := [seq] })))) ∧
      ((d.ras r).cur = none → d.clonesOf r = [] → ∃ t, exec (.stopRaster seq) s = .next (s.to t) ∧ t.rasSt r = 2
        ∧ t.doneAs seq 0 0 ((d.ras r).lastDone.getD allOnes32 % 4294967296))) ∧
    (d.ready seq false 0x84 = some c → c.w10 % 256 = kRaster →
      (d.rasRuns r = true → exec (.releaseRaster seq) s = .next (s.to (d.fail seq stBusy))) ∧
      (d.rasSt r = 2 → ∃ t, exec (.releaseRaster seq) s = .next (s.to t) ∧ t.rasSt r = 0 ∧ t.vid = d.vid ∧ t.mem = d.mem
        ∧ t.doneAs seq 0 0 0))) ∧
  (∀ (s : State) (r : Fin 16), s.dev.flag (fRasCtlClone r) = false → s.dev.clonesOf r = [] →
    ((s.dev.ras r).cur = none → exec (.rasterUnderrun r) s = .next s) ∧
    (∀ o x, (s.dev.ras r).cur = some (o, some x) → ∃ t, exec (.rasterUnderrun r) s = .next (s.to t) ∧ (t.ras r).cur = some (o, none)
      ∧ t.rasSt r = 3 ∧ (t.ras r).recs = modRec (s.dev.ras r).recs o (fun q => q.set (oUnderrun + oAborted)))) ∧
  (∀ (s : State) (r : Fin 16), s.dev.rasSt r ≠ 0 →
    (s.dev.readsBack r = true → ∃ t, exec (.rasterLineReadback r true) s = .next (s.to t) ∧ (t.ras r).badRun = 0 ∧ t.regs = s.dev.regs) ∧
    (s.dev.readsBack r = false → exec (.rasterLineReadback r true) s = exec (.rasterLineReadback r false) s) ∧
    (∃ t, exec (.rasterLineReadback r false) s = .next (s.to t) ∧ (t.ras r).badRun = (s.dev.ras r).badRun + 1
      ∧ t.fget (fRasStatPinerr r) = min (fRasStatPinerr r).max (s.dev.fget (fRasStatPinerr r) + 1)
      ∧ ((s.dev.ras r).badRun ≠ 15 → t.sump = s.dev.sump)))

/-! ## Recording and coding -/

/-- From R314, R317 to R321: a block decodes to the samples that were coded: for every depth, size and content of a block, coded or stored
RAW, decoding its bytes gives the samples back in raster order. -/
def Obligations.BlockCodeRoundTrip : Prop :=
  ∀ (plane col band wb hb depth : Nat) (x : Nat → Nat → Nat), depth ∈ [10, 12, 14, 16] → 1 ≤ wb → wb ≤ 256 → 1 ≤ hb → hb ≤ 16 →
    (∀ i j, x i j < 2 ^ depth) → plane < 256 → col < 65536 → band < 65536 →
    decodeBlock (codeBlock plane col band wb hb depth x).1 = some ((List.range (wb * hb)).map (fun t => x (t % wb) (t / wb)))

/-- From R312 to R316, R322, R332, R393: recordings. START RECORDING opens a clip in a free slot with a new generation and answers its ID; it
is refused without a store or beyond the compressors' rate. STOP at a boundary waits for the units, and ends the recording where there is
none. A ready band's planes queue in order of position; a finished band-plane leaves its blocks with its unit and frees its compressor.
(The model's choices that it meets are those of log entries 52 and 71.) -/
def Obligations.Recordings : Prop :=
  (∀ (s : State) (seq : Nat) (c : Ctx) (slot : Nat),
    let d := s.dev
    let i := c.w10 % 8
    let id := slot + 65536 * ((d.clip slot).gen + 1)
    let sum := ((i :: tkeys d.vid.pool.recs).map d.recRate).foldl fracAdd (0, 1)
    let comps := ((List.range 4).filter (fun k => d.fget (fCmpStatState k) != 3)).length
    d.ready seq false 0xC0 = some c → d.noStart = false → i ≤ 4 → d.recOf i = none → d.ownedBusy 11 = false →
    (d.storeUsable = false → exec (.startRecording seq) s = .next (s.to (d.fail seq stNoStore))) ∧
    (d.storeUsable = true → 6000000000 * comps * sum.2 < sum.1 → exec (.startRecording seq) s = .next (s.to (d.fail seq stOverRate))) ∧
    (d.storeUsable = true → sum.1 ≤ 6000000000 * comps * sum.2 → d.freeExts < 2 →
      exec (.startRecording seq) s = .next (s.to (d.fail seq stStoreFull))) ∧
    (d.storeUsable = true → sum.1 ≤ 6000000000 * comps * sum.2 → 2 ≤ d.freeExts → d.freeSlot = some slot →
      ∃ t, exec (.startRecording seq) s = .next (s.to t)
        ∧ t.recOf i = some { clip := id, first := (d.ing i).count, next := (d.ing i).count }
        ∧ (t.clip slot).st = 1 ∧ (t.clip slot).gen = (d.clip slot).gen + 1 ∧ (t.clip slot).ctx = i ∧ (t.clip slot).first = (d.ing i).count
        ∧ (t.clip slot).dataLen = 0 ∧ (∀ k, k ≠ slot → t.clip k = d.clip k) ∧ t.mem = d.mem ∧ t.doneAs seq 0 0 (id % 4294967296))) ∧
  (∀ (s : State) (seq : Nat) (c : Ctx) (r : Recording), s.dev.ready seq false 0x98 = some c → c.w10 % 256 = kRecording →
    s.dev.recOf c.w11 = some r → r.closing = none → r.stops = [] → c.stopNow = false →
    (r.units ≠ [] → ∃ t, exec (.stopRecording seq) s = .next (s.to t) ∧ t.recOf c.w11 = some { r with stops := [seq] }
      ∧ tget t.qf.ctxs seq = some c) ∧
    (r.units = [] → ∃ t, exec (.stopRecording seq) s = .next (s.to t) ∧ t.recOf c.w11 = some { r with ending := true, closing := some seq }
      ∧ t.doneAs seq 0 0 (r.lastDone.getD allOnes32 % 4294967296))) ∧
  (∀ (s : State) (i : Fin 5) (band : Nat) (r : Recording) (u : FrameUnit),
    let d := s.dev
    let ps := (List.range (4 * u.nexp)).map (fun p => band * 4 * u.nexp + p)
    (d.recOf i = some r → (∀ u' ∈ r.units, d.bandReady i u' band = false) → exec (.bandReady i band) s = .next s) ∧
    (d.recOf i = some r → r.units.find? (fun u' => d.bandReady i u' band) = some u →
      let full := ps.filter (fun p => !(u.bandRows band (p % 4)).isEmpty)
      exec (.bandReady i band) s = .next (s.to (((d.unitMod i u.frame (fun u => { u with
        bands := u.bands ++ [band], ready := sortBy (fun a b => a ≤ b) (u.ready ++ full),
        done := (ps.filter (fun p => !full.contains p)).foldl (fun t p =>
          tput t p ((List.range u.ncol).map (fun c => (p * u.ncol + c, none)))) u.done })).poolDispatch 4).recSync i))) ∧
    (d.vid.pool.recs = [(i.val, r)] → r.units = [u] →
      d.bandReady i u band = true → r.ending = true → (d.ing i).cur.map (·.frame) = some u.frame → u.final = false → u.done = [] →
      (∀ p ∈ ps, u.bandRows band (p % 4) ≠ []) → d.freeComp = none →
      ∃ t r', exec (.bandReady i band) s = .next (s.to t) ∧ t.recOf i = some r' ∧ t.mem = d.mem
        ∧ r'.units = [{ u with bands := u.bands ++ [band], ready := sortBy (fun a b => a ≤ b) (u.ready ++ ps) }])) ∧
  (∀ (s : State) (k : Fin 4), tget s.dev.vid.pool.work k = none → ∀ bad, exec (.bandPlaneDone k bad) s = .next s) ∧
  (∀ (s : State) (k : Fin 4) (w : Coding) (r : Recording) (u : FrameUnit), tget s.dev.vid.pool.work k = some w → s.dev.recOf w.ctx = some r →
    r.units.find? (fun u => u.frame == w.frame) = some u →
    let d0 := s.dev.poolMod (fun p => { p with work := terase p.work k })
    let d := if d0.fget (fCmpStatState k) = 1 then d0.fset (fCmpStatState k) 0 else d0
    let o := d.codePlane u w []
    o.fault = none → exec (.bandPlaneDone k []) s = .next (s.to (((d.unitMod w.ctx w.frame (fun u => { u with
      done := tput u.done w.bp o.blocks, nraw := u.nraw + o.nraw, nverify := u.nverify + o.nverify, ncatch := u.ncatch + o.ncatch,
      srcFault := u.srcFault || o.poison })).poolDispatch 4).recSync w.ctx))) ∧
  (∀ (s : State) (k : Fin 4) (w : Coding) (r : Recording) (u : FrameUnit),
    let d := s.dev
    let o := d.codePlane u w []
    tget d.vid.pool.work k = some w → d.fget (fCmpStatState k) = 1 → d.vid.pool.recs = [(w.ctx, r)] → r.units = [u] → u.frame = w.frame →
    r.ending = true → (d.ing w.ctx).cur.map (·.frame) = some u.frame → u.final = false → u.ready = [] → w.bp ≠ u.next →
    tget u.done u.next = none → o.fault = none →
    ∃ t r', exec (.bandPlaneDone k []) s = .next (s.to t) ∧ tget t.vid.pool.work k = none ∧ t.fget (fCmpStatState k) = 0
      ∧ t.recOf w.ctx = some r' ∧ t.mem = d.mem ∧ t.sump = d.sump
      ∧ r'.units = [{ u with done := tput u.done w.bp o.blocks, nraw := u.nraw + o.nraw, nverify := u.nverify + o.nverify,
                             ncatch := u.ncatch + o.ncatch, srcFault := u.srcFault || o.poison }])

/-- From R334 to R350: the encoder cores. A session starts on an idle core with a valid block, takes change blocks for the next pulse, and
stops at a boundary or waits for the picture in progress. A coded row within its guard is written into the ring, and after
the guard's switch each CTU is minimal and each later slice has slice_qp 51; the last part of a picture ends it. An uncorrected error of a core starts its self-test. (The model's choices that it meets are those of log entries 52, 62,
72 and 73.) -/
def Obligations.EncoderCores : Prop :=
  (∀ (s : State) (seq : Nat) (c : Ctx),
    let d := s.dev
    let n := c.w10 % 2
    let b := c.data
    d.ready seq false 0xB9 = some c → d.noStart = false →
    (d.encSt n = 4 → exec (.startEncoder seq) s = .next (s.to (d.fail seq stCoreRetired))) ∧
    (d.encSt n = 0 → (d.enc n).session = false → d.unitBusy (.encoder n) 8 = false →
      (d.fget fQfStatPstate = 1 → exec (.startEncoder seq) s = .next (s.to (d.fail seq stPowerState))) ∧
      (d.fget fQfStatPstate ≠ 1 → d.sessionOk b = false → exec (.startEncoder seq) s = .next (s.to (d.fail seq stBadParam))) ∧
      (d.fget fQfStatPstate ≠ 1 → d.sessionOk b = true → ∃ t, exec (.startEncoder seq) s = .next (s.to t) ∧ (t.enc n).session = true
        ∧ (t.enc n).block = b ∧ (t.enc n).picno = 0 ∧ (t.enc n).forceIdr = true ∧ t.encSt n = 1 ∧ t.fget (fHevRingWrWr n) = 0
        ∧ t.fget (fHevRingRdRd n) = 0 ∧ t.mem = d.mem ∧ t.doneAs seq 0 0 0))) ∧
  (∀ (s : State) (seq : Nat) (c : Ctx),
    let d := s.dev
    let n := c.w10 % 2
    let x := d.enc n
    let b := c.data
    let after := (x.staged ++ [b]).foldl applyChange x.block
    d.ready seq false 0xBD = some c →
    (x.session = false → exec (.setEncoderParameters seq) s = .next (s.to (d.fail seq stBadHandle))) ∧
    (x.session = true → changeOk b = true → ebRatesOk after = true → d.levelOk after = true → changeStore b = none →
      ∃ t, exec (.setEncoderParameters seq) s = .next (s.to t) ∧ (t.enc n).staged = x.staged ++ [b] ∧ (t.enc n).block = x.block
        ∧ t.mem = d.mem ∧ t.doneAs seq 0 0 (x.picno % 4294967296))) ∧
  (∀ (s : State) (seq : Nat) (c : Ctx),
    let d := s.dev
    let n := c.w11
    d.ready seq false 0x98 = some c → c.w10 % 256 = kEncoder → n ≤ 1 → (d.enc n).session = true → (d.enc n).stops = [] → c.stopNow = false →
    ((d.enc n).cur.isSome = true → ∃ t, exec (.stopEncoder seq) s = .next (s.to t) ∧ t.encSt n = 2 ∧ (t.enc n).stops = [seq]
      ∧ tget t.qf.ctxs seq = some c) ∧
    ((d.enc n).cur = none → d.encSt n ≠ 3 → d.encSt n ≠ 4 → ∃ t, exec (.stopEncoder seq) s = .next (s.to t) ∧ t.encSt n = 0
      ∧ (t.enc n).session = false ∧ t.doneAs seq 0 0 ((d.enc n).lastDone.getD allOnes32 % 4294967296))) ∧
  (∀ (s : State) (n : Fin 2) (row : EncRow) (p : EncPic) (d1 : Dev) (spent : Nat) (mc : Bool),
    let d := s.dev
    let b := (d.enc n).block
    let k := if p.ty = 0 then 64 else 16
    let code := fun (after : Bool) (normal : Nat) (r : CodedRow) => r.sliceQp = (if after then 51 else row.qp)
      ∧ r.ctus = (List.range (ebNc b)).map (fun c => if c < normal then .normal (ctuQp b (d.enc n).rois p.row c row.qp)
        else if p.ty = 0 then .dcNoResidual else .skip 0)
    (d.enc n).cur = some p → p.row ≠ 0 → p.row < ebNr b → d.encSt n ≠ 3 →
    (∀ e ∈ d.srcRanges b p.src p.row, d.rangeFault true e.1 e.2.1 e.2.2 false = none ∧ d.vpoison e.1 e.2.1 e.2.2 = false) →
    row.ctus.length = ebNc b → row.head ≤ 1024 → 8 * row.lead.length ≤ 8192 → 8 * row.bytes.length = roundUp (row.head + row.ctus.sum) 8 →
    (p.mincost = false → ∀ sw, guardRow b p.cap k p.row row.ctus 0 (p.spent + row.head) false none true = (spent, mc, sw, true) →
      ebQpMin b ≤ row.qp → row.qp ≤ ebQpMax b → (ebRc b = 2 → row.qp = min (max (ebQp b) (ebQpMin b)) (ebQpMax b)) →
      (∀ q, p.lastQp = some q → q ≤ row.qp + 3 ∧ row.qp ≤ q + 3) →
      let d0 := match sw with
        | none => d
        | some c => (d.picRec n p.picno (fun q => { q with flags := q.flags ||| pfBudget, budget := some (p.row, c) })).finc (fHevEncStatBudget n)
      d0.ringWrite n b (chunkHead 1 ((if p.ty = 0 then 2 else 0) + (if mc then 4 else 0)) p.picno p.row row.bytes.length ++ row.bytes) = (d1, none) →
      ∃ t q r, exec (.encoderRowDone n row) s = .next (s.to t) ∧ t.mem = d1.mem ∧ t.regs = d1.regs ∧ (t.enc n).cur = some q ∧ q.row = p.row + 1
        ∧ q.spent = spent ∧ q.mincost = mc ∧ q.picno = p.picno ∧ q.bytes = p.bytes + row.bytes.length ∧ q.rows = p.rows ++ [r]
        ∧ code false (sw.getD (ebNc b)) r ∧ (sw = none → q.qpNum = p.qpNum + ebNc b
          ∧ q.qpSum = p.qpSum + ((List.range (ebNc b)).map (fun c => ctuQp b (d.enc n).rois p.row c row.qp)).sum)) ∧
    (p.mincost = true → guardRow b p.cap k p.row row.ctus 0 (p.spent + row.head) true none true = (spent, mc, none, true) →
      d.ringWrite n b (chunkHead 1 ((if p.ty = 0 then 2 else 0) + (if mc then 4 else 0)) p.picno p.row row.bytes.length ++ row.bytes) = (d1, none) →
      ∃ t q r, exec (.encoderRowDone n row) s = .next (s.to t) ∧ t.mem = d1.mem ∧ (t.enc n).cur = some q ∧ q.row = p.row + 1
        ∧ q.rows = p.rows ++ [r] ∧ code true 0 r ∧ q.qpNum = p.qpNum ∧ q.qpSum = p.qpSum)) ∧
  (∀ (s : State) (n : Fin 2) (row : EncRow), (s.dev.enc n).cur = none → exec (.encoderRowDone n row) s = .next s) ∧
  (∀ (s : State) (n : Fin 2) (hash : List Byte) (p : EncPic) (d1 : Dev),
    let d := s.dev
    let b := (d.enc n).block
    (d.enc n).cur = some p →
    (p.row < ebNr b → exec (.encoderPictureDone n hash []) s = .next s) ∧
    (ebNr b ≤ p.row → d.encSt n ≠ 3 → (d.enc n).stops = [] → ebHash b = false → ebMark b = false → p.spent ≤ p.cap →
      d.rangeFault true 0 (ebWorkVa b) (ebWork b) true = none → d.vpoison 0 (ebWorkVa b) (ebWork b) = false →
      d.ringWrite n b (chunkHead 2 (1 + (if p.ty = 0 then 2 else 0)) p.picno 65535 0) = (d1, none) →
      ∃ t, exec (.encoderPictureDone n hash []) s = .next (s.to t) ∧ (t.enc n).cur = none ∧ (t.enc n).lastDone = some p.picno
        ∧ (t.enc n).forceIdr = (d.enc n).forceIdr ∧ t.mem.bytes = d1.mem.bytes
        ∧ (t.enc n).lastIdr = (if p.ty = 0 then some p.picno else (d.enc n).lastIdr)
        ∧ (∀ l ∈ t.mem.leases, ¬(l.kind = kEncoder ∧ l.index = n.val ∧ l.frame = p.picno)))) ∧
  (∀ (s : State) (n : Fin 2) (check : Byte) (st : List Byte),
    let d := s.dev
    let u := TUnit.encoder n
    d.priming = false → d.underTest u = false → (∀ t ∈ d.test.waiting, t.unit ≠ u) → d.passedLately u = false → d.isRetired u.place = false →
    d.testMayStart u = true → d.encSt n < 3 →
    ∃ t, exec (.encoderCoreError n check st) s = .next (s.to t) ∧ t.underTest u = true ∧ t.encSt n = 3 ∧ (t.enc n).cur = none
      ∧ (t.enc n).forceIdr = true)

/-- From R351 to R358: the decoder core. It starts, discards what it must while it seeks, consumes what it decodes, stops on damage with its
status, and restarts. A picture that is complete waits in output order until it is output. (The model's choices that it meets are those of log entries 52, 62 and 74.) -/
def Obligations.DecoderCore : Prop :=
  (∀ (s : State) (seq : Nat) (c : Ctx),
    let d := s.dev
    let b := c.data
    let nout := field b 0x0E 1
    let outs := (List.range nout).map (fun k => field b (0x10 + 4 * k) 4)
    (d.ready seq false 0xC1 = some c → d.noStart = false → b.length = 64 → field b 0 8 % 64 = 0 → field b 8 4 % 4096 = 0 → field b 8 4 ≠ 0 →
      2 ≤ nout → nout ≤ 8 → allZero b 0x0F 1 = true → allZero b (0x10 + 4 * nout) (32 - 4 * nout) = true → allZero b 0x30 16 = true →
      field b 0x0C 2 ∈ d.mem.spaces → (∀ h ∈ outs, ∃ m, d.buf h = some m ∧ m.asid = field b 0x0C 2) → d.decSt = 0 →
      d.unitBusy .decoder 8 = false → d.fget fQfStatPstate ≠ 1 →
      ∃ t, exec (.startDecoder seq) s = .next (s.to t) ∧ t.decSt = 1 ∧ t.fget fHevDecRdRd = 0 ∧ t.fget fHevDecWrWr = 0 ∧ t.mem = d.mem
        ∧ t.vid.dec = { inVa := field b 0 8, inSize := field b 8 4, asid := field b 0x0C 2, bufs := outs, ring := outs }
        ∧ t.doneAs seq 0 0 0) ∧
    (d.ready seq false 0xC4 = some c → d.noStart = false →
      (d.decSt = 0 → exec (.restartDecoder seq) s = .next (s.to (d.fail seq stBadHandle))) ∧
      (1 ≤ d.decSt → d.decSt ≤ 3 → ∃ t, exec (.restartDecoder seq) s = .next (s.to t) ∧ t.decSt = 1 ∧ t.mem = d.mem ∧ t.doneAs seq 0 0 0)) ∧
    (d.ready seq false 0x98 = some c → c.w10 % 256 = kDecoder → c.w11 = 0 → 1 ≤ d.decSt → d.decSt ≤ 3 → d.vid.dec.stops = [] →
      (c.stopNow = true ∨ (d.vid.dec.held = [] ∧ d.decLeased = false)) →
      ∃ t, exec (.stopDecoder seq) s = .next (s.to t) ∧ t.decSt = 0 ∧ t.vid.dec.ring = [] ∧ t.vid.dec.held = [] ∧ t.mem.bytes = d.mem.bytes
        ∧ t.doneAs seq 0 0 ((if d.vid.dec.pictures = 0 then allOnes64 else d.vid.dec.pictures - 1) % 4294967296))) ∧
  (∀ (s : State) (n : Nat) (r : NalResult),
    let d := s.dev
    let x := d.vid.dec
    let rd := d.fget fHevDecRdRd
    let avail := (d.fget fHevDecWrWr + x.inSize - rd) % x.inSize
    let ty := nalType (d.decInput n)
    (avail < n → exec (.decoderNal n r) s = .next s) ∧
    (0 < n → n ≤ avail → rd + n ≤ x.inSize → d.invPending x.asid x.inVa x.inSize = false → d.rangeFault true x.asid (x.inVa + rd) n false = none →
      d.vpoison x.asid (x.inVa + rd) n = false →
      (d.decSt = 1 → ty < 16 → ∃ t, exec (.decoderNal n r) s = .next (s.to t) ∧ t.decSt = 1 ∧ t.mem = d.mem
        ∧ t.vid.dec = { x with consumed := x.consumed + n } ∧ t.fget fHevDecRdRd = (rd + n) % x.inSize % 2 ^ fHevDecRdRd.width) ∧
      (d.decSt = 2 → ty < 16 → x.skipRasl = false → x.stops = [] → ∀ ps, r = .done ps 0 → ∃ t, exec (.decoderNal n r) s = .next (s.to t) ∧ t.decSt = 2
        ∧ t.vid.dec = { x with consumed := x.consumed + n, pictures := x.pictures + ps.length, ended := false,
                               held := ps.foldl (fun l p => holdPic { cvs := x.cvs, pic := p } l) x.held }
        ∧ t.mem.bytes = d.mem.bytes
        ∧ (ps ≠ [] → t.mem = { d.mem with leases := d.mem.leases.filter (fun l => !(l.kind == kDecoder && l.index == 0)) })
        ∧ (ps = [] → ∃ l ∈ t.mem.leases, l.kind = kDecoder)) ∧
      (d.decSt = 2 → ty < 16 → x.skipRasl = false → x.stops = [] → x.held = [] → ∀ st poc, r = .damage st poc → ∃ t, exec (.decoderNal n r) s = .next (s.to t)
        ∧ t.decSt = 3 ∧ t.fget fHevDecStatStatus = st % 2 ^ fHevDecStatStatus.width
        ∧ t.mem = { d.mem with leases := d.mem.leases.filter (fun l => !(l.kind == kDecoder && l.index == 0)) }
        ∧ t.fget fHevDecStatDamage = min fHevDecStatDamage.max (d.fget fHevDecStatDamage + 1)))) ∧
  (∀ (s : State) (check : Byte) (st : List Byte),
    let d := s.dev
    d.priming = false → d.underTest .decoder = false → (∀ t ∈ d.test.waiting, t.unit ≠ .decoder) → d.passedLately .decoder = false →
    d.isRetired TUnit.decoder.place = false → d.testMayStart .decoder = true → d.decSt = 0 →
    ∃ t, exec (.decoderCoreError check st) s = .next (s.to t) ∧ t.underTest .decoder = true ∧ t.decSt = 4 ∧ t.mem = d.mem)

/-! ## Host queues, commands and records -/

/-- From R362, R364, R369, R375, R377, R397, R499, R511: the queue front. A doorbell in range sets its tail or head; one out of range changes
no queue, is counted and writes a sump entry, and completes an Asynchronous Event Request. A fetched entry takes the next SEQ, a context
and a journal record in state ACCEPTED; one that the table refuses completes at once. Enabling gives the admin queues. A controller reset
removes the queues, ends the ACCEPTED commands as ABORTED_RESET and lets the STARTED ones run on. A shutdown commits the checkpoint and
the retained record. (The model's choices that it meets are those of log entries 17, 19, 81 and 103.) -/
def Obligations.QueueFrontInput : Prop :=
  (∀ (s : State) (completion : Bool) (q : Word16) (v : Word32), s.dev.qf.en = false → exec (.doorbellWrite completion q v) s = .next s) ∧
  (∀ (s : State) (q : Word16) (v : Word32) (x : SubQueue), s.dev.qf.en = true → tget s.dev.qf.sqs q.toNat = some x →
    (v.toNat < x.size → exec (.doorbellWrite false q v) s = .next (s.to { s.dev with
      qf := { s.dev.qf with sqs := tput s.dev.qf.sqs q.toNat { x with tail := v.toNat } } })) ∧
    (x.size ≤ v.toNat → s.dev.qf.aers = [] → exec (.doorbellWrite false q v) s = .next (s.to (({ s.dev with
      qf := { s.dev.qf with badDoorbells := s.dev.qf.badDoorbells + 1 } }).sumpInput qfPlace 12 q.toNat v.toNat))) ∧
    (∀ a rest c, x.size ≤ v.toNat → s.dev.qf.aers = a :: rest → tget s.dev.qf.ctxs a = some c → (s.dev.jrec a).isSome = true →
      ∃ t, exec (.doorbellWrite false q v) s = .next (s.to t) ∧ t.doneAs a 0 0 65792 ∧ t.qf.aers = rest)) ∧
  (∀ (s : State) (q : Word16) (v : Word32) (x : CplQueue), s.dev.qf.en = true → tget s.dev.qf.cqs q.toNat = some x → v.toNat < x.size →
    exec (.doorbellWrite true q v) s = .next (s.to { s.dev with
      qf := { s.dev.qf with cqs := tput s.dev.qf.cqs q.toNat { x with head := v.toNat } } })) ∧
  (∀ (s : State) (q : Word16) (e : Sqe) (data : List Byte) (x : SubQueue),
    let d := s.dev
    (d.mayFetch q.toNat = false → exec (.commandFetch q e data) s = .next s) ∧
    (d.mayFetch q.toNat = true → tget d.qf.sqs q.toNat = some x →
      (atOnce q.toNat e d.hostNsNow = none → (q.toNat = 0 ∨ e.opc ≠ 0) → ∃ t r, exec (.commandFetch q e data) s = .next (s.to t)
        ∧ t.qf.head = d.qf.head + 1 ∧ tget t.qf.sqs q.toNat = some { x with head := (x.head + 1) % x.size }
        ∧ tget t.qf.ctxs d.qf.head = some { sqid := q.toNat, sqe := e, data := padTo (bytesIn q.toNat e) data,
                                            inv := if q.toNat = 0 ∧ e.opc = 0xCE then d.inventory d.qf.head e else [] }
        ∧ t.jrec d.qf.head = some r ∧ r.st = .accepted ∧ r.sqid = q.toNat ∧ r.cid = e.cid.toNat ∧ r.opc = e.opc.toNat
        ∧ r.tacc = d.recTime ∧ t.fget fQfStatCtx = t.qf.ctxs.length % 2 ^ fQfStatCtx.width
        ∧ t.qf.posted = d.qf.posted ∧ t.cores = d.cores ∧ t.mem = d.mem ∧ t.store = d.store ∧ t.vid = d.vid) ∧
      (∀ sct sc, atOnce q.toNat e d.hostNsNow = some (sct, sc) → ∃ t, exec (.commandFetch q e data) s = .next (s.to t)
        ∧ t.qf.head = d.qf.head + 1 ∧ t.doneAs d.qf.head sct sc 0 ∧ t.cores = d.cores ∧ t.mem = d.mem ∧ t.store = d.store ∧ t.vid = d.vid))) ∧
  (∀ (s : State) (asq acq : Nat),
    let d := s.dev
    ((d.qf.en = true ∨ d.flag fPrmStatQfReady = false ∨ asq < 2 ∨ 4096 < asq ∨ acq < 2 ∨ 4096 < acq) →
      exec (.controllerEnable asq acq) s = .next s) ∧
    (d.qf.en = false → d.flag fPrmStatQfReady = true → 2 ≤ asq → asq ≤ 4096 → 2 ≤ acq → acq ≤ 4096 →
      exec (.controllerEnable asq acq) s = .next (s.to { d with qf := { d.qf with
        en := true, rdy := true, aqa := asq - 1 + 65536 * (acq - 1), sqs := [(0, { size := asq })], cqs := [(0, { size := acq, ien := true })] } }))) ∧
  (∀ (s : State) (_ : s.dev.qf.sqDel = []), ∃ t, exec .controllerReset s = .next (s.to t) ∧ t.qf.en = false ∧ t.qf.rdy = false ∧ t.qf.sqs = []
    ∧ t.qf.cqs = [] ∧ t.qf.aers = [] ∧ t.qf.features = [] ∧ t.qf.halted = false ∧ t.qf.handle = s.dev.qf.handle ∧ t.qf.head = s.dev.qf.head
    ∧ t.cores = s.dev.cores ∧ t.vid = s.dev.vid ∧ t.mem = s.dev.mem ∧ t.sns = s.dev.sns ∧ t.store.clips = s.dev.store.clips
    ∧ ∀ q c r, tget s.dev.qf.ctxs q = some c → s.dev.jrec q = some r →
      (r.st = .accepted → tget t.qf.ctxs q = none ∧ t.jrec q = some { r with st := .abortedReset }) ∧
      (r.st = .started → c.sqe.opc.toNat ≠ 2 → tget t.qf.ctxs q = some { c with unposted := true } ∧ t.jrec q = some r)) ∧
  (∀ (s : State) (shn : BitVec 2),
    ((s.dev.qf.en = false ∨ shn = 0) → exec (.shutdownNotification shn) s = .next s) ∧
    (s.dev.qf.en = true → shn ≠ 0 → ∃ t, exec (.shutdownNotification shn) s = .next (s.to t) ∧ t.qf.shn = shn.toNat ∧ t.checkpoints
      ∧ t.commitsRecord ∧ t.cores = s.dev.cores ∧ t.mem = s.dev.mem ∧ t.store = s.dev.store
      ∧ (s.dev.gateOpen = true → t.qf.shst = 1)
      ∧ (s.dev.gateOpen = false → s.dev.store.wbHost = [] → s.dev.store.wbSlots = [] → t.qf.shst = 2)))

/-- From R360, R364, R374, R376, R381, R397: the standard admin commands. Queues are created with the properties asked for and deleted once
nothing holds them; log pages, identify data and features are returned; an abort ends a command that has not started; a request for events
is held until an event is unread. Every one ends with exactly one completion, and a command that has lost its queue with none. (The
model's choices that it meets are those of log entries 18, 19, 20 and 81.) -/
def Obligations.AdminCommands : Prop :=
  ∀ (s : State) (seq : Nat) (c : Ctx),
    let d := s.dev
    let id := c.w10 % 65536
    let size := c.w10 / 65536 + 1
    let fid := c.w10 % 256
    (d.ready seq true 0x05 = some c → id ≠ 0 → id ≤ 8191 →
      ((tget d.qf.cqs id).isSome = true → exec (.createIoCq seq) s = .next (s.to (d.failSpecific seq 1))) ∧
      (tget d.qf.cqs id = none → (size < 2 ∨ 16384 < size) → exec (.createIoCq seq) s = .next (s.to (d.failSpecific seq 2))) ∧
      (tget d.qf.cqs id = none → 2 ≤ size → size ≤ 16384 → bit c.w11 0 = true → c.w11 / 65536 < 8192 →
        ∃ t k, exec (.createIoCq seq) s = .next (s.to t) ∧ tget t.qf.cqs id = some k ∧ k.size = size ∧ k.vector = c.w11 / 65536
          ∧ k.ien = bit c.w11 1 ∧ t.doneAs seq 0 0 0 ∧ t.cores = d.cores ∧ t.mem = d.mem)) ∧
    (d.ready seq true 0x01 = some c → id ≠ 0 → id ≤ 8191 → tget d.qf.sqs id = none → 2 ≤ size → size ≤ 16384 → bit c.w11 0 = true →
      1 ≤ c.w11 / 65536 → c.w11 / 65536 ≤ 8191 →
      (tget d.qf.cqs (c.w11 / 65536) = none → exec (.createIoSq seq) s = .next (s.to (d.failSpecific seq 0))) ∧
      ((tget d.qf.cqs (c.w11 / 65536)).isSome = true → ∃ t, exec (.createIoSq seq) s = .next (s.to t)
        ∧ tget t.qf.sqs id = some { size := size, cqid := c.w11 / 65536, prio := bits c.w11 2 1 }
        ∧ t.doneAs seq 0 0 0 ∧ t.cores = d.cores ∧ t.mem = d.mem)) ∧
    (d.ready seq true 0x04 = some c → id ≠ 0 → (tget d.qf.cqs id).isSome = true →
      ((∃ e ∈ d.qf.sqs, e.1 ≠ 0 ∧ e.2.cqid = id) → exec (.deleteIoCq seq) s = .next (s.to (d.failSpecific seq 12))) ∧
      ((∀ e ∈ d.qf.sqs, e.1 ≠ 0 → e.2.cqid ≠ id) → ∃ t, exec (.deleteIoCq seq) s = .next (s.to t) ∧ tget t.qf.cqs id = none
        ∧ t.doneAs seq 0 0 0 ∧ t.cores = d.cores ∧ t.mem = d.mem)) ∧
    (d.ready seq true 0x00 = some c → id ≠ 0 → (tget d.qf.sqs id).isSome = true → tget d.qf.sqDel id = none →
      ((∀ e ∈ d.qf.ctxs, e.2.sqid ≠ id) → ∃ t, exec (.deleteIoSq seq) s = .next (s.to t) ∧ tget t.qf.sqs id = none ∧ t.doneAs seq 0 0 0
        ∧ t.cores = d.cores ∧ t.mem = d.mem) ∧
      (∀ e ∈ d.qf.ctxs, e.2.sqid = id → (∀ x ∈ d.qf.ctxs, x.2.sqid = id → (d.jrec x.1).map (·.st) = some .started) →
        exec (.deleteIoSq seq) s = .next (s.to { d.startCmd seq with qf := { (d.startCmd seq).qf with
          sqDel := tput d.qf.sqDel id seq } })) ∧
      (∃ t, exec (.deleteIoSq seq) s = .next (s.to t) ∧ ∀ q x r, tget d.qf.ctxs q = some x → x.sqid = id → d.jrec q = some r →
        r.st = .accepted → tget t.qf.ctxs q = none ∧ ∃ r', t.jrec q = some r' ∧ r'.st = .abortedSqDel ∧ r'.status = 8)) ∧
    (d.ready seq true 0x02 = some c →
      (fid ∉ [1, 2, 3, 0xC0] → exec (.getLogPage seq) s = .next (s.to (d.failSpecific seq 9))) ∧
      (let n := 4 * (c.w10 / 65536 + c.w11 % 65536 * 65536 + 1)
       let off := c.sqe.cdw12.toNat + c.sqe.cdw13.toNat * 4294967296
       fid = 0xC0 → off % 4 = 0 → off ≤ 64 * evRing → n ≤ 16777216 →
        ∃ t, exec (.getLogPage seq) s = .next (s.to t) ∧ t.doneAs seq 0 0 0 ∧ t.mem = d.mem ∧ t.ev.log = d.ev.log
          ∧ (bit c.w10 15 = true → t.ev = d.ev) ∧ (bit c.w10 15 = false → t.ev.announced = false ∧ t.ev.unread = false)
          ∧ (d.posts c → t.returns seq ((List.range n).map (fun i => if off + i < 64 * evRing then d.eventByte (off + i) else 0))))) ∧
    (d.ready seq true 0x06 = some c →
      (3 < fid → exec (.identify seq) s = .next (s.to (d.failStd seq 2))) ∧
      (fid = 1 → ∃ t out, exec (.identify seq) s = .next (s.to t) ∧ t.endsAs d seq 0 0 0 ∧ out.length = 4096 ∧ (d.posts c → t.returns seq out)
        ∧ ∀ f ∈ ctrlFields, (out.drop f.1).take f.2.length = f.2) ∧
      (fid = 2 → ∃ t, exec (.identify seq) s = .next (s.to t) ∧ t.endsAs d seq 0 0 0 ∧ (d.posts c → t.returns seq
        (padTo 4096 ((([1, 2, 3] : List Nat).filter (fun k => d.nsActive k && c.sqe.nsid.toNat < k)).flatMap (le 4)))))) ∧
    (d.ready seq true 0x08 = some c →
      (d.qf.ctxs = [(seq, c)] → ∃ t, exec (.abort seq) s = .next (s.to t) ∧ t.endsAs d seq 0 0 1) ∧
      (∀ q x r, d.qf.ctxs = [(seq, c), (q, x)] → q ≠ seq → x.sqid = c.w10 % 65536 → x.sqe.cid.toNat = c.w10 / 65536 →
        d.jrec q = some r → r.st = .accepted → ∃ t r', exec (.abort seq) s = .next (s.to t) ∧ tget t.qf.ctxs q = none
          ∧ t.jrec q = some r' ∧ r'.st = .aborted ∧ r'.status = 7 ∧ t.doneAs seq 0 0 0 ∧ t.mem = d.mem)) ∧
    (d.ready seq true 0x09 = some c →
      (fid = 2 → exec (.setFeatures seq) s = .next s) ∧
      (fid ≠ 2 → bit c.w10 31 = true → exec (.setFeatures seq) s = .next (s.to (d.failSpecific seq 13))) ∧
      (fid ∈ [1, 8, 11] → bit c.w10 31 = false → ∃ t, exec (.setFeatures seq) s = .next (s.to t)
        ∧ t.qf.features = tput d.qf.features fid c.w11 ∧ t.doneAs seq 0 0 0 ∧ t.cores = d.cores ∧ t.mem = d.mem)) ∧
    (d.ready seq true 0x0A = some c → fid ∈ [1, 8, 11] → bits c.w10 10 8 = 0 → d.qf.sqDel = [] →
      let v := tgetD d.qf.features fid 0 % 4294967296
      ∃ t r, exec (.getFeatures seq) s = .next (s.to t) ∧ t.endsAs d seq 0 0 v ∧ t.jrec seq = some r
        ∧ (d.posts c → r.st = .done ∧ t.qf.posted = d.qf.posted ++ [{
            seq := seq, sqid := c.sqid, cid := c.sqe.cid.toNat, sct := 0, sc := 0, dw0 := v, notes := 0, list := [], out := [] }])
        ∧ (¬ d.posts c → r.st = .doneUnposted ∧ t.qf.posted = d.qf.posted)) ∧
    (d.ready seq true 0x0C = some c →
      (seq ∈ d.qf.aers → exec (.asynchronousEventRequest seq) s = .next s) ∧
      (seq ∉ d.qf.aers → 8 ≤ d.qf.aers.length → exec (.asynchronousEventRequest seq) s = .next (s.to (d.failSpecific seq 5))) ∧
      (seq ∉ d.qf.aers → d.qf.aers.length < 8 → (d.ev.announced = true ∨ d.ev.unread = false) →
        exec (.asynchronousEventRequest seq) s = .next (s.to { d with qf := { d.qf with aers := d.qf.aers ++ [seq] } })) ∧
      (d.qf.aers = [] → d.ev.announced = false → d.ev.unread = true → ∃ t, exec (.asynchronousEventRequest seq) s = .next (s.to t)
        ∧ t.doneAs seq 0 0 12582919 ∧ t.ev = { d.ev with announced := true, unread := false } ∧ t.qf.aers = []))

/-- From R378, R379, R380, R522: power states and firmware. Set Features changes the power state, is BUSY where units run, and enters PS2 in
steps that end with the DRAM in self-refresh and the pixel dies gated. An image is put into the inactive slot, verified, committed, or
activated in the steps of Table SQ-13: loading, pause, switch and self-check, whose pass makes it the active one and whose failure keeps
the old one. (The model's choices that it meets are those of log entries 19 and 81.) -/
def Obligations.PowerAndFirmware : Prop :=
  (∀ (s : State) (seq : Nat) (c : Ctx),
    let d := s.dev
    let ps := c.w11 % 32
    let b := !d.nv.activeB
    (d.ready seq true 0x09 = some c →
      (c.w10 % 256 ≠ 2 → exec (.setPowerState seq) s = .next s) ∧
      (c.w10 % 256 = 2 → bit c.w10 31 = false → d.qf.ps2 = .none →
        (ps = 2 → d.anyRuns = true → exec (.setPowerState seq) s = .next (s.to (d.fail seq stBusy))) ∧
        (ps = d.fget fQfStatPstate → ps = 0 → ∃ t, exec (.setPowerState seq) s = .next (s.to t) ∧ t.endsAs d seq 0 0 0) ∧
        (ps = 1 → d.fget fQfStatPstate = 0 → d.runningFlows.length ≤ 128 → d.hevcRuns = false →
          ∃ t, exec (.setPowerState seq) s = .next (s.to t) ∧ t.endsAs (d.fset fQfStatPstate 1) seq 0 0 0) ∧
        (ps = 2 → d.fget fQfStatPstate ≠ 2 → d.anyRuns = false → ∃ t, exec (.setPowerState seq) s = .next (s.to t) ∧ t.qf.ps2 = .draining
          ∧ t.qf.ps2Seq = seq ∧ tget t.qf.ctxs seq = some c ∧ t.checkpoints ∧ t.commitsRecord ∧ t.mem = d.mem))) ∧
    (d.ready seq true 0x11 = some c → 4 * c.w11 + c.data.length ≤ 4194304 → 4 * (c.w10 + 1) ≤ 16777216 → d.qf.fw = none →
      (d.gateOpen = false → exec (.firmwareImageDownload seq) s = .next (s.to (d.gateRefuse.fail seq stBusy))) ∧
      (d.gateOpen = true → ∃ t, exec (.firmwareImageDownload seq) s = .next (s.to t)
        ∧ t.endsAs (d.setSlot b (slotWrite (d.fwSlot b) (4 * c.w11) c.data)) seq 0 0 0)) ∧
    (d.ready seq true 0x10 = some c → d.fsOk c.w10 = true →
      (bits c.w10 5 3 = 1 ∨ bits c.w10 5 3 = 2 →
        (d.checkImage (d.fwSlot b) ≠ .ok → exec (.firmwareCommit seq) s = .next (s.to (d.failSpecific seq 7))) ∧
        (d.checkImage (d.fwSlot b) = .ok → d.qf.fw = none → d.gateOpen = true → ∃ t, exec (.firmwareCommit seq) s = .next (s.to t)
          ∧ t.endsAs { d with nv := { d.nv with commitB := b } } seq 0 0 0)) ∧
      (bits c.w10 5 3 = 3 →
        (d.checkImage (d.fwSlot b) ≠ .ok → exec (.firmwareActivate seq) s = .next (s.to (d.failSpecific seq 7))) ∧
        (d.checkImage (d.fwSlot b) = .ok → d.qf.fw = none → ∃ t, exec (.firmwareActivate seq) s = .next (s.to t)
          ∧ t.qf.fw = some (.loading, seq) ∧ tget t.qf.ctxs seq = some c ∧ t.flag fQfStatActivating = true ∧ t.nv = d.nv ∧ t.mem = d.mem)))) ∧
  (∀ (s : State),
    let d := s.dev
    (d.qf.ps2 ≠ .draining → exec .ps2BufferEmpty s = .next s) ∧
    (d.qf.ps2 = .draining → d.store.wbHost = [] → d.store.wbSlots = [] → (∀ k ∈ d.nv.commits, k.body.isRecord = true) →
      ∃ t, exec .ps2BufferEmpty s = .next (s.to t) ∧ t.qf = { d.qf with ps2 := .waiting } ∧ t.flag fQfStatPaused = true ∧ t.mem = d.mem) ∧
    (∀ timeout, (d.qf.ps2 ≠ .waiting ∨ (d.executing = true ∧ timeout = false)) → exec (.ps2DrainDone timeout) s = .next s) ∧
    (∀ timeout c, d.qf.ps2 = .waiting → (d.executing = false ∨ timeout = true) → d.qf.fw = none → tget d.qf.ctxs d.qf.ps2Seq = some c →
      (d.jrec d.qf.ps2Seq).isSome = true → ∃ t, exec (.ps2DrainDone timeout) s = .next (s.to t) ∧ t.fget fQfStatPstate = 2
        ∧ t.qf.ps2 = .none ∧ t.doneAs d.qf.ps2Seq 0 0 0 ∧ t.flag fQfStatPaused = false ∧ t.mem = d.mem
        ∧ (∀ ch, ch < 24 → d.fget (fMemChanStatState ch) = 0 → t.fget (fMemChanStatState ch) = 1)
        ∧ (∀ n, n < 22 → d.fget (fSysIslStatState n) < 2 → t.fget (fSysIslStatState n) = 2))) ∧
  (∀ (s : State), s.dev.qf.fw = none →
    exec .fwActivationPause s = .next s ∧ exec .fwActivationSwitch s = .next s ∧ exec .fwSelfCheckPass s = .next s
      ∧ exec .fwSelfCheckFail s = .next s) ∧
  (∀ (s : State) (seq : Nat) (c : Ctx),
    let d := s.dev
    (d.qf.fw = some (.loading, seq) → ∃ t, exec .fwActivationPause s = .next (s.to t) ∧ t.qf.fw = some (.paused, seq)
      ∧ t.flag fQfStatPaused = true ∧ t.checkpoints ∧ t.cores = d.cores ∧ t.mem = d.mem) ∧
    (d.qf.fw = some (.paused, seq) → ∃ t, exec .fwActivationSwitch s = .next (s.to t) ∧ t.qf.fw = some (.checking, seq) ∧ t.nv = d.nv
      ∧ t.mem = d.mem ∧ ∀ k, k < 80 → t.core k = d.core k) ∧
    (d.qf.fw = some (.checking, seq) → d.qf.aers = [] → d.qf.ps2 = .none → tget d.qf.ctxs seq = some c → (d.jrec seq).isSome = true →
      seq < d.qf.head → d.qf.head < seq + jnlSize →
      (∃ t, exec .fwSelfCheckPass s = .next (s.to t) ∧ t.qf.fw = none ∧ t.nv.activeB = !d.nv.activeB ∧ t.nv.commitB = t.nv.activeB
        ∧ t.flag fSecStatSlotb = t.nv.activeB ∧ t.flag fQfStatActivating = false ∧ t.flag fQfStatPaused = false
        ∧ t.prime.activations = d.prime.activations + 1 ∧ t.doneAs seq 0 0 0) ∧
      (∃ t, exec .fwSelfCheckFail s = .next (s.to t) ∧ t.qf.fw = none ∧ t.nv.activeB = d.nv.activeB ∧ t.flag fQfStatActivating = false
        ∧ t.flag fQfStatPaused = false ∧ t.qf.head = d.qf.head + 1 ∧ t.doneAs seq 7 stActivationFailed 0)))

/-- From R371, R372, R373: namespace 3. A Write goes into the write buffer and completes, waits for room, or fails; a Read returns the newest
data of each block, or fails where a block cannot be read; Write Zeroes and a deallocation make blocks zero; data of the buffer reach the
media in order; a Flush completes once what it covers is there. (The model's choices that it meets are those of log entry 82.) -/
def Obligations.HostBlocks : Prop :=
  (∀ (s : State) (seq : Nat) (c : Ctx),
    let d := s.dev
    let last := c.slba + c.nlb + 1
    (d.ready seq false 0x01 = some c → nvmFields c.sqe 0xBC000000 = true → c.nlb < 4096 →
      (d.nsBlocks 3 < last → exec (.write seq) s = .next (s.to (d.failStd seq 0x80))) ∧
      (last ≤ d.nsBlocks 3 → d.hostStore = false → exec (.write seq) s = .next (s.to (d.fail seq stNoStore))) ∧
      (last ≤ d.nsBlocks 3 → d.hostStore = true → d.mustWait seq c.changes = false → d.store.waiting = [] →
        (d.shareRoom (c.nlb + 1) = false → exec (.write seq) s = .next (s.to { d with store := { d.store with waiting := [seq] } })) ∧
        (d.shareRoom (c.nlb + 1) = true → ∃ t, exec (.write seq) s = .next (s.to t) ∧ t.store.media = d.store.media
          ∧ t.store.wbHost = d.store.wbHost ++ (List.range (c.nlb + 1)).map (fun i =>
              { seq := seq, lba := c.slba + i, data := (c.data.drop (4096 * i)).take 4096 })
          ∧ t.mem = d.mem ∧ t.cores = d.cores
          ∧ (bit c.sqe.cdw12.toNat 30 = false → t.doneAs seq 0 0 0) ∧ (bit c.sqe.cdw12.toNat 30 = true → tget t.qf.ctxs seq = some c)))) ∧
    (d.ready seq false 0x02 = some c → nvmFields c.sqe 0xBC000000 = true → c.nlb < 4096 →
      let n := c.sqe.nsid.toNat
      let bs := (List.range (c.nlb + 1)).map (fun i => if n = 3 then d.hostBlock (c.slba + i) else d.clipBlock (c.slba + i))
      (d.nsBlocks n < last → exec (.read seq) s = .next (s.to (d.failStd seq 0x80))) ∧
      (last ≤ d.nsBlocks n → (n ≠ 3 ∨ d.earlierAccepted seq [(c.slba, c.nlb + 1)] = false) →
        (none ∈ bs → ∃ t, exec (.read seq) s = .next (s.to t) ∧ t.endsAs d seq 2 0x81 0) ∧
        (none ∉ bs → ∃ t, exec (.read seq) s = .next (s.to t) ∧ t.endsAs d seq 0 0 0
          ∧ (d.posts c → t.returns seq (bs.flatMap (fun b => b.getD [])))))) ∧
    (d.ready seq false 0x08 = some c → nvmFields c.sqe 0xBC000000 = true → c.sqe.nsid.toNat = 3 → last ≤ d.nsBlocks 3 → d.hostStore = true →
      d.mustWait seq c.changes = false → ∃ t, exec (.writeZeroes seq) s = .next (s.to t) ∧ t.doneAs seq 0 0 0 ∧ t.mem = d.mem
        ∧ (∀ b ∈ t.store.wbHost, b.lba < c.slba ∨ last ≤ b.lba)
        ∧ ∀ a, mget t.store.media a = if c.slba * 4096 ≤ a ∧ a < last * 4096 then 0 else mget d.store.media a) ∧
    (d.ready seq false 0x09 = some c → c.sqe.nsid.toNat = 3 → c.w10 % 256 = 0 → d.hostStore = true → d.mustWait seq c.changes = false →
      let lo := field c.data 8 8
      let n := field c.data 4 4
      (bit c.w11 2 = true → lo + n ≤ d.nsBlocks 3 → ∃ t, exec (.datasetManagement seq) s = .next (s.to t) ∧ t.doneAs seq 0 0 0 ∧ t.mem = d.mem
        ∧ ∀ a, mget t.store.media a = if lo * 4096 ≤ a ∧ a < (lo + n) * 4096 then 0 else mget d.store.media a) ∧
      (bit c.w11 2 = false → ∃ t, exec (.datasetManagement seq) s = .next (s.to t) ∧ t.doneAs seq 0 0 0 ∧ t.mem = d.mem
        ∧ t.store.media = d.store.media ∧ t.store.wbHost = d.store.wbHost))) ∧
  (∀ (s : State), s.dev.store.waiting = [] → exec .writeBufferRoom s = .next s) ∧
  (∀ (s : State) (seq : Nat) (c : Ctx),
    let d := s.dev
    d.store.waiting = [seq] → tget d.qf.ctxs seq = some c → (d.jrec seq).isSome = true → d.mustWait seq c.changes = false → d.hostStore = true →
    (d.shareRoom (c.nlb + 1) = false → exec .writeBufferRoom s = .next s) ∧
    (d.shareRoom (c.nlb + 1) = true → bit c.sqe.cdw12.toNat 30 = false → ∃ t, exec .writeBufferRoom s = .next (s.to t)
      ∧ t.store.waiting = [] ∧ t.store.media = d.store.media ∧ t.doneAs seq 0 0 0
      ∧ t.store.wbHost = d.store.wbHost ++ (List.range (c.nlb + 1)).map (fun i =>
          { seq := seq, lba := c.slba + i, data := (c.data.drop (4096 * i)).take 4096 }))) ∧
  (∀ (s : State) (seq : Nat),
    let d := s.dev
    (d.store.flushes.find? (fun w => w.seq == seq) = none → exec (.flush seq) s = .next s) ∧
    (∀ w c, d.store.flushes.find? (fun w => w.seq == seq) = some w →
      (d.flushed w = false → exec (.flush seq) s = .next s) ∧
      (d.flushed w = true → tget d.qf.ctxs seq = some c → (d.jrec seq).isSome = true → ∃ t, exec (.flush seq) s = .next (s.to t)
        ∧ t.doneAs seq 0 0 0 ∧ t.store = { d.store with flushes := d.store.flushes.filter (fun x => x.seq != seq) } ∧ t.mem = d.mem))) ∧
  (∀ (s : State) (part : StoreDone), s.dev.wbLost = true → exec (.storeWriteDone part) s = .next s) ∧
  (∀ (s : State) (n : Nat), s.dev.wbLost = false → (∀ b ∈ s.dev.store.wbHost, s.dev.ssdFailed (16384 + b.lba) = false) →
    ∃ t, exec (.storeWriteDone (.host n)) s = .next (s.to t) ∧ t.mem = s.dev.mem ∧ t.store.clips = s.dev.store.clips
      ∧ t.store.wbHost = s.dev.store.wbHost.filter (fun b => !(s.dev.store.wbHost.take n).contains b)
      ∧ t.store.media = (s.dev.store.wbHost.take n).foldl (fun m b => mwrite m (b.lba * 4096) b.data) s.dev.store.media) ∧
  (∀ (s : State) (slot bytes : Nat), s.dev.wbLost = false → (∀ k < 4, s.dev.fget (fStoSsdStatState k) ≠ 3) →
    ∃ t, exec (.storeWriteDone (.clip slot bytes)) s = .next (s.to t) ∧ t.mem = s.dev.mem ∧ t.store.media = s.dev.store.media
      ∧ t.clip slot = { s.dev.clip slot with
          dataOnMedia := min (s.dev.clip slot).dataLen ((s.dev.clip slot).dataOnMedia + bytes) }
      ∧ ∀ k, k ≠ slot → t.clip k = s.dev.clip k)

/-- From R389, R391, R393, R394, R396, R530, R532: the clip store. Its sizes are configured and its media formatted. A stream that needs an
extent takes the lowest free one; none free ends the recording. A recording that has ended is closed with its manifest. Clips are listed,
protected and deleted, and a pending manifest is signed after the read-back. (The model's choices that it meets are those of log entries
71 and 83.) -/
def Obligations.ClipStore : Prop :=
  (∀ (s : State) (seq : Nat) (c : Ctx),
    let d := s.dev
    let b := c.data
    let wb := field b 0 4
    let ring := field b 4 4
    (d.ready seq true 0xC5 = some c → b.length = 64 → allZero b 0x0D 51 = true → d.vid.pool.recs = [] → c.w10 = 0 →
      (d.cxlBytes / gib = 0 → exec (.configureStore seq) s = .next (s.to (d.fail seq stNoStore))) ∧
      (d.cxlBytes / gib ≠ 0 → d.wbLost = false → d.ringLost = false → (wb < 4 ∨ 64 < wb) → exec (.configureStore seq) s = .next (s.to (d.fail seq stBadSize))) ∧
      (d.wbLost = false → d.ringLost = false → 4 ≤ wb → wb ≤ 64 → wb + ring + 2 ≤ d.cxlBytes / gib → d.poolInUse wb ring = false → d.store.wbHost = [] →
        d.store.wbSlots = [] → ∃ t, exec (.configureStore seq) s = .next (s.to t) ∧ t.store.wb = wb ∧ t.store.ring = ring
          ∧ t.store.clips = d.store.clips ∧ t.store.media = d.store.media ∧ t.mem = d.mem ∧ t.doneAs seq 0 0 0
          ∧ (d.gateOpen = true → t.prime.rr.sizes = some (wb, ring)) ∧ (d.gateOpen = false → t.prime.rr = d.prime.rr))) ∧
    (d.ready seq true 0xC5 = some c → b.length = 64 → allZero b 0x0D 51 = true → d.vid.pool.recs = [] → c.w10 = 1 →
      1 ≤ field b 0x0C 1 → field b 0x0C 1 ≤ 4 → field b 0x0C 1 ≤ d.ssdCount → d.fget fStoStatState = 1 → d.wbLost = false → d.ringLost = false → 4 ≤ wb → wb ≤ 64 →
      wb + ring + 2 ≤ d.cxlBytes / gib → 16384 + field b 8 4 * 262144 ≤ field b 0x0C 1 * d.store.blocksOf (field b 0x0C 1) → d.poolInUse wb ring = false →
      d.store.wbHost = [] → d.store.wbSlots = [] → ∃ t, exec (.configureStore seq) s = .next (s.to t) ∧ t.store.clips = [] ∧ t.store.media = []
        ∧ t.store.superOk = true ∧ t.store.hostNs = field b 8 4 ∧ t.store.nssdFormatted = field b 0x0C 1 ∧ t.store.wb = wb
        ∧ t.store.ring = ring ∧ t.store.gen = d.store.gen + 1 ∧ t.mem = d.mem ∧ t.doneAs seq 0 0 0) ∧
    (d.ready seq false 0x8A = some c → c.w10 < 65536 →
      (d.hasClips = false → exec (.listClips seq) s = .next (s.to (d.fail seq stNoStore))) ∧
      (d.hasClips = true →
        let n := min (c.sqe.cdw12.toNat / 64) (65536 - c.w10)
        ∃ t, exec (.listClips seq) s = .next (s.to t) ∧ t.endsAs d seq 0 0 n
          ∧ (d.posts c → t.returns seq ((List.range n).flatMap (fun i => d.clipHead (c.w10 + i)))))) ∧
    (d.ready seq false 0xCC = some c → d.hasClips = true →
      (c.w11 % 4 = 0 → d.clipSlot c.w10 = none → exec (.clipDelete seq) s = .next (s.to (d.fail seq stBadHandle))) ∧
      (∀ k, c.w11 % 4 = 0 → d.clipSlot c.w10 = some k →
        ((d.clip k).st = 1 ∨ (d.clip k).flags &&& cfProtected ≠ 0 → exec (.clipDelete seq) s = .next (s.to (d.fail seq stBusy))) ∧
        ((d.clip k).st ≠ 1 → (d.clip k).flags &&& cfProtected = 0 → seq ∉ d.qf.aers → ∃ t, exec (.clipDelete seq) s = .next (s.to t)
          ∧ t.clip k = { gen := (d.clip k).gen, spent := (d.clip k).gen == 65535 } ∧ (∀ e ∈ t.store.extents, e.2 ≠ k)
          ∧ (∀ j, j ≠ k → t.clip j = d.clip j) ∧ t.mem = d.mem ∧ t.doneAs seq 0 0 0)) ∧
      (∀ k, c.w11 % 4 = 1 → d.clipSlot c.w10 = some k → ∃ t, exec (.clipProtect seq) s = .next (s.to t)
        ∧ t.endsAs (d.clipMod k (fun x => { x with flags := x.flags ||| cfProtected })) seq 0 0 0) ∧
      (∀ k, c.w11 % 4 = 2 → d.clipSlot c.w10 = some k → ∃ t, exec (.clipUnprotect seq) s = .next (s.to t)
        ∧ bit (t.clip k).flags 0 = false ∧ (∀ i, 0 < i → bit (t.clip k).flags i = bit (d.clip k).flags i)
        ∧ (∀ j, j ≠ k → t.clip j = d.clip j) ∧ t.mem = d.mem ∧ t.doneAs seq 0 0 0))) ∧
  (∀ (s : State) (slot : Word16),
    let d := s.dev
    ((d.clip slot.toNat).st ≠ 1 → exec (.indexPageFlush slot) s = .next s) ∧
    ((d.clip slot.toNat).st = 1 → exec (.indexPageFlush slot) s = .next (s.to (d.clipMod slot.toNat (fun c => { c with
      indexOnMedia := c.indexLen })))) ∧
    ((d.clip slot.toNat).mstate ≠ 1 → ∀ bad, exec (.manifestReadbackDone slot bad) s = .next s) ∧
    ((d.clip slot.toNat).mstate = 1 → (d.clip slot.toNat).st = 2 ∨ (d.clip slot.toNat).st = 3 → ∀ bad,
      ∃ t, exec (.manifestReadbackDone slot bad) s = .next (s.to t) ∧ (t.clip slot.toNat).mstate = (if d.fget fSecStatLc = 3 then 3 else 2)
        ∧ (t.clip slot.toNat).st = (d.clip slot.toNat).st ∧ (t.clip slot.toNat).stream = (d.clip slot.toNat).stream
        ∧ (∀ k, k ≠ slot.toNat → t.clip k = d.clip k) ∧ t.mem = d.mem ∧ t.sump = d.sump)) ∧
  (∀ (s : State) (i : Fin 5),
    let d := s.dev
    (d.recOf i = none → exec (.extentNeeded i) s = .next s ∧ exec (.clipClose i) s = .next s) ∧
    (d.wantsExtent i = none → exec (.extentNeeded i) s = .next s) ∧
    (∀ r x, d.recOf i = some r → d.wantsExtent i = some x →
      (∀ e, tfree d.store.extents 0 d.store.nextents = some e → ∃ t, exec (.extentNeeded i) s = .next (s.to t)
        ∧ tget t.store.extents e = some (r.clip % 65536) ∧ (∀ e', e' ≠ e → tget t.store.extents e' = tget d.store.extents e')
        ∧ t.mem.bytes = d.mem.bytes) ∧
      (tfree d.store.extents 0 d.store.nextents = none → r.closing = none → ∃ t r', exec (.extentNeeded i) s = .next (s.to t)
        ∧ t.recOf i = some r' ∧ r'.ending = true ∧ r'.units = [] ∧ r'.closing.isSome = true ∧ t.store.extents = d.store.extents)) ∧
    (∀ r, d.recOf i = some r →
      (r.closing = none → exec (.clipClose i) s = .next s) ∧
      (∀ sq, r.closing = some sq → r.flags &&& cfCxlLost = 0 → d.fget fSecStatLc ≠ 3 →
        let slot := r.clip % 65536
        let n := (d.clip slot).indexLen / 32
        ∃ t, exec (.clipClose i) s = .next (s.to t) ∧ t.recOf i = none ∧ (t.clip slot).st = 2 ∧ (t.clip slot).closeSeq = sq
          ∧ (t.clip slot).mstate = 2 ∧ (t.clip slot).dataLen = (d.clip slot).dataLen
          ∧ (t.clip slot).last = (if n = 0 then ((d.clip slot).first + allOnes64) % 2 ^ 64 else (d.clip slot).first + n - 1)
          ∧ (∀ k, k ≠ slot → t.clip k = d.clip k) ∧ t.mem = d.mem)))

/-- From R40 to R42, R383, R400, R402, R492, R505, R569: registers and records. REGISTER READ and WRITE reach the words named and no others,
and not the security and priming registers; the records are returned as their tables have them and nothing changes. (The model's choices
that it meets are those of log entries 83, 85 and 88.) -/
def Obligations.RegistersAndRecords : Prop :=
  (∀ (s : State) (seq : Nat) (c : Ctx),
    let d := s.dev
    let a := c.w10
    let n := c.w11
    let room := c.sqe.cdw12.toNat
    (d.ready seq true 0xC1 = some c →
      (regArgs a n = false → exec (.registerWrite seq) s = .next (s.to (d.fail seq stBadParam))) ∧
      (regArgs a n = true → c.data.length = 4 * n →
        (touches a n 0x100000 0x300000 = true → exec (.registerWrite seq) s = .next (s.to (d.fail seq stNotPermitted))) ∧
        (touches a n 0x100000 0x300000 = false → d.regBusy a n = true → exec (.registerWrite seq) s = .next (s.to (d.fail seq stBusy))) ∧
        (n = 1 → a / 1048576 ∉ [1, 2, 3, 8, 9, 13, 17, 20, 21, 22, 23, 24] → elem 0x501000 4 128 a = none → d.regBusy a n = false →
          ∃ t, exec (.registerWrite seq) s = .next (s.to t) ∧ t.endsAs (d.plainWrite (regFields a) (leNat c.data)) seq 0 0 0))) ∧
    (d.ready seq true 0xD2 = some c → regArgs a n = true → 4 * n ≤ room →
      (d.regBusy a n = true → exec (.registerRead seq) s = .next (s.to (d.fail seq stBusy))) ∧
      (d.regBusy a n = false → ∃ t, exec (.registerRead seq) s = .next (s.to t) ∧ t.doneAs seq 0 0 0 ∧ t.mem.bytes = d.mem.bytes ∧ t.cores = d.cores) ∧
      (d.regBusy a n = false → n = 1 → a / 1048576 ∉ [1, 5, 20, 21, 22, 24] → (∀ e ∈ regFields a, e.2 ≠ .rc) →
        ∃ t, exec (.registerRead seq) s = .next (s.to t) ∧ t.endsAs d seq 0 0 0
          ∧ (d.posts c → t.returns seq (le 4 ((regFields a).map d.fieldRead).sum)))) ∧
    (d.ready seq true 0xC2 = some c →
      (room < 64 → exec (.readJournal seq) s = .next (s.to (d.fail seq stBadParam))) ∧
      (64 ≤ room →
        let l := (d.jnlFrom c.w64).take (room / 64 - 1)
        ∃ t, exec (.readJournal seq) s = .next (s.to t) ∧ t.endsAs d seq 0 0 (l.length % 4294967296)
          ∧ (d.posts c → t.returns seq (d.jnlHeader l.length ++ l.flatMap JRec.bytes)))) ∧
    (d.ready seq true 0xC6 = some c → 64 ≤ room →
      let l := (d.sump.ring.filter (fun e => c.w64 ≤ e.sseq)).take (room / 64 - 1)
      ∃ t out, exec (.readSump seq) s = .next (s.to t) ∧ t.endsAs d seq 0 0 (l.length % 4294967296) ∧ (d.posts c → t.returns seq out)
        ∧ out.drop 64 = l.flatMap SumpEntry.bytes ∧ field out 0 8 = d.sseq d.sump.next % 2 ^ 64 ∧ field out 24 4 = l.length % 4294967296) ∧
    (d.ready seq true 0xCA = some c →
      (newest d.nv.rrA d.nv.rrB = none → ∃ t, exec (.readRetainedRecord seq) s = .next (s.to t) ∧ t.endsAs d seq 0 0 0) ∧
      (∀ g r, newest d.nv.rrA d.nv.rrB = some (g, r) → ∃ t, exec (.readRetainedRecord seq) s = .next (s.to t)
        ∧ t.endsAs d seq 0 0 (min room 131072) ∧ (d.posts c → t.returns seq ((r.bytes g).take room)))) ∧
    (d.ready seq true 0xCE = some c → 64 ≤ room → c.w10 % 256 ∈ [255, 1, 2, 3, 4, 5, 6, 7, 8, 9, 10, 11, 12, 16, 17, 18, 19] →
      ∃ t, exec (.readInventory seq) s = .next (s.to t) ∧ t.endsAs d seq 0 0 (field c.inv 12 4 % 4294967296)
        ∧ (d.posts c → t.returns seq c.inv)) ∧
    (∀ q : Sqe, d.mayFetch 0 = true → q.opc = 0xCE → skoazelLayout true q = true →
      let k := q.cdw10.toNat % 256
      let pend := ((tkeys d.qf.ctxs).filter (fun n => n < d.qf.head)).take ((q.cdw12.toNat - 64) / 8)
      let ents := (d.lives.filter (fun l => (k = 255 || l.kind = k) && !d.unborn l)).take ((q.cdw12.toNat - 64 - 8 * pend.length) / 32)
      ∃ t x, exec (.commandFetch 0 q []) s = .next (s.to t) ∧ tget t.qf.ctxs d.qf.head = some x
        ∧ x.inv = le 8 d.qf.head ++ le 4 pend.length ++ le 4 ents.length ++ zeros 48 ++ pend.flatMap (le 8) ++ ents.flatMap d.liveBytes) ∧
    (d.ready seq false 0x86 = some c →
      (d.recordsOf (c.w10 % 16) (bits c.w10 25 16) = none → exec (.readFrameRecords seq) s = .next (s.to (d.fail seq stBadParam))) ∧
      (∀ l, d.recordsOf (c.w10 % 16) (bits c.w10 25 16) = some l →
        let m := (l.filter (fun e => (e.1 + 2 ^ 32 - c.w11) % 2 ^ 32 < 2 ^ 31)).take (room / (if c.w10 % 16 = 0 then 64 else 32))
        ∃ t, exec (.readFrameRecords seq) s = .next (s.to t) ∧ t.endsAs d seq 0 0 (m.length % 4294967296)
          ∧ (d.posts c → t.returns seq (m.flatMap (·.2))))) ∧
    (d.ready seq false 0x84 = some c → c.w10 % 256 = 18 →
      (tget d.cores.programs n = none → exec (.releaseProgram seq) s = .next (s.to (d.fail seq stBadHandle))) ∧
      ((tget d.cores.programs n).isSome = true → d.cores.graphs = [] → ∃ t, exec (.releaseProgram seq) s = .next (s.to t)
        ∧ t.endsAs { d with cores := { d.cores with programs := terase d.cores.programs n } } seq 0 0 0)) ∧
    (d.ready seq false 0x84 = some c → c.w10 % 256 = kImage →
      (tget d.vid.images n = none → exec (.releaseImage seq) s = .next (s.to (d.fail seq stBadHandle))) ∧
      (∀ m, tget d.vid.images n = some m → d.imageHeld n = true → exec (.releaseImage seq) s = .next (s.to (d.fail seq stBusy))) ∧
      (∀ m, tget d.vid.images n = some m → d.imageHeld n = false → m.flow = none → ∃ t, exec (.releaseImage seq) s = .next (s.to t)
        ∧ t.endsAs { d with vid := { d.vid with images := terase d.vid.images n } } seq 0 0 0)))

/-- From R383, R385, R401, R523: emergency controls, the checkpoint, and accesses to BAR0. An emergency control acts under its key, is counted
and has a journal record. The journal's checkpoint is written when HEAD has moved. A BAR0 access that is not aligned is ignored. (What the rows stand for is in log entries 87 and 89.) -/
def Obligations.EmergencyAndBar0Access : Prop :=
  (∀ (s : State) (key : Byte), s.dev.recovering = false →
    let d := s.dev
    let out := fun (act : Nat) => d.sumpRefused qfPlace 0x50000 (emergWord key.toNat act)
    (key ≠ 0xC3 → exec (.safeAll key) s = .next (s.to (out 1)) ∧ exec (.safeClear key) s = .next (s.to (out 8))
      ∧ exec (.fetchHalt key) s = .next (s.to (out 4)) ∧ exec (.recStop key) s = .next (s.to (out 2))) ∧
    (key = 0xC3 →
      (∃ t, exec (.safeAll key) s = .next (s.to t) ∧ t.flag fSysEmergStatSafe = true ∧ t.qf.head = d.qf.head + 1
        ∧ t.fget fSysEmergStatCount = min fSysEmergStatCount.max (d.fget fSysEmergStatCount + 1) ∧ t.cores = d.cores ∧ t.mem = d.mem) ∧
      (∃ t, exec (.safeClear key) s = .next (s.to t) ∧ t.flag fSysEmergStatSafe = false ∧ t.qf.head = d.qf.head + 1 ∧ t.cores = d.cores
        ∧ t.mem = d.mem) ∧
      (∃ t, exec (.fetchHalt key) s = .next (s.to t) ∧ t.qf.halted = true ∧ t.flag fSysEmergStatHalted = true ∧ t.qf.head = d.qf.head + 1
        ∧ t.cores = d.cores ∧ t.mem = d.mem) ∧
      (∃ t, exec (.recStop key) s = .next (s.to t) ∧ t.cores = d.cores ∧ t.mem.bytes = d.mem.bytes ∧ ∀ i r, d.recOf i = some r →
        ∃ r', t.recOf i = some r' ∧ r'.ending = true ∧ r'.units = [] ∧ r'.closing.isSome = true))) ∧
  (∀ (s : State),
    (s.dev.qf.head = s.dev.prime.ckptHead → exec .journalCheckpoint s = .next s) ∧
    (s.dev.qf.head ≠ s.dev.prime.ckptHead → ∃ t, exec .journalCheckpoint s = .next (s.to t) ∧ t.checkpoints ∧ t.cores = s.dev.cores
      ∧ t.mem = s.dev.mem ∧ t.store = s.dev.store)) ∧
  (∀ (s : State) (off : Word32) (width : Nat) (value : Word64),
    let d := s.dev
    (((width ≠ 4 ∧ width ≠ 8) ∨ off.toNat % width ≠ 0) →
      exec (.bar0BadAccess off width true value) s = .next (s.to (d.sumpRefused qfPlace off.toNat value.toNat)) ∧
      exec (.bar0BadAccess off width false value) s = .next (s.to (({ d with
        qf := { d.qf with bar0Read := allOnes32 } }).sumpRefused qfPlace off.toNat value.toNat))) ∧
    (width = 4 → off.toNat % 4 = 0 → 0x20000 ≤ off.toNat → off.toNat < 0x40000 → d.recovering = false →
      exec (.bar0BadAccess off width true value) s = .next (s.to { d with
        qf := { d.qf with msix := mwrite d.qf.msix off.toNat (le 4 (value.toNat % 4294967296)) } }) ∧
      exec (.bar0BadAccess off width false value) s = .next (s.to { d with
        qf := { d.qf with bar0Read := leNat (mread d.qf.msix off.toNat 4) } }))) ∧
  (∀ (s : State) (window : Fin 4) (off : BitVec 18) (v : Word32),
    let d := s.dev
    d.recovering = false →
    (d.debugLocked = true → ∃ used,
      exec (.debugWindowAccess window off true v) s = .next (s.to (({ d with qf := { d.qf with dbgUsed := used } }).sumpRefused qfPlace
        (0x100000 + window.val * 262144 + off.toNat) v.toNat)) ∧
      exec (.debugWindowAccess window off false v) s = .next (s.to (({ d with qf := { d.qf with
        dbgUsed := used, bar0Read := 0 } }).sumpRefused qfPlace (0x100000 + window.val * 262144 + off.toNat) v.toNat))) ∧
    (d.debugLocked = false →
      let a := d.fget (fSysDbgBaseBase window) * 262144 + off.toNat / 4 * 4
      exec (.debugWindowAccess window off true v) s = .next (s.to (({ d with qf := { d.qf with dbgUsed := true } }).regWrite a v.toNat)) ∧
      ∃ t, exec (.debugWindowAccess window off false v) s = .next (s.to t)
        ∧ t.qf.bar0Read = (({ d with qf := { d.qf with dbgUsed := true } }).regRead a).1 ∧ t.qf.dbgUsed = true))

/-- From R25 to R27: the links between the dies. A failed flit is retried; the eighth failure in succession at one end takes the link down
with a sump entry of class 8 that names that endpoint; a link that has retrained is back in service. (The model's choices that it meets
are those of log entries 31, 84 and 90.) -/
def Obligations.DieLinks : Prop :=
  ∀ (s : State) (link : Fin 3) (far : Bool) (lane : Fin 64),
    let d := s.dev
    let way := 2 * link.val + far.toNat
    let n := tgetD d.lanes.dieFails way 0 + 1
    (link.val ∈ d.lanes.dieDown → ∀ ok, exec (.flitCrcRetry link far lane ok) s = .next s) ∧
    (link.val ∉ d.lanes.dieDown →
      exec (.flitCrcRetry link far lane true) s = .next (s.to { d with lanes := { d.lanes with dieFails := terase d.lanes.dieFails way } }) ∧
      (n < 8 → exec (.flitCrcRetry link far lane false) s = .next (s.to { d with
        lanes := { d.lanes with dieFails := tput d.lanes.dieFails way n } })) ∧
      (8 ≤ n → ∃ t, exec (.flitCrcRetry link far lane false) s = .next (s.to t)
        ∧ t.lanes = { d.lanes with dieFails := terase d.lanes.dieFails way, dieDown := d.lanes.dieDown ++ [link.val] }
        ∧ t.sump = (d.sumpWrite (TUnit.dieLinkLane (linkEnd link far) lane.val).place 8 link 2 0 (le 1 lane.val ++ le 4 n)).sump
        ∧ t.mem = d.mem ∧ t.nv = d.nv)) ∧
    exec (.dieLinkRetrained link) s = .next (s.to { d with lanes := { d.lanes with dieDown := d.lanes.dieDown.filter (· != link.val) } })

/-! ## Serial lanes and ports -/

/-- From R411 to R414, R417, R418, R420, R424, R425, R431, R439: bring-up. A lane finds its partner, trains within the limits of its taps,
gains bit lock and block lock, waits in BLOCKLOCK for its link, and its link enters CAPEX and ACTIVE together. An attempt that times out
counts for the lanes that did not reach BLOCKLOCK and returns the link to DETECT; a lane's third in 60 s tests it. Flows of a port that
has been up for 100 ms resume. A test ends with its verdict: a lane that passes comes back, one that fails is in FAULT and retired, and a
retry clears the fault. (The model's choices that it meets are those of log entry 92.) -/
def Obligations.LaneBringUp : Prop :=
  ∀ (s : State) (lane : Fin 96),
    let d := s.dev
    let n := lane.val
    let link := d.link n
    (d.laneSt n = lsDetect → (d.laneX n).wait = false → d.isSdi n = false → d.linkWhole n = true → ∃ t, exec (.laneSignalDetect lane) s = .next (s.to t)
      ∧ t.lanesMove d [n] lsTrain ∧ (d.proto n = 4 → t.fget (fCxlPortStatState (n / 16 - 1)) = 1) ∧ t.regsOnly d) ∧
    ((d.laneSt n ≠ lsDetect ∨ (d.laneX n).wait = true ∨ d.isSdi n = true ∨ d.linkWhole n = false) → exec (.laneSignalDetect lane) s = .next s) ∧
    (∀ r, TrainReq.ok r = false → exec (.trainingRequest lane r) s = .fault .illFormed) ∧
    (∀ r, TrainReq.ok r = true → d.laneSt n ≠ lsTrain → exec (.trainingRequest lane r) s = .next s) ∧
    (∀ (tap : Fin 5) a b c m p, d.laneSt n = lsTrain → d.isEth n = true → Config.portCr (portOfLane n) = true →
      (d.eqTaps n).set tap.val ((d.eqTaps n).getD tap.val 0 + 1) = [a, b, c, m, p] →
      (eqOk a b c m p = false → exec (.trainingRequest lane (.step tap true)) s = .next (s.to (d.setLaneX n (fun x => { x with
        answer := some false })))) ∧
      (eqOk a b c m p = true → ∃ t, exec (.trainingRequest lane (.step tap true)) s = .next (s.to t) ∧ t.eqTaps n = [a, b, c, m, p]
        ∧ (t.laneX n).answer = some true ∧ t.mem = d.mem ∧ ∀ k, k < 96 → k ≠ n → t.eqTaps k = d.eqTaps k)) ∧
    (∀ cm1 c0 cp1, d.laneSt n = lsTrain → d.isEth n = false → d.isSdi n = false → cm1 < 64 → c0 < 64 → cp1 < 64 →
      eqOk 0 0 cm1 c0 cp1 = true → ∃ t, exec (.trainingRequest lane (.pcie cm1 c0 cp1)) s = .next (s.to t)
        ∧ t.eqTaps n = [0, 0, cm1, c0, cp1] ∧ (t.laneX n).answer = some true ∧ t.mem = d.mem) ∧
    (d.laneSt n = lsTrain → ∃ t, exec (.laneTrainingDone lane) s = .next (s.to t) ∧ t.lanesMove d [n] lsBitlock ∧ t.regsOnly d) ∧
    (d.laneSt n ≠ lsTrain → exec (.laneTrainingDone lane) s = .next s) ∧
    (d.refOk n = false → exec (.laneBitLock lane) s = .next s) ∧
    (d.laneSt n = lsBitlock → d.refOk n = true → ∃ t, exec (.laneBitLock lane) s = .next (s.to t) ∧ t.lanesMove d [n] lsBlocklock
      ∧ t.flag (fLaneStatBitlock n) = true ∧ t.regsOnly d) ∧
    (d.laneSt n = lsActive → d.isSdi n = true → d.refOk n = true → exec (.laneBitLock lane) s = .next (s.to (d.fset (fLaneStatBitlock n) 1))) ∧
    (d.laneSt n = lsBlocklock → d.linkWhole n = true → (∀ m ∈ link, d.laneSt m = lsBlocklock ∧ (m = n ∨ d.flag (fLaneStatBlklock m) = true)) →
      ∃ t, exec (.laneBlockLock lane) s = .next (s.to t) ∧ t.lanesMove d link lsCapex ∧ t.flag (fLaneStatBlklock n) = true ∧ t.regsOnly d) ∧
    (d.laneSt n = lsBlocklock → (d.linkWhole n = false ∨ ∃ m ∈ link, m ≠ n ∧ (d.laneSt m ≠ lsBlocklock ∨ d.flag (fLaneStatBlklock m) = false)) →
      exec (.laneBlockLock lane) s = .next (s.to (d.fset (fLaneStatBlklock n) 1))) ∧
    (∀ rate : Fin 8, d.laneSt n = lsCapex → (∀ m ∈ link, d.laneSt m = lsCapex) → ∃ t, exec (.linkCapexDone lane rate) s = .next (s.to t)
      ∧ t.lanesMove d link lsActive ∧ (∀ m ∈ link, t.fget (fLaneStatRate m) = rate.val) ∧ t.mem = d.mem ∧ t.cores = d.cores
      ∧ (d.isEth n = true → t.fget (fEthPortStatState (portOfLane n)) = 2)) ∧
    (∀ rate : Fin 8, (∃ m ∈ link, d.laneSt m ≠ lsCapex) → exec (.linkCapexDone lane rate) s = .next s) ∧
    ((d.isEth n = false ∨ d.laneSt n = lsActive ∨ d.laneSt n = lsOff) → exec (.bringupTimeout lane) s = .next s) ∧
    (d.isEth n = true → d.laneSt n ≠ lsActive → d.laneSt n ≠ lsOff →
      ((∀ m ∈ link, (d.laneX m).fails = []) → ∃ t, exec (.bringupTimeout lane) s = .next (s.to t) ∧ t.lanesMove d link lsDetect
        ∧ ∀ m ∈ link, t.flag (fLaneStatBitlock m) = false ∧ t.flag (fLaneStatBlklock m) = false
          ∧ (t.laneX m).fails = if d.laneSt m < lsBlocklock then [d.nowNs] else []) ∧
      (link = [n] → d.laneSt n < lsBlocklock → 2 ≤ (recentFails (d.laneX n).fails d.nowNs).length → (d.laneX n).tested = false →
        ∃ t, exec (.bringupTimeout lane) s = .next (s.to t) ∧ t.lanesMove d [n] lsTest ∧ (t.laneX n).testing = true
          ∧ t.fget (fLaneStatFails n) = 3)) ∧
    ((∃ m ∈ link, (d.laneX m).testing = true) → exec (.bringupRetry lane) s = .next s) ∧
    ((∀ m ∈ link, (d.laneX m).testing = false) → d.laneSt n = lsDetect → ∃ t, exec (.bringupRetry lane) s = .next (s.to t)
      ∧ (∀ m ∈ link, (t.laneX m).wait = false) ∧ t.regs = d.regs ∧ t.mem = d.mem) ∧
    ((d.laneX n).testing = false → d.isSdi n = false → d.laneSt n ≠ lsFault → d.laneSt n ≠ lsFenced →
      (∀ m ∈ d.linkAll n, d.laneSt m ≠ lsActive) → ∃ t, exec (.laneTest lane) s = .next (s.to t) ∧ t.lanesMove d [n] lsTest
        ∧ (t.laneX n).testing = true ∧ t.mem = d.mem) ∧
    ((d.laneX n).testing = true → exec (.laneTest lane) s = .next s) ∧
    (d.laneSt n = lsFault → d.proto n ≠ 0 → d.isSdi n = false → ∃ t, exec (.laneRetry lane) s = .next (s.to t) ∧ t.laneSt n = lsDetect
      ∧ (t.laneX n).fails = [] ∧ t.fget (fLaneStatFails n) = 0 ∧ t.mem = d.mem) ∧
    (∀ (errors : Word32) (checked : Word64),
      ((d.laneX n).testing = false → exec (.laneTestDone lane errors checked) s = .next s) ∧
      ((d.laneX n).testing = true → errors.toNat ≤ checked.toNat / 10000000000 →
        (d.laneSt n ≠ lsFenced → d.proto n ≠ 0 → d.isSdi n = false → ∃ t, exec (.laneTestDone lane errors checked) s = .next (s.to t)
          ∧ t.lanesMove d [n] lsDetect ∧ (t.laneX n).testing = false ∧ t.mem = d.mem) ∧
        (d.laneSt n = lsFenced → ∃ t, exec (.laneTestDone lane errors checked) s = .next (s.to t) ∧ t.laneSt n = lsFenced
          ∧ (t.laneX n).testing = false ∧ (t.laneX n).offered = true ∧ t.mem = d.mem)) ∧
      ((d.laneX n).testing = true → checked.toNat / 10000000000 < errors.toNat → ∃ t, exec (.laneTestDone lane errors checked) s = .next (s.to t)
        ∧ t.lanesMove d [n] lsFault ∧ (t.laneX n).testing = false ∧ t.isRetired (lanePlace n) = true ∧ t.mem = d.mem
        ∧ (d.isEth n = true → t.fget (fEthPortStatState (portOfLane n)) = 3)))

/-- From R408, R409, R413, R416, R421 to R430, R439: lanes in service. Loss of lock takes an Ethernet port down, sends a PCIe or CXL link into
recovery and leaves an SDI lane transmitting; a lane that cannot be brought back is left out and tested while the rest goes on. The loss
of an endpoint link is a controller reset, and of a root port the failure of its SSD. A bad reference window costs its island its lock;
ten good ones end the fault. Settings that R413 does not allow, and those that the gate or a running flow refuse, change nothing and write
a sump entry. (The model's choices that it meets are those of log entries 92 and 103.) -/
def Obligations.LaneService : Prop :=
  (∀ (s : State) (lane : Fin 96),
    let d := s.dev
    let n := lane.val
    let link := d.link n
    let p := portOfLane n
    let lost := min (fLaneStatLockloss n).max (d.fget (fLaneStatLockloss n) + 1)
    (∀ cause : Fin 2,
      (d.laneSt n ≠ lsActive → exec (.laneLockLoss lane cause) s = .next s) ∧
      (d.laneSt n = lsActive → d.isSdi n = true → exec (.laneLockLoss lane cause) s = .next (s.to ((d.finc (fLaneStatLockloss n)).unlock n))) ∧
      (d.laneSt n = lsActive → d.isEth n = false → d.isSdi n = false → (∀ m ∈ d.linkAll n, ¬(d.laneSt m = lsFenced ∧ (d.laneX m).offered = true)) →
        ∃ t, exec (.laneLockLoss lane cause) s = .next (s.to t) ∧ t.lanesMove d link lsTrain ∧ t.fget (fLaneStatLockloss n) = lost
          ∧ t.regsOnly d) ∧
      (d.laneSt n = lsActive → d.isEth n = true → ∃ t, exec (.laneLockLoss lane cause) s = .next (s.to t) ∧ t.lanesMove d link lsDetect
        ∧ t.fget (fLaneStatLockloss n) = lost ∧ t.mem = d.mem
        ∧ t.fget (fEthPortStatDowns p) = min (fEthPortStatDowns p).max (d.fget (fEthPortStatDowns p) + 1)
        ∧ t.sump = (d.sumpWrite (lanePlace n) 9 0x41 2 0 (le 1 p ++ le 1 (d.memberOf n) ++ le 1 cause.val)).sump)) ∧
    (∀ cause : Fin 2, (d.isEth n = false ∨ d.laneSt n ≠ lsActive) → exec (.faultSignalled lane cause) s = .next s) ∧
    (∀ cause : Fin 2, d.isEth n = true → d.laneSt n = lsActive → ∃ t, exec (.faultSignalled lane cause) s = .next (s.to t)
      ∧ t.lanesMove d link lsDetect ∧ t.mem = d.mem
      ∧ t.sump = (d.sumpWrite (lanePlace n) 9 0x41 2 0 (le 1 p ++ le 1 (d.memberOf n) ++ le 1 (2 + cause.val))).sump) ∧
    (d.laneSt n = lsActive → d.isSdi n = false → ∃ t, exec (.adaptationFreeze lane) s = .next (s.to t)
      ∧ (∀ m ∈ link, t.flag (fLaneStatFrozen m) = true) ∧ (∀ m, m < 96 → t.laneSt m = d.laneSt m) ∧ t.regsOnly d) ∧
    (d.isSdi n = true → exec (.adaptationFreeze lane) s = .next s) ∧
    (∃ t, exec (.adaptationResume lane) s = .next (s.to t) ∧ (∀ m ∈ link, t.flag (fLaneStatFrozen m) = false)
      ∧ (∀ m, m < 96 → t.laneSt m = d.laneSt m) ∧ t.regsOnly d) ∧
    (∀ (coef : Byte) (v : Word16) (quiet : Nat),
      ((d.laneSt n ≠ lsActive ∨ ((d.laneX n).driftOpen = true ∧ quiet < 1000000000)) → exec (.laneDrift lane coef v quiet) s = .next s) ∧
      (d.laneSt n = lsActive → ((d.laneX n).driftOpen = false ∨ 1000000000 ≤ quiet) → ∃ t, exec (.laneDrift lane coef v quiet) s = .next (s.to t)
        ∧ t.flag (fLaneStatDrift n) = true ∧ (t.laneX n).driftOpen = true ∧ t.laneSt n = lsActive ∧ t.ev.next = d.ev.next + 1 ∧ t.mem = d.mem
        ∧ t.sump = (d.sumpWrite (lanePlace n) 9 0x40 0 0 (le 1 n ++ le 1 coef.toNat ++ le 2 v.toNat)).sump)) ∧
    (∀ (width : Nat) (rate : Fin 8), (width ∉ d.widths n ∨ (d.linkAll n).length ≤ width) → exec (.laneFence lane width rate) s = .next s) ∧
    (∀ (width : Nat) (rate : Fin 8), d.isEth n = false → d.isSdi n = false → d.laneSt n ≠ lsOff → d.laneSt n ≠ lsFault → d.laneSt n ≠ lsFenced →
      width ∈ d.widths n → width < (d.linkAll n).length → ∃ t, exec (.laneFence lane width rate) s = .next (s.to t) ∧ t.laneSt n = lsFenced ∧ (t.laneX n).testing = true
        ∧ (∀ m ∈ link, m ≠ n → t.laneSt m = lsActive ∧ t.fget (fLaneStatRate m) = rate.val) ∧ t.mem = d.mem) ∧
    (∀ v : Word32,
      let a := [bits v.toNat 29 24, bits v.toNat 23 18, bits v.toNat 17 12, bits v.toNat 11 6, bits v.toNat 5 0]
      let ok := eqOk (bits v.toNat 29 24) (bits v.toNat 23 18) (bits v.toNat 17 12) (bits v.toNat 11 6) (bits v.toNat 5 0)
      (d.eqWritable n = false → exec (.laneEqWrite lane v) s = .next s) ∧
      (d.eqWritable n = true → ok = false → exec (.laneEqWrite lane v) s = .next (s.to (d.sumpRefused (lanePlace n) (fLaneEqCm3 n).addr v.toNat))) ∧
      (d.eqWritable n = true → ok = true → ∃ t, exec (.laneEqWrite lane v) s = .next (s.to t) ∧ t.eqTaps n = a ∧ t.mem = d.mem
        ∧ (d.gateOpen = true → tget t.prime.rr.laneEq n = some (eqWord a)) ∧ (d.gateOpen = false → t.prime.rr = d.prime.rr)))) ∧
  (∀ (s : State), ∃ t, exec .endpointLinkDown s = .next (s.to t) ∧ t.prime.linkUp = false ∧ t.qf.en = false ∧ t.qf.sqs = [] ∧ t.qf.cqs = []
    ∧ t.cores = s.dev.cores ∧ t.mem = s.dev.mem ∧ t.vid = s.dev.vid) ∧
  (∀ (s : State) (r : Fin 4), ∃ t, exec (.nvmeRootPortLoss r) s = .next (s.to t) ∧ t.fget (fStoSsdStatState r) = 3
    ∧ t.fget (fStoSsdStatWidth r) = 0 ∧ t.lanesMove s.dev (s.dev.link (64 + 4 * r.val)) lsDetect ∧ t.regsOnly s.dev) ∧
  (∀ (s : State) (k : Fin 6) (ppm : Option Int),
    let d := s.dev
    (∀ v, ppm = some v → refclkInRange k v = true → d.flag (fLaneRefclkStatFault k) = false →
      exec (.refclkWindow k ppm) s = .next (s.to (d.fset (fLaneRefclkStatPpm k) (trunc 24 v)))) ∧
    (∀ v, ppm = some v → refclkInRange k v = true → d.flag (fLaneRefclkStatFault k) = true →
      let g := tgetD d.lanes.refGood k 0 + 1
      (g < 10 → exec (.refclkWindow k ppm) s = .next (s.to { d.fset (fLaneRefclkStatPpm k) (trunc 24 v) with
        lanes := { d.lanes with refGood := tput d.lanes.refGood k g } })) ∧
      (10 ≤ g → ∃ t, exec (.refclkWindow k ppm) s = .next (s.to t) ∧ t.flag (fLaneRefclkStatFault k) = false
        ∧ (∀ n, n < 96 → t.laneSt n = d.laneSt n) ∧ t.mem = d.mem)) ∧
    ((∀ v, ppm = some v → refclkInRange k v = false) → d.flag (fLaneRefclkStatFault k) = false →
      ∃ t, exec (.refclkWindow k ppm) s = .next (s.to t) ∧ t.flag (fLaneRefclkStatFault k) = true ∧ t.flag (fLaneRefclkStatSeen k) = true
        ∧ t.mem = d.mem ∧ ∀ m ∈ refclkLanes k, d.laneSt m = lsActive → d.isSdi m = false → m ∈ d.linkAll m → t.laneSt m ≠ lsActive)) ∧
  (∀ (s : State), exec .sdiRateSteer s = .next (s.to { s.dev with lanes := { s.dev.lanes with
    sdiRate := max 4294108303 (min 4295826289 (s.dev.time.inc.toNat / 2)) } })) ∧
  (∀ (s : State) (v : Word32),
    let d := s.dev
    (d.gateOpen = true → ∃ t, exec (.laneGrpSelWrite v) s = .next (s.to t) ∧ t.prime.rr.grpSel = v.toNat % 32
      ∧ t.fget fLaneGrpSelG11 = bits v.toNat 4 4 ∧ t.fget fLaneGrpSelG1 = bits v.toNat 3 2 ∧ t.fget fLaneGrpSelG0 = bits v.toNat 1 0
      ∧ t.flag fLaneGrpSelPending = !decide (v.toNat % 32 = d.lanes.selInUse) ∧ t.lanes = d.lanes ∧ t.mem = d.mem) ∧
    (d.gateOpen = false → exec (.laneGrpSelWrite v) s = .next (s.to (d.gateRefuse.sumpRefused (ioPlace 6 31 noSlice)
      fLaneGrpSelG0.addr (v.toNat % 32)))))

/-- From R301, R433 to R438: what an Ethernet port receives and resolves. A port answers the frames that Table SL-5 names and drops and counts
the others; an address is taken, and a lost path is resumed, as the rules say. (The model's choices that it meets are those of log entry
67.) -/
def Obligations.EthernetFrames : Prop :=
  (∀ (s : State) (p : Fin 6),
    let d := s.dev
    let drop := s.to (d.finc (fEthPortStatDropped p))
    let reply := s.to (d.setPortX p (fun x => { x with replies := x.replies + 1 }))
    (∀ v : Word32, (d.portUsed p = true → exec (.ethIpWrite p v) s = .next (s.to (d.sumpRefused (ioPlace 5 p noSlice) (fEthIpAddr p).addr v.toNat)))
      ∧ (d.portUsed p = false → exec (.ethIpWrite p v) s = .next (s.to (d.fset (fEthIpAddr p) v.toNat)))) ∧
    (∀ f, d.fget (fEthPortStatState p) ≠ 2 → exec (.ethFrameReceived p f) s = .next s) ∧
    (d.fget (fEthPortStatState p) = 2 →
      (∀ ip, ip = d.fget (fEthIpAddr p) → exec (.ethFrameReceived p (.arpRequest ip)) s = .next reply
        ∧ exec (.ethFrameReceived p (.icmpEcho ip)) s = .next reply) ∧
      (∀ ip, ip ≠ d.fget (fEthIpAddr p) → exec (.ethFrameReceived p (.arpRequest ip)) s = .next drop
        ∧ exec (.ethFrameReceived p (.icmpEcho ip)) s = .next drop) ∧
      (∀ ip mac, ip ∉ (d.portX p).arpAsked → exec (.ethFrameReceived p (.arpReply ip mac)) s = .next drop) ∧
      (∀ ip mac, ip ∈ (d.portX p).arpAsked → ∃ t, exec (.ethFrameReceived p (.arpReply ip mac)) s = .next (s.to t)
        ∧ tget (t.portX p).arp ip = some mac ∧ ip ∉ (t.portX p).arpAsked ∧ t.regs = d.regs ∧ t.mem = d.mem) ∧
      exec (.ethFrameReceived p .other) s = .next drop ∧ exec (.ethFrameReceived p .ptp) s = .next s ∧
      exec (.ethFrameReceived p .pause) s = .next (s.to (d.setPortX p (fun x => { x with pauses := x.pauses + 1 })))) ∧
    (∃ t, exec (.arpRefresh p) s = .next (s.to t) ∧ (∀ ip ∈ tkeys (d.portX p).arp, ip ∈ (t.portX p).arpAsked)
      ∧ (t.portX p).arp = (d.portX p).arp ∧ t.regs = d.regs ∧ t.mem = d.mem) ∧
    (∀ m : Fin 4, d.proto (firstLane p) = 1 →
      ((d.portX p).upAt = none → exec (.flowResume p m) s = .next s) ∧
      (∀ u, (d.portX p).upAt = some u →
        (d.nowNs < u + 100000000 → exec (.flowResume p m) s = .next s) ∧
        (u + 100000000 ≤ d.nowNs → 0 ∉ (d.portX p).resumed → exec (.flowResume p m) s = .next (s.to (d.setPortX p (fun x => { x with
          resumed := x.resumed ++ [0] })))))) ∧
    (∀ m : Fin 4, d.proto (firstLane p) ≠ 1 →
      (tget (d.portX p).memberUp m = none → exec (.flowResume p m) s = .next s) ∧
      (∀ u, tget (d.portX p).memberUp m = some u →
        (d.nowNs < u + 100000000 → exec (.flowResume p m) s = .next s) ∧
        (u + 100000000 ≤ d.nowNs → m.val ∉ (d.portX p).resumed → exec (.flowResume p m) s = .next (s.to (d.setPortX p (fun x => { x with
          resumed := x.resumed ++ [m.val] })))))))

/-! ## Time, triggers and peripherals -/

/-- From R38, R440 to R449, R460, R511: the counter and its servo. The count advances by 16 increments between broadcasts, and its record time
never falls. An increment is clipped and applied by the write of its upper half; a step of whole nanoseconds counts in STEPS and raises
its event. Announces choose the port of the best master; a Sync or Follow_Up of the master forms the offset, a Delay_Resp the path delay
within its bounds; timeouts and a bad reference window end in holdover. (The path-delay formula and the rank of a master are the model's,
PRESUMED from IEEE 1588-2019.) (The model's choices that it meets are those of log entries 14, 21, 103, 107, 108 and 112.) -/
def Obligations.CounterAndServo : Prop :=
  (∀ (s : State), ∃ t, exec .timeCountBroadcast s = .next (s.to t) ∧ t.time.count = s.dev.time.count + BitVec.ofNat 96 (16 * s.dev.time.inc.toNat)
    ∧ t.time.bcast = max s.dev.time.bcast t.nowNs ∧ t.time.inc = s.dev.time.inc ∧ t.regs = s.dev.regs ∧ t.mem = s.dev.mem ∧ t.qf = s.dev.qf) ∧
  (∀ (s : State) (v : Word32),
    let d := s.dev
    (d.timeSrc = 1 → ∀ up, exec (.timeIncWrite up v) s = .next s) ∧
    (d.timeSrc ≠ 1 → exec (.timeIncWrite false v) s = .next (s.to { d with time := { d.time with incLo := v.toNat } })) ∧
    (d.timeSrc ≠ 1 → ∃ t, exec (.timeIncWrite true v) s = .next (s.to t)
      ∧ t.time.inc.toNat = max 0x1FFBE76C9 (min 0x200418937 (v.toNat * 4294967296 + d.time.incLo))
      ∧ t.fget fTimeIncLoInc = t.time.inc.toNat % 4294967296 ∧ t.fget fTimeIncHiInc = t.time.inc.toNat / 4294967296
      ∧ t.time.count = d.time.count ∧ t.mem = d.mem ∧ t.qf = d.qf) ∧
    exec (.timeStepWrite false v) s = .next (s.to { d with time := { d.time with stepLo := v.toNat } }) ∧
    (d.timeSrc ≠ 2 → exec (.timeStepWrite true v) s = .next s) ∧
    (d.timeSrc = 2 → ∃ t, exec (.timeStepWrite true v) s = .next (s.to t)
      ∧ t.time.count = d.time.count + BitVec.ofInt 96 (sext 64 (v.toNat * 4294967296 + d.time.stepLo) * 4294967296)
      ∧ t.fget fTimeStatSteps = min 255 (d.fget fTimeStatSteps + 1) ∧ t.ev.next = d.ev.next + 1 ∧ t.time.inc = d.time.inc ∧ t.mem = d.mem)) ∧
  (∀ (s : State), ∃ t, exec .timeNowSnapshot s = .next (s.to t) ∧ t.fget fTimeNowLoNow = s.dev.nowNs % 4294967296
    ∧ t.fget fTimeNowHiNow = s.dev.nowNs / 4294967296 ∧ t.regsOnly s.dev) ∧
  (∀ (s : State) (p : Fin 6) (a : PtpAnnounce),
    let d := s.dev
    (d.ptpOn = false → exec (.ptpAnnounce p a) s = .next s) ∧
    (d.ptpOn = true → (a.domain ≠ d.fget fTimeCtlDomain ∨ a.inRange = false) → exec (.ptpAnnounce p a) s = .next (s.to ((d.setPtp p (fun x => { x with
      dropped := x.dropped + 1 })).sumpInput (ioPlace 5 p noSlice) 7 p a.ident))) ∧
    (d.ptpOn = true → a.domain = d.fget fTimeCtlDomain → a.inRange = true → (d.ptp p).master = none →
      ∃ t, exec (.ptpAnnounce p a) s = .next (s.to t) ∧ (t.ptp p).master = some { rank := a.rank, ident := a.ident }
        ∧ (∀ q, q ≠ p.val → t.ptp q = d.ptp q) ∧ (∃ q, t.bestPort = some q ∧ t.fget fTimeStatPort = q % 8) ∧ t.time.count = d.time.count ∧ t.mem = d.mem)) ∧
  (∀ (s : State) (p : Fin 6) (m : PtpSyncMsg) (ms : Master),
    let d := s.dev
    let t2 := d.ingress p m.raw
    let o := (t2 - m.t1 - d.pathDelay p - m.corr) / 65536
    ((d.ptp p).master = none → exec (.ptpSync p m) s = .next s) ∧
    ((d.ptp p).master = some ms → d.ptpOn = true → ms.ident = m.source → m.twoStep = true →
      exec (.ptpSync p m) s = .next (s.to (d.setPtp p (fun x => { x with sync := some (m.seqId, t2) })))) ∧
    ((d.ptp p).master = some ms → d.ptpOn = true → ms.ident = m.source → m.twoStep = false → d.qf.fw = none → d.fget fTimeStatPort = p.val →
      (d.timeSrc ≠ 1 → d.fget fTimeStatState ≠ tsLocked → ∃ t, exec (.ptpSync p m) s = .next (s.to t)
        ∧ t.fget fTimeOffsetOffset = trunc 32 (sat32 o) ∧ (t.ptp p).last = some (m.t1 + m.corr, t2) ∧ t.time.lastSample = d.nowNs
        ∧ t.time.inc = d.time.inc ∧ t.time.count = d.time.count ∧ t.mem = d.mem) ∧
      (d.timeSrc = 1 → d.flag fTimeStatRefok = true → d.fget fTimeStatState = tsLocked → o.natAbs ≤ d.stepMax → d.time.slew = false →
        ∃ t, exec (.ptpSync p m) s = .next (s.to t) ∧ t.fget fTimeStatState = tsLocked ∧ t.time.samples = o :: d.time.samples
          ∧ t.time.inc.toNat = clipInc (Config.servoLaw (d.fget fTimeServoKp) (d.fget fTimeServoKi) (o :: d.time.samples)).toNat
          ∧ t.time.count = d.time.count ∧ t.mem = d.mem) ∧
      (d.timeSrc = 1 → d.fget fTimeStatState = tsLocked → d.stepMax < o.natAbs → d.time.rejects = [] → ∃ t, exec (.ptpSync p m) s = .next (s.to t)
        ∧ t.fget fTimeStatState = tsLocked ∧ t.time.rejects = [o] ∧ t.fget fTimeStatReject = min 255 (d.fget fTimeStatReject + 1)
        ∧ t.time.inc = d.time.inc ∧ t.time.count = d.time.count ∧ t.mem = d.mem))) ∧
  (∀ (s : State) (p : Fin 6) (source : Word64) (seqId : Word16) (t1 corr : Int),
    let d := s.dev
    ((d.ptp p).sync = none → exec (.ptpFollowUp p source seqId t1 corr) s = .next s) ∧
    (∀ ms sid t2, (d.ptp p).master = some ms → (d.ptp p).sync = some (sid, t2) →
      ((ms.ident ≠ source.toNat ∨ sid ≠ seqId.toNat) → exec (.ptpFollowUp p source seqId t1 corr) s = .next s) ∧
      (ms.ident = source.toNat → sid = seqId.toNat → d.ptpOn = true → d.qf.fw = none → d.timeSrc ≠ 1 → d.fget fTimeStatState ≠ tsLocked →
        d.fget fTimeStatPort = p.val → ∃ t, exec (.ptpFollowUp p source seqId t1 corr) s = .next (s.to t)
          ∧ (t.ptp p).sync = none ∧ (t.ptp p).last = some (t1 + corr, t2)
          ∧ t.fget fTimeOffsetOffset = trunc 32 (sat32 ((t2 - t1 - d.pathDelay p - corr) / 65536)) ∧ t.mem = d.mem))) ∧
  (∀ (s : State) (p : Fin 6) (raw : Int),
    let d := s.dev
    let k := ((d.ptp p).seqOut + 1) % 65536
    (d.ptpOn = true → (d.ptp p).master.isSome = true → d.fget (fEthPortStatState p) = 2 → exec (.delayReqSend p raw) s = .next (s.to
      (d.setPtp p (fun x => { x with seqOut := k, req := some (k, d.egress p raw), sent := some (delayReqOf k (d.egress p raw)) })))) ∧
    ((d.ptpOn = false ∨ (d.ptp p).master = none ∨ d.fget (fEthPortStatState p) ≠ 2) → exec (.delayReqSend p raw) s = .next s) ∧
    (d.ptpOn = true → d.fget (fEthPortStatState p) = 2 → exec (.announceSend p) s = .next (s.to (d.setPtp p (fun x => { x with
      announceSeq := (x.announceSeq + 1) % 65536, announces := x.announces + 1 })))) ∧
    ((d.ptpOn = false ∨ d.fget (fEthPortStatState p) ≠ 2) → exec (.announceSend p) s = .next s)) ∧
  (∀ (s : State) (p : Fin 6) (seqId : Word16) (t4 corr : Int),
    let d := s.dev
    ((d.ptp p).req = none → exec (.ptpDelayResp p seqId t4 corr) s = .next s) ∧
    (∀ sid t3 t1 t2, (d.ptp p).req = some (sid, t3) → (d.ptp p).last = some (t1, t2) → d.ptpOn = true → sid = seqId.toNat →
      let delay := ((t2 - t1) + (t4 - corr - t3)) / 2
      (delay < 0 → exec (.ptpDelayResp p seqId t4 corr) s = .next (s.to ((d.setPtp p (fun x => { x with req := none })).sumpInput
        (ioPlace 5 p noSlice) 7 p (trunc 64 delay)))) ∧
      (0 ≤ delay → (d.ptp p).delays = [] → ∃ t, exec (.ptpDelayResp p seqId t4 corr) s = .next (s.to t) ∧ (t.ptp p).delays = [delay]
        ∧ (t.ptp p).req = none ∧ t.fget (fTimePortStatPath p) = min 16777215 (delay / 65536).toNat ∧ t.mem = d.mem ∧ t.sump = d.sump))) ∧
  (∀ (s : State) (p : Fin 6),
    let d := s.dev
    ((d.ptp p).master = none → exec (.announceTimeout p) s = .next s) ∧
    (∀ ms, (d.ptp p).master = some ms → ∃ t, exec (.announceTimeout p) s = .next (s.to t) ∧ (t.ptp p).master = none
      ∧ t.sump = (d.sumpInput (ioPlace 5 p noSlice) 7 p ms.ident).sump ∧ t.time.count = d.time.count
      ∧ t.fget fTimeStatState = d.fget fTimeStatState ∧ t.fget fTimeStatPort = (if d.fget fTimeStatPort = p.val then 7 else d.fget fTimeStatPort)) ∧
    ((d.fget fTimeStatPort ≠ p.val ∨ d.nowNs < d.time.lastSample + 1000000000 ∨ d.qf.fw.isSome = true) → exec (.syncTimeout p) s = .next s) ∧
    (d.qf.fw = none → d.fget fTimeStatPort = p.val → d.time.lastSample + 1000000000 ≤ d.nowNs → (∀ q, q < 6 → q ≠ p.val → d.ptpGives q = false) →
      d.fget fTimeStatState ≠ tsFree → ∃ t, exec (.syncTimeout p) s = .next (s.to t) ∧ t.fget fTimeStatState = tsHoldover
        ∧ t.time.count = d.time.count ∧ t.mem = d.mem)) ∧
  (∀ (s : State) (ppm : Option Int),
    let d := s.dev
    (∀ v, ppm = some v → -10000 ≤ v → v ≤ 10000 →
      (d.time.refGood + 1 < 10 ∨ d.flag fTimeStatRefok = true → exec (.timeRefclkWindow ppm) s = .next (s.to { d with
        time := { d.time with refGood := min 10 (d.time.refGood + 1) } })) ∧
      (10 ≤ d.time.refGood + 1 → d.flag fTimeStatRefok = false → ∃ t, exec (.timeRefclkWindow ppm) s = .next (s.to t)
        ∧ t.flag fTimeStatRefok = true ∧ t.time.internal = false ∧ t.time.count = d.time.count ∧ t.mem = d.mem)) ∧
    ((∀ v, ppm = some v → v < -10000 ∨ 10000 < v) → ∃ t, exec (.timeRefclkWindow ppm) s = .next (s.to t) ∧ t.flag fTimeStatRefok = false
      ∧ t.time.internal = true ∧ t.time.refGood = 0 ∧ t.fget fTimeStatState = tsHoldover ∧ t.time.count = d.time.count ∧ t.mem = d.mem))

/-- From R452 to R458, R461, R511: triggers and captures. Enabling a unit sets its first target: the 32-bit view of START, or the grid at
least 1 µs ahead. Before its target nothing happens; at it the unit pulses, shows the time in TRG_LAST and sets its next target. Writes of
a running unit are staged, others take effect at once; a pulse ends by itself, and a one-shot unit with it. A capture unit stamps the edge
at the tick of its new level, keeps 16 stamps and gives them oldest first, and reports a timeout once. (The model's choices that it meets
are those of log entries 54, 78 and 103.) -/
def Obligations.TriggersAndCaptures : Prop :=
  (∀ (s : State) (u : Fin 32),
    let d := s.dev
    let den := d.perD u
    (d.flag (fTrgCtlEn u) = true → exec (.triggerArm u) s = .next s) ∧
    (d.flag (fTrgCtlEn u) = false → ∃ t, exec (.triggerArm u) s = .next (s.to t) ∧ t.flag (fTrgCtlEn u) = true ∧ (t.trig u).fired = 0
      ∧ (t.trig u).den = den ∧ t.mem = d.mem ∧ (∀ k, k ≠ u.val → t.trig k = d.trig k)
      ∧ (d.flag (fTrgCtlAlign u) = false → (t.trig u).target = some ((viewTarget (d.fget (fTrgStartStart u)) d.nowNs).toNat * den)
          ∧ (t.trig u).late = viewLate (d.fget (fTrgStartStart u)) d.nowNs)
      ∧ (d.flag (fTrgCtlAlign u) = true → ∃ g : Nat, (t.trig u).target = some g ∧ d.nowUp den + 1000 * den ≤ g
          ∧ (∃ k : Int, (g : Int) = k * d.period u + d.fget (fTrgStartStart u) * den)
          ∧ ∀ k : Int, ((d.nowUp den + 1000 * den : Nat) : Int) ≤ k * d.period u + d.fget (fTrgStartStart u) * den →
              (g : Int) ≤ k * d.period u + d.fget (fTrgStartStart u) * den))) ∧
  (∀ (s : State) (u : Fin 32) (tq : Nat),
    let d := s.dev
    let x := d.trig u
    x.target = some tq → x.ripe = [] →
    ((d.flag (fTrgCtlEn u) = false ∨ (x.late = false ∧ d.reached tq x.den = false)) → exec (.triggerPulse u) s = .next s) ∧
    (d.flag (fTrgCtlEn u) = true → d.reached tq x.den = true → x.late = false → x.staged = [] → x.den = d.perD u →
      d.trgConsumed u = false → d.flag (fTrgCtlPinEn u) = false → (∀ i, i < 5 → d.flag (fSnsGlEn i) = false) →
      (d.flag (fTrgCtlPeriodic u) = true → ∃ t, exec (.triggerPulse u) s = .next (s.to t) ∧ (t.trig u).pulse = true
        ∧ (t.trig u).target = some (tq + d.periodIn u x.den) ∧ (t.trig u).ends = tq / x.den + d.trgWidth u ∧ (t.trig u).last = tq / x.den ∧ (t.trig u).fired = x.fired + 1
        ∧ t.fget (fTrgLastLoLast u) = tq / x.den % 4294967296 ∧ t.mem = d.mem ∧ t.cores = d.cores ∧ t.ev = d.ev
        ∧ ∀ k, k ≠ u.val → t.trig k = d.trig k) ∧
      (d.flag (fTrgCtlPeriodic u) = false → x.fired = 0 → ∃ t, exec (.triggerPulse u) s = .next (s.to t) ∧ (t.trig u).pulse = true
        ∧ (t.trig u).target = some tq ∧ (t.trig u).fired = 1 ∧ t.mem = d.mem))) ∧
  (∀ (s : State) (u : Fin 32) (r : Fin 5) (v : Word32),
    let d := s.dev
    (d.flag (fTrgCtlEn u) = true → ∃ t, exec (.triggerStagedWrite u r v) s = .next (s.to t) ∧ t.regs = d.regs ∧ t.mem = d.mem
      ∧ (∀ f ∈ trgFieldsAt u r, tget (t.trig u).staged f.key = some (bits v.toNat f.hi f.lo)) ∧ (t.trig u).target = (d.trig u).target) ∧
    (d.flag (fTrgCtlEn u) = false → ∃ t, exec (.triggerStagedWrite u r v) s = .next (s.to t) ∧ t.trg = d.trg ∧ t.mem = d.mem
      ∧ (∀ f ∈ trgFieldsAt u r, t.fget f = bits v.toNat f.hi f.lo))) ∧
  (∀ (s : State) (u : Fin 32),
    let d := s.dev
    ((d.trig u).pulse = false ∨ d.nowNs < (d.trig u).ends → exec (.triggerPulseEnd u) s = .next s) ∧
    ((d.trig u).pulse = true → (d.trig u).ends ≤ d.nowNs → (d.trig u).ripe = [] → ∃ t, exec (.triggerPulseEnd u) s = .next (s.to t) ∧ (t.trig u).pulse = false ∧ t.mem = d.mem
      ∧ (d.flag (fTrgCtlPeriodic u) = true → (t.trig u).target = (d.trig u).target ∧ t.regs = d.regs)
      ∧ (d.flag (fTrgCtlPeriodic u) = false → (t.trig u).target = none ∧ t.flag (fTrgCtlEn u) = false)) ∧
    exec (.trgLastRead u) s = .next (s.to (d.fset (fTrgLastHiLast u) ((d.trig u).last / 4294967296)))) ∧
  (∀ (s : State) (u : Fin 16) (rising : Bool) (held : Nat),
    let d := s.dev
    let x := d.capU u
    let t0 := ((d.time.count - BitVec.ofNat 96 (held * d.time.inc.toNat)) >>> 32).toNat
    let takes := d.flag (fCapCfgEn u) && capSrcValid (d.fget (fCapCfgSrc u)) && capEdgeOn (d.fget (fCapCfgEdge u)) rising
    ((takes = false ∨ held < d.fget (fCapCfgFilt u)) → exec (.captureEdge u rising held) s = .next s) ∧
    (takes = true → d.fget (fCapCfgFilt u) ≤ held →
      (∀ l, x.lastAccepted = some l → t0 < l + d.fget (fCapCfgMingap u) * 1000 → d.fget (fCapCfgMingap u) ≠ 0 →
        exec (.captureEdge u rising held) s = .next (s.to ((d.finc (fCapStatGap u)).sumpInput (ioPlace 7 0 noSlice) 13 u t0))) ∧
      ((∀ l, x.lastAccepted = some l → l + d.fget (fCapCfgMingap u) * 1000 ≤ t0) →
        (x.stamps.length < 16 → ∃ t, exec (.captureEdge u rising held) s = .next (s.to t) ∧ (t.capU u).stamps = x.stamps ++ [(t0, rising)]
          ∧ (t.capU u).lastAccepted = some t0 ∧ t.fget (fCapStatLevel u) = x.stamps.length + 1 ∧ t.mem = d.mem ∧ t.sump = d.sump) ∧
        (16 ≤ x.stamps.length → ∃ t, exec (.captureEdge u rising held) s = .next (s.to t) ∧ (t.capU u).stamps = x.stamps
          ∧ t.fget (fCapStatOvf u) = min (fCapStatOvf u).max (d.fget (fCapStatOvf u) + 1) ∧ t.mem = d.mem))) ∧
    (x.stamps = [] → ∃ t, exec (.capturePop u) s = .next (s.to t) ∧ t.fget (fCapTsLoTs u) = 0 ∧ t.fget (fCapTsHiTs u) = 0 ∧ t.regsOnly d) ∧
    (∀ t1 r1 rest, x.stamps = (t1, r1) :: rest → rest.length < 16 → ∃ t, exec (.capturePop u) s = .next (s.to t) ∧ (t.capU u).stamps = rest
      ∧ t.fget (fCapTsLoTs u) = t1 % 4294967296 ∧ t.fget (fCapTsHiTs u) / 2147483648 = r1.toNat ∧ t.fget (fCapStatLevel u) = rest.length
      ∧ t.mem = d.mem) ∧
    ((d.flag (fCapCfgEn u) = false ∨ d.fget (fCapToutTout u) = 0 ∨ x.timedOut = true) → exec (.capTimeout u) s = .next s) ∧
    (d.flag (fCapCfgEn u) = true → d.fget (fCapToutTout u) ≠ 0 → x.timedOut = false →
      x.lastAccepted.getD x.since + d.fget (fCapToutTout u) ≤ d.nowNs → ∃ t, exec (.capTimeout u) s = .next (s.to t)
        ∧ (t.capU u).timedOut = true ∧ (t.capU u).stamps = x.stamps ∧ t.ev.next = d.ev.next + 1 ∧ t.mem = d.mem))

/-- From R462 to R473, R480, R485, R488: audio ports, and the starts and stops of motion axes. A port starts with its checked settings, takes
blocks that it writes to its ring, and stops at once or at a block's end; its clock's loss and return put it out of and back into service.
A stream is enabled when its settings and its place fit, and sends one packet for each block. (The model's choices that it meets are those
of log entries 52, 76 and 77.) -/
def Obligations.AudioPorts : Prop :=
  (∀ (s : State) (seq : Nat) (c : Ctx),
    let d := s.dev
    let n := c.w11
    let fresh := !(d.audTrig n && !d.flag (fTrgCtlPeriodic (d.fget (fAudPortCfgTrg n))) && decide (0 < (d.trig (d.fget (fAudPortCfgTrg n))).fired))
    (d.ready seq false 0xC8 = some c → d.noStart = false → c.w10 % 256 = kAudio →
      (15 < n → exec (.startAudioPort seq) s = .next (s.to (d.fail seq stBadHandle))) ∧
      (n ≤ 15 → d.audRuns n = true → exec (.startAudioPort seq) s = .next (s.to (d.fail seq stBusy))) ∧
      (n ≤ 15 → d.audRuns n = false → d.audOk n = false → exec (.startAudioPort seq) s = .next (s.to (d.fail seq stBadParam))) ∧
      (n ≤ 15 → d.audRuns n = false → d.audOk n = true → fresh = true → d.flag (fAudClkStatFault (d.fget (fAudPortCfgClk n))) = false →
        ∃ t, exec (.startAudioPort seq) s = .next (s.to t) ∧ t.audSt n = (if d.audTrig n then 1 else 2) ∧ t.fget (fAudRingWrOff n) = 0
          ∧ t.fget (fAudRingRdOff n) = 0 ∧ t.audP n = { mask := d.fget (fAudPortCfgMask n), first := true } ∧ t.mem = d.mem ∧ t.doneAs seq 0 0 0)) ∧
    (d.ready seq false 0x98 = some c → c.w10 % 256 = kAudio →
      ((15 < n ∨ d.audRuns n = false) → exec (.stopAudioPort seq) s = .next (s.to (d.fail seq stBadHandle))) ∧
      (n ≤ 15 → d.audSt n = 2 → c.stopNow = false → ∃ t, exec (.stopAudioPort seq) s = .next (s.to t)
        ∧ (t.audP n).stops = (d.audP n).stops ++ [seq] ∧ t.audSt n = 2 ∧ tget t.qf.ctxs seq = some c ∧ t.mem = d.mem) ∧
      (n ≤ 15 → d.audRuns n = true → (d.audP n).stops = [] → c.stopNow = true → ∃ t, exec (.stopAudioPort seq) s = .next (s.to t)
        ∧ t.audSt n = 0 ∧ t.mem = d.mem ∧ t.doneAs seq 0 0 4294967295)) ∧
    (d.ready seq false 0xC8 = some c → d.noStart = false → c.w10 % 256 = kAxis →
      (32 ≤ n → exec (.startMotionAxis seq) s = .next (s.to (d.fail seq stBadHandle))) ∧
      (n < 32 → d.axCounting n = true → exec (.startMotionAxis seq) s = .next (s.to (d.fail seq stBusy))) ∧
      (n < 32 → d.axCounting n = false → ∃ t, exec (.startMotionAxis seq) s = .next (s.to t) ∧ t.axCounting n = true
        ∧ t.fget (fAxPosPos n) = d.fget (fAxPosPos n) ∧ t.flag (fAxStatStill n) = true ∧ t.fget (fAxSpeedSpeed n) = 0
        ∧ t.flag (fAxStatValid n) = false ∧ t.mem = d.mem ∧ t.doneAs seq 0 0 0)) ∧
    (d.ready seq false 0x98 = some c → c.w10 % 256 = kAxis → n < 32 → d.axCounting n = true →
      (c.stopNow = false → ∃ t, exec (.stopMotionAxis seq) s = .next (s.to t) ∧ (t.axis n).stops = (d.axis n).stops ++ [seq]
        ∧ tget t.qf.ctxs seq = some c ∧ t.regs = d.regs ∧ t.mem = d.mem) ∧
      (c.stopNow = true → (d.axis n).stops = [] → ∃ t, exec (.stopMotionAxis seq) s = .next (s.to t) ∧ t.axCounting n = false
        ∧ t.fget (fAxPosPos n) = d.fget (fAxPosPos n) ∧ (t.axis n).armed = none ∧ t.mem = d.mem ∧ t.doneAs seq 0 0 4294967295))) ∧
  (∀ (s : State) (k : Fin 4) (hz : Option Nat) (part : List (Nat × AudBits)), (∀ n, n < 16 → s.dev.audRuns n = false) →
    let d := s.dev
    (∀ f, hz = some f → d.flag (fAudClkStatFault k) = false → exec (.pdmClockWindow k hz part) s = .next (s.to
      (d.fset (fAudClkStatKhz k) (f / 1000)))) ∧
    (hz = none → d.flag (fAudClkStatFault k) = false → ∃ t, exec (.pdmClockWindow k hz part) s = .next (s.to t)
      ∧ t.flag (fAudClkStatFault k) = true ∧ t.flag (fAudClkStatSeen k) = true ∧ t.fget (fAudClkStatKhz k) = 0 ∧ t.ev.next = d.ev.next + 1
      ∧ t.mem = d.mem)) ∧
  (∀ (s : State) (k : Fin 4) (n : Fin 16), (∀ m, m < 16 → m ≠ n.val → s.dev.audRuns m = false) → s.dev.audSt n = 1 →
    s.dev.fget (fAudPortCfgClk n) = k.val → s.dev.flag (fAudClkStatFault k) = false → ∀ part,
    ∃ t, exec (.pdmClockWindow k none part) s = .next (s.to t) ∧ t.audSt n = 3 ∧ t.flag (fAudClkStatFault k) = true ∧ t.mem = s.dev.mem) ∧
  (∀ (s : State) (n : Fin 16) (b : AudBits),
    let d := s.dev
    let p := d.audP n
    let wr := d.fget (fAudRingWrOff n)
    let size := d.fget (fAudRingSizeSize n)
    (d.audSt n ≠ 2 → exec (.audioBlockDone n b) s = .next s) ∧
    (d.audSt n = 2 → b.bits0.length = d.audBlk n * d.audDec n → b.bits1.length = b.bits0.length → 0 < d.audDec n → p.joining = false →
      p.resync = false → p.stops = [] → size - (wr + size - d.fget (fAudRingRdOff n) % size) % size < d.audBytes n →
      ∃ t, exec (.audioBlockDone n b) s = .next (s.to t) ∧ t.audSt n = 2 ∧ t.mem = d.mem ∧ t.fget (fAudRingWrOff n) = wr
        ∧ (t.audP n).sample = p.sample + d.audBlk n ∧ (t.audP n).blockTime = b.time ∧ (t.audP n).block.length = d.audBlk n
        ∧ t.fget (fAudStatOvr n) = min (fAudStatOvr n).max (d.fget (fAudStatOvr n) + 1)) ∧
    (d.audSt n = 2 → b.bits0.length = d.audBlk n * d.audDec n → b.bits1.length = b.bits0.length → 0 < d.audDec n → p.joining = false →
      p.resync = false → p.stops = [] → 6 ≤ d.audBlk n → d.audBytes n ≤ size - (wr + size - d.fget (fAudRingRdOff n) % size) % size →
      d.rangeFault true (d.audAsid n) (d.audVa n + wr) (d.audBytes n) true = none →
      d.writePoison (d.audAsid n) (d.audVa n + wr) (d.audBytes n) = false →
      ∃ t, exec (.audioBlockDone n b) s = .next (s.to t) ∧ t.audSt n = 2 ∧ t.fget (fAudRingWrOff n) = (wr + d.audBytes n) % size
        ∧ (t.audP n).sample = p.sample + d.audBlk n ∧ (t.audP n).dropping = false ∧ t.mem.pages = d.mem.pages)) ∧
  (∀ (s : State) (n : Fin 16) (v : BitVec 2), ∃ t, exec (.audioMaskWrite n v) s = .next (s.to t) ∧ t.fget (fAudPortCfgMask n) = v.toNat
    ∧ (s.dev.audRuns n = true → t.regsOnly s.dev) ∧ (s.dev.audRuns n = false → (t.audP n).mask = v.toNat) ∧ t.mem = s.dev.mem) ∧
  (∀ (s : State) (n : Fin 16) (slot : Fin 2) (level : Bool),
    let d := s.dev
    (d.audSt n ≠ 2 → exec (.audStuck n slot level) s = .next s) ∧
    (d.audSt n = 2 → (d.audP n).stuck0 = none → (d.audP n).stuck1 = none → ∃ t, exec (.audStuck n slot level) s = .next (s.to t)
      ∧ (if slot.val = 0 then (t.audP n).stuck0 else (t.audP n).stuck1) = some level ∧ t.audSt n = 2 ∧ t.mem = d.mem
      ∧ t.fget (fAudStatStuck n) = min (fAudStatStuck n).max (d.fget (fAudStatStuck n) + 1) ∧ t.ev.next = d.ev.next + 1)) ∧
  (∀ (s : State) (k : Fin 32) (en : Bool),
    let d := s.dev
    (d.flag (fAudStrCfgEn k) = en → exec (.audioStreamEnable k en) s = .next s) ∧
    (d.flag (fAudStrCfgEn k) = true → (d.str k).due = false → ∃ t, exec (.audioStreamEnable k false) s = .next (s.to t)
      ∧ t.flag (fAudStrCfgEn k) = false ∧ (t.str k).on = false ∧ (t.str k).place = [] ∧ t.mem = d.mem) ∧
    (d.flag (fAudStrCfgEn k) = false → d.strOk k = false → exec (.audioStreamEnable k true) s = .next (s.to (d.sumpRefused audPlace
      (fAudStrCfgEn k).addr 2147483648))) ∧
    (∀ pl, d.flag (fAudStrCfgEn k) = false → d.strOk k = true →
      d.placeStreams (d.placed 512) ((d.strLegs k).map (fun p => (p, d.strRate k))) [] [] = some pl →
      ∃ t, exec (.audioStreamEnable k true) s = .next (s.to t) ∧ t.flag (fAudStrCfgEn k) = true ∧ (t.str k).place = pl ∧ t.mem = d.mem) ∧
    ((d.str k).due = false → exec (.audioStreamPacket k) s = .next s) ∧
    ((d.str k).due = true → ∃ t p, exec (.audioStreamPacket k) s = .next (s.to t) ∧ (t.str k).due = false ∧ (t.str k).last = some p
      ∧ (t.str k).seq = ((d.str k).seq + 1) % 65536 ∧ p.pt = d.fget (fAudStrCfgPt k)
      ∧ p.heads.length = p.paths.length ∧ (∀ h ∈ p.heads, h.udpDst = d.fget (fAudStrUdpUdp k) ∧ h.dscp = d.fget (fAudStrUdpDscp k)) ∧ t.regs = d.regs ∧ t.mem = d.mem))

/-- From R474 to R485: motion axes. An axis counts the edges of its mode while it runs, from the position it held, with its speed, standstill,
index and compare. (The model's choices that it meets are those of log entries 77 and 110.) -/
def Obligations.MotionAxes : Prop :=
  (∀ (s : State) (a : Fin 32) (e : AxisEdge) (t0 : Nat),
    let d := s.dev
    let pos := d.fget (fAxPosPos a)
    let x := d.axis a
    (d.axCounting a = false → exec (.axisCount a e t0) s = .next s ∧ exec (.axisIndexEdge a) s = .next s ∧ exec (.axisCompareArm a) s = .next s
      ∧ exec (.speedDecay a t0) s = .next s ∧ exec (.axisStandstill a t0) s = .next s) ∧
    (d.axCounting a = true → d.flag (fAxCfgMode a) = true → x.fireNow = false → x.armed = none → (e.aRise != e.bRise) = true →
      ∃ t, exec (.axisCount a e t0) s = .next (s.to t) ∧ t.fget (fAxPosPos a) = (pos + (if e.aRise then 1 else 4294967295)) % 4294967296
        ∧ t.flag (fAxStatStill a) = false ∧ (t.axis a).lastCount = t0 ∧ t.mem = d.mem ∧ t.sump = d.sump
        ∧ ∀ b, b < 32 → b ≠ a.val → t.fget (fAxPosPos b) = d.fget (fAxPosPos b)) ∧
    (d.axCounting a = true → d.flag (fAxCfgMode a) = true → x.fireNow = false → x.armed = none → e.aRise = true → e.bRise = true →
      ∃ t, exec (.axisCount a e t0) s = .next (s.to t) ∧ t.fget (fAxPosPos a) = pos % 4294967296
        ∧ t.fget (fAxStatColl a) = min (fAxStatColl a).max (d.fget (fAxStatColl a) + 1) ∧ t.mem = d.mem) ∧
    (d.axCounting a = true → d.flag (fAxCfgMode a) = false → x.fireNow = false → e.aRise = false → exec (.axisCount a e t0) s = .next s) ∧
    (d.flag (fAxStatValid a) = false → exec (.speedDecay a t0) s = .next s) ∧
    (d.axCounting a = true → d.flag (fAxStatValid a) = true → d.flag (fAxStatDir a) = false → ∀ tn tm, x.run[0]? = some tn →
      x.run[min (2 ^ d.axAvg a) (x.edges - 1)]? = some tm → tn - tm < min (2 ^ d.axAvg a) (x.edges - 1) * (t0 - tn) → tn < t0 →
      ∃ t, exec (.speedDecay a t0) s = .next (s.to t)
        ∧ t.fget (fAxSpeedSpeed a) = min (min (d.speedMag a) (1000000000 / (t0 - tn))) 2147483647 ∧ t.regsOnly d) ∧
    (d.axCounting a = true → d.flag (fAxStatStill a) = false → x.lastCount + d.axStillUs a * 1000 ≤ t0 →
      ∃ t, exec (.axisStandstill a t0) s = .next (s.to t) ∧ t.flag (fAxStatStill a) = true ∧ t.fget (fAxSpeedSpeed a) = 0
        ∧ t.flag (fAxStatValid a) = false ∧ t.flag (fAxStatDir a) = d.flag (fAxStatDir a) ∧ (t.axis a).opp = 0 ∧ t.fget (fAxPosPos a) = pos
        ∧ t.mem = d.mem) ∧
    (d.axCounting a = true → d.flag (fAxIdxCfgEn a) = true → pos < 4294967296 →
      (x.idx = none → ∃ t, exec (.axisIndexEdge a) s = .next (s.to t) ∧ t.fget (fAxIdxPosValue a) = pos ∧ (t.axis a).idx = some pos
        ∧ t.mem = d.mem ∧ t.ev = d.ev) ∧
      (∀ prev, x.idx = some prev → ∃ t, exec (.axisIndexEdge a) s = .next (s.to t) ∧ t.fget (fAxIdxPosValue a) = pos
        ∧ t.fget (fAxIdxCntValue a) = trunc 32 (sext 32 (pos + 4294967296 - prev)) ∧ (t.axis a).idx = some pos ∧ t.mem = d.mem)) ∧
    (d.axCounting a = true → ∃ t, exec (.axisCompareArm a) s = .next (s.to t) ∧ t.flag (fAxCmpCtlArm a) = true
      ∧ (t.axis a).armed = some (d.fget (fAxCmpTarget a)) ∧ t.fget (fAxPosPos a) = pos ∧ t.mem = d.mem
      ∧ ((t.axis a).fireNow = true ↔ sext 32 (d.fget (fAxCmpTarget a) + 4294967296 - pos) = 0)) ∧
    (x.sample = none → exec (.axisSampleRead a) s = .next s) ∧
    (∀ p f w, x.sample = some (p, f, w) → ∃ t, exec (.axisSampleRead a) s = .next (s.to t) ∧ t.fget (fAxSmpPosPos a) = p % 4294967296
      ∧ t.fget (fAxSmpTimeLoTime a) = w % 4294967296 ∧ t.fget (fAxSmpTimeHiTime a) = w / 4294967296 % 4294967296
      ∧ t.fget (fAxSmpFlagsValid a) = f % 2 ∧ t.regsOnly d) ∧
    exec (.axCmpTimeRead a) s = .next (s.to (d.fset (fAxCmpTimeHiTime a) (x.cmpTime / 4294967296))))

/-! ## Priming, errors, tests and commits -/

/-- From R489 to R498, R521, R524: the course of priming. It starts when PORST_L rises, unless a latched shutdown holds the islands in reset,
with BOOTS one above the highest recorded. A step's row acts only while that step runs. A step that fails shows STATE 3 and writes a sump
entry of class 0x0D: an essential one commits the record and ends the priming, any other is passed over and the next step starts. PM00
loads the first image that passes its checks, or enters recovery. The device primes again, three times at most. (BOOTS taken from record
and log is the model's choice.) (The model's choices that it meets are those of log entries 16, 93 and 94.) -/
def Obligations.PrimingFlow : Prop :=
  (∀ (s : State) (straps : BitVec 4),
    let d := s.dev
    let top := (d.nv.progRecs.map (·.boots)).foldl max 0
    let old := match newest d.nv.rrA d.nv.rrB with | some (_, r) => r.boots | none => 0
    ((d.prime.held = false ∨ d.thm.trip.isSome = true) → exec (.primingStart straps) s = .next s) ∧
    (d.prime.held = true → d.thm.trip = none → ∃ t, exec (.primingStart straps) s = .next (s.to t) ∧ t.prime.held = false ∧ t.prime.next = 0
      ∧ t.prime.boots = min 65535 (max old top + 1) ∧ t.fget fPrmStatBoots = min 65535 (max old top + 1) ∧ t.fget (fPrmStepState 0) = 1
      ∧ t.pins.porst = true ∧ t.pins.straps = straps.toNat ∧ t.mem = d.mem ∧ t.cores = d.cores)) ∧
  (∀ (s : State) (chans : List ChanProbe) (bad : List TUnit) (caps : List (Option Nat)) (ssds : List (Option SsdProbe)) (k : Nat)
      (how : StepEnd) (i : Instr),
    let d := s.dev
    i.endsStep chans bad caps ssds k how → chans.length = 24 → bad.all TUnit.ok = true → caps.length = 2 → ssds.length = 4 →
    (d.stepRuns k = false → exec i s = .next s) ∧
    (∀ c p, d.stepRuns k = true → how = .fail c p →
      (k ∈ [0, 2, 4, 5, 6, 11] → ∃ t, exec i s = .next (s.to t) ∧ t.fget (fPrmStepState k) = 3 ∧ t.prime.waitReset = true
        ∧ t.prime.waitSince = d.nowNs ∧ t.prime.next = k ∧ t.commitsRecord ∧ t.mem = d.mem
        ∧ (d.sump.hold = [] → ∃ e ∈ t.sump.hold, e.place = p ∧ e.cls = 13 ∧ e.detail = k ∧ e.sev = 3)) ∧
      (k ∈ [1, 3, 7, 9, 10, 12, 13, 14] → ∃ t, exec i s = .next (s.to t) ∧ t.stepEnds k 3
        ∧ (d.sump.hold = [] → ∃ e ∈ t.sump.hold, e.place = p ∧ e.cls = 13 ∧ e.detail = k ∧ e.sev = 2)))) ∧
  (∀ (s : State) (p : Place),
    let d := s.dev
    (d.stepRuns d.prime.next = false → exec (.primingStepTimeout p) s = .next s) ∧
    (d.stepRuns d.prime.next = true → d.prime.next ∈ [0, 2, 4, 5, 6, 11] → ∃ t, exec (.primingStepTimeout p) s = .next (s.to t)
      ∧ t.fget (fPrmStepState d.prime.next) = 3 ∧ t.prime.waitReset = true ∧ t.commitsRecord ∧ t.mem = d.mem)) ∧
  (∀ (s : State),
    let d := s.dev
    let img := d.fwSlot d.nv.commitB
    d.stepRuns 0 = true →
    (bit d.pins.straps 1 = true → ∃ t, exec (.pm00BootRom .pass) s = .next (s.to t) ∧ t.fget fPrmStatState = 3 ∧ t.prime.linkUp = true ∧ t.mem = d.mem) ∧
    (bit d.pins.straps 1 = false → d.checkImage img = .ok → ∃ t, exec (.pm00BootRom .pass) s = .next (s.to t) ∧ t.stepEnds 0 2
      ∧ t.nv.activeB = d.nv.commitB ∧ t.prime.bootMeas = Config.sha3_384 (imgBody img) ∧ t.mem = d.mem) ∧
    (bit d.pins.straps 1 = false → d.checkImage img ≠ .ok → d.checkImage (d.fwSlot (!d.nv.commitB)) ≠ .ok →
      ∃ t, exec (.pm00BootRom .pass) s = .next (s.to t) ∧ t.fget fPrmStatState = 3 ∧ t.prime.linkUp = true ∧ t.mem = d.mem)) ∧
  (∀ (s : State),
    let d := s.dev
    let done := d.nv.commits = [] ∨ (d.gateOpen = false ∧ d.prime.waitSince + 10000000000 ≤ d.nowNs)
    ((d.prime.waitReset = false ∨ ¬ done) → exec .reprime s = .next s) ∧
    (d.prime.waitReset = true → done →
      (3 ≤ d.fget fPrmStatReprime → ∃ t, exec .reprime s = .next (s.to t) ∧ t.fget fPrmStatState = 2 ∧ t.fget fPrmStatReprime = 4
        ∧ t.prime.waitReset = false ∧ t.mem = d.mem ∧ t.nv = d.nv) ∧
      (d.fget fPrmStatReprime < 3 → ∃ t, exec .reprime s = .next (s.to t) ∧ t.fget fPrmStatReprime = d.fget fPrmStatReprime + 1
        ∧ t.prime.next = 0 ∧ t.fget (fPrmStepState 0) = 1 ∧ t.fget fPrmStatState = 0 ∧ t.cores = {} ∧ t.mem.bytes = d.mem.bytes ∧ t.mem.maps = [])))

/-- From R172, R187, R190, R386, R395, R401, R493 to R501: the work of priming's steps. A step that passes has done it, shows STATE 2 and
starts the next one; the last puts the device in service with its events enabled. (What the operands of PM05 and PM07 to PM10 report is
the model's choice.) (The model's choices that it meets are those of log entries 95, 96, 97 and 98.) -/
def Obligations.PrimingWork : Prop :=
  (∀ (s : State),
    let d := s.dev
    (d.stepRuns 1 = true → ∃ t, exec (.pm01RetainedRecord .pass) s = .next (s.to t) ∧ t.stepEnds 1 2 ∧ t.sns.sets = d.prime.rr.calSets) ∧
    (d.stepRuns 2 = true → ∃ t, exec (.pm02ClocksIslands .pass) s = .next (s.to t) ∧ t.stepEnds 2 2
      ∧ (∀ n, 16 ≤ n → n < 40 → t.fget (fSysIslStatState n) = 0) ∧ (∀ r, r < 12 → t.fget (fPwrRailSet r) = railNominal r)
      ∧ t.power.fixed = (d.variant 2 == 1)) ∧
    (d.stepRuns 3 = true → ∃ t, exec (.pm03PcieEndpoint .pass) s = .next (s.to t) ∧ t.stepEnds 3 2 ∧ t.prime.linkUp = true ∧ t.mem = d.mem) ∧
    (∀ repairs : List (Fin 4 × Fin 64), d.stepRuns 4 = true → ∃ t, exec (.pm04DieLinks repairs .pass) s = .next (s.to t) ∧ t.stepEnds 4 2
      ∧ t.lanes.dieFails = [] ∧ t.lanes.dieDown = [] ∧ (d.variant 4 = 1 → t.prime.rr.dieRepair = d.prime.rr.dieRepair)
      ∧ (d.variant 4 ≠ 1 → t.prime.rr.dieRepair = (repairs.map (fun e => (e.1.val, e.2.val))).eraseDups)) ∧
    (d.stepRuns 6 = true → d.variant 6 ≠ 1 → ∃ t, exec (.pm06DramInit .pass) s = .next (s.to t) ∧ t.stepEnds 6 2 ∧ t.sump.inDram = true
      ∧ t.mem.bytes = d.mem.bytes.filter (fun e => cxlBase ≤ e.1)) ∧
    (d.stepRuns 11 = true → d.ev.enabled = false → ∃ t, exec (.pm11JournalClips .pass) s = .next (s.to t) ∧ t.stepEnds 11 2 ∧ t.fget fPrmStatQfReady = 1 ∧ t.mem = d.mem
      ∧ (newest d.nv.ckA d.nv.ckB = none → t.qf.jnl = [] ∧ t.qf.head = 2 ^ 63 + d.prime.boots * 2 ^ 40 ∧ t.qf.lost = true)
      ∧ (∀ g ck, newest d.nv.ckA d.nv.ckB = some (g, ck) → t.qf.head = roundUp ck.head (2 ^ 40) + 2 ^ 40 ∧ t.prime.ckptHead = ck.head)) ∧
    (d.stepRuns 12 = true → ∃ t, exec (.pm12NetworkSdiLanes .pass) s = .next (s.to t) ∧ t.stepEnds 12 2 ∧ t.mem = d.mem) ∧
    (d.stepRuns 13 = true → ∃ t, exec (.pm13TimePtp .pass) s = .next (s.to t) ∧ t.stepEnds 13 2 ∧ t.mem = d.mem
      ∧ t.fget fTimeCtlSrc = if d.variant 13 = 1 then 0 else d.fget fTimeCtlSrc) ∧
    (d.stepRuns 14 = true → d.prime.rr.startUp = none → ∃ t, exec (.pm14StartUpSet .pass) s = .next (s.to t) ∧ t.stepEnds 14 2 ∧ t.mem = d.mem
      ∧ t.sns = d.sns ∧ t.vid = d.vid) ∧
    (d.variant 15 = 0 → d.nv.commits.any (·.body.isRecord) = true → exec (.pm15Commit .pass) s = .next s) ∧
    (d.stepRuns 15 = true → (d.variant 15 ≠ 0 ∨ d.nv.commits.any (·.body.isRecord) = false) → d.prime.imageRollback ≤ d.fget fSecStatRollback →
      ∃ t, exec (.pm15Commit .pass) s = .next (s.to t) ∧ t.fget fPrmStatState = 1 ∧ t.fget (fPrmStepState 15) = 2 ∧ t.fget fPrmStatReprime = 0
        ∧ t.ev.enabled = true ∧ t.prime.next = 16 ∧ t.mem = d.mem)) ∧
  (∀ (s : State) (chans : List ChanProbe) (ty gib : Nat),
    let d := s.dev
    let usable := 24 * (8 * gib) * 31 / 32
    chans.length = 24 → 2 ≤ gib → gib ≤ 4 → d.stepRuns 5 = true →
    ((∀ x ∈ chans, x.dev = some (ty, gib) ∧ x.trained = true) → (∀ ch, ch < 24 → d.isRetired (dramPlace ch) = false) →
      ∃ t, exec (.pm05DramTraining chans .pass) s = .next (s.to t) ∧ t.stepEnds 5 2 ∧ (∀ ch, ch < 24 → t.fget (fMemChanStatCap ch) = 8 * gib)
        ∧ t.fget fMemCapUsable = usable ∧ t.fget fMemCapReserve = (usable + 22) / 23 ∧ t.fget fMemCapAlloc = usable - (usable + 22) / 23 - 8) ∧
    ((∃ x ∈ chans, ∃ y ∈ chans, ∃ a b, x.dev = some a ∧ y.dev = some b ∧ a ≠ b) →
      ∃ t, exec (.pm05DramTraining chans .pass) s = .next (s.to t) ∧ t.fget (fPrmStepState 5) = 3 ∧ t.prime.waitReset = true ∧ t.commitsRecord)) ∧
  (∀ (s : State) (bad : List TUnit),
    let d := s.dev
    bad.all TUnit.ok = true →
    (d.stepRuns 7 = true → ∃ t, exec (.pm07PixelDieTest bad .pass) s = .next (s.to t) ∧ t.stepEnds 7 2 ∧ t.mem = d.mem
      ∧ ∀ u ∈ bad, u ∈ pixelUnits → t.isRetired u.retirePlace = true) ∧
    (d.stepRuns 8 = true → d.prime.early = [] → ∃ t, exec (.pm08IoDieTest bad .pass) s = .next (s.to t) ∧ t.stepEnds 8 2 ∧ t.mem = d.mem
      ∧ ∀ u ∈ bad, u ∈ ioUnits → t.isRetired u.retirePlace = true)) ∧
  (∀ (s : State) (c0 c1 : Nat),
    let d := s.dev
    d.stepRuns 9 = true → d.variant 9 ≠ 2 →
    (32 ≤ c0 + c1 → ∃ t, exec (.pm09Cxl [some c0, some c1] .pass) s = .next (s.to t) ∧ t.stepEnds 9 2
      ∧ t.fget fCxlCapSize = min 16384 (c0 + c1) ∧ t.fget fCxlCapIlv = (c0 == c1).toNat) ∧
    (∃ t, exec (.pm09Cxl [none, none] .pass) s = .next (s.to t) ∧ t.stepEnds 9 2 ∧ t.fget fCxlCapSize = 0 ∧ t.fget (fPrmStepVariant 9) = 2
      ∧ t.qf.fallback = true)) ∧
  (∀ (s : State) (b : Nat),
    let d := s.dev
    let ssd := fun (badA badB : Bool) => some ({ bytes := b, badA := badA, badB := badB } : SsdProbe)
    d.stepRuns 10 = true → d.variant 10 ≠ 2 →
    (∃ t, exec (.pm10Nvme [ssd true true, ssd true true, ssd true true, ssd true true] .pass) s = .next (s.to t) ∧ t.stepEnds 10 2
      ∧ t.fget fStoStatState = 1 ∧ t.fget fStoStatNssd = 4 ∧ t.store.superOk = false) ∧
    (∀ x y : Super, d.store.superAt 0 0 = some x → d.store.superAt 0 1 = some y → x.nssd = 1 → y.nssd = 1 → x.gen < y.gen →
      (∃ t, exec (.pm10Nvme [ssd false false, none, none, none] .pass) s = .next (s.to t) ∧ t.stepEnds 10 2 ∧ t.store.superOk = true
        ∧ t.store.storeId = y.storeId ∧ t.store.hostNs = y.hostNs ∧ t.store.gen = y.gen) ∧
      (∃ t, exec (.pm10Nvme [ssd false true, none, none, none] .pass) s = .next (s.to t) ∧ t.stepEnds 10 2 ∧ t.store.superOk = true
        ∧ t.store.storeId = x.storeId ∧ t.store.hostNs = x.hostNs ∧ t.store.gen = x.gen)) ∧
    (∃ t, exec (.pm10Nvme [none, none, none, none] .pass) s = .next (s.to t) ∧ t.stepEnds 10 2 ∧ t.fget fStoStatState = 0))

/-- From R490, R492, R498, R503, R504, R506 to R511, R543: errors, tests and commits. An entry held for 1 ms takes the next SSEQ and lands;
one of severity 2 or 3 enters the record. A unit's first error is logged and starts its test, an error of a unit under test joins it, and
an uncorrected error of a unit without a test is fatal. A waiting test starts when it may. A test that passes returns the unit, one that
fails retires it. A commit erases the slot without the newer copy, writes it page by page, and makes it valid with its last page; the gate
holds it. The device runs on from its own oscillator when SYS_REFCLK fails, 10 s of which are fatal. (A failure of these inputs is logged
with severity 0: DEDUCED.) (The model's choices that it meets are those of log entries 86, 99, 103, 105 and 133.) -/
def Obligations.ErrorsTestsAndCommits : Prop :=
  (∀ (s : State),
    let d := s.dev
    (d.sump.hold = [] → d.sump.overflow = none → exec .sumpCommit s = .next s) ∧
    (∀ e rest, d.sump.hold = e :: rest → d.sump.overflow = none → d.nowNs < e.time + 1000000 → exec .sumpCommit s = .next s) ∧
    (∀ e rest, d.sump.hold = e :: rest → d.sump.overflow = none → e.time + 1000000 ≤ d.nowNs → ∃ t, exec .sumpCommit s = .next (s.to t)
      ∧ t.sump.hold = rest ∧ t.sump.next = d.sump.next + 1 ∧ t.sump.ring.getLast? = some { e with sseq := d.sseq d.sump.next }
      ∧ (2 ≤ e.sev → t.prime.rr.sumpTail.getLast? = some { e with sseq := d.sseq d.sump.next } ∧ t.prime.dirty = true)
      ∧ (e.sev < 2 → t.prime = d.prime) ∧ t.fget fPrmSumpHeadLoHead = d.sseq (d.sump.next + 1) % 4294967296 ∧ t.mem = d.mem ∧ t.cores = d.cores)) ∧
  (∀ (s : State) (u : TUnit) (part : Fin 64) (cls : Fin 4) (detail : Byte) (payload : List Byte),
    let d := s.dev
    let sev := if cls = 1 then 1 else 2
    ((u.ok = false ∨ cls = 0) → exec (.hardwareError u part cls detail payload) s = .fault .illFormed) ∧
    (u.ok = true → cls ≠ 0 →
      (u.tested = false → (∀ l n, u ≠ .dieLinkLane l n) →
        (cls = 1 → exec (.hardwareError u part cls detail payload) s = .next (s.to (d.sumpWrite u.place 1 detail.toNat 1 0 payload))) ∧
        (cls ≠ 1 → d.prime.waitReset = false → ∃ t, exec (.hardwareError u part cls detail payload) s = .next (s.to t) ∧ t.prime.waitReset = true
          ∧ t.commitsRecord ∧ (11 < d.prime.next → t.checkpoints) ∧ t.sump = (d.sumpWrite u.place cls detail.toNat 3 0 payload).sump
          ∧ t.mem = d.mem)) ∧
      (u.tested = true → pumpOfUnit u = none → d.priming = true → d.prime.next ≤ 8 → (∀ e ∈ d.prime.early, e.1 ≠ u) → d.underTest u = false →
        ∃ t, exec (.hardwareError u part cls detail payload) s = .next (s.to t) ∧ t.prime.early = d.prime.early ++ [(u, cls.val * 256 + detail.toNat)]
          ∧ t.sump = (d.sumpWrite u.place cls detail.toNat sev 0 payload).sump ∧ t.mem = d.mem) ∧
      (u.tested = true → pumpOfUnit u = none → d.priming = false → d.underTest u = true →
        exec (.hardwareError u part cls detail payload) s = .next (s.to ({ d with test := { d.test with
          running := d.test.running.map (Test.join u) } }.sumpWrite u.place cls detail.toNat sev 1 payload))) ∧
      (u.tested = true → pumpOfUnit u = none → d.priming = false → d.underTest u = false → (∀ x ∈ d.test.waiting, x.unit ≠ u) →
        d.passedLately u = false → d.isRetired u.retirePlace = false → d.testPossible u = true →
        (d.testMayStart u = true → ∃ t, exec (.hardwareError u part cls detail payload) s = .next (s.to t) ∧ t.underTest u = true
          ∧ t.test.waiting = d.test.waiting ∧ (d.sump.hold = [] → ∃ e ∈ t.sump.hold, e.place = u.place ∧ e.cls = cls ∧ e.detail = detail.toNat ∧ e.sev = sev)) ∧
        (d.testMayStart u = false → ∃ t, exec (.hardwareError u part cls detail payload) s = .next (s.to t) ∧ t.underTest u = false
          ∧ (∃ x, t.test.waiting = d.test.waiting ++ [x] ∧ x.unit = u ∧ x.cause = cls.val * 256 + detail.toNat)
          ∧ t.sump = (d.sumpWrite u.place cls detail.toNat sev 1 payload).sump ∧ t.mem = d.mem ∧ t.cores = d.cores)))) ∧
  (∀ (s : State),
    let d := s.dev
    ((∀ x ∈ d.test.waiting, d.testMayStart x.unit = false) → exec .selfTestDequeue s = .next s) ∧
    (∀ x, d.test.waiting = [x] → d.testMayStart x.unit = true → d.underTest x.unit = false → d.isRetired x.unit.retirePlace = false →
      d.testPossible x.unit = true → ∃ t, exec .selfTestDequeue s = .next (s.to t) ∧ t.test.waiting = [] ∧ t.underTest x.unit = true)) ∧
  (∀ (s : State) (u : TUnit) (pass : Bool),
    let d := s.dev
    u.ok = true →
    ((∀ x ∈ d.test.running, x.unit = u → x.begun = false) → exec (.selfTest u pass) s = .next s) ∧
    (∀ x, d.test.running = [x] → x.unit = u → x.begun = true →
      (d.test.passes = [] → ∃ t, exec (.selfTest u true) s = .next (s.to t) ∧ t.test.running = [] ∧ t.test.passes = [(u, d.nowNs)]
        ∧ d.ev.next < t.ev.next ∧ (∀ w k, u = .cacheWay w k → (t.well w).waysOff = (d.well w).waysOff.filter (· != k))
        ∧ (∀ w n, u = .siphon w n → (t.well w).siphonOff = (d.well w).siphonOff.filter (· != n))
        ∧ (∀ w b, u = .cistern w b → (t.well w).emptyBank = b)) ∧
      ((∀ ch b r, u ≠ .dramRow ch b r) → ∃ t, exec (.selfTest u false) s = .next (s.to t) ∧ t.test.running = [] ∧ t.isRetired u.retirePlace = true) ∧
      (∀ ch b r, u = .dramRow ch b r → d.prime.rr.softRows = [] → ∃ t, exec (.selfTest u false) s = .next (s.to t)
        ∧ t.test.running = [] ∧ t.prime.rr.softRows = [(ch, b, r)] ∧ t.commitsRecord ∧ t.mem.bytes = d.mem.bytes))) ∧
  (∀ (s : State),
    let d := s.dev
    (d.prime.dirty = false → exec .retainedRecordCommit s = .next s) ∧
    (d.prime.dirty = true → ∃ t, exec .retainedRecordCommit s = .next (s.to t) ∧ t.commitsRecord ∧ t.prime.dirty = false
      ∧ t.mem = d.mem ∧ t.cores = d.cores) ∧
    ((d.nv.commits = [] ∨ d.gateOpen = false) → exec .pageProgramDone s = .next s) ∧
    (∀ c rest, d.nv.commits = c :: rest → d.gateOpen = true →
      (c.erased = false → ∃ t, exec .pageProgramDone s = .next (s.to t) ∧ t.nv = { d.nv.invalidate c with commits := { c with erased := true, body := d.programmed c.body } :: rest }
        ∧ t.mem = d.mem) ∧
      (c.erased = true → 1 < c.pagesLeft → exec .pageProgramDone s = .next (s.to { d with nv := { d.nv with
        commits := { c with pagesLeft := c.pagesLeft - 1 } :: rest } })) ∧
      (c.erased = true → c.pagesLeft ≤ 1 → d.qf.lifecycle = none → ∃ t, exec .pageProgramDone s = .next (s.to t)
        ∧ t.nv = { d.nv.land c with commits := rest } ∧ t.mem = d.mem ∧ (∀ k, c.body = .checkpoint k → t.prime.ckptHead = k.head))) ∧
    (∀ (n : Nv) r ga a gb b, n.rrA = some (ga, a) → n.rrB = some (gb, b) → (n.newCommit (.record r)).gen = max ga gb + 1
      ∧ (n.newCommit (.record r)).slotB = decide (gb ≤ ga))) ∧
  (∀ (s : State) (ppm : Option Int),
    let d := s.dev
    (∀ v, ppm = some v → -5000 ≤ v → v ≤ 5000 → exec (.sysRefclkWindow ppm) s = .next (s.to { d with power := { d.power with sysRef := none } })) ∧
    ((∀ v, ppm = some v → v < -5000 ∨ 5000 < v) →
      (d.power.sysRef.isSome = true → exec (.sysRefclkWindow ppm) s = .next s) ∧
      (d.power.sysRef = none → ∃ t, exec (.sysRefclkWindow ppm) s = .next (s.to t) ∧ t.power.sysRef = some d.nowNs ∧ t.regs = d.regs
        ∧ (d.sump.hold = [] → ∃ e, t.sump.hold = [e] ∧ e.cls = 10 ∧ e.detail = 10))) ∧
    ((∀ t0, d.power.sysRef = some t0 → d.nowNs < t0 + 10000000000) → exec .sysRefclkFatal s = .next s) ∧
    (∀ t0, d.power.sysRef = some t0 → t0 + 10000000000 ≤ d.nowNs → d.prime.waitReset = false → ∃ t, exec .sysRefclkFatal s = .next (s.to t)
      ∧ t.prime.waitReset = true ∧ t.commitsRecord ∧ t.mem = d.mem)) ∧
  (∀ (s : State) (seq : Nat) (c : Ctx) (r : JRec),
    let d := s.dev
    (tget d.qf.ctxs seq = none → exec (.dataTransferTimeout seq) s = .next s) ∧
    (tget d.qf.ctxs seq = some c → d.jrec seq = some r → r.st = .accepted → c.sqe.opc.toNat % 4 ≠ 0 →
      ∃ t, exec (.dataTransferTimeout seq) s = .next (s.to t) ∧ t.doneAs seq 0 4 0 ∧ t.mem = d.mem ∧ t.cores = d.cores) ∧
    (tget d.qf.ctxs seq = some c → d.jrec seq = some r → (r.st ≠ .accepted ∨ c.sqe.opc.toNat % 4 = 0) → exec (.dataTransferTimeout seq) s = .next s))

/-! ## Security, thermal management, supplies and pins -/

/-- From R519, R524 to R529, R544: identity, keys, lifecycle and recovery. ATTEST signs the report body over the nonce, and not in RETURNED;
READ IDENTITY returns the certificate. A key block is checked in full before it enters or empties a slot. SET LIFECYCLE moves only
forward, empties the key slots, and completes after the record's commit. In recovery, an image under the key value that verifies is
written to both slots and the device primes again. (That recovery writes both slots is the model's choice.) (The model's choices that it
meets are those of log entries 5, 100 and 101.) -/
def Obligations.IdentityKeysAndRecovery : Prop :=
  (∀ (s : State) (seq : Nat) (c : Ctx),
    let d := s.dev
    let b := c.data
    let lc := d.fget fSecStatLc
    let body := d.attestBody seq b
    (d.ready seq true 0xE1 = some c →
      (b.length ≠ 32 → exec (.attest seq) s = .next (s.to (d.fail seq stBadParam))) ∧
      (b.length = 32 → lc = 3 → exec (.attest seq) s = .next (s.to (d.fail seq stNotPermitted))) ∧
      (b.length = 32 → lc ≠ 3 → ∃ t, exec (.attest seq) s = .next (s.to t) ∧ t.endsAs d seq 0 0 3840
        ∧ (d.posts c → c.sqe.mptr ≠ 0 → ∃ p ∈ t.qf.posted, p.seq = seq ∧ p.list = (body ++ dkBlock attestContext body).take 4096))) ∧
    (d.ready seq true 0xE2 = some c → ∃ t, exec (.readIdentity seq) s = .next (s.to t) ∧ t.endsAs d seq 0 0 5344
      ∧ (d.posts c → t.returns seq deviceCertificate)) ∧
    (∀ e, d.keyBlockError b = some e →
      (d.ready seq true 0xE5 = some c → exec (.enrollKey seq) s = .next (s.to (d.fail seq e))) ∧
      (d.ready seq true 0xE9 = some c → exec (.revokeKey seq) s = .next (s.to (d.fail seq e)))) ∧
    (d.ready seq true 0xE5 = some c → d.keyBlockError b = none →
      ((tget d.nv.keys (blkSlot b)).isSome = true → exec (.enrollKey seq) s = .next (s.to (d.fail seq stBusy))) ∧
      (tget d.nv.keys (blkSlot b) = none → d.gateOpen = false → exec (.enrollKey seq) s = .next (s.to (d.gateRefuse.fail seq stBusy))) ∧
      (tget d.nv.keys (blkSlot b) = none → d.gateOpen = true → ∃ t, exec (.enrollKey seq) s = .next (s.to t)
        ∧ t.endsAs { d.acceptSerial b with nv := { (d.acceptSerial b).nv with keys := tput d.nv.keys (blkSlot b) (blkKey b) } } seq 0 0 (blkSlot b))) ∧
    (d.ready seq true 0xE9 = some c → d.keyBlockError b = none →
      ((∀ e ∈ d.nv.keys, e.2 ≠ blkKey b) → exec (.revokeKey seq) s = .next (s.to (d.fail seq stBadParam))) ∧
      (∀ k, d.nv.keys = [(k, blkKey b)] → k < 16 → d.gateOpen = true → ∃ t, exec (.revokeKey seq) s = .next (s.to t)
        ∧ t.endsAs { d.acceptSerial b with nv := { (d.acceptSerial b).nv with keys := [] } } seq 0 0 k)) ∧
    (d.ready seq true 0xED = some c →
      (blkForm b = false → exec (.setLifecycle seq) s = .next (s.to (d.fail seq stBadParam))) ∧
      (blkForm b = true → blkSlot b = 0 → blkPurpose b = 0x11 → lc ≠ 2 → exec (.setLifecycle seq) s = .next (s.to (d.fail seq stNotPermitted))) ∧
      (blkForm b = true → blkSlot b = 0 → blkPurpose b = 0x10 → lc ≠ 1 → exec (.setLifecycle seq) s = .next (s.to (d.fail seq stNotPermitted))) ∧
      (blkForm b = true → blkSlot b = 0 → blkPurpose b = 0x10 → lc = 1 → blkUid b = uidBytes → d.nv.serial < blkSerial b →
        (blkVerify (blkKey b) b = false → exec (.setLifecycle seq) s = .next (s.to (d.fail seq stSignature))) ∧
        (blkVerify (blkKey b) b = true → fusable d.nv.ownerHash (Config.sha3_384 (blkKey b)) = true →
          (d.anyRuns = true → exec (.setLifecycle seq) s = .next (s.to (d.fail seq stBusy))) ∧
          (d.anyRuns = false → d.qf.lifecycle = none → d.fuseOk = true → ∃ t, exec (.setLifecycle seq) s = .next (s.to t)
            ∧ t.fget fSecStatLc = 2 ∧ t.nv.ownerHash = Config.sha3_384 (blkKey b) ∧ t.nv.keys = [] ∧ t.nv.serial = blkSerial b
            ∧ t.qf.lifecycle = some seq ∧ tget t.qf.ctxs seq = some c ∧ t.commitsRecord ∧ t.mem = d.mem))) ∧
      (blkForm b = true → blkSlot b = 0 → blkPurpose b = 0x11 → lc = 2 → blkUid b = uidBytes → d.nv.serial < blkSerial b →
        blkVerify d.nv.ownerKey b = true → d.anyRuns = false → d.qf.lifecycle = none → d.fuseOk = true →
        ∃ t, exec (.setLifecycle seq) s = .next (s.to t) ∧ t.fget fSecStatLc = 3 ∧ t.nv.keys = [] ∧ t.nv.ownerHash = d.nv.ownerHash
          ∧ t.qf.lifecycle = some seq ∧ t.commitsRecord ∧ t.mem = d.mem))) ∧
  (∀ (s : State) (key : Byte) (len : BitVec 21),
    let d := s.dev
    let n := len.toNat
    let img := (List.range n).map (fun k => d.prime.rcvBuf.getD k 0)
    ((d.fget fPrmStatState ≠ 3 ∨ key ≠ 0xC3) → exec (.recoveryGo key len) s = .next s) ∧
    (d.fget fPrmStatState = 3 → key = 0xC3 →
      ((n = 0 ∨ 1048576 < n) → exec (.recoveryGo key len) s = .next (s.to (d.fset fSysRcvStatStatus 3))) ∧
      (0 < n → n ≤ 1048576 →
        (d.checkImage img ≠ .ok → exec (.recoveryGo key len) s = .next (s.to (d.fset fSysRcvStatStatus (rcvCode (d.checkImage img))))) ∧
        (d.checkImage img = .ok → d.gateOpen = false → exec (.recoveryGo key len) s = .next (s.to (d.gateRefuse.fset fSysRcvStatStatus 7))) ∧
        (d.checkImage img = .ok → d.gateOpen = true → ∃ t, exec (.recoveryGo key len) s = .next (s.to t) ∧ t.nv.fwA = img ∧ t.nv.fwB = img
          ∧ t.prime.next = 0 ∧ t.fget (fPrmStepState 0) = 1 ∧ t.fget fPrmStatState = 0 ∧ t.cores = {} ∧ t.mem.bytes = d.mem.bytes))))

/-- From R535, R536, R538, R540 to R542: thermal management. A sample shows accepted readings, moves each sensor's level, and opens and closes
the write gate with its hysteresis; a reading of 140 °C latches a shutdown, after which only the readings follow. The rise rule compares a
reading with that of 250 ms before. A level takes the written values, clipped. (The model's choices that it meets are those of log entry
104.) -/
def Obligations.ThermalManagement : Prop :=
  (∀ (s : State) (raw : List (Option Int)),
    let d := s.dev
    (raw.length ≠ 28 → exec (.thermalSample raw) s = .fault .illFormed) ∧
    (raw.length = 28 → d.thm.trip.isSome = true → ∃ t, exec (.thermalSample raw) s = .next (s.to t) ∧ t.thm.trip = d.thm.trip
      ∧ t.cores = d.cores ∧ t.mem = d.mem ∧ t.nv = d.nv) ∧
    (∀ n v r, raw.length = 28 → d.thm.trip = none → d.sns.cals = [] → n < 28 → raw[n]? = some (some v) → 560 ≤ v → v ≤ 640 →
      d.flag (fThmSensFault n) = false → (d.sensor n).reading = some r → (v - r).natAbs ≤ 40 → ∃ t, exec (.thermalSample raw) s = .next (s.to t)
        ∧ (∃ m x, t.thm.trip = some (1, m, x) ∧ 560 ≤ x) ∧ t.cores = {} ∧ t.mem.bytes = d.mem.bytes ∧ t.pins.gpioSrc = []
        ∧ t.thermTripLow = true ∧ t.ddrResetLow = true ∧ t.cxlPerstLow = true ∧ t.nvmePerstLow = true) ∧
    (∀ v : Nat → Int, raw.length = 28 → d.thm.trip = none → d.sns.cals = [] → (∀ n, n < 28 → d.flag (fThmSensFault n) = false
        ∧ raw[n]? = some (some (v n)) ∧ -240 ≤ v n ∧ v n < 560 ∧ ∀ r, (d.sensor n).reading = some r → (v n - r).natAbs ≤ 40) →
      ∃ t, exec (.thermalSample raw) s = .next (s.to t) ∧ t.thm.trip = none ∧ t.thm.sampled = true ∧ t.mem = d.mem ∧ t.cores = d.cores
        ∧ (∀ n, n < 28 → t.fget (fThmSensTemp n) = trunc 12 (v n) ∧ (t.sensor n).reading = some (v n)
            ∧ t.fget (fThmSensLevel n) = d.nextLevel (v n) (d.fget (fThmSensLevel n)) (d.nowNs - (d.sensor n).levelAt))
        ∧ ((∃ n, n < 28 ∧ 460 < v n) → t.gateOpen = false) ∧ ((∀ n, n < 28 → v n < -160) → t.gateOpen = false)
        ∧ ((∀ n, n < 28 → v n ≤ 452) → (∃ n, n < 28 ∧ -152 ≤ v n) → t.gateOpen = true)
        ∧ (d.thm.sampled = true → d.gateOpen = false → (∃ n, n < 28 ∧ 452 < v n) → t.gateOpen = false)
        ∧ (d.thm.sampled = true → d.gateOpen = true → (∀ n, n < 28 → v n ≤ 460) → (∃ n, n < 28 ∧ -160 ≤ v n) → t.gateOpen = true))) ∧
  (∀ (s : State),
    let d := s.dev
    (d.thm.trip.isSome = true → exec .thermalRiseCheck s = .next s) ∧
    (d.thm.trip = none → ∃ t, exec .thermalRiseCheck s = .next (s.to t) ∧ t.mem.bytes = d.mem.bytes) ∧
    (∀ n r r0, d.thm.trip = none → n < 28 → d.flag (fThmSensFault n) = false → (d.sensor n).reading = some r →
      pastReading (d.sensor n).hist d.nowNs = some r0 → (∀ m, m < 28 → m ≠ n → (d.sensor m).reading = none) →
      (460 < r → 25 < r - r0 → ∃ t, exec .thermalRiseCheck s = .next (s.to t) ∧ t.thm.trip = some (2, n, r) ∧ t.cores = {} ∧ t.mem.bytes = d.mem.bytes) ∧
      ((r ≤ 460 ∨ r - r0 ≤ 25) → d.flag (fThmSensRise n) = false → (d.riseLimit : Int) < r - r0 → 4 * (d.riseFloor : Int) < r →
        ∃ t, exec .thermalRiseCheck s = .next (s.to t) ∧ t.flag (fThmSensRise n) = true ∧ t.ev.next = d.ev.next + 1 ∧ t.thm.trip = none
          ∧ t.cores = d.cores ∧ t.mem = d.mem) ∧
      (r ≤ 460 → d.flag (fThmSensRise n) = true → r - r0 ≤ (d.riseLimit : Int) → ∃ t, exec .thermalRiseCheck s = .next (s.to t)
        ∧ t.flag (fThmSensRise n) = false ∧ t.ev = d.ev ∧ t.mem = d.mem))) ∧
  (∀ (s : State) (k : Fin 4) (v : Word32), ∃ t, exec (.thmLevelWrite k v) s = .next (s.to t)
    ∧ t.fget (fThmLevelEn k) = bits v.toNat 31 31 ∧ t.fget (fThmLevelAct k) = bits v.toNat 27 24
    ∧ t.fget (fThmLevelHyst k) = min 20 (bits v.toNat 23 16) ∧ t.fget (fThmLevelTemp k) = max 60 (min 135 (bits v.toNat 7 0))
    ∧ (∀ j, j < 4 → j ≠ k.val → t.fget (fThmLevelTemp j) = s.dev.fget (fThmLevelTemp j) ∧ t.fget (fThmLevelEn j) = s.dev.fget (fThmLevelEn j))
    ∧ t.mem = s.dev.mem ∧ t.cores = s.dev.cores) ∧
  (∀ (s : State), ∃ t, exec .shutdownLatchClear s = .next (s.to t) ∧ t.thm = {} ∧ t.nv = s.dev.nv.cutOff s.dev.commitStarted
    ∧ t.mem.bytes = s.dev.mem.bytes ∧ t.cores = {} ∧ t.pins.porst = false)

/-- From R34, R546, R548, R550, R551, R555, R556: supplies, resets, SMBus and JTAG. Four samples in a row outside 5 % make a rail faulty, ten
below 85 % act as PORST_L, a missing sample faults its monitor. A core rail within 3 % again lets its die's wells leave ÷2. PORST_L resets
everything but the latched shutdown, fuses and boot flash; the fall of PERST_L acts as an endpoint link-down, and its rise brings the link
up. SMBus code 0 returns the eight status bytes. JTAG moves the TAP through its states and reaches nothing else. (The TAP's content is the
model's, PRESUMED from IEEE 1149.1.) (The model's choices that it meets are those of log entries 87 and 106.) -/
def Obligations.SuppliesAndPins : Prop :=
  (∀ (s : State) (r : Fin 12) (mv : Option Nat),
    let d := s.dev
    let st := d.fget (fPwrRailState r)
    let set := d.railSet r
    (d.thm.trip.isSome = true → exec (.railSample r mv) s = .next s) ∧
    (d.thm.trip = none →
      (mv = none → st = 3 → exec (.railSample r mv) s = .next s) ∧
      (mv = none → st ≠ 3 → ∃ t, exec (.railSample r mv) s = .next (s.to t) ∧ t.fget (fPwrRailState r) = 3 ∧ t.ev.next = d.ev.next + 1
        ∧ t.mem = d.mem ∧ t.cores = d.cores) ∧
      (∀ v, mv = some v → v < 8192 →
        (95 * set ≤ 100 * v → 100 * v ≤ 105 * set → 3 ≤ r.val → ∃ t, exec (.railSample r mv) s = .next (s.to t) ∧ t.fget (fPwrRailMeas r) = v
          ∧ (st ≠ 2 → t.fget (fPwrRailState r) = 0) ∧ t.ev = d.ev ∧ t.sump = d.sump ∧ t.mem = d.mem) ∧
        (105 * set < 100 * v → 3 ≤ r.val → tgetD d.power.outRun r 0 = 3 → st = 0 → ∃ t, exec (.railSample r mv) s = .next (s.to t)
          ∧ t.fget (fPwrRailState r) = 1 ∧ t.ev.next = d.ev.next + 1 ∧ t.mem = d.mem) ∧
        (100 * v < 95 * set → 85 * set ≤ 100 * v → r.val < 2 → tgetD d.power.outRun r 0 = 3 → st = 0 → ∃ t, exec (.railSample r mv) s = .next (s.to t)
          ∧ t.fget (fPwrRailState r) = 2 ∧ r.val ∈ t.thm.coreLow ∧ t.mem = d.mem) ∧
        (100 * v < 85 * set → tgetD d.power.brownRun r 0 = 9 → ∃ t, exec (.railSample r mv) s = .next (s.to t) ∧ t.pins.porst = false ∧ t.cores = {}
          ∧ t.nv = d.nv.cutOff d.commitStarted ∧ t.mem.bytes = d.mem.bytes)))) ∧
  (∀ (s : State) (r : Fin 2),
    let d := s.dev
    let v := d.fget (fPwrRailMeas r)
    let set := d.railSet r
    let ok := d.fget (fPwrRailState r) = 2 ∧ 97 * set ≤ 100 * v ∧ 100 * v ≤ 103 * set
    (¬ ok → exec (.coreRailRecovered r) s = .next s) ∧
    (ok → ∃ t, exec (.coreRailRecovered r) s = .next (s.to t) ∧ t.fget (fPwrRailState r) = 0 ∧ t.thm.coreLow = d.thm.coreLow.filter (· != r.val)
      ∧ t.mem = d.mem ∧ t.cores = d.cores ∧ t.ev = d.ev)) ∧
  (∀ (s : State) (r : Fin 3) (mv : Nat),
    let d := s.dev
    (d.power.fixed = true → ∀ vmv, exec (.avsSetpointDone r mv vmv) s = .next s) ∧
    (d.power.fixed = false → 2 < d.prime.next → mv % 5 = 0 → 650 ≤ mv → mv ≤ 850 →
      ((railIslands r).foldl (fun (d : Dev) n => d.fset (fSysIslStatVmv n) mv) d).islandsClose = true →
      ∃ t, exec (.avsSetpointDone r mv ((railIslands r).map (fun n => (n, mv)))) s = .next (s.to t) ∧ t.fget (fPwrRailSet r) = mv
        ∧ (∀ n ∈ railIslands r, t.fget (fSysIslStatVmv n) = mv) ∧ t.regsOnly d)) ∧
  (∀ (s : State),
    let d := s.dev
    (∃ t, exec .porstLFall s = .next (s.to t) ∧ t.pins.porst = false ∧ t.ddrResetLow = true ∧ t.cxlPerstLow = true ∧ t.nvmePerstLow = true ∧ t.thm.trip = d.thm.trip ∧ t.nv = d.nv.cutOff d.commitStarted
      ∧ t.cores = {} ∧ t.prime = {} ∧ t.qf = {} ∧ t.mem.bytes = d.mem.bytes) ∧
    (∃ t, exec .pwrgdFall s = .next (s.to t) ∧ t.pins.porst = false ∧ t.pins.pwrgd = false ∧ t.thm.trip = d.thm.trip
      ∧ t.nv = d.nv.cutOff d.commitStarted ∧ t.cores = {} ∧ t.mem.bytes = d.mem.bytes) ∧
    (let k := d.ctrlReset
     let down : Dev := { k with
       prime := { k.prime with linkUp := false }, qf := { k.qf with cc := 0, aqa := 0, asq := 0, acq := 0 } }
     exec .endpointLinkDown s = .next (s.to down) ∧
     exec .perstLFall s = .next (s.to { down with pins := { down.pins with perst := false } })) ∧
    exec .perstLRise s = .next (s.to { d with
      pins := { d.pins with perst := true }, prime := { d.prime with linkUp := 3 < d.prime.next || d.prime.linkUp } }) ∧
    exec (.smbusRead 0) s = .next (s.to { d with pins := { d.pins with
      smb := le 2 (d.fget fThmMaxTemp) ++ le 1 (d.fget fPrmStatState) ++ d.tripBytes ++ zeros 1 } }) ∧
    (∀ code : Byte, code ≠ 0 → exec (.smbusRead code) s = .next (s.to { d with pins := { d.pins with smb := zeros 8 } })) ∧
    (d.thm.trip = none → d.tripBytes = [0, 255, 0, 0]) ∧
    (∀ e : JtagEdge, ∃ t, exec (.boundaryScan e) s = .next (s.to t) ∧ t = { d with pins := t.pins } ∧ t.pins.smb = d.pins.smb
      ∧ t.pins.straps = d.pins.straps
      ∧ (e.trst = false → t.pins.tap = 0 ∧ t.pins.tapIr = [])
      ∧ (e.trst = true → e.tck = true → d.pins.tck = false → t.pins.tap = tapNext d.pins.tap e.tms)
      ∧ (e.trst = true → e.tck = d.pins.tck → t = d)
      ∧ (e.trst = true → e.tck = false → d.pins.tck = true → t.pins.tap = d.pins.tap ∧ t.pins.tdo = (d.pins.tapShift.head?).getD false)))

/-! ## The whole machine -/

/-- Every command whose operands name units of the device completes: it answers a next state and leaves the waiting commands. One whose
operands do not is a fault. So a queue of well-formed commands is worked off to its end, one command a step, without a fault or a refusal.
(The model's choices that it meets are those of log entries 7, 15 and 22.) -/
def Obligations.QueueDrains : Prop :=
  (∀ (c : Instr) (s : State),
    (c.wf = true → ∃ t, exec c s = .next t ∧ t.pending = s.pending) ∧ (c.wf = false → exec c s = .fault .illFormed)) ∧
  (∀ (s : State), s.queueOk = true →
    (∃ t, step s = .next t ∧ t.queueOk = true ∧ t.pending = s.pending.tail) ∧
    ∀ n, s.pending.length ≤ n → ∃ t, Sys2Proof.core.run n s = .next t ∧ t.pending = [])

/-- Every step keeps the canonical form of local and CXL memory: addresses strictly rising, and no byte listed that reads as an unlisted one
does. (The model's choices that it meets are those of log entry 2.) -/
def Obligations.MemoryFormKept : Prop :=
  ∀ (s t : State), Memory.wf s.dev.mem.bytes = true → step s = .next t → Memory.wf t.dev.mem.bytes = true

/-- The machine right after reset: no command waits, every byte memory is in canonical form and lists nothing, and the registers that the spec
gives reset values hold them: SYS_ID, the thermal levels of Table ET-2, the write gate closed, priming not begun. (The model's choices
that it meets are those of log entries 2, 3, 4 and 13.) -/
def Obligations.ResetState : Prop :=
  let d := State.reset.dev
  State.reset.pending = [] ∧ State.reset.queueOk = true ∧ d.memOk = true ∧ d.mem.bytes = [] ∧ d.regs = []
    ∧ (∀ f : Fld, d.fget f = f.rst) ∧ d.fget fSysIdPart = 0x9680 ∧ d.fget fPrmStatState = 0 ∧ d.prime.held = true ∧ d.gateOpen = false
    ∧ (∀ k, k < 4 → d.fget (fThmLevelTemp k) = 108 + 4 * k) ∧ d.thm.trip = none ∧ d.qf.en = false
end

