-- ==== Sys2Proof/Laws/Memory.lean ====
section
/-!
SUPPORT. The byte memories: read after write, and that every operation keeps the canonical form.
-/
set_option autoImplicit false

namespace Sys2Proof.Machine

variable {α : Type}

/-! ## Tables -/

theorem tget_tput (t : Tab α) (i j : Nat) (v : α) : tget (tput t i v) j = if j = i then some v else tget t j := by
  induction t with
  | nil => simp [tput, tget]
  | cons e t ih =>
    obtain ⟨k, w⟩ := e
    simp only [tput]
    split
    · simp [tget]
    · split
      · subst_vars; simp only [tget]; split <;> rfl
      · simp only [tget, ih]
        by_cases hj : j = k
        · subst hj; simp; omega
        · simp [hj]

@[simp] theorem tget_tput_same (t : Tab α) (i : Nat) (v : α) : tget (tput t i v) i = some v := by simp [tget_tput]

theorem tget_tput_ne (t : Tab α) {i j : Nat} (v : α) (h : j ≠ i) : tget (tput t i v) j = tget t j := by
  simp [tget_tput, h]

theorem tget_terase (t : Tab α) (i j : Nat) : tget (terase t i) j = if j = i then none else tget t j := by
  induction t with
  | nil => simp [terase, tget]
  | cons e t ih =>
    obtain ⟨k, w⟩ := e
    simp only [terase]
    split
    · subst_vars
      rw [ih]
      by_cases hj : j = k
      · simp [hj]
      · simp [tget, hj]
    · simp only [tget, ih]
      by_cases hj : j = k
      · subst hj; simp; omega
      · simp [hj]

theorem tgetD_tputD [DecidableEq α] (t : Tab α) (i j : Nat) (v d : α) :
    tgetD (tputD t i v d) j d = if j = i then v else tgetD t j d := by
  unfold tgetD tputD
  split
  · subst_vars; rw [tget_terase]; split <;> simp_all
  · rw [tget_tput]; split <;> simp_all

/-! ## Order of the keys -/

theorem tsorted_tail {k : Nat} {v : α} {t : Tab α} (h : tsorted ((k, v) :: t) = true) : tsorted t = true := by
  cases t with
  | nil => rfl
  | cons e t => obtain ⟨k', v'⟩ := e; simp [tsorted] at h; exact h.2

theorem tsorted_lt {k : Nat} {v : α} {t : Tab α} (h : tsorted ((k, v) :: t) = true) : ∀ e ∈ t, k < e.1 := by
  induction t generalizing k v with
  | nil => simp
  | cons e t ih =>
    obtain ⟨k', v'⟩ := e
    simp only [tsorted, Bool.and_eq_true, decide_eq_true_eq] at h
    intro e he
    rcases List.mem_cons.1 he with rfl | he
    · exact h.1
    · exact Nat.lt_trans h.1 (ih h.2 e he)

theorem tsorted_cons {k : Nat} {v : α} {t : Tab α} (h : tsorted t = true) (hk : ∀ e ∈ t, k < e.1) :
    tsorted ((k, v) :: t) = true := by
  cases t with
  | nil => rfl
  | cons e t => simp only [tsorted, Bool.and_eq_true, decide_eq_true_eq]; exact ⟨hk e (by simp), h⟩

theorem mem_tput {t : Tab α} {i : Nat} {v : α} {e : Nat × α} (h : e ∈ tput t i v) : e = (i, v) ∨ e ∈ t := by
  induction t with
  | nil => simp [tput] at h; exact .inl h
  | cons x t ih =>
    obtain ⟨k, w⟩ := x
    simp only [tput] at h
    split at h
    · simpa using h
    · split at h
      · rcases List.mem_cons.1 h with h | h
        · exact .inl h
        · exact .inr (List.mem_cons_of_mem _ h)
      · rcases List.mem_cons.1 h with h | h
        · exact .inr (by simp [h])
        · rcases ih h with h | h
          · exact .inl h
          · exact .inr (List.mem_cons_of_mem _ h)

theorem mem_terase {t : Tab α} {i : Nat} {e : Nat × α} (h : e ∈ terase t i) : e ∈ t := by
  induction t with
  | nil => simp [terase] at h
  | cons x t ih =>
    obtain ⟨k, w⟩ := x
    simp only [terase] at h
    split at h
    · exact List.mem_cons_of_mem _ (ih h)
    · rcases List.mem_cons.1 h with h | h
      · simp [h]
      · exact List.mem_cons_of_mem _ (ih h)

theorem tsorted_tput {t : Tab α} (i : Nat) (v : α) (h : tsorted t = true) : tsorted (tput t i v) = true := by
  induction t with
  | nil => rfl
  | cons x t ih =>
    obtain ⟨k, w⟩ := x
    simp only [tput]
    split
    · exact tsorted_cons h (fun e he => by
        rcases List.mem_cons.1 he with rfl | he
        · assumption
        · exact Nat.lt_trans ‹_› (tsorted_lt h e he))
    · split
      · subst_vars; exact tsorted_cons (tsorted_tail h) (tsorted_lt h)
      · refine tsorted_cons (ih (tsorted_tail h)) (fun e he => ?_)
        rcases mem_tput he with rfl | he
        · show k < i; omega
        · exact tsorted_lt h e he

theorem tsorted_terase {t : Tab α} (i : Nat) (h : tsorted t = true) : tsorted (terase t i) = true := by
  induction t with
  | nil => rfl
  | cons x t ih =>
    obtain ⟨k, w⟩ := x
    simp only [terase]
    split
    · exact ih (tsorted_tail h)
    · exact tsorted_cons (ih (tsorted_tail h)) (fun e he => tsorted_lt h e (mem_terase he))

theorem tsorted_filter {t : Tab α} (p : Nat × α → Bool) (h : tsorted t = true) : tsorted (t.filter p) = true := by
  induction t with
  | nil => rfl
  | cons x t ih =>
    obtain ⟨k, w⟩ := x
    simp only [List.filter_cons]
    split
    · exact tsorted_cons (ih (tsorted_tail h)) (fun e he => tsorted_lt h e ((List.mem_filter.1 he).1))
    · exact ih (tsorted_tail h)

/-! ## Byte memories -/

theorem mget_mput (m : List Host.Cell) (a b : Nat) (v : Byte) : mget (mput m a v) b = if b = a then v else mget m b :=
  tgetD_tputD m a b v 0

@[simp] theorem mget_mput_same (m : List Host.Cell) (a : Nat) (v : Byte) : mget (mput m a v) a = v := by simp [mget_mput]

theorem mput_wf (m : List Host.Cell) (a : Nat) (v : Byte) (h : Memory.wf m = true) : Memory.wf (mput m a v) = true := by
  simp only [Memory.wf, Bool.and_eq_true, List.all_eq_true] at h ⊢
  unfold mput tputD
  split
  · exact ⟨tsorted_terase a h.1, fun e he => h.2 e (mem_terase he)⟩
  · refine ⟨tsorted_tput a v h.1, fun e he => ?_⟩
    rcases mem_tput he with rfl | he
    · simpa using ‹¬ v = 0›
    · exact h.2 e he

theorem mwrite_wf (bs : List Byte) (m : List Host.Cell) (a : Nat) (h : Memory.wf m = true) : Memory.wf (mwrite m a bs) = true := by
  induction bs generalizing m a with
  | nil => exact h
  | cons b bs ih => exact ih _ _ (mput_wf m a b h)

theorem filter_wf (p : Host.Cell → Bool) (m : List Host.Cell) (h : Memory.wf m = true) : Memory.wf (m.filter p) = true := by
  simp only [Memory.wf, Bool.and_eq_true, List.all_eq_true] at h ⊢
  exact ⟨tsorted_filter p h.1, fun e he => h.2 e ((List.mem_filter.1 he).1)⟩

theorem mclear_wf (m : List Host.Cell) (a n : Nat) (h : Memory.wf m = true) : Memory.wf (mclear m a n) = true :=
  filter_wf _ m h

theorem mget_mwrite_below (bs : List Byte) (m : List Host.Cell) (a b : Nat) (h : b < a) : mget (mwrite m a bs) b = mget m b := by
  induction bs generalizing m a with
  | nil => rfl
  | cons v bs ih =>
    simp only [mwrite]
    rw [ih (mput m a v) (a + 1) (by omega), mget_mput, if_neg (by omega)]

theorem mget_mwrite_above (bs : List Byte) (m : List Host.Cell) (a b : Nat) (h : a + bs.length ≤ b) :
    mget (mwrite m a bs) b = mget m b := by
  induction bs generalizing m a with
  | nil => rfl
  | cons v bs ih =>
    simp only [List.length_cons] at h
    simp only [mwrite]
    rw [ih (mput m a v) (a + 1) (by omega), mget_mput, if_neg (by omega)]

theorem mread_mwrite (bs : List Byte) (m : List Host.Cell) (a : Nat) : mread (mwrite m a bs) a bs.length = bs := by
  induction bs generalizing m a with
  | nil => rfl
  | cons v bs ih =>
    simp only [List.length_cons, mread, mwrite, List.cons.injEq]
    exact ⟨by rw [mget_mwrite_below _ _ _ _ (by omega)]; simp, ih _ _⟩

end Sys2Proof.Machine
end

