-- ==== Sys2Proof/Laws/Bundle.lean ====
section
/-!
SUPPORT. Cores and bundles: what a change of a core's registers leaves alone, and that a bundle that issues runs.
-/
set_option autoImplicit false

namespace Sys2Proof.Machine

variable {α : Type}

/-- The last of two writes of one entry counts. -/
@[simp] theorem tput_tput (t : Tab α) (i : Nat) (v w : α) : tput (tput t i v) i w = tput t i w := by
  induction t with
  | nil => simp [tput]
  | cons e t ih =>
    obtain ⟨k, x⟩ := e
    simp only [tput]
    split
    · simp [tput]
    · split
      · simp [tput]
      · simp [tput, *]

/-- A changed core reads as the change made it. -/
@[simp] theorem Dev.core_coreMod (d : Dev) (c : Nat) (f : Core → Core) : (d.coreMod c f).core c = f (d.core c) := by
  simp [Dev.core, Dev.coreMod, Dev.coresMod, tgetD]

/-- Another core stays as it was. -/
theorem Dev.core_coreMod_ne (d : Dev) {c c' : Nat} (f : Core → Core) (h : c' ≠ c) : (d.coreMod c f).core c' = d.core c' := by
  simp [Dev.core, Dev.coreMod, Dev.coresMod, tgetD, tget_tput_ne _ _ h]

@[simp] theorem Dev.core_regsMod (d : Dev) (c : Nat) (f : Regs → Regs) :
    (d.regsMod c f).core c = { d.core c with regs := f (d.core c).regs } := by simp [Dev.regsMod]

@[simp] theorem Dev.well_regsMod (d : Dev) (c : Nat) (f : Regs → Regs) (w : Nat) : (d.regsMod c f).well w = d.well w := rfl

@[simp] theorem Dev.mem_regsMod (d : Dev) (c : Nat) (f : Regs → Regs) : (d.regsMod c f).mem = d.mem := rfl

@[simp] theorem Dev.regs_regsMod (d : Dev) (c : Nat) (f : Regs → Regs) : (d.regsMod c f).regs = d.regs := rfl

/-- Two changes of a core's registers are one. -/
@[simp] theorem Dev.regsMod_regsMod (d : Dev) (c : Nat) (f g : Regs → Regs) :
    (d.regsMod c f).regsMod c g = d.regsMod c (fun r => g (f r)) := by
  simp [Dev.regsMod, Dev.coreMod, Dev.coresMod, tgetD]

/-- A change of a core's registers counts by what it makes of the registers that the core has. -/
theorem Dev.regsMod_congr (d : Dev) (c : Nat) (f g : Regs → Regs) (h : f (d.core c).regs = g (d.core c).regs) :
    d.regsMod c f = d.regsMod c g := by
  simp only [Dev.core] at h
  simp [Dev.regsMod, Dev.coreMod, Dev.coresMod, h]

/-- A bundle that issues runs under the row of each of its instructions. -/
theorem Dev.bundle_of_issues (d : Dev) (c w0 w1 : Nat) (op op0 : Op) (y z : Ender) (h : d.issues c w0 w1)
    (h0 : opOf w0 = some op0) (hop : op = op0 ∨ (bit w0 31 = true ∧ opOf w1 = some op)) :
    d.bundle c op y z = d.runBundle c y z w0 w1 := by
  obtain ⟨h1, h2, h3, h4, _, _, _, _⟩ := h
  have hc : ((if bit w0 31 = true then [some op0, opOf w1] else [some op0]).contains (some op)) = true := by
    rcases hop with rfl | ⟨a, b⟩
    · split <;> simp
    · simp [a, b]
  unfold Dev.bundle
  simp only [h1, h2, h3, h0, hc, h4]
  simp

/-- A row of a core answers the bundle's effect, unless the bundle stops a windlass core. -/
theorem Dev.coreRow_of_running (d : Dev) (c : Nat) (op : Op)
    (h : ((d.bundle c op yieldEnd haltEnd).core c).stopped = (d.core c).stopped) :
    d.coreRow c op = d.bundle c op yieldEnd haltEnd := by
  unfold Dev.coreRow Dev.ifStopped
  simp only [h]
  cases (d.core c).stopped <;> simp

/-! ## PIPE_STATUS and the other registers -/

@[simp] theorem Regs.cr_sput (r : Regs) (n : Nat) (v : BitVec 32) : (r.sput n v).cr = r.cr := by unfold Regs.sput; split <;> rfl
@[simp] theorem Regs.cr_pput (r : Regs) (n : Nat) (v : BitVec 32) : (r.pput n v).cr = r.cr := by unfold Regs.pput; split <;> rfl
@[simp] theorem Regs.cr_aput (r : Regs) (n : Nat) (v : BitVec 48) : (r.aput n v).cr = r.cr := rfl
@[simp] theorem Regs.cr_vput (r : Regs) (n : Nat) (v : BitVec 512) : (r.vput n v).cr = r.cr := rfl
@[simp] theorem Regs.cr_accput (r : Regs) (n : Nat) (v : BitVec 1536) : (r.accput n v).cr = r.cr := rfl

/-- A control register reads what was last written to it. -/
theorem Regs.crget_crput (r : Regs) (i j : Nat) (v : BitVec 32) : (r.crput i v).crget j = if j = i then v else r.crget j := by
  simp [Regs.crget, Regs.crput, tgetD_tputD]

/-- A scalar register reads what was last written to it; s0 reads 0 and takes no write (Table YI-1). -/
theorem Regs.sget_sput (r : Regs) (i j : Nat) (v : BitVec 32) :
    (r.sput i v).sget j = if j = i ∧ i ≠ 0 then v else r.sget j := by
  unfold Regs.sput Regs.sget
  by_cases h : i = 0
  · simp [h]
  · by_cases hj : j = i
    · subst hj; simp [h, tgetD_tputD]
    · simp [h, hj, tgetD_tputD]

/-- A predicate register reads what was last written to it; p0 reads all ones and takes no write (Table YI-1). -/
theorem Regs.pget_pput (r : Regs) (i j : Nat) (v : BitVec 32) :
    (r.pput i v).pget j = if j = i ∧ i ≠ 0 then v else r.pget j := by
  unfold Regs.pput Regs.pget
  by_cases h : i = 0
  · simp [h]
  · by_cases hj : j = i
    · subst hj; simp [h, tgetD_tputD]
    · simp [h, hj, tgetD_tputD]

@[simp] theorem Regs.aget_aput (r : Regs) (i j : Nat) (v : BitVec 48) : (r.aput i v).aget j = if j = i then v else r.aget j := by
  simp [Regs.aget, Regs.aput, tgetD_tputD]
@[simp] theorem Regs.vget_vput (r : Regs) (i j : Nat) (v : BitVec 512) : (r.vput i v).vget j = if j = i then v else r.vget j := by
  simp [Regs.vget, Regs.vput, tgetD_tputD]
@[simp] theorem Regs.accget_accput (r : Regs) (i j : Nat) (v : BitVec 1536) :
    (r.accput i v).accget j = if j = i then v else r.accget j := by
  simp [Regs.accget, Regs.accput, tgetD_tputD]

/-- Setting or clearing one status bit leaves the others. -/
theorem Regs.stBit_stSet (r : Regs) (i j : Nat) (b : Bool) (hj : j < 32) :
    (r.stSet i b).stBit j = if j = i then b else r.stBit j := by
  unfold Regs.stBit Regs.stSet Regs.status
  rw [Regs.crget_crput]
  cases b
  · by_cases h : j = i
    · subst h; simp [hj]
    · simp [hj, h]
      intro hb
      by_cases hij : j < i
      · exact .inl hij
      · right; omega
  · by_cases h : j = i
    · subst h; simp [hj]
    · simp [h]
      intro h1 h2
      omega

/-- Registers with the same control registers have the same status. -/
theorem Regs.stBit_congr {r r' : Regs} (h : r.cr = r'.cr) (j : Nat) : r.stBit j = r'.stBit j := by
  simp only [Regs.stBit, Regs.status, Regs.crget, h]

/-- The control registers of a register operation: as they were, or with SAT set. -/
def Regs.satOnly (r new : Regs) : Prop := r.cr = new.cr ∨ r.cr = (new.stSet stSAT true).cr

theorem Regs.satOnly_of_cr {r new : Regs} (h : r.cr = new.cr) : r.satOnly new := .inl h

theorem Regs.satOnly_vlanes (r : Regs) (vd : Nat) (m : BitVec 32) (lw : Nat) (f : Nat → Nat × Bool) :
    (r.vlanes vd m lw f).satOnly r := by
  unfold Regs.vlanes
  dsimp only
  split
  · exact .inr rfl
  · exact .inl rfl

theorem Regs.cr_stSet_congr {r r' : Regs} (h : r.cr = r'.cr) (i : Nat) (b : Bool) : (r.stSet i b).cr = (r'.stSet i b).cr := by
  simp only [Regs.stSet, Regs.status, Regs.crput, Regs.crget, h]

theorem semSalu_satOnly (w : Nat) (old new : Regs) : (semSalu w old new).satOnly new := by
  unfold semSalu
  generalize yFn6 w = fn
  dsimp only
  split
  · exact .inl (Eq.refl new.cr)
  · exact .inl (Regs.cr_sput ..)
  · exact .inl (Regs.cr_aput ..)
  · exact .inl (Regs.cr_sput ..)
  · exact .inl (Regs.cr_sput ..)
  · exact .inl (Regs.cr_aput ..)
  · generalize saluVal _ _ _ _ = v
    generalize saluClips _ _ _ = b
    cases b
    · exact .inl (Regs.cr_sput ..)
    · exact .inr (Regs.cr_stSet_congr (Regs.cr_sput ..) _ _)

theorem semPred_satOnly (w : Nat) (old new : Regs) : (semPred w old new).satOnly new := by
  unfold semPred
  generalize yFn6 w = fn
  dsimp only
  split <;> first | exact .inl (Regs.cr_pput ..) | exact .inl (Regs.cr_sput ..)

/-- Every VALU function writes lanes of its destination. -/
theorem semValu_lanes (w : Nat) (old new : Regs) : ∃ m lw f, semValu w old new = new.vlanes (yRd w) m lw f := by
  unfold semValu
  generalize yFn7 w = fn
  dsimp only
  generalize (if yW w = true then 32 else 16) = lw
  split <;> exact ⟨_, _, _, rfl⟩

theorem semValu_satOnly (w : Nat) (old new : Regs) : (semValu w old new).satOnly new := by
  obtain ⟨m, lw, f, h⟩ := semValu_lanes w old new
  rw [h]; exact Regs.satOnly_vlanes ..

/-- Every VMAC function writes lanes of an accumulator or of a vector register. -/
theorem semVmac_lanes (w : Nat) (old new : Regs) :
    (∃ f, semVmac w old new = new.acclanes (yAd w) (old.pget (yMPg w)) f)
      ∨ ∃ f, semVmac w old new = new.vlanes (yVa w) (old.pget (yMPg w)) 16 f := by
  unfold semVmac
  generalize yFn6 w = fn
  dsimp only
  split <;> first | exact .inl ⟨_, rfl⟩ | exact .inr ⟨_, rfl⟩

theorem semVmac_satOnly (w : Nat) (old new : Regs) : (semVmac w old new).satOnly new := by
  rcases semVmac_lanes w old new with ⟨f, h⟩ | ⟨f, h⟩
  · rw [h]; exact .inl (Regs.cr_accput ..)
  · rw [h]; exact Regs.satOnly_vlanes ..

/-- A register operation leaves the control registers as they were, but for SAT. -/
theorem semReg_satOnly (lut : Nat → Nat → Nat) (op : Op) (w ext : Nat) (old new : Regs) :
    (semReg lut op w ext old new).satOnly new := by
  cases op
  case addi | andi | ori | xori | slti | muli => exact .inl (Regs.cr_sput ..)
  case vcmp => exact .inl (Regs.cr_pput ..)
  case vimm | vperm | vlut => apply Regs.satOnly_vlanes
  case salu => exact semSalu_satOnly ..
  case pred => exact semPred_satOnly ..
  case valu => exact semValu_satOnly ..
  case vmac => exact semVmac_satOnly ..
  case addai => exact .inl (Regs.cr_aput ..)
  all_goals exact .inl (Eq.refl new.cr)

/-- A register operation leaves every status bit but SAT as it was. -/
theorem semReg_stBit (lut : Nat → Nat → Nat) (op : Op) (w ext : Nat) (old new : Regs) (j : Nat) (hj : j < 32) (hs : j ≠ stSAT) :
    (semReg lut op w ext old new).stBit j = new.stBit j := by
  rcases semReg_satOnly lut op w ext old new with h | h
  · exact Regs.stBit_congr h j
  · rw [Regs.stBit_congr h j, Regs.stBit_stSet _ _ _ _ hj, if_neg hs]

end Sys2Proof.Machine
end

