-- ==== Sys2Proof/Laws/State.lean ====
section
/-!
SUPPORT. What each update of the device leaves alone, one lemma per field.
-/
set_option autoImplicit false

namespace Sys2Proof.Machine

@[simp] theorem Dev.fset_time (d : Dev) (f : Fld) (v : Nat) : (d.fset f v).time = d.time := rfl
@[simp] theorem Dev.fset_ev (d : Dev) (f : Fld) (v : Nat) : (d.fset f v).ev = d.ev := rfl
@[simp] theorem Dev.fset_sump (d : Dev) (f : Fld) (v : Nat) : (d.fset f v).sump = d.sump := rfl
@[simp] theorem Dev.fset_qf (d : Dev) (f : Fld) (v : Nat) : (d.fset f v).qf = d.qf := rfl
@[simp] theorem Dev.fset_store (d : Dev) (f : Fld) (v : Nat) : (d.fset f v).store = d.store := rfl
@[simp] theorem Dev.fset_nv (d : Dev) (f : Fld) (v : Nat) : (d.fset f v).nv = d.nv := rfl
@[simp] theorem Dev.fset_prime (d : Dev) (f : Fld) (v : Nat) : (d.fset f v).prime = d.prime := rfl
@[simp] theorem Dev.fset_test (d : Dev) (f : Fld) (v : Nat) : (d.fset f v).test = d.test := rfl
@[simp] theorem Dev.fset_lanes (d : Dev) (f : Fld) (v : Nat) : (d.fset f v).lanes = d.lanes := rfl
@[simp] theorem Dev.fset_trg (d : Dev) (f : Fld) (v : Nat) : (d.fset f v).trg = d.trg := rfl
@[simp] theorem Dev.fset_cap (d : Dev) (f : Fld) (v : Nat) : (d.fset f v).cap = d.cap := rfl
@[simp] theorem Dev.fset_aud (d : Dev) (f : Fld) (v : Nat) : (d.fset f v).aud = d.aud := rfl
@[simp] theorem Dev.fset_axes (d : Dev) (f : Fld) (v : Nat) : (d.fset f v).axes = d.axes := rfl
@[simp] theorem Dev.fset_thm (d : Dev) (f : Fld) (v : Nat) : (d.fset f v).thm = d.thm := rfl
@[simp] theorem Dev.fset_pins (d : Dev) (f : Fld) (v : Nat) : (d.fset f v).pins = d.pins := rfl
@[simp] theorem Dev.fset_power (d : Dev) (f : Fld) (v : Nat) : (d.fset f v).power = d.power := rfl
@[simp] theorem Dev.fset_cores (d : Dev) (f : Fld) (v : Nat) : (d.fset f v).cores = d.cores := rfl
@[simp] theorem Dev.fset_mem (d : Dev) (f : Fld) (v : Nat) : (d.fset f v).mem = d.mem := rfl
@[simp] theorem Dev.fset_sns (d : Dev) (f : Fld) (v : Nat) : (d.fset f v).sns = d.sns := rfl
@[simp] theorem Dev.fset_vid (d : Dev) (f : Fld) (v : Nat) : (d.fset f v).vid = d.vid := rfl
@[simp] theorem Dev.fset_free (d : Dev) (f : Fld) (v : Nat) : (d.fset f v).free = d.free := rfl

@[simp] theorem Dev.used_regs (d : Dev) : (d.used).regs = d.regs := rfl
@[simp] theorem Dev.used_time (d : Dev) : (d.used).time = d.time := rfl
@[simp] theorem Dev.used_ev (d : Dev) : (d.used).ev = d.ev := rfl
@[simp] theorem Dev.used_sump (d : Dev) : (d.used).sump = d.sump := rfl
@[simp] theorem Dev.used_qf (d : Dev) : (d.used).qf = d.qf := rfl
@[simp] theorem Dev.used_store (d : Dev) : (d.used).store = d.store := rfl
@[simp] theorem Dev.used_nv (d : Dev) : (d.used).nv = d.nv := rfl
@[simp] theorem Dev.used_prime (d : Dev) : (d.used).prime = d.prime := rfl
@[simp] theorem Dev.used_test (d : Dev) : (d.used).test = d.test := rfl
@[simp] theorem Dev.used_lanes (d : Dev) : (d.used).lanes = d.lanes := rfl
@[simp] theorem Dev.used_trg (d : Dev) : (d.used).trg = d.trg := rfl
@[simp] theorem Dev.used_cap (d : Dev) : (d.used).cap = d.cap := rfl
@[simp] theorem Dev.used_aud (d : Dev) : (d.used).aud = d.aud := rfl
@[simp] theorem Dev.used_axes (d : Dev) : (d.used).axes = d.axes := rfl
@[simp] theorem Dev.used_thm (d : Dev) : (d.used).thm = d.thm := rfl
@[simp] theorem Dev.used_pins (d : Dev) : (d.used).pins = d.pins := rfl
@[simp] theorem Dev.used_power (d : Dev) : (d.used).power = d.power := rfl
@[simp] theorem Dev.used_cores (d : Dev) : (d.used).cores = d.cores := rfl
@[simp] theorem Dev.used_mem (d : Dev) : (d.used).mem = d.mem := rfl
@[simp] theorem Dev.used_sns (d : Dev) : (d.used).sns = d.sns := rfl
@[simp] theorem Dev.used_vid (d : Dev) : (d.used).vid = d.vid := rfl
@[simp] theorem Dev.used_free (d : Dev) : d.used.free = d.free + 1 := rfl

@[simp] theorem Dev.memMod_regs (d : Dev) (f : Mem → Mem) : (d.memMod f).regs = d.regs := rfl
@[simp] theorem Dev.memMod_time (d : Dev) (f : Mem → Mem) : (d.memMod f).time = d.time := rfl
@[simp] theorem Dev.memMod_ev (d : Dev) (f : Mem → Mem) : (d.memMod f).ev = d.ev := rfl
@[simp] theorem Dev.memMod_sump (d : Dev) (f : Mem → Mem) : (d.memMod f).sump = d.sump := rfl
@[simp] theorem Dev.memMod_qf (d : Dev) (f : Mem → Mem) : (d.memMod f).qf = d.qf := rfl
@[simp] theorem Dev.memMod_store (d : Dev) (f : Mem → Mem) : (d.memMod f).store = d.store := rfl
@[simp] theorem Dev.memMod_nv (d : Dev) (f : Mem → Mem) : (d.memMod f).nv = d.nv := rfl
@[simp] theorem Dev.memMod_prime (d : Dev) (f : Mem → Mem) : (d.memMod f).prime = d.prime := rfl
@[simp] theorem Dev.memMod_test (d : Dev) (f : Mem → Mem) : (d.memMod f).test = d.test := rfl
@[simp] theorem Dev.memMod_lanes (d : Dev) (f : Mem → Mem) : (d.memMod f).lanes = d.lanes := rfl
@[simp] theorem Dev.memMod_trg (d : Dev) (f : Mem → Mem) : (d.memMod f).trg = d.trg := rfl
@[simp] theorem Dev.memMod_cap (d : Dev) (f : Mem → Mem) : (d.memMod f).cap = d.cap := rfl
@[simp] theorem Dev.memMod_aud (d : Dev) (f : Mem → Mem) : (d.memMod f).aud = d.aud := rfl
@[simp] theorem Dev.memMod_axes (d : Dev) (f : Mem → Mem) : (d.memMod f).axes = d.axes := rfl
@[simp] theorem Dev.memMod_thm (d : Dev) (f : Mem → Mem) : (d.memMod f).thm = d.thm := rfl
@[simp] theorem Dev.memMod_pins (d : Dev) (f : Mem → Mem) : (d.memMod f).pins = d.pins := rfl
@[simp] theorem Dev.memMod_power (d : Dev) (f : Mem → Mem) : (d.memMod f).power = d.power := rfl
@[simp] theorem Dev.memMod_cores (d : Dev) (f : Mem → Mem) : (d.memMod f).cores = d.cores := rfl
@[simp] theorem Dev.memMod_mem (d : Dev) (f : Mem → Mem) : (d.memMod f).mem = f d.mem := rfl
@[simp] theorem Dev.memMod_sns (d : Dev) (f : Mem → Mem) : (d.memMod f).sns = d.sns := rfl
@[simp] theorem Dev.memMod_vid (d : Dev) (f : Mem → Mem) : (d.memMod f).vid = d.vid := rfl
@[simp] theorem Dev.memMod_free (d : Dev) (f : Mem → Mem) : (d.memMod f).free = d.free := rfl

@[simp] theorem Dev.qfMod_regs (d : Dev) (f : QueueFront → QueueFront) : (d.qfMod f).regs = d.regs := rfl
@[simp] theorem Dev.qfMod_time (d : Dev) (f : QueueFront → QueueFront) : (d.qfMod f).time = d.time := rfl
@[simp] theorem Dev.qfMod_ev (d : Dev) (f : QueueFront → QueueFront) : (d.qfMod f).ev = d.ev := rfl
@[simp] theorem Dev.qfMod_sump (d : Dev) (f : QueueFront → QueueFront) : (d.qfMod f).sump = d.sump := rfl
@[simp] theorem Dev.qfMod_qf (d : Dev) (f : QueueFront → QueueFront) : (d.qfMod f).qf = f d.qf := rfl
@[simp] theorem Dev.qfMod_store (d : Dev) (f : QueueFront → QueueFront) : (d.qfMod f).store = d.store := rfl
@[simp] theorem Dev.qfMod_nv (d : Dev) (f : QueueFront → QueueFront) : (d.qfMod f).nv = d.nv := rfl
@[simp] theorem Dev.qfMod_prime (d : Dev) (f : QueueFront → QueueFront) : (d.qfMod f).prime = d.prime := rfl
@[simp] theorem Dev.qfMod_test (d : Dev) (f : QueueFront → QueueFront) : (d.qfMod f).test = d.test := rfl
@[simp] theorem Dev.qfMod_lanes (d : Dev) (f : QueueFront → QueueFront) : (d.qfMod f).lanes = d.lanes := rfl
@[simp] theorem Dev.qfMod_trg (d : Dev) (f : QueueFront → QueueFront) : (d.qfMod f).trg = d.trg := rfl
@[simp] theorem Dev.qfMod_cap (d : Dev) (f : QueueFront → QueueFront) : (d.qfMod f).cap = d.cap := rfl
@[simp] theorem Dev.qfMod_aud (d : Dev) (f : QueueFront → QueueFront) : (d.qfMod f).aud = d.aud := rfl
@[simp] theorem Dev.qfMod_axes (d : Dev) (f : QueueFront → QueueFront) : (d.qfMod f).axes = d.axes := rfl
@[simp] theorem Dev.qfMod_thm (d : Dev) (f : QueueFront → QueueFront) : (d.qfMod f).thm = d.thm := rfl
@[simp] theorem Dev.qfMod_pins (d : Dev) (f : QueueFront → QueueFront) : (d.qfMod f).pins = d.pins := rfl
@[simp] theorem Dev.qfMod_power (d : Dev) (f : QueueFront → QueueFront) : (d.qfMod f).power = d.power := rfl
@[simp] theorem Dev.qfMod_cores (d : Dev) (f : QueueFront → QueueFront) : (d.qfMod f).cores = d.cores := rfl
@[simp] theorem Dev.qfMod_mem (d : Dev) (f : QueueFront → QueueFront) : (d.qfMod f).mem = d.mem := rfl
@[simp] theorem Dev.qfMod_sns (d : Dev) (f : QueueFront → QueueFront) : (d.qfMod f).sns = d.sns := rfl
@[simp] theorem Dev.qfMod_vid (d : Dev) (f : QueueFront → QueueFront) : (d.qfMod f).vid = d.vid := rfl
@[simp] theorem Dev.qfMod_free (d : Dev) (f : QueueFront → QueueFront) : (d.qfMod f).free = d.free := rfl

@[simp] theorem Dev.storeMod_regs (d : Dev) (f : Store → Store) : (d.storeMod f).regs = d.regs := rfl
@[simp] theorem Dev.storeMod_time (d : Dev) (f : Store → Store) : (d.storeMod f).time = d.time := rfl
@[simp] theorem Dev.storeMod_ev (d : Dev) (f : Store → Store) : (d.storeMod f).ev = d.ev := rfl
@[simp] theorem Dev.storeMod_sump (d : Dev) (f : Store → Store) : (d.storeMod f).sump = d.sump := rfl
@[simp] theorem Dev.storeMod_qf (d : Dev) (f : Store → Store) : (d.storeMod f).qf = d.qf := rfl
@[simp] theorem Dev.storeMod_store (d : Dev) (f : Store → Store) : (d.storeMod f).store = f d.store := rfl
@[simp] theorem Dev.storeMod_nv (d : Dev) (f : Store → Store) : (d.storeMod f).nv = d.nv := rfl
@[simp] theorem Dev.storeMod_prime (d : Dev) (f : Store → Store) : (d.storeMod f).prime = d.prime := rfl
@[simp] theorem Dev.storeMod_test (d : Dev) (f : Store → Store) : (d.storeMod f).test = d.test := rfl
@[simp] theorem Dev.storeMod_lanes (d : Dev) (f : Store → Store) : (d.storeMod f).lanes = d.lanes := rfl
@[simp] theorem Dev.storeMod_trg (d : Dev) (f : Store → Store) : (d.storeMod f).trg = d.trg := rfl
@[simp] theorem Dev.storeMod_cap (d : Dev) (f : Store → Store) : (d.storeMod f).cap = d.cap := rfl
@[simp] theorem Dev.storeMod_aud (d : Dev) (f : Store → Store) : (d.storeMod f).aud = d.aud := rfl
@[simp] theorem Dev.storeMod_axes (d : Dev) (f : Store → Store) : (d.storeMod f).axes = d.axes := rfl
@[simp] theorem Dev.storeMod_thm (d : Dev) (f : Store → Store) : (d.storeMod f).thm = d.thm := rfl
@[simp] theorem Dev.storeMod_pins (d : Dev) (f : Store → Store) : (d.storeMod f).pins = d.pins := rfl
@[simp] theorem Dev.storeMod_power (d : Dev) (f : Store → Store) : (d.storeMod f).power = d.power := rfl
@[simp] theorem Dev.storeMod_cores (d : Dev) (f : Store → Store) : (d.storeMod f).cores = d.cores := rfl
@[simp] theorem Dev.storeMod_mem (d : Dev) (f : Store → Store) : (d.storeMod f).mem = d.mem := rfl
@[simp] theorem Dev.storeMod_sns (d : Dev) (f : Store → Store) : (d.storeMod f).sns = d.sns := rfl
@[simp] theorem Dev.storeMod_vid (d : Dev) (f : Store → Store) : (d.storeMod f).vid = d.vid := rfl
@[simp] theorem Dev.storeMod_free (d : Dev) (f : Store → Store) : (d.storeMod f).free = d.free := rfl

@[simp] theorem Dev.coresMod_regs (d : Dev) (f : Cores → Cores) : (d.coresMod f).regs = d.regs := rfl
@[simp] theorem Dev.coresMod_time (d : Dev) (f : Cores → Cores) : (d.coresMod f).time = d.time := rfl
@[simp] theorem Dev.coresMod_ev (d : Dev) (f : Cores → Cores) : (d.coresMod f).ev = d.ev := rfl
@[simp] theorem Dev.coresMod_sump (d : Dev) (f : Cores → Cores) : (d.coresMod f).sump = d.sump := rfl
@[simp] theorem Dev.coresMod_qf (d : Dev) (f : Cores → Cores) : (d.coresMod f).qf = d.qf := rfl
@[simp] theorem Dev.coresMod_store (d : Dev) (f : Cores → Cores) : (d.coresMod f).store = d.store := rfl
@[simp] theorem Dev.coresMod_nv (d : Dev) (f : Cores → Cores) : (d.coresMod f).nv = d.nv := rfl
@[simp] theorem Dev.coresMod_prime (d : Dev) (f : Cores → Cores) : (d.coresMod f).prime = d.prime := rfl
@[simp] theorem Dev.coresMod_test (d : Dev) (f : Cores → Cores) : (d.coresMod f).test = d.test := rfl
@[simp] theorem Dev.coresMod_lanes (d : Dev) (f : Cores → Cores) : (d.coresMod f).lanes = d.lanes := rfl
@[simp] theorem Dev.coresMod_trg (d : Dev) (f : Cores → Cores) : (d.coresMod f).trg = d.trg := rfl
@[simp] theorem Dev.coresMod_cap (d : Dev) (f : Cores → Cores) : (d.coresMod f).cap = d.cap := rfl
@[simp] theorem Dev.coresMod_aud (d : Dev) (f : Cores → Cores) : (d.coresMod f).aud = d.aud := rfl
@[simp] theorem Dev.coresMod_axes (d : Dev) (f : Cores → Cores) : (d.coresMod f).axes = d.axes := rfl
@[simp] theorem Dev.coresMod_thm (d : Dev) (f : Cores → Cores) : (d.coresMod f).thm = d.thm := rfl
@[simp] theorem Dev.coresMod_pins (d : Dev) (f : Cores → Cores) : (d.coresMod f).pins = d.pins := rfl
@[simp] theorem Dev.coresMod_power (d : Dev) (f : Cores → Cores) : (d.coresMod f).power = d.power := rfl
@[simp] theorem Dev.coresMod_cores (d : Dev) (f : Cores → Cores) : (d.coresMod f).cores = f d.cores := rfl
@[simp] theorem Dev.coresMod_mem (d : Dev) (f : Cores → Cores) : (d.coresMod f).mem = d.mem := rfl
@[simp] theorem Dev.coresMod_sns (d : Dev) (f : Cores → Cores) : (d.coresMod f).sns = d.sns := rfl
@[simp] theorem Dev.coresMod_vid (d : Dev) (f : Cores → Cores) : (d.coresMod f).vid = d.vid := rfl
@[simp] theorem Dev.coresMod_free (d : Dev) (f : Cores → Cores) : (d.coresMod f).free = d.free := rfl

@[simp] theorem Dev.vidMod_regs (d : Dev) (f : Video → Video) : (d.vidMod f).regs = d.regs := rfl
@[simp] theorem Dev.vidMod_time (d : Dev) (f : Video → Video) : (d.vidMod f).time = d.time := rfl
@[simp] theorem Dev.vidMod_ev (d : Dev) (f : Video → Video) : (d.vidMod f).ev = d.ev := rfl
@[simp] theorem Dev.vidMod_sump (d : Dev) (f : Video → Video) : (d.vidMod f).sump = d.sump := rfl
@[simp] theorem Dev.vidMod_qf (d : Dev) (f : Video → Video) : (d.vidMod f).qf = d.qf := rfl
@[simp] theorem Dev.vidMod_store (d : Dev) (f : Video → Video) : (d.vidMod f).store = d.store := rfl
@[simp] theorem Dev.vidMod_nv (d : Dev) (f : Video → Video) : (d.vidMod f).nv = d.nv := rfl
@[simp] theorem Dev.vidMod_prime (d : Dev) (f : Video → Video) : (d.vidMod f).prime = d.prime := rfl
@[simp] theorem Dev.vidMod_test (d : Dev) (f : Video → Video) : (d.vidMod f).test = d.test := rfl
@[simp] theorem Dev.vidMod_lanes (d : Dev) (f : Video → Video) : (d.vidMod f).lanes = d.lanes := rfl
@[simp] theorem Dev.vidMod_trg (d : Dev) (f : Video → Video) : (d.vidMod f).trg = d.trg := rfl
@[simp] theorem Dev.vidMod_cap (d : Dev) (f : Video → Video) : (d.vidMod f).cap = d.cap := rfl
@[simp] theorem Dev.vidMod_aud (d : Dev) (f : Video → Video) : (d.vidMod f).aud = d.aud := rfl
@[simp] theorem Dev.vidMod_axes (d : Dev) (f : Video → Video) : (d.vidMod f).axes = d.axes := rfl
@[simp] theorem Dev.vidMod_thm (d : Dev) (f : Video → Video) : (d.vidMod f).thm = d.thm := rfl
@[simp] theorem Dev.vidMod_pins (d : Dev) (f : Video → Video) : (d.vidMod f).pins = d.pins := rfl
@[simp] theorem Dev.vidMod_power (d : Dev) (f : Video → Video) : (d.vidMod f).power = d.power := rfl
@[simp] theorem Dev.vidMod_cores (d : Dev) (f : Video → Video) : (d.vidMod f).cores = d.cores := rfl
@[simp] theorem Dev.vidMod_mem (d : Dev) (f : Video → Video) : (d.vidMod f).mem = d.mem := rfl
@[simp] theorem Dev.vidMod_sns (d : Dev) (f : Video → Video) : (d.vidMod f).sns = d.sns := rfl
@[simp] theorem Dev.vidMod_vid (d : Dev) (f : Video → Video) : (d.vidMod f).vid = f d.vid := rfl
@[simp] theorem Dev.vidMod_free (d : Dev) (f : Video → Video) : (d.vidMod f).free = d.free := rfl

/-! ## Fields of the register file -/

@[simp] theorem Dev.used_fget (d : Dev) (g : Fld) : (d.used).fget g = d.fget g := rfl
@[simp] theorem Dev.used_flag (d : Dev) (g : Fld) : (d.used).flag g = d.flag g := rfl
@[simp] theorem Dev.memMod_fget (d : Dev) (f : Mem → Mem) (g : Fld) : (d.memMod f).fget g = d.fget g := rfl
@[simp] theorem Dev.memMod_flag (d : Dev) (f : Mem → Mem) (g : Fld) : (d.memMod f).flag g = d.flag g := rfl
@[simp] theorem Dev.qfMod_fget (d : Dev) (f : QueueFront → QueueFront) (g : Fld) : (d.qfMod f).fget g = d.fget g := rfl
@[simp] theorem Dev.qfMod_flag (d : Dev) (f : QueueFront → QueueFront) (g : Fld) : (d.qfMod f).flag g = d.flag g := rfl
@[simp] theorem Dev.storeMod_fget (d : Dev) (f : Store → Store) (g : Fld) : (d.storeMod f).fget g = d.fget g := rfl
@[simp] theorem Dev.storeMod_flag (d : Dev) (f : Store → Store) (g : Fld) : (d.storeMod f).flag g = d.flag g := rfl
@[simp] theorem Dev.coresMod_fget (d : Dev) (f : Cores → Cores) (g : Fld) : (d.coresMod f).fget g = d.fget g := rfl
@[simp] theorem Dev.coresMod_flag (d : Dev) (f : Cores → Cores) (g : Fld) : (d.coresMod f).flag g = d.flag g := rfl
@[simp] theorem Dev.vidMod_fget (d : Dev) (f : Video → Video) (g : Fld) : (d.vidMod f).fget g = d.fget g := rfl
@[simp] theorem Dev.vidMod_flag (d : Dev) (f : Video → Video) (g : Fld) : (d.vidMod f).flag g = d.flag g := rfl

/-! ## Ordering a list (`sortBy`) -/

/-- Inserting adds the element and no other. -/
theorem mem_insertBy {α : Type} (le : α → α → Bool) (x y : α) (l : List α) : y ∈ insertBy le x l ↔ y = x ∨ y ∈ l := by
  induction l with
  | nil => simp [insertBy]
  | cons z zs ih =>
    unfold insertBy
    split
    · simp
    · rw [List.mem_cons, ih, List.mem_cons]; exact or_left_comm

/-- Ordering keeps the elements. -/
theorem mem_sortBy {α : Type} (le : α → α → Bool) (y : α) (l : List α) : y ∈ sortBy le l ↔ y ∈ l := by
  induction l with
  | nil => exact Iff.rfl
  | cons x xs ih => rw [List.mem_cons, ← ih]; exact mem_insertBy le x y _

/-- A list that is in order already stays as it is. -/
theorem sortBy_of_pairwise {α : Type} (le : α → α → Bool) (l : List α) (h : l.Pairwise (fun a b => le a b = true)) : sortBy le l = l := by
  induction h with
  | nil => rfl
  | @cons x xs hx _ ih =>
    change insertBy le x (sortBy le xs) = x :: xs
    rw [ih]
    cases xs with
    | nil => rfl
    | cons y ys => simp [insertBy, hx y List.mem_cons_self]

@[simp] theorem Dev.ingMod_regs (d : Dev) (i : Nat) (f : Ingest → Ingest) : (d.ingMod i f).regs = d.regs := rfl
@[simp] theorem Dev.ingMod_time (d : Dev) (i : Nat) (f : Ingest → Ingest) : (d.ingMod i f).time = d.time := rfl
@[simp] theorem Dev.ingMod_ev (d : Dev) (i : Nat) (f : Ingest → Ingest) : (d.ingMod i f).ev = d.ev := rfl
@[simp] theorem Dev.ingMod_sump (d : Dev) (i : Nat) (f : Ingest → Ingest) : (d.ingMod i f).sump = d.sump := rfl
@[simp] theorem Dev.ingMod_qf (d : Dev) (i : Nat) (f : Ingest → Ingest) : (d.ingMod i f).qf = d.qf := rfl
@[simp] theorem Dev.ingMod_store (d : Dev) (i : Nat) (f : Ingest → Ingest) : (d.ingMod i f).store = d.store := rfl
@[simp] theorem Dev.ingMod_nv (d : Dev) (i : Nat) (f : Ingest → Ingest) : (d.ingMod i f).nv = d.nv := rfl
@[simp] theorem Dev.ingMod_prime (d : Dev) (i : Nat) (f : Ingest → Ingest) : (d.ingMod i f).prime = d.prime := rfl
@[simp] theorem Dev.ingMod_test (d : Dev) (i : Nat) (f : Ingest → Ingest) : (d.ingMod i f).test = d.test := rfl
@[simp] theorem Dev.ingMod_lanes (d : Dev) (i : Nat) (f : Ingest → Ingest) : (d.ingMod i f).lanes = d.lanes := rfl
@[simp] theorem Dev.ingMod_trg (d : Dev) (i : Nat) (f : Ingest → Ingest) : (d.ingMod i f).trg = d.trg := rfl
@[simp] theorem Dev.ingMod_cap (d : Dev) (i : Nat) (f : Ingest → Ingest) : (d.ingMod i f).cap = d.cap := rfl
@[simp] theorem Dev.ingMod_aud (d : Dev) (i : Nat) (f : Ingest → Ingest) : (d.ingMod i f).aud = d.aud := rfl
@[simp] theorem Dev.ingMod_axes (d : Dev) (i : Nat) (f : Ingest → Ingest) : (d.ingMod i f).axes = d.axes := rfl
@[simp] theorem Dev.ingMod_thm (d : Dev) (i : Nat) (f : Ingest → Ingest) : (d.ingMod i f).thm = d.thm := rfl
@[simp] theorem Dev.ingMod_pins (d : Dev) (i : Nat) (f : Ingest → Ingest) : (d.ingMod i f).pins = d.pins := rfl
@[simp] theorem Dev.ingMod_power (d : Dev) (i : Nat) (f : Ingest → Ingest) : (d.ingMod i f).power = d.power := rfl
@[simp] theorem Dev.ingMod_cores (d : Dev) (i : Nat) (f : Ingest → Ingest) : (d.ingMod i f).cores = d.cores := rfl
@[simp] theorem Dev.ingMod_mem (d : Dev) (i : Nat) (f : Ingest → Ingest) : (d.ingMod i f).mem = d.mem := rfl
@[simp] theorem Dev.ingMod_vid (d : Dev) (i : Nat) (f : Ingest → Ingest) : (d.ingMod i f).vid = d.vid := rfl
@[simp] theorem Dev.ingMod_free (d : Dev) (i : Nat) (f : Ingest → Ingest) : (d.ingMod i f).free = d.free := rfl

@[simp] theorem Dev.setLaneX_regs (d : Dev) (n : Nat) (f : LaneX → LaneX) : (d.setLaneX n f).regs = d.regs := rfl
@[simp] theorem Dev.setLaneX_time (d : Dev) (n : Nat) (f : LaneX → LaneX) : (d.setLaneX n f).time = d.time := rfl
@[simp] theorem Dev.setLaneX_ev (d : Dev) (n : Nat) (f : LaneX → LaneX) : (d.setLaneX n f).ev = d.ev := rfl
@[simp] theorem Dev.setLaneX_sump (d : Dev) (n : Nat) (f : LaneX → LaneX) : (d.setLaneX n f).sump = d.sump := rfl
@[simp] theorem Dev.setLaneX_qf (d : Dev) (n : Nat) (f : LaneX → LaneX) : (d.setLaneX n f).qf = d.qf := rfl
@[simp] theorem Dev.setLaneX_store (d : Dev) (n : Nat) (f : LaneX → LaneX) : (d.setLaneX n f).store = d.store := rfl
@[simp] theorem Dev.setLaneX_nv (d : Dev) (n : Nat) (f : LaneX → LaneX) : (d.setLaneX n f).nv = d.nv := rfl
@[simp] theorem Dev.setLaneX_prime (d : Dev) (n : Nat) (f : LaneX → LaneX) : (d.setLaneX n f).prime = d.prime := rfl
@[simp] theorem Dev.setLaneX_test (d : Dev) (n : Nat) (f : LaneX → LaneX) : (d.setLaneX n f).test = d.test := rfl
@[simp] theorem Dev.setLaneX_trg (d : Dev) (n : Nat) (f : LaneX → LaneX) : (d.setLaneX n f).trg = d.trg := rfl
@[simp] theorem Dev.setLaneX_cap (d : Dev) (n : Nat) (f : LaneX → LaneX) : (d.setLaneX n f).cap = d.cap := rfl
@[simp] theorem Dev.setLaneX_aud (d : Dev) (n : Nat) (f : LaneX → LaneX) : (d.setLaneX n f).aud = d.aud := rfl
@[simp] theorem Dev.setLaneX_axes (d : Dev) (n : Nat) (f : LaneX → LaneX) : (d.setLaneX n f).axes = d.axes := rfl
@[simp] theorem Dev.setLaneX_thm (d : Dev) (n : Nat) (f : LaneX → LaneX) : (d.setLaneX n f).thm = d.thm := rfl
@[simp] theorem Dev.setLaneX_pins (d : Dev) (n : Nat) (f : LaneX → LaneX) : (d.setLaneX n f).pins = d.pins := rfl
@[simp] theorem Dev.setLaneX_power (d : Dev) (n : Nat) (f : LaneX → LaneX) : (d.setLaneX n f).power = d.power := rfl
@[simp] theorem Dev.setLaneX_cores (d : Dev) (n : Nat) (f : LaneX → LaneX) : (d.setLaneX n f).cores = d.cores := rfl
@[simp] theorem Dev.setLaneX_mem (d : Dev) (n : Nat) (f : LaneX → LaneX) : (d.setLaneX n f).mem = d.mem := rfl
@[simp] theorem Dev.setLaneX_sns (d : Dev) (n : Nat) (f : LaneX → LaneX) : (d.setLaneX n f).sns = d.sns := rfl
@[simp] theorem Dev.setLaneX_vid (d : Dev) (n : Nat) (f : LaneX → LaneX) : (d.setLaneX n f).vid = d.vid := rfl
@[simp] theorem Dev.setLaneX_free (d : Dev) (n : Nat) (f : LaneX → LaneX) : (d.setLaneX n f).free = d.free := rfl

@[simp] theorem Dev.setPortX_regs (d : Dev) (p : Nat) (f : PortX → PortX) : (d.setPortX p f).regs = d.regs := rfl
@[simp] theorem Dev.setPortX_time (d : Dev) (p : Nat) (f : PortX → PortX) : (d.setPortX p f).time = d.time := rfl
@[simp] theorem Dev.setPortX_ev (d : Dev) (p : Nat) (f : PortX → PortX) : (d.setPortX p f).ev = d.ev := rfl
@[simp] theorem Dev.setPortX_sump (d : Dev) (p : Nat) (f : PortX → PortX) : (d.setPortX p f).sump = d.sump := rfl
@[simp] theorem Dev.setPortX_qf (d : Dev) (p : Nat) (f : PortX → PortX) : (d.setPortX p f).qf = d.qf := rfl
@[simp] theorem Dev.setPortX_store (d : Dev) (p : Nat) (f : PortX → PortX) : (d.setPortX p f).store = d.store := rfl
@[simp] theorem Dev.setPortX_nv (d : Dev) (p : Nat) (f : PortX → PortX) : (d.setPortX p f).nv = d.nv := rfl
@[simp] theorem Dev.setPortX_prime (d : Dev) (p : Nat) (f : PortX → PortX) : (d.setPortX p f).prime = d.prime := rfl
@[simp] theorem Dev.setPortX_test (d : Dev) (p : Nat) (f : PortX → PortX) : (d.setPortX p f).test = d.test := rfl
@[simp] theorem Dev.setPortX_trg (d : Dev) (p : Nat) (f : PortX → PortX) : (d.setPortX p f).trg = d.trg := rfl
@[simp] theorem Dev.setPortX_cap (d : Dev) (p : Nat) (f : PortX → PortX) : (d.setPortX p f).cap = d.cap := rfl
@[simp] theorem Dev.setPortX_aud (d : Dev) (p : Nat) (f : PortX → PortX) : (d.setPortX p f).aud = d.aud := rfl
@[simp] theorem Dev.setPortX_axes (d : Dev) (p : Nat) (f : PortX → PortX) : (d.setPortX p f).axes = d.axes := rfl
@[simp] theorem Dev.setPortX_thm (d : Dev) (p : Nat) (f : PortX → PortX) : (d.setPortX p f).thm = d.thm := rfl
@[simp] theorem Dev.setPortX_pins (d : Dev) (p : Nat) (f : PortX → PortX) : (d.setPortX p f).pins = d.pins := rfl
@[simp] theorem Dev.setPortX_power (d : Dev) (p : Nat) (f : PortX → PortX) : (d.setPortX p f).power = d.power := rfl
@[simp] theorem Dev.setPortX_cores (d : Dev) (p : Nat) (f : PortX → PortX) : (d.setPortX p f).cores = d.cores := rfl
@[simp] theorem Dev.setPortX_mem (d : Dev) (p : Nat) (f : PortX → PortX) : (d.setPortX p f).mem = d.mem := rfl
@[simp] theorem Dev.setPortX_sns (d : Dev) (p : Nat) (f : PortX → PortX) : (d.setPortX p f).sns = d.sns := rfl
@[simp] theorem Dev.setPortX_vid (d : Dev) (p : Nat) (f : PortX → PortX) : (d.setPortX p f).vid = d.vid := rfl
@[simp] theorem Dev.setPortX_free (d : Dev) (p : Nat) (f : PortX → PortX) : (d.setPortX p f).free = d.free := rfl

@[simp] theorem Dev.setSensor_regs (d : Dev) (s : Nat) (f : ThmSensor → ThmSensor) : (d.setSensor s f).regs = d.regs := rfl
@[simp] theorem Dev.setSensor_time (d : Dev) (s : Nat) (f : ThmSensor → ThmSensor) : (d.setSensor s f).time = d.time := rfl
@[simp] theorem Dev.setSensor_ev (d : Dev) (s : Nat) (f : ThmSensor → ThmSensor) : (d.setSensor s f).ev = d.ev := rfl
@[simp] theorem Dev.setSensor_sump (d : Dev) (s : Nat) (f : ThmSensor → ThmSensor) : (d.setSensor s f).sump = d.sump := rfl
@[simp] theorem Dev.setSensor_qf (d : Dev) (s : Nat) (f : ThmSensor → ThmSensor) : (d.setSensor s f).qf = d.qf := rfl
@[simp] theorem Dev.setSensor_store (d : Dev) (s : Nat) (f : ThmSensor → ThmSensor) : (d.setSensor s f).store = d.store := rfl
@[simp] theorem Dev.setSensor_nv (d : Dev) (s : Nat) (f : ThmSensor → ThmSensor) : (d.setSensor s f).nv = d.nv := rfl
@[simp] theorem Dev.setSensor_prime (d : Dev) (s : Nat) (f : ThmSensor → ThmSensor) : (d.setSensor s f).prime = d.prime := rfl
@[simp] theorem Dev.setSensor_test (d : Dev) (s : Nat) (f : ThmSensor → ThmSensor) : (d.setSensor s f).test = d.test := rfl
@[simp] theorem Dev.setSensor_lanes (d : Dev) (s : Nat) (f : ThmSensor → ThmSensor) : (d.setSensor s f).lanes = d.lanes := rfl
@[simp] theorem Dev.setSensor_trg (d : Dev) (s : Nat) (f : ThmSensor → ThmSensor) : (d.setSensor s f).trg = d.trg := rfl
@[simp] theorem Dev.setSensor_cap (d : Dev) (s : Nat) (f : ThmSensor → ThmSensor) : (d.setSensor s f).cap = d.cap := rfl
@[simp] theorem Dev.setSensor_aud (d : Dev) (s : Nat) (f : ThmSensor → ThmSensor) : (d.setSensor s f).aud = d.aud := rfl
@[simp] theorem Dev.setSensor_axes (d : Dev) (s : Nat) (f : ThmSensor → ThmSensor) : (d.setSensor s f).axes = d.axes := rfl
@[simp] theorem Dev.setSensor_pins (d : Dev) (s : Nat) (f : ThmSensor → ThmSensor) : (d.setSensor s f).pins = d.pins := rfl
@[simp] theorem Dev.setSensor_power (d : Dev) (s : Nat) (f : ThmSensor → ThmSensor) : (d.setSensor s f).power = d.power := rfl
@[simp] theorem Dev.setSensor_cores (d : Dev) (s : Nat) (f : ThmSensor → ThmSensor) : (d.setSensor s f).cores = d.cores := rfl
@[simp] theorem Dev.setSensor_mem (d : Dev) (s : Nat) (f : ThmSensor → ThmSensor) : (d.setSensor s f).mem = d.mem := rfl
@[simp] theorem Dev.setSensor_sns (d : Dev) (s : Nat) (f : ThmSensor → ThmSensor) : (d.setSensor s f).sns = d.sns := rfl
@[simp] theorem Dev.setSensor_vid (d : Dev) (s : Nat) (f : ThmSensor → ThmSensor) : (d.setSensor s f).vid = d.vid := rfl
@[simp] theorem Dev.setSensor_free (d : Dev) (s : Nat) (f : ThmSensor → ThmSensor) : (d.setSensor s f).free = d.free := rfl

end Sys2Proof.Machine
end

