-- ==== Sys2Proof/Laws/Regs.lean ====
section
/-!
SUPPORT. The register file: what a field reads after a write of it, or of another field.
-/
set_option autoImplicit false

namespace Sys2Proof.Machine

/-- A field reads what was last written to it, kept to its width. -/
theorem Dev.fget_fset_same (d : Dev) (f : Fld) (v : Nat) : (d.fset f v).fget f = v % 2 ^ f.width := by
  simp [Dev.fget, Dev.fset, tgetD_tputD]

/-- A write of one field leaves a field with another key as it was. -/
theorem Dev.fget_fset_ne (d : Dev) (f g : Fld) (v : Nat) (h : g.key ≠ f.key) : (d.fset f v).fget g = d.fget g := by
  unfold Dev.fget Dev.fset tgetD tputD
  split
  · simp [tget_terase, h]
  · simp [tget_tput, h]

/-- Both cases at once. -/
theorem Dev.fget_fset (d : Dev) (f g : Fld) (v : Nat) (hr : g.key = f.key → g = f) :
    (d.fset f v).fget g = if g.key = f.key then v % 2 ^ f.width else d.fget g := by
  split
  · rw [hr ‹_›]; exact d.fget_fset_same f v
  · exact d.fget_fset_ne f g v ‹_›

/-- Several writes leave a field whose key is none of theirs as it was. -/
theorem Dev.fget_fsets_ne (l : List (Fld × Nat)) (d : Dev) (g : Fld) (h : ∀ e ∈ l, g.key ≠ e.1.key) :
    (d.fsets l).fget g = d.fget g := by
  unfold Dev.fsets
  induction l generalizing d with
  | nil => rfl
  | cons e l ih =>
    rw [List.foldl_cons, ih _ (fun x hx => h x (List.mem_cons_of_mem _ hx)),
      Dev.fget_fset_ne _ _ _ _ (h e (by simp))]

end Sys2Proof.Machine
end

