-- ==== Sys2Proof/Laws/Ending.lean ====
section
/-!
SUPPORT. How a host command ends: what `Dev.finish` leaves.
-/
set_option autoImplicit false

namespace Sys2Proof.Machine

theorem Dev.quiet_refl (d : Dev) : d.quiet d := ⟨rfl, fun _ _ => rfl⟩

theorem Dev.quiet_trans {a b c : Dev} (h : a.quiet b) (k : b.quiet c) : a.quiet c := by
  obtain ⟨h1, h2⟩ := h
  obtain ⟨k1, k2⟩ := k
  refine ⟨?_, fun f hf => (h2 f hf).trans (k2 f hf)⟩
  rw [h1]; congr 1 <;> (rw [k1])

/-- What a journal record is: the slot of its SEQ holds it. -/
theorem Dev.jrec_eq_some {d : Dev} {q : Nat} {r : JRec} :
    d.jrec q = some r ↔ tget d.qf.jnl (q % jnlSize) = some r ∧ r.seq = q := by
  unfold Dev.jrec
  split
  · rename_i x hx
    constructor
    · intro h
      split at h
      · injection h with h; subst h; exact ⟨hx, by assumption⟩
      · cases h
    · rintro ⟨h, rfl⟩
      rw [hx] at h; injection h with h; subst h; simp
  · rename_i hx
    exact ⟨(fun h => by cases h), (fun h => by rw [hx] at h; cases h.1)⟩

/-- A journal record after another was rewritten. -/
theorem Dev.jrec_jset (d : Dev) (q seq : Nat) (f : JRec → JRec) (hf : ∀ r, (f r).seq = r.seq) :
    (d.jset q f).jrec seq = if seq = q then (d.jrec q).map f else d.jrec seq := by
  unfold Dev.jset
  split
  · rename_i r hr
    obtain ⟨ht, hs⟩ := Dev.jrec_eq_some.mp hr
    by_cases e : seq = q
    · subst e
      rw [if_pos rfl, hr]
      exact Dev.jrec_eq_some.mpr ⟨tget_tput_same _ _ _, (hf r).trans hs⟩
    · rw [if_neg e]
      by_cases m : seq % jnlSize = q % jnlSize
      · unfold Dev.jrec
        simp only [m, tget_tput_same, ht, hf, hs, if_neg (Ne.symm e)]
      · unfold Dev.jrec
        simp only [tget_tput_ne _ _ m]
  · rename_i hr
    split
    · subst_vars; simp [hr]
    · rfl

/-- Freeing a context changes no other register than the count of contexts. -/
theorem Dev.freeCtx_quiet (d : Dev) (seq : Nat) : (d.freeCtx seq).quiet d :=
  ⟨rfl, fun f hf => by simp only [Dev.freeCtx, Dev.fget_fset_ne _ _ _ _ hf]; rfl⟩

theorem Dev.jset_regs (d : Dev) (seq : Nat) (f : JRec → JRec) : (d.jset seq f).regs = d.regs := by
  unfold Dev.jset; split <;> rfl

theorem Dev.jset_ctxs (d : Dev) (seq : Nat) (f : JRec → JRec) : (d.jset seq f).qf.ctxs = d.qf.ctxs := by
  unfold Dev.jset; split <;> rfl

theorem Dev.jset_quiet (d : Dev) (seq : Nat) (f : JRec → JRec) : (d.jset seq f).quiet d := by
  unfold Dev.jset
  split
  · exact ⟨rfl, fun _ _ => rfl⟩
  · exact Dev.quiet_refl d

/-- The step of `Dev.finishAs` that posts the completion changes the queue front alone. -/
theorem Dev.quiet_of_qf {t d : Dev} (h : t.quiet d) (q : QueueFront) : Dev.quiet { t with qf := q } d :=
  ⟨by rw [h.1], h.2⟩

/-- The device after the journal record of `seq` has changed by `g` and its context is free, with the queues' own lists. -/
def Dev.closed (d : Dev) (seq : Nat) (g : JRec → JRec) (cq : Tab CplQueue) (ir : List Nat) (po : List Completion) : Dev :=
  let t := (d.jset seq g).freeCtx seq
  { t with qf := { t.qf with cqs := cq, irqs := ir, posted := po } }

theorem Dev.closed_quiet (d : Dev) (seq : Nat) (g : JRec → JRec) (cq : Tab CplQueue) (ir : List Nat) (po : List Completion) :
    (d.closed seq g cq ir po).quiet d :=
  Dev.quiet_of_qf (Dev.quiet_trans (Dev.freeCtx_quiet _ _) (Dev.jset_quiet _ _ _)) _

theorem Dev.closed_ctxs (d : Dev) (seq : Nat) (g : JRec → JRec) (cq : Tab CplQueue) (ir : List Nat) (po : List Completion) (q : Nat) :
    tget (d.closed seq g cq ir po).qf.ctxs q = if q = seq then none else tget d.qf.ctxs q := by
  show tget (terase (d.jset seq g).qf.ctxs seq) q = _
  rw [tget_terase, Dev.jset_ctxs]

theorem Dev.closed_jrec (d : Dev) (seq : Nat) (g : JRec → JRec) (hg : ∀ r, (g r).seq = r.seq) (cq : Tab CplQueue) (ir : List Nat)
    (po : List Completion) (q : Nat) :
    (d.closed seq g cq ir po).jrec q = if q = seq then (d.jrec seq).map g else d.jrec q :=
  Dev.jrec_jset d seq q g hg

/-- What `Dev.finishAs` does to a command that is outstanding and has not failed a field check. -/
theorem Dev.finishAs_eq (d : Dev) (seq : Nat) (f : Ending) (c : Ctx) (hc : tget d.qf.ctxs seq = some c)
    (hf : ¬((f.sct = 0 ∧ f.sc = 2) ∨ (f.sct = 7 ∧ f.sc = 1))) :
    ∃ g cq ir po, d.finishAs .done seq f = d.closed seq g cq ir po ∧ (∀ r, (g r).seq = r.seq) ∧
      ∀ r, (g r).status = f.sct * 256 + f.sc ∧ (g r).result = f.dw0 % 4294967296 ∧ ((g r).st = .done ∨ (g r).st = .doneUnposted) := by
  have hd : d.fieldFailure c.sqid f = d := by unfold Dev.fieldFailure; rw [if_neg hf]
  unfold Dev.finishAs
  rw [hc]
  dsimp only
  rw [hd]
  split
  · exact ⟨fun r => { r with
      st := .done, notes := r.notes ||| f.allNotes c, status := f.sct * 256 + f.sc, result := f.dw0 % 4294967296,
      digest := f.digest }, _, _, _, rfl, fun _ => rfl, fun _ => ⟨rfl, rfl, .inl rfl⟩⟩
  · rw [if_pos rfl]
    exact ⟨fun r => { r with
      st := .doneUnposted, notes := r.notes ||| f.allNotes c, status := f.sct * 256 + f.sc, result := f.dw0 % 4294967296,
      digest := f.digest }, _, _, _, rfl, fun _ => rfl, fun _ => ⟨rfl, rfl, .inr rfl⟩⟩

/-- The end of another command leaves the end of this one. -/
theorem Dev.finishAs_other {t d : Dev} {seq sct sc dw0 : Nat} (h : t.endsAs d seq sct sc dw0) (q : Nat) (f : Ending)
    (hf : ¬((f.sct = 0 ∧ f.sc = 2) ∨ (f.sct = 7 ∧ f.sc = 1))) : (t.finishAs .done q f).endsAs d seq sct sc dw0 := by
  cases hc : tget t.qf.ctxs q with
  | none => unfold Dev.finishAs; rw [hc]; exact h
  | some c =>
    have hne : seq ≠ q := by rintro rfl; rw [h.2.1] at hc; cases hc
    obtain ⟨g, cq, ir, po, e, hg, -⟩ := Dev.finishAs_eq t q f c hc hf
    obtain ⟨hq, h1, r, h2, h3⟩ := h
    rw [e]
    refine ⟨Dev.quiet_trans (Dev.closed_quiet _ _ _ _ _ _) hq, ?_, r, ?_, h3⟩
    · rw [Dev.closed_ctxs, if_neg hne]; exact h1
    · rw [Dev.closed_jrec _ _ _ hg, if_neg hne]; exact h2

/-- A Delete I/O SQ that completes leaves every other command's end, and the rest of the device. -/
theorem Dev.settleSqDel_endsAs {t d : Dev} {seq sct sc dw0 : Nat} (h : t.endsAs d seq sct sc dw0) (q : Nat) :
    (t.settleSqDel q).endsAs d seq sct sc dw0 := by
  unfold Dev.settleSqDel
  split
  · split
    · exact h
    · have h2 : Dev.endsAs { t with qf := { t.qf with sqDel := terase t.qf.sqDel q, sqs := terase t.qf.sqs q } } d seq sct sc dw0 :=
        ⟨Dev.quiet_of_qf h.1 _, h.2⟩
      exact Dev.finishAs_other h2 _ {} (by decide)
  · exact h

/-- A command that is outstanding ends with the status and the result of its `Ending`, and the rest of the device stays. -/
theorem Dev.finish_endsAs (d : Dev) (seq : Nat) (f : Ending) (c : Ctx) (hc : tget d.qf.ctxs seq = some c)
    (hr : (d.jrec seq).isSome = true) (hf : ¬((f.sct = 0 ∧ f.sc = 2) ∨ (f.sct = 7 ∧ f.sc = 1))) :
    (d.finish seq f).endsAs d seq f.sct f.sc (f.dw0 % 4294967296) := by
  obtain ⟨r, hr⟩ := Option.isSome_iff_exists.mp hr
  obtain ⟨g, cq, ir, po, e, hg, hp⟩ := Dev.finishAs_eq d seq f c hc hf
  have h : (d.finishAs .done seq f).endsAs d seq f.sct f.sc (f.dw0 % 4294967296) := by
    rw [e]
    refine ⟨Dev.closed_quiet _ _ _ _ _ _, ?_, g r, ?_, hp r⟩
    · rw [Dev.closed_ctxs, if_pos rfl]
    · rw [Dev.closed_jrec _ _ _ hg, if_pos rfl, hr]; rfl
  unfold Dev.finish
  rw [hc]
  exact Dev.settleSqDel_endsAs h _

end Sys2Proof.Machine
end

