-- ==== Sys2Proof/Laws/Exec.lean ====
section
/-!
SUPPORT. What `exec` can answer: a next state with the same queue for a well-formed command, a fault for any other.
-/
set_option autoImplicit false

namespace Sys2Proof.Machine

@[simp] theorem onDev_eq (f : Dev → Dev) (s : State) : onDev f s = .next { s with dev := f s.dev } := rfl

@[simp] theorem onDevIf_true (f : Dev → Dev) (s : State) : onDevIf true f s = .next { s with dev := f s.dev } := rfl

@[simp] theorem onDevIf_false (f : Dev → Dev) (s : State) : onDevIf false f s = .fault .illFormed := rfl

/-- A checked command answers a next state with the same queue, or the fault of an ill-formed command. -/
theorem onDevIf_cases (ok : Bool) (f : Dev → Dev) (s : State) :
    (ok = true ∧ onDevIf ok f s = .next { s with dev := f s.dev }) ∨ (ok = false ∧ onDevIf ok f s = .fault .illFormed) := by
  cases ok
  · exact .inr ⟨rfl, rfl⟩
  · exact .inl ⟨rfl, rfl⟩

end Sys2Proof.Machine
end

