-- ==== Sys2Proof/Laws/Lanes.lean ====
section
/-!
SUPPORT. Lanes of the vector registers and accumulators: what packing and masked writes leave in each lane (R46, R47).
-/
set_option autoImplicit false

namespace Sys2Proof.Machine

theorem packLanes_succ (w n : Nat) (f : Nat → Nat) :
    packLanes w (n + 1) f = packLanes w n f + f n % 2 ^ w * 2 ^ (w * n) := by
  simp [packLanes, List.range_succ]

/-- Packed lanes fit their width. -/
theorem packLanes_lt (w n : Nat) (f : Nat → Nat) : packLanes w n f < 2 ^ (w * n) := by
  induction n with
  | zero => simp [packLanes]
  | succ n ih =>
    rw [packLanes_succ]
    have h1 : f n % 2 ^ w + 1 ≤ 2 ^ w := Nat.mod_lt _ (by positivity)
    have h2 : (f n % 2 ^ w + 1) * 2 ^ (w * n) ≤ 2 ^ w * 2 ^ (w * n) := Nat.mul_le_mul_right _ h1
    have h3 : 2 ^ (w * (n + 1)) = 2 ^ w * 2 ^ (w * n) := by rw [Nat.mul_succ, pow_add, Nat.mul_comm]
    rw [h3]
    nlinarith

/-- A packed lane reads as what was packed into it. -/
theorem laneOf_packLanes (w n : Nat) (f : Nat → Nat) (i : Nat) (h : i < n) : laneOf w (packLanes w n f) i = f i % 2 ^ w := by
  induction n with
  | zero => omega
  | succ n ih =>
    rw [packLanes_succ]
    unfold laneOf
    rcases Nat.lt_succ_iff_lt_or_eq.mp h with h' | rfl
    · have e : 2 ^ (w * n) = 2 ^ (w * (n - i - 1)) * 2 ^ w * 2 ^ (w * i) := by
        rw [← pow_add, ← pow_add]; congr 1
        obtain ⟨k, rfl⟩ : ∃ k, n = i + 1 + k := ⟨n - i - 1, by omega⟩
        rw [show i + 1 + k - i - 1 = k by omega]; ring
      rw [e, ← Nat.mul_assoc, ← Nat.mul_assoc, Nat.add_mul_div_right _ _ (by positivity), Nat.add_mul_mod_self_right]
      exact ih h'
    · rw [Nat.add_mul_div_right _ _ (by positivity), Nat.div_eq_of_lt (packLanes_lt w i f), Nat.zero_add, Nat.mod_mod]

/-- A lane of a vector register after a masked write: the new value where the predicate governs the lane, else the old
(R47). `w` is 16 or 32. -/
theorem laneOf_vlanes (new : Regs) (vd : Nat) (mask : BitVec 32) (w : Nat) (f : Nat → Nat × Bool) (i : Nat)
    (hw : w = 16 ∨ w = 32) (hi : i < laneCount w) :
    laneOf w ((new.vlanes vd mask w f).vget vd).toNat i =
      if mask.getLsbD (govBit w i) then (f i).1 % 2 ^ w else laneOf w (new.vget vd).toNat i := by
  have hv : ((new.vlanes vd mask w f).vget vd).toNat = packLanes w (laneCount w)
      (fun i => if mask.getLsbD (govBit w i) then (f i).1 else laneOf w (new.vget vd).toNat i) := by
    have : ((new.vlanes vd mask w f).vget vd) = BitVec.ofNat 512 (packLanes w (laneCount w)
      (fun i => if mask.getLsbD (govBit w i) then (f i).1 else laneOf w (new.vget vd).toNat i)) := by
      unfold Regs.vlanes
      dsimp only
      split
      · rw [show ∀ (r : Regs) (b : Bool), (r.stSet stSAT b).vget vd = r.vget vd from fun _ _ => rfl]
        simp
      · simp
    rw [this, BitVec.toNat_ofNat]
    apply Nat.mod_eq_of_lt
    refine lt_of_lt_of_le (packLanes_lt ..) ?_
    rcases hw with rfl | rfl <;> simp [laneCount]
  rw [hv, laneOf_packLanes _ _ _ _ hi]
  split
  · rfl
  · unfold laneOf; rw [Nat.mod_mod]

/-- A masked write changes no other vector register. -/
theorem vget_vlanes_ne (new : Regs) (vd n : Nat) (mask : BitVec 32) (w : Nat) (f : Nat → Nat × Bool) (h : n ≠ vd) :
    (new.vlanes vd mask w f).vget n = new.vget n := by
  unfold Regs.vlanes
  dsimp only
  split
  · rw [show ∀ (r : Regs) (b : Bool), (r.stSet stSAT b).vget n = r.vget n from fun _ _ => rfl]
    simp [h]
  · simp [h]

/-- A lane of an accumulator after a masked write. -/
theorem laneOf_acclanes (new : Regs) (ad : Nat) (mask : BitVec 32) (f : Nat → Int → Int) (i : Nat) (hi : i < 32) :
    laneOf 48 ((new.acclanes ad mask f).accget ad).toNat i =
      if mask.getLsbD i then trunc 48 (f i (sext 48 (laneOf 48 (new.accget ad).toNat i)))
      else laneOf 48 (new.accget ad).toNat i := by
  unfold Regs.acclanes
  simp only [Regs.accget_accput, if_true, BitVec.toNat_ofNat]
  rw [Nat.mod_eq_of_lt (lt_of_lt_of_le (packLanes_lt ..) (by norm_num)), laneOf_packLanes _ _ _ _ hi]
  split
  · apply Nat.mod_eq_of_lt
    unfold trunc
    exact BitVec.isLt _
  · unfold laneOf; rw [Nat.mod_mod]

end Sys2Proof.Machine
end

