-- ==== Sys2Proof/Tests/Slice0.lean ====
section
/-!
SUPPORT. Tests: the smoke test of the well-formedness checks, witnesses of the hypotheses of the statements, and single steps on
small states, with results taken from the spec's rules and tables by hand.
-/
set_option autoImplicit false
set_option maxRecDepth 20000
set_option Elab.async false

namespace Sys2Proof.Machine

/-! ## Well-formedness: an ill-formed term for each check -/

theorem test_wf_refuses_requester : Instr.wf (.faultService (.pump 80) true) = false := by decide
theorem test_wf_refuses_requester_of_read : Instr.wf (.memoryReadComplete (.siphonCh 3 2 0) 0 0 0 (.flips 0)) = false := by decide
theorem test_wf_refuses_windlass_number : Instr.wf (.faultService (.windlass 3) true) = false ∧ Instr.wf (.faultService (.windlass 80) true) = true := by
  decide
theorem test_wf_refuses_kind_zero : Instr.wf (.boundaryTimeout 0 0) = false := by decide
theorem test_wf_refuses_long_event_record : Instr.wf (.cxlEventRecord 0 1 (List.replicate 17 0)) = false := by decide
theorem test_wf_refuses_wide_taps : Instr.wf (.trainingRequest 48 (.pcie 64 0 0)) = false := by decide
theorem test_wf_refuses_unit : Instr.wf (.hardwareError (.pump 16 0) 0 1 0 []) = false ∧ Instr.wf (.hardwareError (.lookup 0 9) 0 1 0 []) = false := by
  decide
theorem test_wf_refuses_class_zero : Instr.wf (.hardwareError (.pump 15 4) 0 0 0 []) = false := by decide
theorem test_wf_refuses_tested_unit : Instr.wf (.selfTest (.lane 96) true) = false := by decide
theorem test_wf_refuses_priming_units : Instr.wf (.pm07PixelDieTest [.spout 16] .pass) = false ∧ Instr.wf (.pm08IoDieTest [.encoder 2] .pass) = false := by
  decide
theorem test_wf_refuses_short_lists : Instr.wf (.pm05DramTraining [] .pass) = false ∧ Instr.wf (.pm09Cxl [none] .pass) = false
    ∧ Instr.wf (.pm10Nvme [none] .pass) = false ∧ Instr.wf (.thermalSample []) = false := by decide
theorem test_ill_formed_faults : exec (.thermalSample []) State.reset = .fault .illFormed := rfl
theorem test_empty_queue_idles : step State.reset = .next State.reset := rfl
theorem test_refused_requester_is_fault : exec (.faultService (.pump 80) true) State.reset = .fault .illFormed := rfl

/-! ## Small states -/

/-- What a command leaves of a device, where it answers a next state. -/
def did {α : Type} (i : Instr) (d : Dev) (f : Dev → α) : Option α :=
  match exec i ⟨d, []⟩ with
  | .next t => some (f t.dev)
  | _ => none

/-- The device in service: priming has ended, events are enabled, the write gate is open and a first broadcast has come. -/
def up : Dev := Dev.fsets
  { regs := [(fPrmStatState.key, 1), (fThmGateOpen.key, 1)], prime := { held := false, next := 16, linkUp := true },
    ev := { enabled := true }, qf := { en := true, rdy := true },
    mem := { cxlCap := [(0, 32), (1, 32)] } }
  ([(fCxlCapSize, 64), (fCxlCapIlv, 1), (fMemCapUsable, 372), (fMemCapReserve, 17), (fMemCapAlloc, 347)] ++ (List.range 24).map (fun ch => (fMemChanStatCap ch, 16)))

/-- A device with other values of register fields. -/
def Dev.fld (d : Dev) (l : List (Fld × Nat)) : Dev := d.fsets l

/-- An accepted command under SEQ 7: its queue, opcode, CDW10, CDW11 and data. -/
def cmd (sqid opc w10 w11 : Nat) (data : List Byte) : Ctx :=
  { sqid := sqid, sqe := { opc := BitVec.ofNat 8 opc, cdw10 := BitVec.ofNat 32 w10, cdw11 := BitVec.ofNat 32 w11 }, data := data }

def accepted (c : Ctx) : JRec := ⟨7, 0, c.sqid, 0, c.sqe.opc.toNat, .accepted, 0, 0, 0, 0, 0, 0, 0, []⟩

/-- A device with that command, and with its queues. -/
def Dev.given (d : Dev) (c : Ctx) : Dev :=
  { d with qf := { d.qf with ctxs := [(7, c)], jnl := [(7, accepted c)], head := 8 } }

/-- Status of the command under SEQ 7 once it has ended. -/
def Dev.ended (d : Dev) : Option Nat := if (tget d.qf.ctxs 7).isNone then (d.jrec 7).map (·.status) else none

/-- A pump-0 device about to execute a bundle, in a task. -/
def task (rt : Bool) : Task := { graph := 1, stage := 0, rt := rt, st := .running, savePtr := 0, cr := [] }

def code (w0 w1 : Nat) : List Host.Cell := mwrite (mwrite [] 0 (le 4 w0)) 4 (le 4 w1)

def onPump (rt : Bool) (w0 w1 : Nat) (r : Regs) : Dev :=
  { up with cores := { core := [(0, { regs := r, mem := code w0 w1, tasks := [(0, task rt)], cur := some 0 })], well := [(0, { codeLim := 8 })] } }

/-- Windlass core 1 (core 81), in Task mode unless its registers say otherwise. -/
def onWindlass (w0 w1 : Nat) (r : Regs) : Dev :=
  { up with cores := { core := [(81, { regs := r, mem := code w0 w1, fetch := code w0 w1 })] } }

/-- An image of one lookup table, a stage and a graph over it: in-port 0 and out-port 0 on channel 1. -/
def prog1 : Program :=
  { flags := 0, code := zeros 8, data := [], bss := 0, entry := 0, stripEntry := 0, stripRec := 0, paramSize := 4, nin := 1, nout := 1, nlut := 1,
    cycFixed := 1, cycPerK := 0, outIpk := [1], name := [], version := 1, tables := zeros 8192, digest := 0 }
def stage1 : Stage :=
  { prog := 3, rt := true, prio := 0, ins := [1], outs := [1], pumps := [0], wdog := 100, cscratch := 0, luts := [(0, [0])],
    params := [(0, [{ effect := 0, block := zeros 4, bank := 0, cube := [], seq := none, slot := 0 }])] }
def graph1 : Graph :=
  { asid := 0, source := 0, nctx := 1, flags := 0, utilMax := 100, stripH := 16, apronY := 0, nspan := 1, apronX := 0, warn := 50, shed := 60,
    prio := [0], srcSel := 0, stages := [stage1],
    chans := [{ kind := 2, nslots := 1, home := 0, prod := 0, cons := 0, target := 0, plane := 0 }] }

/-- A device whose task's graph exists, with the image of its stage. -/
def Dev.bound (d : Dev) (g : Graph) : Dev := { d with cores := { d.cores with graphs := [(1, g)], programs := [(3, prog1)] } }

/-! Syllables, by the fields of Table YI-4. -/

def fS (mj rd rs1 rs2 sh fn : Nat) : Nat := mj * 2 ^ 26 + rd * 2 ^ 21 + rs1 * 2 ^ 16 + rs2 * 2 ^ 11 + sh * 2 ^ 6 + fn
def fI (mj rd rs1 e imm : Nat) : Nat := mj * 2 ^ 26 + rd * 2 ^ 21 + rs1 * 2 ^ 16 + e * 2 ^ 15 + imm
def fV (mj vd va vb pg w fn : Nat) : Nat := mj * 2 ^ 26 + vd * 2 ^ 21 + va * 2 ^ 16 + vb * 2 ^ 11 + pg * 2 ^ 8 + w * 2 ^ 7 + fn
def fVM (ad va vb pg sb sh5 fn : Nat) : Nat := 22 * 2 ^ 26 + ad * 2 ^ 24 + va * 2 ^ 19 + vb * 2 ^ 14 + pg * 2 ^ 11 + sb * 2 ^ 9 + sh5 * 2 ^ 8 + fn
def fL (mj rt ab sp u sz off : Nat) : Nat := mj * 2 ^ 26 + rt * 2 ^ 21 + ab * 2 ^ 18 + sp * 2 ^ 16 + u * 2 ^ 15 + sz * 2 ^ 13 + off
def fX (mj rt ab sz s u off : Nat) : Nat := mj * 2 ^ 26 + rt * 2 ^ 21 + ab * 2 ^ 18 + sz * 2 ^ 16 + s * 2 ^ 15 + u * 2 ^ 14 + off
def fM (rt port sub opd : Nat) : Nat := 18 * 2 ^ 26 + rt * 2 ^ 21 + port * 2 ^ 18 + sub * 2 ^ 14 + opd
def fB (mj cond rs off : Nat) : Nat := mj * 2 ^ 26 + cond * 2 ^ 23 + rs * 2 ^ 18 + off
def fC (rd rs creg fn : Nat) : Nat := rd * 2 ^ 21 + rs * 2 ^ 16 + creg * 2 ^ 4 + fn

/-- One bundle per instruction: the first word and what it spells. -/
def words : List (Op × Nat) := [(.addi, fI 6 1 2 0 5), (.andi, fI 7 1 2 0 5), (.ori, fI 8 1 2 0 5), (.xori, fI 9 1 2 0 5), (.slti, fI 10 1 2 0 5),
  (.muli, fI 11 1 2 0 5), (.addai, fI 12 1 2 0 5), (.vimm, fI 24 1 0 0 5), (.salu, fS 5 1 2 3 0 0), (.pred, fS 25 1 2 3 0 0),
  (.ldl, fL 13 1 2 0 0 2 0), (.ldlu, fL 14 1 2 0 0 1 0), (.stl, fL 15 1 2 0 0 2 0), (.ldg, fX 16 1 2 2 0 0 0), (.stg, fX 17 1 2 2 0 0 0),
  (.bcc, fB 1 6 0 4), (.bp, fB 2 0 4 4), (.jal, 3 * 2 ^ 26 + 4), (.loop, 4 * 2 ^ 26 + 1 * 2 ^ 21 + 2), (.valu, fV 19 1 2 3 0 0 0),
  (.vcmp, fV 20 1 2 3 0 0 0), (.vperm, fV 21 1 2 3 0 0 5), (.vmac, fVM 1 2 4 0 0 0 0), (.vlut, fV 23 1 2 0 0 0 0), (.sin, fM 1 0 0 0),
  (.sout, fM 1 4 1 0), (.smarkr, fM 1 0 2 0), (.smarkw, fM 0 4 3 0), (.savail, fM 1 0 4 0), (.shead, fM 1 0 5 0), (.crd, fC 1 0 2 0),
  (.cwr, fC 0 1 2 1), (.cset, fC 0 1 2 2), (.cclr, fC 0 1 2 3), (.yield, 4), (.halt, 5), (.svc, fC 0 0 9 6), (.wdkick, 7), (.fence, 8),
  (.skipstrip, 10)]

/-- Decoding: each word above, put together from Tables YI-4, YI-5, YI-9 and YI-11, spells its instruction. -/
theorem test_words_decode : ∀ e ∈ words, opOf e.2 = some e.1 := by decide +kernel

/-- Words written out bit by bit: ADDI s1, s2, 5; BCC always +4; YIELD. -/
theorem test_words_by_bits : opOf 0b00011000001000100000000000000101 = some .addi ∧ opOf 0b00000111000000000000000000000100 = some .bcc
    ∧ opOf 0b00000000000000000000000000000100 = some .yield ∧ opOf 0b01101000000000000000000000000000 = none := by decide

/-! ## Yumar cores -/

theorem wit_words_issue : ∀ e ∈ words.filter (fun e => e.1 != .vlut), (onPump true e.2 0 {}).issues 0 e.2 0 := by
  unfold Dev.issues; decide +kernel

theorem wit_paired_bundle_issues :
    (onPump true (2 ^ 31 + fI 6 1 2 0 5) (fV 19 1 2 3 0 0 0) {}).issues 0 (2 ^ 31 + fI 6 1 2 0 5) (fV 19 1 2 3 0 0 0) := by
  unfold Dev.issues; decide +kernel

theorem wit_windlass_issues : ∀ e ∈ [(Op.svc, fC 0 0 9 6), (.iflush, 9), (.waiti, 13), (.resume, 11), (.resumei, 12), (.wdkick, 7)],
    (onWindlass e.2 0 {}).issues 81 e.2 0 ∧ opOf e.2 = some e.1 := by
  unfold Dev.issues; decide +kernel

def s12 : Regs := { s := [(1, 7), (2, 0xFFFFFFFE#32), (3, 5)], a := [(2, 64)], pc := 0 }

theorem test_addi_wraps : did (.addi 0) (onPump true (fI 6 1 2 0 5) 0 s12) (fun d => ((d.core 0).regs.sget 1, (d.core 0).regs.pc)) = some (3, 8) := by
  decide +kernel
theorem test_addi_long_immediate : did (.addi 0) (onPump true (fI 6 1 2 1 0) 0x80000000 s12) (fun d => (d.core 0).regs.sget 1) = some 0x7FFFFFFE#32 := by
  decide +kernel
theorem test_s0_takes_no_write : did (.addi 0) (onPump true (fI 6 0 2 0 5) 0 s12) (fun d => (d.core 0).regs.sget 0) = some 0 := by decide +kernel
theorem test_slti_signed : did (.slti 0) (onPump true (fI 10 1 2 0 0) 0 s12) (fun d => (d.core 0).regs.sget 1) = some 1 := by decide +kernel
theorem test_andi_sign_extends : did (.andi 0) (onPump true (fI 7 1 2 0 0x7FFF) 0 s12) (fun d => (d.core 0).regs.sget 1) = some 0xFFFFFFFE#32 := by
  decide +kernel
theorem test_ori : did (.ori 0) (onPump true (fI 8 1 3 0 2) 0 s12) (fun d => (d.core 0).regs.sget 1) = some 7 := by decide +kernel
theorem test_xori : did (.xori 0) (onPump true (fI 9 1 3 0 7) 0 s12) (fun d => (d.core 0).regs.sget 1) = some 2 := by decide +kernel
theorem test_muli_low_half : did (.muli 0) (onPump true (fI 11 1 2 0 3) 0 s12) (fun d => (d.core 0).regs.sget 1) = some 0xFFFFFFFA#32 := by decide +kernel
theorem test_addai_negative : did (.addai 0) (onPump true (fI 12 1 2 0 0x7FFF) 0 s12) (fun d => (d.core 0).regs.aget 1) = some 63 := by decide +kernel
theorem test_sub : did (.salu 0) (onPump true (fS 5 1 3 2 0 1) 0 s12) (fun d => (d.core 0).regs.sget 1) = some 7 := by decide +kernel
theorem test_adds_saturates : did (.salu 0) (onPump true (fS 5 1 2 3 0 2) 0 { s := [(2, 0x7FFFFFFF#32), (3, 1)] })
    (fun d => ((d.core 0).regs.sget 1, (d.core 0).regs.stBit stSAT)) = some (0x7FFFFFFF#32, true) := by decide +kernel
theorem test_divu_by_zero : did (.salu 0) (onPump true (fS 5 1 3 0 0 0x17) 0 s12) (fun d => (d.core 0).regs.sget 1) = some 0xFFFFFFFF#32 := by decide +kernel
theorem test_pand : did (.pred 0) (onPump true (fS 25 1 2 3 0 0) 0 { p := [(2, 0xF0#32), (3, 0x3C#32)] }) (fun d => (d.core 0).regs.pget 1) = some 0x30#32 := by
  decide +kernel
theorem test_pfirst : did (.pred 0) (onPump true (fS 25 1 3 0 0 7) 0 s12) (fun d => (d.core 0).regs.pget 1) = some 0x1F#32 := by decide +kernel
theorem test_vimm : did (.vimm 0) (onPump true (fI 24 1 0 0 5) 0 {}) (fun d => (laneOf 16 ((d.core 0).regs.vget 1).toNat 0, laneOf 16 ((d.core 0).regs.vget 1).toNat 31))
    = some (5, 5) := by decide +kernel
def v23 : Regs := { v := [(2, 0x0001_7FFF#512), (3, 0x0002_0001#512)], p := [(1, 1)] }
theorem test_vadd_wraps : did (.valu 0) (onPump true (fV 19 1 2 3 0 0 0) 0 v23) (fun d => (laneOf 16 ((d.core 0).regs.vget 1).toNat 0, laneOf 16 ((d.core 0).regs.vget 1).toNat 1))
    = some (0x8000, 3) := by decide +kernel
theorem test_vadds_clips_and_masks : did (.valu 0) (onPump true (fV 19 1 2 3 1 0 1) 0 v23)
    (fun d => (laneOf 16 ((d.core 0).regs.vget 1).toNat 0, laneOf 16 ((d.core 0).regs.vget 1).toNat 1, (d.core 0).regs.stBit stSAT)) = some (0x7FFF, 0, true) := by
  decide +kernel
theorem test_vcmp_lt : did (.vcmp 0) (onPump true (fV 20 2 2 3 0 0 2) 0 v23) (fun d => ((d.core 0).regs.pget 2).toNat % 4) = some 2 := by decide +kernel
theorem test_vperm_vrev : did (.vperm 0) (onPump true (fV 21 1 2 0 0 0 5) 0 v23) (fun d => (laneOf 16 ((d.core 0).regs.vget 1).toNat 31, laneOf 16 ((d.core 0).regs.vget 1).toNat 0))
    = some (0x7FFF, 0) := by decide +kernel
theorem test_vmac_signed : did (.vmac 0) (onPump true (fVM 1 2 3 0 0 0 0) 0 { v := [(2, 0xFFFF#512), (3, 2)], acc := [(1, 5)] })
    (fun d => laneOf 48 ((d.core 0).regs.accget 1).toNat 0) = some 3 := by decide +kernel

def lutDev (w : Nat) (r : Regs) : Dev :=
  let d := (onPump true w 0 r).bound graph1
  { d with cores := { d.cores with well := [(0, { codeLim := 8, luts := [(3, 0x0100), (4, 0x0200)] })] } }
theorem test_vlut12 : did (.vlut 0) (lutDev (fV 23 1 2 0 0 0 0) { v := [(2, 0x1003#512)] }) (fun d => laneOf 16 ((d.core 0).regs.vget 1).toNat 0) = some 0x100 := by
  decide +kernel
/-- Half way between entries 3 and 4: 0x100 + floor((0x100 × 8 + 8) / 16). -/
theorem test_vluti : did (.vlut 0) (lutDev (fV 23 1 2 0 0 0 2) { v := [(2, 0x38#512)] }) (fun d => laneOf 16 ((d.core 0).regs.vget 1).toNat 0) = some 0x180 := by
  decide +kernel
theorem wit_vlut_issues : (lutDev (fV 23 1 2 0 0 0 2) {}).issues 0 (fV 23 1 2 0 0 0 2) 0 := by unfold Dev.issues; decide +kernel

/-- The hypotheses of the saturation clauses: SALU ADDS, VALU VADDS and VADD. -/
theorem wit_PredicatesAndSaturation : yFn6 (fS 5 1 2 3 0 2) = 2 ∧ yFn7 (fV 19 1 2 3 0 0 1) = 1 ∧ yW (fV 19 1 2 3 0 0 1) = false ∧ yFn7 (fV 19 1 2 3 0 0 0) = 0
    ∧ opOf (fS 25 1 2 3 0 8) = some .pred := by decide

/-- Local accesses: an aligned word in the pail and in the window, a misaligned one, and a store above the code region. -/
def ldRegs (base : Nat) : Regs := { a := [(2, BitVec.ofNat 48 base)], s := [(1, 0x11223344#32)], cr := [(0x12, 64)] }
theorem wit_LocalLoadsAndStores :
    (onPump true (fL 13 1 2 0 0 2 0) 0 (ldRegs 64)).issues 0 (fL 13 1 2 0 0 2 0) 0 ∧ opOf (fL 13 1 2 0 0 2 0) = some .ldl
    ∧ (onPump true (fL 13 1 2 1 1 2 1) 0 (ldRegs 60)).issues 0 (fL 13 1 2 1 1 2 1) 0 ∧ ySp (fL 13 1 2 1 1 2 1) = 1 ∧ yU (fL 13 1 2 1 1 2 1) = true
    ∧ (onPump true (fL 15 1 2 0 0 2 0) 0 (ldRegs 64)).issues 0 (fL 15 1 2 0 0 2 0) 0 ∧ ((onPump true 0 0 {}).well 0).codeLim ≤ 64
    ∧ (ldRegs 62).aget 2 + BitVec.ofInt 48 (yOff13 (fL 13 1 2 0 0 2 0) * 4) = 62 := by
  unfold Dev.issues; decide +kernel
theorem test_stl_then_memory : did (.stl 0) (onPump true (fL 15 1 2 0 1 2 1) 0 (ldRegs 64)) (fun d => (mread (d.core 0).mem 63 6, (d.core 0).regs.aget 2))
    = some ([0, 0x44, 0x33, 0x22, 0x11, 0], 68) := by decide +kernel
theorem test_ldl_sign_extends : did (.ldl 0) (let d := onPump true (fL 13 3 2 0 0 0 0) 0 (ldRegs 64)
    d.coreMod 0 (fun k => { k with mem := mput k.mem 64 0x80 })) (fun d => (d.core 0).regs.sget 3) = some 0xFFFFFF80#32 := by decide +kernel
theorem test_ldlu_zero_extends : did (.ldlu 0) (let d := onPump true (fL 14 3 2 0 0 0 0) 0 (ldRegs 64)
    d.coreMod 0 (fun k => { k with mem := mput k.mem 64 0x80 })) (fun d => (d.core 0).regs.sget 3) = some 0x80#32 := by decide +kernel
theorem test_ldl_misaligned : did (.ldl 0) (onPump true (fL 13 1 2 0 0 2 0) 0 (ldRegs 62))
    (fun d => ((d.core 0).regs.stBit stSKIPPING, (d.core 0).regs.crget 3, (d.core 0).regs.sget 1)) = some (true, 62, 0x11223344#32) := by decide +kernel

/-- A page of address space 0 at 2 MiB, backed in CXL memory, with its translation held by the well. -/
def mapped (d : Dev) : Dev :=
  { d with mem := { d.mem with pages := [(0, [{ va := 0x200000, size := 4096, pa := some (cxlBase + 0x1000), rd := true, wr := true, pin := true, kind := 1 }])] } }
theorem wit_GlobalLoads : (mapped (onPump true (fX 16 1 2 2 0 0 0) 0 { a := [(2, 0x200000)] })).issues 0 (fX 16 1 2 2 0 0 0) 0
    ∧ opOf (fX 16 1 2 2 0 0 0) = some .ldg := by unfold Dev.issues; decide +kernel
def loading : Dev := mapped ((onPump true 0 0 { loads := [{ space := some 0, va := 0x200010, sz := 2, signed := true, rt := 5 }] }))
theorem wit_GlobalLoadReturn : loading.phys ((((loading.core 0).regs).crget 0x10).toNat % 4096) 0x200010 = some (cxlBase + 0x1010)
    ∧ (loading.core 0).regs.loads[0]? = some { space := some 0, va := 0x200010, sz := 2, signed := true, rt := 5 } := by decide +kernel
theorem test_global_load_returns : did (.globalLoadReturn 0 0) { loading with mem := { loading.mem with bytes := mwrite [] (cxlBase + 0x1010) (le 4 0x12345678) } }
    (fun d => ((d.core 0).regs.sget 5, (d.core 0).regs.loads)) = some (0x12345678#32, []) := by decide +kernel
theorem test_poisoned_load_is_zero_with_psn : did (.globalLoadReturn 0 0) { loading with mem := { loading.mem with poison := [((cxlBase + 0x1010) / 64, true)] } }
    (fun d => ((d.core 0).regs.sget 5, (d.core 0).regs.stBit stPSN)) = some (0, true) := by decide +kernel

/-- Branches: both outcomes of each condition have a state. -/
theorem wit_Branches : ∀ k, k < 7 → (onPump true (fB 1 k 0 4) 0 { pc := 0 }).issues 0 (fB 1 k 0 4) 0 ∧ opOf (fB 1 k 0 4) = some .bcc := by
  unfold Dev.issues; decide +kernel
theorem wit_BranchPredicate : ∀ k, k < 4 → (onPump true (fB 2 k 4 4) 0 { p := [(1, 1)] }).issues 0 (fB 2 k 4 4) 0 ∧ opOf (fB 2 k 4 4) = some .bp := by
  unfold Dev.issues; decide +kernel
theorem test_bcc_taken_after_slot_1 : did (.bcc 0) (onPump true (2 ^ 31 + fB 1 6 0 4) (fV 19 1 2 3 0 0 0) v23)
    (fun d => ((d.core 0).regs.pc, laneOf 16 ((d.core 0).regs.vget 1).toNat 1)) = some (32, 3) := by decide +kernel
theorem test_bcc_backwards : did (.bcc 0) (onPump true (fB 1 2 2 0x3FFFF) 0 { s12 with pc := 0 }) (fun d => (d.core 0).regs.pc) = some 0xFFFFFFFFFFF8#48 := by
  decide +kernel
theorem test_bp_all : did (.bp 0) (onPump true (fB 2 2 0 4) 0 {}) (fun d => (d.core 0).regs.pc) = some 32 := by decide +kernel
theorem test_jal_links : did (.jal 0) (onPump true (3 * 2 ^ 26 + 4) 0 {}) (fun d => ((d.core 0).regs.sget 31, (d.core 0).regs.pc)) = some (8, 32) := by
  decide +kernel
theorem test_loop_skips_on_zero : did (.loop 0) (onPump true (4 * 2 ^ 26 + 5 * 2 ^ 21 + 3) 0 {}) (fun d => (d.core 0).regs.pc) = some 32 := by decide +kernel
theorem test_loop_arms : did (.loop 0) (onPump true (4 * 2 ^ 26 + 1 * 2 ^ 21 + 3) 0 s12)
    (fun d => ((d.core 0).regs.stBit stL0A, (d.core 0).regs.crget 0x20, (d.core 0).regs.crget 0x22, (d.core 0).regs.crget 0x23)) = some (true, 7, 8, 24) := by
  decide +kernel
def looping (cnt0 cnt1 : BitVec 32) (armed : Nat) : Regs :=
  { cr := [(0, BitVec.ofNat 32 armed), (0x20, cnt0), (0x21, cnt1), (0x22, 0x100), (0x23, 0x40), (0x24, 0x200), (0x25, 0x40)] }
theorem wit_LoopEnds : (looping 2 2 (2 ^ 24)).stBit (armedBit 0) = true ∧ (looping 2 2 (2 ^ 23)).stBit (armedBit 1) = true ∧ (looping 2 2 0).loopEnd 0 = 0x40
    ∧ (looping 2 2 0).loopEnd 1 = 0x40 := by decide
theorem test_loop_1_first : ((looping 1 2 (2 ^ 24 + 2 ^ 23)).advance 0x40 none none).pc = 0x200 ∧ ((looping 1 2 (2 ^ 24 + 2 ^ 23)).advance 0x40 none none).crget 0x20 = 1 := by
  decide +kernel
theorem test_loop_spent : ((looping 1 0 (2 ^ 24)).advance 0x40 none none).pc = 0x48 ∧ ((looping 1 0 (2 ^ 24)).advance 0x40 none none).stBit (armedBit 0) = false := by
  decide +kernel

/-! Streams: in-port 0 is a SOURCE port of the task, out-port 0 a slot of channel 0. -/

def ported (w : Nat) (src : List Item) (items room : Nat) : Dev :=
  let g := { graph1 with chans := [{ kind := 2, nslots := 1, home := 0, prod := 0, cons := 0, target := 0, plane := 0, items := items + room,
                                     slots := [(0, { strip := ⟨0, 0, 0⟩, count := items })] }] }
  let d := (onPump true w 0 { cr := [(0x70, 0xA0000000#32), (0x74, 0xC0000000#32)], v := [(1, 9)] }).bound g
  d.coreMod 0 (fun k => { k with tasks := tadj k.tasks 0 (fun t => { t with src := [(0, src)] }) })
theorem wit_Streams : ∀ w ∈ [fM 1 0 0 0, fM 1 4 1 0, fM 1 0 2 0, fM 0 4 3 0x1005, fM 1 0 4 0, fM 1 0 5 0],
    (ported w [.data 5] 0 2).issues 0 w 0 ∧ portBound (((ported w [.data 5] 0 2).core 0).regs.port 0) = true
      ∧ portBound (((ported w [.data 5] 0 2).core 0).regs.port 4) = true ∧ (ported w [.data 5] 0 2).portItems 0 0 = [.data 5]
      ∧ (ported w [.mark 0x40000003] 0 2).portItems 0 0 = [.mark 0x40000003] ∧ (ported w [] 0 2).portItems 0 0 = []
      ∧ (ported w [] 0 2).portRoom 0 4 = 2 ∧ (ported w [] 2 0).portRoom 0 4 = 0
      ∧ portBound (((ported w [] 0 2).core 0).regs.port 1) = false := by unfold Dev.issues; decide +kernel
theorem test_sin : did (.sin 0) (ported (fM 1 0 0 0) [.data 5, .mark 0] 0 2) (fun d => ((d.core 0).regs.vget 1, d.portItems 0 0)) = some (5, [.mark 0]) := by
  decide +kernel
theorem test_sin_empty_stalls : did (.sin 0) (ported (fM 1 0 0 0) [] 0 2) (fun d => (d.core 0).regs.pc) = some 0 := by decide +kernel
theorem test_smarkr : did (.smarkr 0) (ported (fM 3 0 2 0) [.mark 0x40000003] 0 2) (fun d => (d.core 0).regs.sget 3) = some 0x40000003#32 := by decide +kernel
theorem test_sout : did (.sout 0) (ported (fM 1 4 1 0) [] 0 2) (fun d => d.portRoom 0 4) = some 1 := by decide +kernel
theorem test_smarkw_eos : did (.smarkw 0) (ported (fM 0 4 3 0x1005) [] 0 2) (fun d => (d.portRoom 0 4, (d.core 0).regs.pc)) = some (1, 8) := by decide +kernel
theorem test_savail : did (.savail 0) (ported (fM 3 4 4 0) [] 0 2) (fun d => (d.core 0).regs.sget 3) = some 2 := by decide +kernel
theorem test_shead_empty : did (.shead 0) (ported (fM 3 0 5 0) [] 0 2) (fun d => (d.core 0).regs.sget 3) = some 4 := by decide +kernel
theorem test_wrong_head_is_stream_error : did (.sin 0) (ported (fM 1 0 0 0) [.mark 0] 0 2)
    (fun d => ((d.core 0).regs.stBit stSKIPPING, bits ((d.core 0).regs.crget 1).toNat 23 16)) = some (true, 2) := by decide +kernel

/-! Control registers and control functions. -/

theorem wit_ControlRegisters : (onPump true (fC 1 0 0x60 0) 0 {}).issues 0 (fC 1 0 0x60 0) 0 ∧ (cregPerm 0 0x60).1 = true ∧ (cregPerm 0 0x13).1 = true
    ∧ (cregPerm 0 0x31).1 = true ∧ (cregPerm 0 0).2 = true ∧ (cregPerm 0 0x10).2 = false ∧ (cregPerm 1 5).2 = true
    ∧ (onWindlass (fC 0 1 5 1) 0 { cr := [(0, 0x40000000#32)] }).issues 81 (fC 0 1 5 1) 0 := by unfold Dev.issues; decide +kernel
theorem test_crd_place : did (.crd 0) (onPump true (fC 1 0 0x60 0) 0 {}) (fun d => (d.core 0).regs.sget 1) = some 0x000FFFFF#32 := by decide +kernel
theorem test_crd_code_lim : did (.crd 0) (onPump true (fC 1 0 0x13 0) 0 {}) (fun d => (d.core 0).regs.sget 1) = some 8 := by decide +kernel
theorem test_cwr_clears_sat : did (.cwr 0) (onPump true (fC 0 1 0 1) 0 { s := [(1, 0x04000000#32)], cr := [(0, 0x04000000#32)] })
    (fun d => (d.core 0).regs.stBit stSAT) = some false := by decide +kernel
theorem test_cset_entry : did (.cset 81) (onWindlass (fC 0 1 5 2) 0 { s := [(1, 0x100)], cr := [(0, 0x40000000#32), (5, 8)] })
    (fun d => (d.core 81).regs.crget 5) = some 0x108#32 := by decide +kernel
theorem test_cclr_entry : did (.cclr 81) (onWindlass (fC 0 1 5 3) 0 { s := [(1, 0x100)], cr := [(0, 0x40000000#32), (5, 0x108)] })
    (fun d => (d.core 81).regs.crget 5) = some 8 := by decide +kernel
theorem test_wdkick : did (.wdkick 0) (onPump true 7 0 { cr := [(0x30, 500)] }) (fun d => (d.core 0).regs.crget 0x31) = some 500 := by decide +kernel
theorem test_fence_waits : did (.fence 0) (onPump true 8 0 { loads := [{ space := some 0, va := 0, sz := 2, signed := false, rt := 5 }] }) (fun d => (d.core 0).regs.pc) = some 0 := by
  decide +kernel
theorem test_iflush : did (.iflush 81) (let d := onWindlass 9 0 {}; d.coreMod 81 (fun k => { k with mem := mput k.mem 64 3 })) (fun d => mget (d.core 81).fetch 64)
    = some 3 := by decide +kernel
theorem test_waiti_waits : did (.waiti 81) (onWindlass 13 0 { cr := [(0, 0x40000000#32)] }) (fun d => (d.core 81).regs.pc) = some 0 := by decide +kernel
theorem test_resume : did (.resume 81) (onWindlass 11 0 { cr := [(0, 0x40000000#32), (2, 0x80)] }) (fun d => ((d.core 81).regs.pc, (d.core 81).regs.mode))
    = some (0x80, 0) := by decide +kernel
theorem test_resumei_sets_ie : did (.resumei 81) (onWindlass 12 0 { cr := [(0, 0x40000000#32), (2, 0x80)] })
    (fun d => ((d.core 81).regs.stBit stIE, (d.core 81).regs.mode)) = some (true, 0) := by decide +kernel
theorem test_svc_enters_supervisor : did (.svc 81) (onWindlass (fC 0 0 9 6) 0 { cr := [(5, 0x300)] })
    (fun d => ((d.core 81).regs.mode, (d.core 81).regs.pc, bits ((d.core 81).regs.crget 1).toNat 23 16)) = some (1, 0x300, 9) := by decide +kernel
theorem test_interrupt_pending_without_ie : did (.windlassInterrupt 1 (some 3)) (onWindlass 0 0 {}) (fun d => ((d.core 81).irqs, (d.core 81).regs.mode))
    = some ([3], 0) := by decide +kernel
theorem test_interrupt_taken : did (.windlassInterrupt 1 (some 3)) (onWindlass 0 0 { cr := [(0, 0x02000000#32), (5, 0x300)] })
    (fun d => ((d.core 81).irqs, (d.core 81).regs.mode, (d.core 81).regs.pc)) = some ([], 1, 0x300) := by decide +kernel
theorem wit_ExceptionEntry : illegalSlot true 0 (26 * 2 ^ 26) 0 = some 0 ∧ (onPump true (26 * 2 ^ 26) 0 {}).fetch 0 = some (26 * 2 ^ 26, 0)
    ∧ (onPump true (26 * 2 ^ 26) 0 {}).coreRuns 0 = true ∧ ((onPump true 0 0 {}).core 0).task = some (0, task true)
    ∧ ((onPump false 0 0 {}).core 0).task = some (0, task false) := by decide +kernel
theorem test_illegal_in_background_task : did (.addi 0) (onPump false (26 * 2 ^ 26) 0 {}) (fun d => ((d.core 0).cur, d.cores.service)) = some (none, [0]) := by
  decide +kernel
theorem test_watchdog : did (.watchdog 0) (onPump true 0 0 { cr := [(0x30, 100)] })
    (fun d => ((d.core 0).regs.stBit stSKIPPING, (d.core 0).regs.crget 0x31)) = some (true, 100) := by decide +kernel
theorem test_watchdog_disabled : did (.watchdog 0) (onPump true 0 0 {}) (fun d => (d.core 0).regs.stBit stSKIPPING) = some false := by decide +kernel
theorem wit_TaskEnds : (onPump false (fC 0 0 9 6) 0 {}).issues 0 (fC 0 0 9 6) 0 ∧ (onPump true 10 0 {}).issues 0 10 0 ∧ (onPump false 5 0 {}).issues 0 5 0
    ∧ (onPump false 4 0 {}).issues 0 4 0 ∧ (onPump false 5 0 {}).graph 1 = none ∧ (onPump false 5 0 {}).role 0 = .active := by unfold Dev.issues; decide +kernel
theorem test_svc_suspends : did (.svc 0) (onPump false (fC 0 0 9 6) 0 {}) (fun d => ((d.core 0).cur, (tget (d.core 0).tasks 0).map (fun t => ((d.core 0).saved t).pc))) = some (none, some 8) := by
  decide +kernel
theorem test_skipstrip : did (.skipstrip 0) (onPump true 10 0 {}) (fun d => (d.core 0).regs.stBit stSKIPPING) = some true := by decide +kernel
theorem test_halt_ends : did (.halt 0) (onPump false 5 0 {}) (fun d => ((tget (d.core 0).tasks 0).map (·.st), (d.core 0).cur)) = some (some .ended, none) := by
  decide +kernel
theorem test_yield_goes_on : did (.yield 0) (onPump false 4 0 {}) (fun d => ((d.core 0).cur, (d.core 0).regs.pc)) = some (some 0, 8) := by decide +kernel

/-- A pump in a strip skip, with a bound out-port and a bound SOURCE in-port, or with none. -/
def skipping (d : Dev) (cr : Tab (BitVec 32)) : Dev :=
  d.coreMod 0 (fun k => { k with regs := { k.regs with cr := cr }, tasks := tadj k.tasks 0 (fun t => { t with strip := some ⟨0, 0, 3⟩ }) })
def skipPorts : Dev := skipping (ported 0 [] 0 1) [(0, 0x00400000#32), (0x51, 3), (0x70, 0xA0000000#32), (0x74, 0xC0000000#32)]
theorem wit_StripSkip : (skipPorts.core 0).regs.boundPorts 4 = [4] ∧ (skipPorts.core 0).regs.boundPorts 0 = [0] ∧ skipPorts.portRoom 0 4 = 1
    ∧ dropStrip (skipPorts.portItems 0 0) = none ∧ (skipPorts.core 0).regs.stBit stSKIPPING = true
    ∧ (skipping (ported 0 [] 1 0) [(0, 0x00400000#32), (0x74, 0xC0000000#32)]).portRoom 0 4 = 0
    ∧ ((skipping (onPump true 0 0 {}) [(0, 0x00400000#32)]).core 0).regs.boundPorts 4 = [] := by decide +kernel
theorem test_skip_marks_output : did (.stripSkip 0) skipPorts (fun d => (d.portItems 0 4, (d.core 0).regs.stBit stSKIPPING)) = some ([.mark 0x80000003], true) := by
  decide +kernel
theorem test_skip_ends : did (.stripSkip 0) (skipping (onPump true 0 0 {}) [(0, 0x00400000#32), (0x50, 0x40), (0x51, 3)])
    (fun d => ((d.core 0).cur, (tget (d.core 0).tasks 0).map (fun t => (t.st, ((d.core 0).saved t).pc, ((d.core 0).saved t).crget 0x51)))) = some (none, some (.waiting, 0x40, 4)) := by
  decide +kernel

/-! ## Programs and graphs -/

def fill (n : Nat) (l : List (Nat × List Byte)) : List Byte :=
  l.foldl (fun b e => b.take e.1 ++ e.2 ++ b.drop (e.1 + e.2.length)) (zeros n)

/-- An image of one bundle whose signature padding is not zero. -/
def image : List Byte := fill 3592 [(0, le 4 0x594D4931), (4, le 2 1), (8, le 4 8), (0x18, le 4 0xFFFFFFFF), (264 + 3309, [1])]

/-- A graph with its image, and a context that runs frame 5. -/
def fr (n : Nat) : GFrame := { ctx := 0, frame := n, admitted := false, width := 1, height := 16 }
def graphed : Dev := up.bound graph1
def graphUp : Dev := up.bound { graph1 with st := .armed, frames := [fr 5] }

theorem wit_LoadProgram : (parseImage image).isSome = true ∧ ((up.given (cmd 3 0x89 0 0 image)).ready 7 false 0x89).isSome = true
    ∧ parseImage (zeros 64) = none := by decide +kernel
theorem wit_LoadProgram_unsigned (p : Program) : up.imageSigned p image = false := by
  have h : allZero (image.drop (image.length - 3328)) 3309 19 = false := by decide +kernel
  simp [Dev.imageSigned, blockVerifies, h]
theorem wit_ReleaseProgram : ((graphed.given (cmd 3 0x84 0x12 3 [])).ready 7 false 0x84).isSome = true
    ∧ (∃ g ∈ tvals graphed.cores.graphs, ∃ st ∈ g.stages, st.prog = 3)
    ∧ (({ graphed with cores := { graphed.cores with graphs := [] } } : Dev).given (cmd 3 0x84 0x12 3 [])).cores.graphs = []
    ∧ (tget graphed.cores.programs 3).isSome = true := by decide +kernel
theorem wit_SetParameters : graphed.graph 1 = some graph1 ∧ graph1.stage 0 = some stage1 ∧ tget graphed.cores.programs stage1.prog = some prog1
    ∧ prog1.lib = none ∧ ((graphed.given (cmd 3 0x91 1 0 (zeros 4))).ready 7 false 0x91).isSome = true
    ∧ ((tgetD stage1.params 0 []).head?).isSome = true
    ∧ (zeros 4).length = prog1.paramSize ∧ ((graphed.given (cmd 3 0x91 1 0x10000 (zeros 8196))).ready 7 false 0x91).isSome = true
    ∧ (zeros 8196).length = prog1.paramSize + prog1.nlut * 8192 ∧ (graph1.freeBank stage1 0 0).isSome = true := by decide +kernel
theorem test_release_bound_program : did (.releaseProgram 7) (graphed.given (cmd 3 0x84 0x12 3 [])) (fun d => (d.ended, (tget d.cores.programs 3).isSome))
    = some (some (0x700 + stBusy), true) := by decide +kernel
theorem test_set_parameters : did (.setParameters 7) (graphed.given (cmd 3 0x91 1 0 (le 4 9)))
    (fun d => (d.ended, ((d.graph 1).bind (·.stage 0)).map (fun st => (tgetD st.params 0 []).map (·.block)))) = some (some 0, some [le 4 9]) := by
  decide +kernel
theorem test_set_parameters_size : did (.setParameters 7) (graphed.given (cmd 3 0x91 1 0 (zeros 5))) Dev.ended = some (some (0x700 + stBadParam)) := by decide +kernel

/-- A descriptor without stages, and one of one stage and one SINK channel. -/
def descriptor : List Byte := fill 64 [(0, le 2 1), (2, [1]), (3, [1]), (8, le 2 16), (0xB, [1])]
theorem wit_BuildGraph_topology : ((graphed.given (cmd 3 0x8D 0 0 descriptor)).ready 7 false 0x8D).isSome = true ∧ descOk descriptor = true
    ∧ 0 ∈ graphed.mem.spaces ∧ 64 ≤ descriptor.length ∧ graphed.topologyOk (parseGraph 0 descriptor) = false := by decide +kernel
theorem test_build_without_stage : did (.buildGraph 7) (graphed.given (cmd 3 0x8D 0 0 descriptor)) Dev.ended = some (some (0x700 + stBadTopology)) := by decide +kernel
theorem test_build_in_unknown_space : did (.buildGraph 7) (graphed.given (cmd 3 0x8D 9 0 descriptor)) Dev.ended = some (some (0x700 + stBadHandle)) := by decide +kernel
def stg : List Byte := fill 32 [(0, le 4 3), (4, [0]), (6, [255, 255, 255, 255]), (10, [255, 255, 255, 255]), (16, [1]), (24, le 4 100)]
theorem wit_StopGraph : ((graphUp.given (cmd 3 0x98 1 1 [])).ready 7 false 0x98).isSome = true ∧ ((graphUp.graph 1).map (·.st)) = some .armed
    ∧ (cmd 3 0x98 1 1 []).stopNow = false ∧ (cmd 3 0x98 0x101 1 []).stopNow = true := by decide +kernel
theorem test_stop_at_boundary_without_frame : did (.stopGraph 7) (graphUp.given (cmd 3 0x98 1 1 [])) (fun d => (d.ended, (d.graph 1).map (fun g => (g.st, g.frames.length))))
    = some (none, some (.draining, 1)) := by decide +kernel
theorem test_stop_now : did (.stopGraph 7) (graphUp.given (cmd 3 0x98 0x101 1 [])) (fun d => (d.ended, (d.graph 1).map (fun g => (g.st, g.frames.length))))
    = some (some 0, some (.stopped, 0)) := by decide +kernel
theorem wit_ReleaseGraph : ((graphUp.given (cmd 3 0x84 1 1 [])).ready 7 false 0x84).isSome = true ∧ (cmd 3 0x84 1 1 []).w10 % 256 = kGraph
    ∧ ((graphed.graph 1).map (·.st)) = some .built := by decide +kernel
theorem test_release_running_graph : did (.releaseGraph 7) (graphUp.given (cmd 3 0x84 1 1 [])) Dev.ended = some (some (0x700 + stGraphRunning)) := by decide +kernel
theorem test_release_graph : did (.releaseGraph 7) (graphed.given (cmd 3 0x84 1 1 [])) (fun d => (d.ended, (d.graph 1).isNone)) = some (some 0, true) := by decide +kernel
theorem wit_StartGraph : ((graphed.given (cmd 3 0x9C 1 0 [])).ready 7 false 0x9C).isSome = true ∧ graphed.noStart = false
    ∧ ((graphed.graph 1).map (fun g => (graphed.bufOk g, g.inWell 1))) = some (true, []) := by decide +kernel

theorem wit_FrameAdmit : ((graphUp.graph 1).map (fun g => g.frames.filter (fun x => x.ctx == 0))) = some [fr 5] := by decide +kernel
theorem test_frame_admit : did (.frameAdmit 1 0) graphUp (fun d => (d.graph 1).map (fun g => g.frames.map (·.admitted))) = some (some [true]) := by decide +kernel
theorem test_third_frame_waits : did (.frameAdmit 1 0) (up.bound { graph1 with st := .armed, frames := [{ fr 4 with admitted := true }, { fr 5 with admitted := true }, fr 6] })
    (fun d => (d.graph 1).map (fun g => g.frames.map (·.admitted))) = some (some [true, true, false]) := by decide +kernel

/-- A stage without ports that waits for strip 0 of frame 5 on pump 0. -/
def waitTask : Task := { task true with st := .waiting }
def dispatching : Dev :=
  let st := { stage1 with ins := [], outs := [], pumps := 1 :: List.replicate 15 0, pos := [(0, [0])] }
  let d := up.bound { graph1 with st := .armed, stages := [st], chans := [], frames := [{ fr 5 with admitted := true, obDone := [0] }] }
  { d with cores := { d.cores with core := [(0, { tasks := [(0, waitTask)] })], well := [(0, { order := [0] })] } }
theorem wit_StripDispatch : ((dispatching.graph 1).bind (dispatching.nextDispatch 1)).isSome = true ∧ (dispatching.graph 1).map (·.source) = some 0
    ∧ (dispatching.core 0).slotFor 1 0 = some 0 := by decide +kernel
theorem test_strip_dispatch : did (.stripDispatch 1) dispatching (fun d => ((d.core 0).cur, (d.core 0).regs.crget 0x51, (tget (d.core 0).tasks 0).map (·.st)))
    = some (some 0, 0, some .running) := by decide +kernel

/-- Two background tasks on pump 0, the first at work; and a real-time task that stalls. -/
def twoTasks (a b : Task) : Dev := { up with cores := { core := [(0, { tasks := [(0, a), (1, b)], cur := some 0 })] } }
theorem wit_Quantum : (twoTasks (task false) { task false with st := .ready }).core 0 = { (twoTasks (task false) { task false with st := .ready }).core 0 with
    cur := some 0, tasks := [(0, task false), (1, { task false with st := .ready })] } ∧ (task false).rt = false ∧ ((twoTasks (task true) (task false)).core 0).task = some (0, task true)
    := by decide +kernel
theorem test_quantum : did (.bgQuantumExpiry 0) (twoTasks (task false) { task false with st := .ready }) (fun d => ((d.core 0).cur, (tget (d.core 0).tasks 0).map (·.st)))
    = some (some 1, some .ready) := by decide +kernel
theorem test_preempt_for_real_time : did (.preemptRequest 0 1) (twoTasks (task false) { task true with st := .ready }) (fun d => ((d.core 0).cur, (tget (d.core 0).tasks 0).map (·.st)))
    = some (some 1, some .ready) := by decide +kernel
theorem test_no_preempt_of_real_time : did (.preemptRequest 0 1) (twoTasks (task true) { task true with st := .ready }) (fun d => (d.core 0).cur) = some (some 0) := by decide +kernel
theorem wit_RtStall : (onPump true 8 0 { loads := [{ space := some 0, va := 0, sz := 2, signed := false, rt := 5 }] }).stalledIssue 0 = true
    ∧ (onPump true 4 0 {}).stalledIssue 0 = false := by decide +kernel
theorem wit_SaveRestore : ((onPump true 4 0 {}).core 0).cur = some 0 ∧ tget ((onPump true 4 0 {}).core 0).tasks 0 = some (task true) := by decide +kernel

/-- The frame of a graph whose only channel is a SINK to buffer 9. -/
def sinking (g : Graph) (f : GFrame) : Dev :=
  let d := up.bound { g with st := .armed, frames := [f], chans := [{ kind := 2, nslots := 1, home := 0, prod := 0, cons := 0, target := 9, plane := 0 }] }
  { d with mem := { d.mem with
      pages := [(0, [{ va := 0x200000, size := 4096, pa := some (cxlBase + 0x1000), rd := true, wr := true, pin := true, kind := 1 }])]
      maps := [(9, { asid := 0, va := 0x200000, len := 4096, kind := 1 })]
      leases := [{ kind := kGraph, index := 1, frame := f.frame, asid := 0, va := 0x200000, len := 4096 }] } }

theorem wit_FramePublish :
    let f := { fr 5 with admitted := true, obDone := [0] }
    let g := { graph1 with stages := [{ stage1 with rt := false }] }
    (sinking g f).graph 1 ≠ none ∧ ((sinking g f).buf 9).isSome = true
      ∧ (∀ m, (sinking g f).buf 9 = some m → (sinking g f).sinkLeased 1 5 m = true ∧ (sinking g f).rangeFault true m.asid m.va m.len true = none)
      ∧ ((sinking g f).graph 1).map (fun g => (sinking g f).publishable 1 g f) = some true
      ∧ ((sinking graph1 f).graph 1).map (fun g => (sinking graph1 f).publishable 1 g f) = some false := by
  refine ⟨by decide +kernel, by decide +kernel, ?_, by decide +kernel, by decide +kernel⟩
  intro m h
  cases h
  decide +kernel
theorem test_publish : did (.framePublish 1 0) (sinking { graph1 with stages := [{ stage1 with rt := false }] } { fr 5 with admitted := true, obDone := [0] })
    (fun d => ((tget d.mem.published 9).map (·.frame), (d.graph 1).map (·.frames.length), d.mem.leases.length)) = some (some 5, some 0, 0) := by decide +kernel
theorem test_unfinished_frame_stays : did (.framePublish 1 0) (sinking graph1 { fr 5 with admitted := true })
    (fun d => ((tget d.mem.published 9).map (·.frame), (d.graph 1).map (·.frames.length))) = some (none, some 1) := by decide +kernel

/-- Pump 0 withdrawn for a test while pump 4 is the spare. -/
def spared : Dev := (up.setRole 0 .active).setRole 4 .spare
theorem wit_PumpWithdraw : spared.role 0 = .active ∧ (spared.core 0).task = none ∧ spared.spareOf 0 = some 4 ∧ 0 % 5 ∈ (spared.well 0).order := by decide +kernel
theorem test_withdraw : did (.pumpWithdraw 0) spared (fun d => (d.role 0, d.role 4, (d.well 0).order)) = some (.testing, .substitute, [4, 1, 2, 3]) := by decide +kernel
theorem wit_Copies : ({ spared with cores := { spared.cores with well := [(0, { copyBank := some 3, copying := some 2 })] } } : Dev).well 0
    = { copyBank := some 3, copying := some 2 } ∧ (spared.setRole 0 .testing).role 0 = .testing := by decide +kernel
theorem wit_BoundaryTimeout : ((up.bound { graph1 with st := .draining }).graph 1).map (·.st) = some .draining := by decide +kernel
theorem test_boundary_timeout : did (.boundaryTimeout 1 1) (up.bound { graph1 with st := .draining, frames := [fr 5] }) (fun d => (d.graph 1).map (fun g => (g.st, g.frames.length)))
    = some (some (.stopped, 0)) := by decide +kernel
theorem test_pilot_cover_without_cover : did .pilotCoverStripDone up (fun d => d == up) = some true := by decide +kernel
theorem test_self_test_start : did (.pumpSelfTestStart 0) { spared.setRole 0 .testing with
      test := { spared.test with running := [{ unit := .pump 0 0, cause := 0, start := 0, begun := false }] } } (fun d => d.test.running.map (·.begun)) = some [true] := by decide +kernel

/-! ## Address spaces, memory and siphons -/

def spaced (n : Nat) : Dev := { up with mem := { up.mem with spaces := 0 :: (List.range n).map (· + 1) } }
theorem wit_CreateSpace : (((spaced 2).given (cmd 3 0x80 0 0 [])).ready 7 false 0x80).isSome = true ∧ 3 ∉ (spaced 2).mem.spaces
    ∧ (∀ b ∈ [1, 2], b ∈ (spaced 2).mem.spaces) ∧ 1 ∉ (spaced 0).mem.spaces := by decide +kernel
theorem test_create_space : did (.createSpace 7) ((spaced 2).given (cmd 3 0x80 0 0 [])) (fun d => (d.ended, (d.jrec 7).map (·.result), d.mem.spaces)) = some (some 0, some 3, [0, 1, 2, 3]) := by
  decide +kernel
theorem wit_DestroySpace : (((spaced 2).given (cmd 3 0x84 16 2 [])).ready 7 false 0x84).isSome = true ∧ (cmd 3 0x84 16 2 []).w10 % 256 = kSpace ∧ (spaced 2).spaceBusy 2 = false
    ∧ ({ (spaced 2) with mem := { (spaced 2).mem with siphons := [(0, { asid := 2, desc := 64, prio := 0 })] } } : Dev).spaceBusy 2 = true := by decide +kernel
theorem test_destroy_unknown_space : did (.destroySpace 7) ((spaced 2).given (cmd 3 0x84 16 0 [])) Dev.ended = some (some (0x700 + stBadHandle)) := by decide +kernel

/-- MAP MEMORY and the like: ASID, kind and access in CDW10, length in CDW11, address in CDW13 and 14. -/
def mcmd (opc w10 len va : Nat) (data : List Byte) : Ctx :=
  { cmd 3 opc w10 len data with sqe := { (cmd 3 opc w10 len data).sqe with cdw13 := BitVec.ofNat 32 va, cdw14 := BitVec.ofNat 32 (va / 2 ^ 32) } }

theorem wit_MapMemory : ((up.given (mcmd 0x81 0 1 0x200000 [])).ready 7 false 0x81).isSome = true
    ∧ (mcmd 0x81 0 1 0x200000 []).va = 0x200000 ∧ (mcmd 0x81 0 1 0x200001 []).va % 4096 = 1 ∧ (mcmd 0x81 0 1 0x200000 []).asid ∈ up.mem.spaces
    ∧ (mcmd 0x81 0 1 0x200000 []).mlen = 4096 ∧ (mcmd 0x81 0 1 0x200000 []).mkind = 0
    ∧ (up.newPages { va := 0x200000, size := 4096, pa := none, rd := false, wr := false, pin := true, kind := 0 } 4096 [] up.usedRanges).map (·.length) = some 1
    ∧ ({ up with mem := { up.mem with cxlCap := [] } } : Dev).newPages { va := 0x200000, size := 4096, pa := none, rd := false, wr := false, pin := true, kind := 1 } 4096 []
        ({ up with mem := { up.mem with cxlCap := [] } } : Dev).usedRanges = none := by decide +kernel
theorem test_map_memory : did (.mapMemory 7) (up.given (mcmd 0x81 0x70000 1 0x200000 [])) (fun d => (d.pagesOf 0).map (fun p => (p.va, p.size)))
    = some [(0x200000, 4096)] := by decide +kernel
theorem test_map_misaligned : did (.mapMemory 7) (up.given (mcmd 0x81 0 1 0x200800 [])) Dev.ended = some (some (0x700 + stMapAlign)) := by decide +kernel
theorem wit_Unmap : (((mapped up).given (mcmd 0x88 0 1 0x200000 [])).ready 7 false 0x88).isSome = true ∧ (mapped up).changeRefusal (mcmd 0x88 0 1 0x200000 []) = none
    ∧ (mapped up).pinsAfterSplit 0 0x200000 4096 ≤ pinTable ∧ (((mapped up).given (mcmd 0x90 0 1 0x200000 [])).ready 7 false 0x90).isSome = true
    ∧ (((mapped up).given (mcmd 0x85 0 1 0x200000 [])).ready 7 false 0x85).isSome = true ∧ kindRefusal (mcmd 0x85 0 1 0x200000 []) = none
    ∧ ((mapped up).remapPages 0 [] 0x200000 ((mapped up).pagesOf 0)).isSome = true ∧ (((mapped up).given (mcmd 0x8C 0 1 0x200000 [])).ready 7 false 0x8C).isSome = true
    ∧ ((mapped up).pinPages ((mapped up).pagesOf 0)).map (·.2.length) = some 0 := by decide +kernel
theorem test_unmap_waits : did (.unmapMemory 7) ((mapped up).given (mcmd 0x88 0 1 0x200000 [])) (fun d => (d.ended, d.mem.waits.length, (d.pagesOf 0).length)) = some (none, 1, 1) := by
  decide +kernel
theorem test_unmap_of_nothing : did (.unmapMemory 7) ((mapped up).given (mcmd 0x88 0 1 0x300000 [])) (fun d => d.mem.waits.length) = some 0 := by decide +kernel
theorem test_pin : did (.pinMemory 7) ((mapped up).given (mcmd 0x8C 0 1 0x200000 [])) Dev.ended = some (some 0) := by decide +kernel

/-- An UNMAP under SEQ 7 that waits, with or without a lease in its range. -/
def unmapping (l : List Lease) : Dev :=
  let d := (mapped up).given (mcmd 0x88 0 1 0x200000 [])
  { d with mem := { d.mem with leases := l, waits := [{ seq := some 7, op := .unmap, asid := 0, va := 0x200000, len := 4096 }],
                               caches := [(0, [{ asid := 0, va := 0x200000, size := 4096 }])] } }
def lease1 : Lease := { kind := kCompositor, index := 2, frame := 5, asid := 0, va := 0x200000, len := 64 }
theorem wit_InvalidationPoint : (unmapping []).rangeLeased 0 0x200000 4096 = false ∧ (unmapping []).noLoads 0 0x200000 4096 = true
    ∧ (unmapping [lease1]).rangeLeased 0 0x200000 4096 = true ∧ ((unmapping []).jrec 7).isSome = true := by decide +kernel
theorem test_invalidation : did (.invalidationPoint 0) (unmapping []) (fun d => (d.ended, d.pagesOf 0, tgetD d.mem.caches 0 [])) = some (some 0, [], []) := by decide +kernel
theorem test_invalidation_waits_for_lease : did (.invalidationPoint 0) (unmapping [lease1]) (fun d => ((d.pagesOf 0).length, d.mem.waits.length)) = some (1, 1) := by
  decide +kernel
theorem wit_LeaseRetire : (unmapping [lease1]).leaseOpen lease1 = false
    ∧ (unmapping [{ lease1 with kind := kGraph }]).mem.leases[0]? = some { lease1 with kind := kGraph } := by decide +kernel
theorem test_lease_retire : did (.leaseRetire 0) (unmapping [lease1]) (fun d => d.mem.leases) = some [] := by decide +kernel
theorem wit_TranslationResolve : ({ mapped up with mem := { (mapped up).mem with reqs := [{ req := .pump 0, asid := 0, va := 0x200040, write := false }] } } : Dev).mem.reqs[0]?
      = some { req := .pump 0, asid := 0, va := 0x200040, write := false } ∧ ((mapped up).pageOf 0 0x200040).isSome = true ∧ (mapped up).mem.waits = [] := by decide +kernel
theorem test_walk_fills_cache : did (.translationResolve 0) { mapped up with mem := { (mapped up).mem with reqs := [{ req := .pump 0, asid := 0, va := 0x200040, write := false }] } }
    (fun d => d.mem.reqs.length) = some 0 := by decide +kernel

/-- Siphon channel 0 of half 0 of well 0: a descriptor of one line of 4 bytes from 0x200000 to 0x200800. -/
def desc1 (next : Nat) : List Byte := fill 64 [(0, le 8 0x200000), (8, le 8 0x200800), (0x10, le 4 4), (0x14, le 4 1), (0x30, le 8 next)]
def siphoning (x : Siphon) (b : List Byte) : Dev :=
  let d := mapped up
  { d with mem := { d.mem with siphons := [(0, x)], bytes := mwrite [] (cxlBase + 0x1100) b } }
def sph : Siphon := { asid := 0, desc := 0x200100, prio := 0 }
theorem wit_StartSiphon : ((up.given (mcmd 0x94 0 0 0x200100 [])).ready 7 false 0x94).isSome = true ∧ up.noStart = false ∧ tget up.mem.siphons 0 = none
    ∧ (mcmd 0x94 0 0 0x200100 []).va % 64 = 0 ∧ ((siphoning sph []).given (cmd 3 0x98 10 0 [])).ready 7 false 0x98 ≠ none
    ∧ (siphoning sph []).rangeFault false 0 0x200100 64 false = none ∧ descOkSph ((siphoning sph []).vread 0 0x200100 64) = false := by decide +kernel
theorem test_start_siphon_busy : did (.startSiphon 7) ((siphoning sph []).given (mcmd 0x94 0 0 0x200100 [])) Dev.ended = some (some (0x700 + stBusy)) := by decide +kernel
theorem test_start_siphon : did (.startSiphon 7) (up.given (mcmd 0x94 0 0 0x200100 [])) (fun d => (d.ended, (tget d.mem.siphons 0).map (·.desc))) = some (some 0, some 0x200100) := by
  decide +kernel

theorem wit_SiphonDescriptor : descOkSph ((siphoning sph (desc1 0)).vread 0 0x200100 64) = true ∧ sph.desc % 64 = 0
    ∧ (siphoning sph (desc1 0)).mem.siphons = [(0, sph)] := by decide +kernel
theorem test_siphon_copies : did (.siphonDescriptorDone 0) (let d := siphoning sph (desc1 0); { d with mem := { d.mem with bytes := mwrite d.mem.bytes (cxlBase + 0x1000) [1, 2, 3, 4, 5] } })
    (fun d => (mread d.mem.bytes (cxlBase + 0x1800) 6, (tget d.mem.siphons 0).isNone)) = some ([1, 2, 3, 4, 0, 0], true) := by decide +kernel
theorem test_siphon_goes_on : did (.siphonDescriptorDone 0) (siphoning sph (desc1 0x200400)) (fun d => (tget d.mem.siphons 0).map (·.desc)) = some (some 0x200400) := by
  decide +kernel
theorem test_siphon_bad_descriptor_ends : did (.siphonDescriptorDone 0) (siphoning sph []) (fun d => (tget d.mem.siphons 0).isNone) = some true := by decide +kernel
theorem wit_CopyUnit : (parseDesc (desc1 0)).unit 0 = [0, 1, 2, 3] ∧ (mapped up).phys 0 ((parseDesc (desc1 0)).dstAt 3) = some (cxlBase + 0x1803)
    ∧ (mapped up).behind (cxlBase + 0x1803) = 0 ∧ (mapped up).poisoned (cxlBase + 0x1000) = false := by decide +kernel

/-- A complete slot of the SINK channel: one whole line, or a skipped strip. -/
def draining (items : List Item) : Dev :=
  let d := sinking graph1 { fr 5 with admitted := true }
  d.graphMod 1 (fun g => { g with chans := g.chans.map (fun c => { c with slots := [(0, { strip := ⟨0, 5, 0⟩, count := items.length, items := items, complete := true })] }) })
theorem wit_SiphonRt : Item.mark 0x80000000 ∈ [Item.mark 0x80000000] ∧ markKind 0x80000000 = markSkip ∧ ((draining []).graph 1).isSome = true
    ∧ (∀ m, (draining []).buf 9 = some m → (draining []).sinkLeased 1 5 m = true) := by
  refine ⟨by decide, by decide, by decide +kernel, ?_⟩
  intro m h
  cases h
  decide +kernel
theorem test_skipped_slot_is_repaired : did (.siphonRtWork 0 0) (draining [.mark 0x80000000])
    (fun d => (d.graph 1).map (fun g => (g.frames.map (·.repair), g.chans.map (·.slots.length)))) = some (some ([[0]], [0])) := by decide +kernel

/-! DRAM and CXL. CXL addresses stand for reads that the channel hash would otherwise leave open. -/

def cxlRead (e : ReadEnd) : Instr := .memoryReadComplete (.pump 0) (BitVec.ofNat 52 (cxlBase + 0x1040)) 0 0 e
theorem wit_DramService : (Requester.pump 0).ok = true ∧ up.behind (cxlBase + 0x1040) = 0 ∧ up.behind (cxlBase + 2 ^ 40) = 1 ∧ cxlBase ≤ cxlBase + 0x1040
    ∧ (up.fld [(fMemCtlScrubEn, 1)]).flag fMemCtlScrubEn = true ∧ up.fget (fMemChanStatState 3) = 0 ∧ (up.fld [(fMemCtlSrAuto, 0)]).flag fMemCtlSrAuto = false
    ∧ (up.fld [(fQfStatPstate, 2)]).fget fQfStatPstate = 2 ∧ (up.fld [(fMemChanStatState 3, 1)]).fget (fMemChanStatState 3) = 1 ∧ up.fget fMemCapReserve ≠ 0
    ∧ up.mem.sparing = none := by decide +kernel
theorem wit_local_read : up.behind 0x1000 = 0 ∨ up.behind 0x1000 = 2 := by
  unfold Dev.behind
  have h : (0x1000 : Nat) < up.fget fMemCapUsable * mib128 := by decide +kernel
  simp only [h, if_true]
  split
  · exact .inr rfl
  · exact .inl rfl
theorem test_read_of_nothing_is_logged : did (.memoryReadComplete (.pump 0) (BitVec.ofNat 52 (cxlBase + 2 ^ 40)) 0 0 (.flips 0)) up (fun d => d.sump.hold.map (·.cls)) = some [6] := by
  decide +kernel
theorem test_cxl_poison : did (cxlRead .cxlPoison) up (fun d => d.mem.poison) = some [((cxlBase + 0x1040) / 64, true)] := by decide +kernel
theorem test_self_refresh : did (.selfRefreshEntry 3 65535) (up.fld [(fMemCtlSrAuto, 1), (fMemFloatCfgEn 0, 0)]) (fun d => d.fget (fMemChanStatState 3)) = some 1
    ∧ did (.selfRefreshExit 3) (up.fld [(fMemChanStatState 3, 1)]) (fun d => d.fget (fMemChanStatState 3)) = some 0 := by decide +kernel
theorem test_refresh_postponed : did (.refreshInterval 3 [.compositor 0 0]) (up.fld [(fMemCtlPanicEn, 1), (fMemFloatStatPanic 13, 1)]) (fun d => (d.dchan 3).postponed) = some 1
    ∧ did (.refreshInterval 3 []) (up.fld [(fMemCtlPanicEn, 1)]) (fun d => (d.dchan 3).postponed) = some 0 := by decide +kernel
theorem test_write_queue : did (.writeQueueDrain 3 47 []) up (fun d => (d.dchan 3).writes) = some 47 ∧ did (.writeQueueDrain 3 48 []) up (fun d => (d.dchan 3).writes) = some 0 := by
  decide +kernel
theorem test_retrain_failure_spares : did (.dqsOscillatorCheck 3 true false) up (fun d => d.mem.sparing) = some (some 3) := by decide +kernel
def floating : Dev := let d := up.fld [(fMemFloatCfgEn 4, 1), (fMemFloatCfgOn 4, 100), (fMemFloatCfgOff 4, 200)]
  { d with regs := tput d.regs (fMemFloatCfgDir 4).key 0 }
theorem wit_Floats : floating.flag (fMemFloatCfgEn 4) = true ∧ floating.flag (fMemFloatCfgDir 4) = false ∧ floating.fget (fMemFloatStatPanic 4) = 0
    ∧ floating.fget (fMemFloatCfgOn 4) = 100 ∧ floating.fget (fMemFloatCfgOff 4) = 200 := by decide +kernel
theorem test_float_panics_below_on : did (.floatCrossing 4 99) floating (fun d => (d.fget (fMemFloatStatPanic 4), d.fget (fMemFloatStatHit 4))) = some (1, 1)
    ∧ did (.floatCrossing 4 100) floating (fun d => d.fget (fMemFloatStatPanic 4)) = some 0 := by decide +kernel
theorem wit_Regulator : up.panicCeil < 100 ∧ 3 ∉ up.mem.engaged ∧ 0 ≤ up.panicCeil ∧ (up.fld [(fMemCtlPanicEn, 1)]).flag fMemCtlPanicEn = true
    ∧ (up.fld [(fMemCtlRegForce, 0)]).flag fMemCtlRegForce = false := by decide +kernel
theorem test_regulator_engages : did (.regulatorWindow 3 100) up (fun d => d.mem.engaged) = some [3] := by decide +kernel
theorem wit_LastingFaults : up.fget (fMemChanStatState 5) < 2 ∧ (up.fld [(fMemCapReserve, 0)]).fget fMemCapReserve = 0 ∧ (up.dchan 5).badRows.length ≤ 8
 := by decide +kernel
theorem test_second_fault_fences : did (.channelLastingFault 5 .training) (up.fld [(fMemCapReserve, 0)]) (fun d => (d.fget (fMemChanStatState 5), d.fget fMemCapSpared)) = some (3, 1) := by
  decide +kernel
theorem test_spare_out : did .spareOutDone { up with mem := { up.mem with sparing := some 5 } }
    (fun d => (d.mem.sparing, d.fget (fMemChanStatState 5), d.fget fMemCapReserve, d.fget fMemCapUsable)) = some (none, 2, 0, 23 * 16 * 31 / 32) := by decide +kernel
theorem test_cxl_narrow : did (.cxlLaneRetrain 1 8) (up.fld [(fCxlPortStatState 1, 2)]) (fun d => (d.fget (fCxlPortStatWidth 1), d.fget (fCxlPortStatState 1))) = some (8, 3) := by
  decide +kernel
theorem wit_CxlLoss : 1 ∉ up.mem.cxlDown ∧ (up.fld [(fCxlPortStatState 1, 2)]).fget (fCxlPortStatState 1) ≠ 0 ∧ up.vid.pool.recs = [] := by decide +kernel
theorem test_cxl_memory_lost : did (.cxlMemoryUnavailable 1) (up.fld [(fCxlPortStatState 1, 2)]) (fun d => (d.mem.cxlDown, d.qf.fallback, d.fget (fCxlPortStatState 1))) = some ([1], true, 0) := by
  decide +kernel

/-! ## Sensor ports, calibration and the pilot path: context 1, 8 lanes, 8 samples by 16 lines of 12 bits -/

def ctx1 : Ingest := { st := 2, count := 9, lastStart := none, width := 8, height := 16, depth := 12, chk := false, nlane := 8 }
def sensing (g : Ingest) : Dev :=
  let d := up.fld [(fSnsFmtNlane 1, 8), (fSnsFmtWidth 1, 8), (fSnsFrameLines 1, 16), (fSnsFrameBuf 1, 32), (fSnsTimePeriod 1, 1000000), (fSnsFmtChk 1, 0)]
  { d with sns := { d.sns with ctxs := [(1, g)] } }
/-- A stable edge with a copy stamp at its confirmation. -/
def edgeAt (t : Nat) : SyncEdge := { stable := 255, copies := [t], confirm := t }
def rec9 : FrameRec := { frame := 9, ctx := 1, rows := 2 }
def framing : Dev :=
  (sensing { ctx1 with inFrame := true, fv := true, cur := some rec9, frameNo := 9, rowsIn := 2, lines := 2, lastStart := some 100 }).wellMod ((sensing ctx1).fget (fSnsFrameWell 1)) (fun w => { w with alloc := [(0, 131072, iOwner 1)] })

/-- A block of CONFIGURE SENSOR PORT over two mapped raw buffers (handle 9). -/
def portBlock (buf : Nat) : List Byte :=
  fill 96 [(8, le 4 (0x58000000 + 8 * 65536 + 8)), (12, le 4 (16 * 65536 + buf)), (16, le 4 1000000), (0x20, [2]), (0x40, le 4 9), (0x44, le 4 9)]
def snsMaps (d : Dev) : Dev := { mapped d with mem := { (mapped d).mem with maps := [(9, { asid := 0, va := 0x200000, len := 4096, kind := 1 })] } }
theorem wit_ConfigurePort : ((sensing { ctx1 with st := 0 }).given (cmd 3 0x95 1 0 (portBlock 32))).ready 7 false 0x95 ≠ none
    ∧ (portBlock 32).length = 96 ∧ field (portBlock 32) 0x21 1 = 0 ∧ allZero (portBlock 32) 0x24 28 = true ∧ field (portBlock 32) 0x20 1 = 2
    ∧ allZero (portBlock 32) (0x40 + 4 * 2) (32 - 4 * 2) = true ∧ (sensing ctx1).wideMode = false
    ∧ geomOk 1 false false 8 8 16 32 1000000 = true ∧ (snsMaps (sensing ctx1)).buf 9 ≠ none ∧ field (portBlock 32) 0x22 2 ∈ up.mem.spaces
    ∧ bits (field (portBlock 32) 12 4) 7 0 = (sensing ctx1).fget (fSnsFrameBuf 1) ∧ bits (field (portBlock 34) 12 4) 7 0 ≠ (sensing ctx1).fget (fSnsFrameBuf 1)
    ∧ bits (field (portBlock 32) 8 4) 23 16 = 8 ∧ bits (field (portBlock 32) 8 4) 15 0 = 8 := by decide +kernel
theorem test_configure_stopped_port : did (.configureSensorPort 7) ((snsMaps (sensing { ctx1 with st := 0 })).given (cmd 3 0x95 1 0 (portBlock 34)))
    (fun d => (d.ended, d.fget (fSnsFrameBuf 1), (d.ing 1).raws)) = some (some 0, 34, [9, 9]) := by decide +kernel
theorem test_configure_running_port : did (.configureSensorPort 7) ((snsMaps (sensing ctx1)).given (cmd 3 0x95 1 0 (portBlock 34))) Dev.ended
    = some (some (0x700 + stPortRunning)) := by decide +kernel
theorem wit_StartPort : ((sensing { ctx1 with st := 0 }).given (cmd 3 0xA4 1 0 [])).ready 7 false 0xA4 ≠ none ∧ (sensing { ctx1 with st := 0 }).noStart = false
    ∧ (sensing ctx1).ctxExists 1 = true ∧ gapFor [] 0 cisternLimit ((sensing ctx1).ingestBytes 1) 131072 = some 0 := by decide +kernel
theorem test_start_port : did (.startSensorPort 7) ((sensing { ctx1 with st := 0 }).given (cmd 3 0xA4 1 0 []))
    (fun d => (d.ended, (d.ing 1).st, (d.ing 1).startSeq, d.fget (fSnsCtlState 1))) = some (none, 1, some 7, 1) := by decide +kernel
theorem test_start_running_port : did (.startSensorPort 7) ((sensing ctx1).given (cmd 3 0xA4 1 0 [])) Dev.ended = some (some (0x700 + stBusy)) := by decide +kernel
def aligning : Dev := (sensing { ctx1 with st := 1, startSeq := some 7 }).given (cmd 3 0xA4 1 0 [])
theorem wit_Alignment : (aligning.ing 1).st = 1 ∧ (aligning.ing 1).startSeq = some 7 ∧ (tget aligning.qf.ctxs 7).isSome = true ∧ (aligning.jrec 7).isSome = true := by
  decide +kernel
theorem test_alignment : did (.alignmentDone 1 []) aligning (fun d => (d.ended, (d.ing 1).st)) = some (some 0, 2)
    ∧ did (.alignmentTimeout 1 [80]) aligning (fun d => (d.ended, (d.ing 1).st)) = some (some (0x700 + stNoAlign), 3) := by decide +kernel
theorem wit_portsAlone : framing.portsAlone ∧ (sensing ctx1).portsAlone := by unfold Dev.portsAlone; decide +kernel
theorem wit_StopPort : ((sensing ctx1).given (cmd 3 0x98 2 1 [])).ready 7 false 0x98 ≠ none ∧ (cmd 3 0x98 2 1 []).w10 % 256 = kIngest
    ∧ (cmd 3 0x98 2 1 []).stopNow = false ∧ (cmd 3 0x98 0x102 1 []).stopNow = true ∧ (framing.ing 1).inFrame = true ∧ ((sensing ctx1).ing 1).inFrame = false := by
  decide +kernel
theorem test_stop_between_frames : did (.stopSensorPort 7) ((sensing ctx1).given (cmd 3 0x98 2 1 [])) (fun d => (d.ended, (d.jrec 7).map (·.result), (d.ing 1).st))
    = some (some 0, some 8, 0) := by decide +kernel
theorem test_stop_in_frame_waits : did (.stopSensorPort 7) (framing.given (cmd 3 0x98 2 1 [])) (fun d => (d.ended, (d.ing 1).stops)) = some (none, [7]) := by
  decide +kernel
theorem wit_ClockWindow : (sensing ctx1).clockLanes 1 0 = [80, 81, 82, 83, 84, 85, 86, 87] ∧ (sensing ctx1).wideMode = false := by decide +kernel
theorem test_clock_out_of_window : did (.sensorClockWindow 1 0 (some 20001)) (sensing ctx1) (fun d => ((d.ing 1).st, d.fget (fSnsLaneStatLockloss 80))) = some (1, 1)
    ∧ did (.sensorClockWindow 1 0 (some 20000)) (sensing ctx1) (fun d => ((d.ing 1).st, d.fget (fSnsLaneStatLockloss 80))) = some (2, 0) := by decide +kernel

/-- Lane 81 has failed its training check six or seven times in a row. -/
def failing (k : Nat) : Dev := sensing { ctx1 with bad := [(81, k)] }
theorem wit_BlankingCheck : (failing 7).portsAlone ∧ ((failing 7).ing 1).window = none ∧ 81 ∈ (failing 7).lanesOfCtx 1 ∧ 8 ≤ tgetD ((failing 7).ing 1).bad 81 0 + 1
    ∧ (∀ n ∈ (failing 6).lanesOfCtx 1, (if n ∈ [81] then tgetD ((failing 6).ing 1).bad n 0 + 1 else 0) < 8) := by
  unfold Dev.portsAlone; decide +kernel
theorem test_eighth_bad_check_realigns : did (.blankingCheck 1 [81]) (failing 7) (fun d => ((d.ing 1).st, d.fget (fSnsLaneStatLockloss 81), d.fget (fSnsLaneStatLockloss 80))) = some (1, 1, 0)
    ∧ did (.blankingCheck 1 [81]) (failing 6) (fun d => ((d.ing 1).st, (d.ing 1).bad)) = some (2, [(81, 7)]) := by decide +kernel

theorem wit_SensorFrames : (framing.ing 1).st = 2 ∧ (framing.ing 1).stops = [] ∧ (framing.ing 1).cur = some rec9 ∧ (framing.ing 1).chk = false ∧ (framing.ing 1).nexp = 1
    ∧ framing.embedded 1 = false ∧ (framing.ing 1).winLost = 0 ∧ (framing.ing 1).rows.length < framing.bufRows 1 1 8 (framing.fget (fSnsFrameBuf 1)) ∧ (framing.ing 1).lines + 1 < (framing.ing 1).height
    ∧ (framing.ing 1).dropping = false ∧ rec9.rows < (framing.ing 1).height ∧ (framing.ing 1).expSeen = false ∧ framing.flag (fSnsGlEn 1) = false
    ∧ ((sensing ctx1).ing 1).staged = [] ∧ ((sensing ctx1).ing 1).nextExp = none ∧ ((sensing ctx1).ing 1).fv = false
    ∧ 2 * (200 - 100) < framing.fget (fSnsTimePeriod 1) := by decide +kernel
theorem test_frame_start : did (.sensorFrameStart 1 (edgeAt 500)) (sensing ctx1) (fun d => ((d.ing 1).cur.map (·.frame), (d.ing 1).count, (d.ing 1).height)) = some (some 9, 10, 16) := by
  decide +kernel
theorem test_early_frame_start_rejected : did (.sensorFrameStart 1 (edgeAt 499999)) { framing with sns := { framing.sns with ctxs := [(1, { ctx1 with lastStart := some 0 })] } }
    (fun d => ((d.ing 1).rejected, (d.ing 1).count)) = some (true, 9) := by decide +kernel
def line1 : SnsLine := { rise := edgeAt 600, fall := edgeAt 612, lanes := (List.range 8).map (fun k => ([0xF10 + k], 0)), bitTimes := 12, gap := 32, exposure := 0, disagree := false }
theorem wit_SensorLine : line1.bitTimes = (framing.ing 1).width / (framing.ing 1).nlane * (framing.ing 1).depth ∧ 32 ≤ line1.gap ∧ (framing.ing 1).part = []
    ∧ (line1.lanes[3]?).bind (fun x => x.1[0]?) = some 0xF13 := by decide +kernel
theorem test_line_becomes_row : did (.sensorLine 1 line1) framing (fun d => (d.ing 1).rows.map (fun r => (r.row, r.lines)))
    = some [(2, [[0xF10, 0xF11, 0xF12, 0xF13, 0xF14, 0xF15, 0xF16, 0xF17]])] := by decide +kernel
theorem test_exp_edge : did (.sensorExpEdge 1 (edgeAt 300)) framing (fun d => (d.ing 1).cur.bind (·.texp)) = some (some 300)
    ∧ did (.sensorExpEdge 1 (edgeAt 300)) (framing.ingMod 1 (fun g => { g with cur := some { rec9 with texp := some 5 } })) (fun d => (d.ing 1).cur.bind (·.texp)) = some (some 300)
    ∧ did (.sensorExpEdge 1 (edgeAt 300)) (sensing ctx1) (fun d => (d.ing 1).nextExp) = some (some 300) := by decide +kernel
theorem test_short_frame : did (.sensorFrameEnd 1 (edgeAt 900)) framing (fun d => (d.ing 1).cur.map (fun r => (r.lost, r.marks, r.tend))) = some (some (14, mShort, some 900)) := by
  decide +kernel
theorem test_line_timeout_closes : did (.lineTimeout 1) framing (fun d => ((d.ing 1).inFrame, (d.ing 1).cur.map (·.lost))) = some (false, some 14) := by decide +kernel
def late1 : Dev := let d := sensing { ctx1 with lastStart := some 0 }; { d with time := { d.time with count := 1500000 * 4294967296 } }
theorem wit_FrameTimeout : (late1.ing 1).lastStart = some 0 ∧ late1.ctxTout 1 = 24 ∧ late1.nowNs = 1500000 ∧ late1.flag (fSnsGlEn 1) = false ∧ (framing.ing 1).lastStart = some 100 := by decide +kernel
theorem wit_RawRow : ∃ row, row.written = false ∧ ({ ctx1 with rows := [row], rawBuf := [(9, 9)] } : Ingest).rows = [row]
    ∧ (snsMaps (sensing { ctx1 with rows := [row], rawBuf := [(9, 9)] })).buf 9 ≠ none
    ∧ (snsMaps (sensing ctx1)).rangeFault true 0 0x200000 64 true = none ∧ packLine 12 [1, 2, 3, 4, 5, 6, 7, 8] ≠ [] :=
  ⟨{ frame := 9, row := 0, lines := [[1, 2, 3, 4, 5, 6, 7, 8]] }, by decide +kernel⟩
theorem test_raw_row_written : did (.rawRowVisible 1) (snsMaps (sensing { ctx1 with rows := [{ frame := 9, row := 0, lines := [[1, 2, 3, 4, 5, 6, 7, 8]] }], rawBuf := [(9, 9)] }))
    (fun d => ((d.ing 1).rows.length, mread d.mem.bytes (cxlBase + 0x1000) 64 == packLine 12 [1, 2, 3, 4, 5, 6, 7, 8])) = some (0, true) := by decide +kernel

/-- A unit in calibration under SEQ 7: its lane 80 in the window, or with measurement under way. -/
def calibrating (p : CalPhase) (failed : Bool) (st : Nat) : Dev :=
  let d := (sensing { ctx1 with st := st, window := some 0 }).given (cmd 3 0xA8 1 0 [])
  { d with sns := { d.sns with cals := [(1, { seq := 7, phase := p, temp := 0, new := [(80, 20, 2)], old := [(80, 10, 1)], failed := failed })] } }
theorem wit_Calibrate : ((sensing ctx1).given (cmd 3 0xA8 1 0 [])).ready 7 false 0xA8 ≠ none ∧ (sensing ctx1).unitExists 1 = true ∧ tget (sensing ctx1).sns.cals 1 = none
    ∧ unitCtx 1 = 1 ∧ ((calibrating .window false 2).ing 1).window = some 0 ∧ (12 < ((calibrating .measuring false 2).maxReading - 52).natAbs)
    ∧ ((calibrating .measuring false 2).maxReading - 0).natAbs ≤ 12 := by decide +kernel
theorem test_calibrate_without_signal : did (.calibrateSensorPort 7) ((sensing { ctx1 with st := 0 }).given (cmd 3 0xA8 1 0 [])) Dev.ended = some (some (0x700 + stNoSignal)) := by
  decide +kernel
theorem test_calibrate : did (.calibrateSensorPort 7) ((sensing ctx1).given (cmd 3 0xA8 1 0 [])) (fun d => (tget d.sns.cals 1).map (·.phase)) = some (some .measuring) := by
  decide +kernel
/-- Taps 20 to 39 are free of errors, then 44 to 63: the lowest of equal runs. -/
theorem test_longest_run : longestRun (0xFFFFF * 2 ^ 20 + 0xFFFFF * 2 ^ 44) = (20, 20) ∧ longestRun 0 = (0, 0) ∧ longestRun (2 ^ 64 - 1) = (64, 0) := by decide +kernel
theorem test_tap_steps_by_one : did (.calTapStep 1) (calibrating .window false 2) (fun d => (d.fget (fSnsLaneCfgTap 80), (d.ing 1).window)) = some (1, some 4) := by
  decide +kernel
theorem test_failed_window_restores : did (.calWindowClose 1) (calibrating .window true 2) (fun d => (d.ended, d.fget (fSnsLaneCfgTap 80), (d.ing 1).window))
    = some (some (0x700 + stRejectedLock), 10, none) := by decide +kernel

/-- The pilot path serves context 1 into buffer 9 and has written frame 9 whole. -/
def piloting (f : List PilotFrame) : Dev :=
  let d := snsMaps (sensing { ctx1 with recs := [rec9] })
  { d with sns := { d.sns with pilot := { service := some { ctx := 1, sink := 9, first := 9, frames := f } } } }
def pf : PilotFrame := { frame := 9, width := 8, height := 16, depth := 12, nexp := 1, row := 16, lo := some 0, hi := some 16 }
theorem wit_Pilot : ((piloting []).given (cmd 3 0x98 3 0 [])).ready 7 false 0x98 ≠ none ∧ (cmd 3 0x98 3 0 []).w10 % 256 = kPilot ∧ pf.hi.isSome = true
    ∧ (piloting [pf]).frameRec 1 9 = some rec9 ∧ (piloting [pf]).sns.pilot.cover = none ∧ (piloting [pf]).cores.graphs = [] := by decide +kernel
theorem test_pilot_publishes : did .pilotFrameDone (piloting [pf]) (fun d => (tget d.mem.published 9).map (fun p => (p.frame, p.marks))) = some (some (9, mPilot)) := by
  decide +kernel
theorem test_failed_pilot_frame_not_published : did .pilotFrameDone (piloting [{ pf with failed := true }]) (fun d => (tget d.mem.published 9).isNone) = some true := by decide +kernel
theorem test_pilot_error_fails_frames : did (.pilotError 0 []) (piloting [pf]) (fun d => d.sns.pilot.service.map (fun x => x.frames.map (·.failed))) = some (some [true]) := by
  decide +kernel
theorem test_stop_pilot : did (.stopPilot 7) ((piloting []).given (cmd 3 0x98 3 0 [])) (fun d => (d.ended, d.sns.pilot.service.isNone)) = some (some 0, true)
    ∧ did (.stopPilot 7) ((piloting [pf]).given (cmd 3 0x98 3 0 [])) (fun d => (d.ended, d.sns.pilot.service.map (·.stops))) = some (none, some [7]) := by decide +kernel
def pilotBlk : List Byte := fill 64 []
def pilotSet : Dev := let d := snsMaps (sensing ctx1); { d with sns := { d.sns with pilot := { blocks := [(1, [(0, pilotBlk)])] } } }
theorem wit_StartPilot : (pilotSet.given (cmd 3 0xAC 1 9 [])).ready 7 false 0xAC ≠ none ∧ (tgetD pilotSet.sns.pilot.blocks 1 []).head? = some (0, pilotBlk)
    ∧ pilotSet.ownedBusy 8 = false ∧ pilotSet.fget fPipePltCtlState = 0 ∧ pilotSet.pilotRate 1 (plBin2 pilotBlk) = true ∧ pilotSet.sinkRunning 9 = false := by decide +kernel
theorem test_start_pilot : did (.startPilot 7) (pilotSet.given (cmd 3 0xAC 1 9 [])) (fun d => (d.ended, d.sns.pilot.service.map (·.sink), d.fget fPipePltCtlState))
    = some (some 0, some 9, 1) := by decide +kernel
theorem test_start_busy_pilot : did (.startPilot 7) ((pilotSet.fld [(fPipePltCtlState, 1)]).given (cmd 3 0xAC 1 9 [])) Dev.ended = some (some (0x700 + stPilotBusy)) := by decide +kernel

theorem wit_ObTrack : graph1.frameDone (fr 5) = false ∧ ({ graph1 with stages := [{ stage1 with rt := false }] } : Graph).frameDone (fr 5) = true
    ∧ (fr 5).obDone = [] ∧ ({ prog1 with flags := 4, name := nameFront, version := 65536 } : Program).lib = some .front := by decide +kernel
theorem test_ob_update_waits : did (.obTrackUpdate 1 0) graphUp (fun d => d == graphUp) = some true := by decide +kernel
theorem test_genlock_timeout : ((late1.fld [(fSnsGlEn 1, 1), (fSnsGlLatLat 1, 500)]).ingMod 1 (fun g => { g with lastTrig := some 1000, lastStart := some 1500 })).staleDue 1 = some 1501500
    ∧ ((late1.fld [(fSnsGlEn 1, 1), (fSnsGlLatLat 1, 500)]).ingMod 1 (fun g => { g with lastTrig := some 1000, lastStart := none })).staleDue 1 = some 501500 := by decide +kernel
theorem test_late_frame_is_stale : did (.frameTimeout 1) late1 (fun d => (d.ing 1).cur.map (fun r => (r.marks, r.tstart))) = some (some (mStale, some 1000000)) := by decide +kernel

/-! ## Compositors, flows and rasters -/

/-- A page of 2 MiB at 0x200000 and its handle 9. -/
def roomy (d : Dev) : Dev :=
  { d with mem := { d.mem with
      pages := [(0, [{ va := 0x200000, size := 0x200000, pa := some (cxlBase + 0x200000), rd := true, wr := true, pin := true, kind := 1 }])]
      maps := [(9, { asid := 0, va := 0x200000, len := 0x200000, kind := 1 })] } }
def mixBlock (w h : Nat) : List Byte :=
  fill 576 ([(0, le 2 w), (2, le 2 h), (0x0A, [3]), (0x10, le 4 9), (0x14, le 4 9), (0x18, le 4 9)] ++ (List.range 16).map (fun k => (0x40 + 32 * k, [255])))
theorem wit_StartCompositor : ((roomy up).given (cmd 3 0x9D 1 0 (mixBlock 2 2))).ready 7 false 0x9D ≠ none ∧ (mixBlock 2 2).length = 576
    ∧ allZero (mixBlock 2 2) 0x0E 2 = true ∧ allZero (mixBlock 2 2) (0x10 + 4 * 3) (24 - 4 * 3) = true ∧ allZero (mixBlock 2 2) 0x28 24 = true
    ∧ (∀ k ∈ List.range 16, layerOk (k == 0) 2 2 (((List.range 16).map (fun k => ((mixBlock 2 2).drop (0x40 + 32 * k)).take 32)).getD k []) = true)
    ∧ 0 ∈ up.mem.spaces ∧ ((roomy up).buf 9).map (fun m => (m.asid, decide (rgbPitch 2 * 2 ≤ m.len))) = some (0, true) ∧ (up.mix 1).running = false
    ∧ up.unitBusy (.compositor 1) 7 = false ∧ up.mixRate 2 2 0 [] = true ∧ (up.fld [(fTrgPerNPerN 0, 1000)]).mixRate 512 512 0 [] = false := by decide +kernel
theorem test_start_compositor : did (.startCompositor 7) ((roomy up).given (cmd 3 0x9D 1 0 (mixBlock 2 2))) (fun d => (d.ended, (d.mix 1).running, d.fget (fMixStatState 1)))
    = some (some 0, true, 1) := by decide +kernel
theorem test_compositor_rate : did (.startCompositor 7) ((roomy (up.fld [(fTrgPerNPerN 0, 1000)])).given (cmd 3 0x9D 1 0 (mixBlock 512 512))) Dev.ended = some (some (0x700 + stOverRate)) := by decide +kernel

/-- Compositor 1 runs at 2 by 2 into buffer 9, with one composite in progress. -/
def offLayers : List (List Byte) := (List.range 16).map (fun _ => fill 32 [(0, [255])])
def comp5 : CompFrame := { oframe := 5, buf := 9, base := none, src := none, tf := 0, marks := 0, tstart := 0, time := 0, tmeta := 0, layers := offLayers }
def mixer : Compositor := { running := true, block := mixBlock 2 2, width := 2, height := 2, bg := [1, 2, 3], bufs := [9, 9, 9], layers := offLayers, next := 5 }
def mixing (x : Compositor) : Dev := let d := roomy up; { d with vid := { d.vid with mix := [(1, x)] } }
theorem wit_SetLayers : ((mixing mixer).given (cmd 3 0xA1 1 1 (fill 32 [(0, [255])]))).ready 7 false 0xA1 ≠ none ∧ ((mixing mixer).mix 1).running = true
    ∧ layerOk true 2 2 (fill 32 [(0, [255])]) = true ∧ (up.mix 1).running = false := by decide +kernel
theorem test_set_layers : did (.setLayers 7) ((mixing mixer).given (cmd 3 0xA1 1 1 (fill 32 [(0, [255])]))) (fun d => (d.ended, (d.mix 1).staged.map (·.1))) = some (some 0, [0]) := by
  decide +kernel
theorem test_set_layers_stopped : did (.setLayers 7) (up.given (cmd 3 0xA1 1 0 [])) Dev.ended = some (some (0x700 + stBadHandle)) := by decide +kernel
theorem wit_StopCompositor : ((mixing mixer).given (cmd 3 0x98 4 1 [])).ready 7 false 0x98 ≠ none ∧ (cmd 3 0x98 4 1 []).w10 % 256 = kCompositor
    ∧ ((mixing { mixer with cur := some comp5 }).mix 1).cur.isSome = true := by decide +kernel
theorem test_stop_compositor : did (.stopCompositor 7) ((mixing mixer).given (cmd 3 0x98 4 1 [])) (fun d => (d.ended, (d.mix 1).running)) = some (some 0, false)
    ∧ did (.stopCompositor 7) ((mixing { mixer with cur := some comp5 }).given (cmd 3 0x98 4 1 [])) (fun d => (d.ended, (d.mix 1).stops)) = some (none, [7]) := by decide +kernel
theorem wit_CompositeRelease : (mixing { mixer with cur := some comp5 }).mixCut 1 = false ∧ (∀ k ∈ List.range 16, leOn (comp5.layers.getD k []) = false)
    ∧ (mixing mixer).rangeFault true 0 0x200000 (rgbPitch 2 * 2) true = none
    ∧ ({ mixing { mixer with cur := some comp5 } with lanes := { up.lanes with dieDown := [0] } } : Dev).mixCut 1 = true := by decide +kernel
theorem test_background_composite : did (.compositeRelease 1) (mixing { mixer with cur := some comp5 })
    (fun d => ((d.mix 1).cur.isNone, (d.mix 1).out.map (·.oframe), mread d.mem.bytes (cxlBase + 0x200000) 3)) = some (true, some 5, [1, 0, 1]) := by decide +kernel
theorem test_cut_composite_aborted : did (.compositeRelease 1) { mixing { mixer with cur := some comp5, recs := [{ oframe := 5, tstart := 0 }] } with lanes := { up.lanes with dieDown := [0] } }
    (fun d => ((d.mix 1).out.isNone, (d.mix 1).recs.map (fun r => r.flags == oAborted))) = some (true, [true]) := by decide +kernel

/-! Guards, profiles and images. -/

theorem wit_Guards : ((mixing mixer).given (cmd 3 0xB1 1 1 (fill 32 [(4, le 2 2), (6, le 2 2)]))).ready 7 false 0xB1 ≠ none
    ∧ regionEntriesOk (fill 32 [(4, le 2 2), (6, le 2 2)]) 1 = true ∧ ((mixing mixer).given (cmd 3 0xB4 1 0 [])).ready 7 false 0xB4 ≠ none
    ∧ ((mixing mixer).given (cmd 3 0xB8 1 0 [])).ready 7 false 0xB8 ≠ none := by decide +kernel
theorem test_guard_region_fits : (regionsOf (fill 32 [(4, le 2 2), (6, le 2 2)]) 1).map (fun r => (r.w, r.h, r.action, regionFits false 0 2 2 r)) = [(2, 2, 0, false)] ∨
    (regionsOf (fill 32 [(4, le 2 2), (6, le 2 2)]) 1).map (fun r => regionFits false 0 2 2 r) = [true] := by decide +kernel
theorem test_arm_and_disarm : did (.armGuards 7) ((mixing mixer).given (cmd 3 0xB4 1 0 [])) (fun d => (d.ended, (d.mix 1).guards.armed)) = some (some 0, true)
    ∧ did (.disarmGuards 7) ((mixing { mixer with guards := { armed := true } }).given (cmd 3 0xB8 1 0 [])) (fun d => ((d.jrec 7).map (·.result), (d.mix 1).guards.armed)) = some (some 4, false) := by
  decide +kernel
theorem wit_SafeImage : (up.given (cmd 3 0xD0 511 9 [])).ready 7 false 0xD0 ≠ none ∧ up.buf 9 = none ∧ ((mapped up).rangeFault false 0 0x200000 16 false = none) := by decide +kernel
theorem test_safe_image_of_nothing : did (.loadSafeImage 7) (up.given (cmd 3 0xD0 511 9 [])) Dev.ended = some (some (0x700 + stBadHandle)) := by decide +kernel

/-- Eight taps by eight: one coefficient of 4096 in each phase. -/
def unity (n : Nat) : List Byte := (List.replicate n (zeros 6 ++ le 2 0x1000 ++ zeros 8)).flatten
def profile (v : List Byte) : List Byte := [8, 8, 0, 0] ++ v ++ unity 64
theorem wit_Profiles : (up.given (cmd 3 0xA9 1 0 (profile (unity 64)))).ready 7 false 0xA9 ≠ none ∧ (profile (unity 64)).take 4 = [8, 8, 0, 0] := by decide +kernel
theorem wit_phases : coeffs (unity 1) 0 8 = [0, 0, 0, 4096, 0, 0, 0, 0] ∧ phasesOk 8 (List.replicate 64 [0, 0, 0, 4096, 0, 0, 0, 0]).flatten = true
    ∧ phasesOk 8 [] = false := by decide +kernel
theorem wit_Tone : (up.given (cmd 3 0xAD 1 0 [])).ready 7 false 0xAD ≠ none ∧ field (le 2 1000) 0 2 = 1000 := by decide +kernel

/-! Flow 33 of spout 1: 2 by 2 of compositor 1 to port 0, RGB or 4:2:2 of 8 bits. -/

def flowBlock (dest samp : Nat) : List Byte :=
  fill 64 [(0, [1]), (2, [BitVec.ofNat 8 dest]), (8, le 2 2), (0x0A, le 2 2), (0x0C, le 2 2), (0x0E, le 2 2), (0x10, le 4 65536), (0x14, le 4 65536),
    (0x1A, [BitVec.ofNat 8 samp, 8, 0, 255]), (0x20, if dest = 0 then le 4 0xEF010101 else [2]), (0x24, if dest = 0 then zeros 4 else le 4 9), (0x28, if dest = 0 then zeros 4 else le 4 9),
    (0x36, if dest = 0 then [96, 97] else [0])]
def scale1 : ScaleProfile := { th := 8, tv := 8, ch := coeffs (unity 64) 0 512, cv := coeffs (unity 64) 0 512 }
def flowing (st : Nat) (x : Flow) : Dev :=
  let d := (roomy up).fld [(fSptFlowCfgState 33, st), (fLaneGrpCfgProto 0, 1)]
  { d with vid := { d.vid with flow := [(33, x)], spout := [(1, { scale := [(0, scale1)] })] } }
def flow1 : Flow := { desc := some (flowBlock 0 0) }
theorem wit_ConfigureFlow : ((flowing 0 {}).given (cmd 3 0xA5 33 0 (flowBlock 0 0))).ready 7 false 0xA5 ≠ none ∧ fdShapeOk (flowBlock 0 0) = true
    ∧ (flowing 0 {}).fdStreamsOk (flowBlock 0 0) = true ∧ (flowing 0 {}).fdStreamsOk (flowBlock 1 0) = true ∧ (flowing 0 {}).toneRefused (flowBlock 0 0) = false
    ∧ (flowing 0 {}).scaleRefused 33 (flowBlock 0 0) = false ∧ (flowing 0 {}).flowSt 33 = 0 ∧ (flowing 1 flow1).flowSt 33 = 1
    ∧ sameStreams (flowBlock 0 0) (flowBlock 1 0) = false := by decide +kernel
theorem test_configure_flow : did (.configureFlow 7) ((flowing 0 {}).given (cmd 3 0xA5 33 0 (flowBlock 0 0))) (fun d => (d.ended, (d.flow 33).desc.isSome)) = some (some 0, true) := by
  decide +kernel
theorem test_running_flow_keeps_streams : did (.configureFlow 7) ((flowing 1 flow1).given (cmd 3 0xA5 33 0 (flowBlock 1 0))) Dev.ended = some (some (0x700 + stFlowRunning)) := by
  decide +kernel
theorem wit_StartFlow : ((flowing 0 flow1).given (cmd 3 0xB0 33 0 [])).ready 7 false 0xB0 ≠ none ∧ (flowing 0 flow1).unitBusy (spoutUnit 33) 7 = false
    ∧ (flowing 0 flow1).fget fQfStatPstate ≠ 1 ∧ loadFits ((flowing 0 flow1).spoutLoad 1 33 (some (flowBlock 0 0))) = true ∧ (tget ((flowing 0 flow1).spout 1).scale 0).isSome = true
    ∧ fdTonemap (flowBlock 0 0) = false ∧ (flowing 0 flow1).safeMissing 1 33 = false ∧ ((flowing 0 flow1).planFlow 33 (flowBlock 0 0) []).isSome = true
    ∧ ((flowing 0 flow1).fld [(fLaneGrpCfgProto 0, 7)]).planFlow 33 (flowBlock 0 0) [] = none := by decide +kernel
theorem test_start_flow : did (.startFlow 7) ((flowing 0 flow1).given (cmd 3 0xB0 33 0 [])) (fun d => (d.ended, d.flowSt 33, (d.flow 33).place.length)) = some (some 0, 1, 1) := by
  decide +kernel
theorem test_start_running_flow : did (.startFlow 7) ((flowing 1 flow1).given (cmd 3 0xB0 33 0 [])) Dev.ended = some (some (0x700 + stBusy)) := by decide +kernel
theorem test_port_full : did (.startFlow 7) (((flowing 0 flow1).fld [(fLaneGrpCfgProto 0, 7)]).given (cmd 3 0xB0 33 0 [])) Dev.ended = some (some (0x700 + stPortFull)) := by decide +kernel
theorem wit_StopFlow : ((flowing 1 flow1).given (cmd 3 0x98 5 33 [])).ready 7 false 0x98 ≠ none ∧ (cmd 3 0x98 5 33 []).w10 % 256 = kFlow ∧ (flow1).busy = false := by decide +kernel
theorem test_stop_flow : did (.stopFlow 7) ((flowing 1 flow1).given (cmd 3 0x98 5 33 [])) (fun d => (d.ended, d.flowSt 33)) = some (some 0, 0) := by decide +kernel
def ff : FlowFrame := { oframe := 5, src := none, desc := flowBlock 0 0, tstart := 0, scale := some scale1 }
theorem wit_PacketSend : ({ flow1 with send := some ff } : Flow).sending.isSome = true ∧ ff.pkt + 1 < framePackets ff.desc ∧ fdAnc ff.desc = false ∧ flow1.sending = none := by decide +kernel
theorem test_packets_in_line_order : did (.packetSend 33 false) (flowing 1 { flow1 with send := some ff }) (fun d => ((d.flow 33).send.map (fun f => (f.pkt, f.black)), (d.flow 33).rtp))
    = some (some (1, some 0), 1) := by decide +kernel
def reg0 : Region := { x := 0, y := 0, w := 2, h := 2, action := 0, mode := 0, expect := 0, subst := 0 }
def checking : Flow := { flow1 with cur := some { ff with epoch := some 1 }, guards := { regions := [reg0], armed := true, epoch := 1 } }
theorem wit_RegionSignature : checking.guards.regions[0]? = some reg0 ∧ reg0.learn = false ∧ reg0.latched = false ∧ ({ ff with epoch := some 1 } : FlowFrame).safe = false
    ∧ reg0 ∉ ({ ff with epoch := some 1 } : FlowFrame).subst ∧ (0 : Nat) ∉ ({ ff with epoch := some 1 } : FlowFrame).checked := by decide +kernel
theorem test_mismatch_is_marked : did (.flowRegionSignature 33 0) (flowing 1 checking) (fun d => ((d.flow 33).guards.regions.map (·.bad), d.sump.hold.map (·.cls))) = some ([true], [0x10]) := by
  decide +kernel
theorem wit_MemoryFlow : ({ ff with desc := flowBlock 1 0, buf := some 9 } : FlowFrame).buf = some 9 ∧ (flowing 1 {}).buf 9 ≠ none ∧ ({ flow1 with desc := some (flowBlock 1 0) } : Flow).stops = [] := by
  decide +kernel
theorem test_memory_flow : did (.memoryFlowFrameDone 33) (flowing 1 { desc := some (flowBlock 1 0), cur := some { ff with desc := flowBlock 1 0, buf := some 9, black := some 0 } })
    (fun d => ((d.flow 33).cur.isNone, (d.flow 33).lastDone)) = some (true, some 5) := by decide +kernel
theorem wit_Sdp : ((flowing 0 flow1).given (cmd 3 0x82 33 0 [])).ready 7 false 0x82 ≠ none ∧ fdDest (flowBlock 0 0) = 0 ∧ ((flowing 0 {}).flow 33).desc = none := by decide +kernel
theorem test_sdp_of_unconfigured_flow : did (.getFlowSdp 7) ((flowing 0 {}).given (cmd 3 0x82 33 0 [])) Dev.ended = some (some (0x700 + stBadParam)) := by decide +kernel

/-! Raster 2 on lane 82. -/

def rastering (st : Nat) (x : Raster) : Dev :=
  let d := up.fld [(fLaneGrpCfgProto 10, 7), (fRasCtlState 2, st), (fRasCtlLink 2, 1), (fRasCtlFlow 2, 33), (fRasHaActive 2, 1920), (fRasHaFp 2, 88), (fRasHbSync 2, 44), (fRasHbBp 2, 148),
    (fRasVaActive 2, 1080), (fRasVaFp 2, 4), (fRasVbSync 2, 5), (fRasVbBp 2, 36), (fTrgPerNPerN 0, 20000000), (fTrgPerRdPerD 0, 1), (fTrgPerRdPerR 0, 0)]
  { d with vid := { d.vid with ras := [(2, x)] } }
theorem wit_StartRaster : ((rastering 0 {}).given (cmd 3 0xBC 2 0 [])).ready 7 false 0xBC ≠ none ∧ (rastering 0 {}).isSdi (rasLane 2) = true ∧ (rastering 0 {}).rasRuns 2 = false
    ∧ (rastering 0 {}).unitBusy (.raster 2) 12 = false ∧ (rastering 0 {}).flag (fRasCtlClone 2) = false ∧ (rastering 0 {}).rasTimingOk 2 0 = false
    ∧ ((rastering 0 {}).fld [(fRasHaFp 2, 528)]).rasTimingOk 2 0 = true := by decide +kernel
theorem test_raster_timing : did (.startRaster 7) ((rastering 0 {}).given (cmd 3 0xBC 2 0 [])) Dev.ended = some (some (0x700 + stBadTiming)) := by decide +kernel
def out1 : Released := { buf := 9, oframe := 5, src := none, marks := 0, oflags := 0, tf := 3, width := 2, height := 2 }
theorem wit_StopRaster : ((rastering 1 {}).given (cmd 3 0x98 6 2 [])).ready 7 false 0x98 ≠ none ∧ (cmd 3 0x98 6 2 []).w10 % 256 = kRaster ∧ (rastering 1 {}).rasRuns 2 = true
    ∧ (rastering 1 {}).clonesOf 2 = [] ∧ ((rastering 2 {}).given (cmd 3 0x84 6 2 [])).ready 7 false 0x84 ≠ none ∧ (rastering 2 {}).rasSt 2 = 2
    ∧ ((rastering 1 { cur := some (5, some out1) }).ras 2).cur = some (5, some out1) := by decide +kernel
theorem test_stop_raster : did (.stopRaster 7) ((rastering 1 {}).given (cmd 3 0x98 6 2 [])) (fun d => (d.ended, d.rasSt 2)) = some (some 0, 2)
    ∧ did (.releaseRaster 7) ((rastering 2 {}).given (cmd 3 0x84 6 2 [])) (fun d => (d.ended, d.rasSt 2)) = some (some 0, 0) := by decide +kernel
theorem test_raster_underrun : did (.rasterUnderrun 2) (rastering 1 { cur := some (5, some out1), recs := [{ oframe := 5, tstart := 0 }] })
    (fun d => ((d.ras 2).cur.map (·.2.isNone), d.rasSt 2, (d.ras 2).recs.map (·.flags == oUnderrun + oAborted))) = some (some true, 3, [true]) := by decide +kernel
theorem test_readback : did (.rasterLineReadback 2 false) (rastering 1 { badRun := 3 }) (fun d => ((d.ras 2).badRun, d.fget (fRasStatPinerr 2))) = some (4, 1)
    ∧ did (.rasterLineReadback 2 true) ((rastering 1 { badRun := 3 }).fld [(fLaneStatBitlock 82, 1), (fLaneStatBlklock 82, 1)]) (fun d => (d.ras 2).badRun) = some 0
    ∧ did (.rasterLineReadback 2 true) (rastering 1 { badRun := 3 }) (fun d => (d.ras 2).badRun) = some 4 := by decide +kernel

/-! ## Recording and coding -/

/-- A 2 by 2 block of 12-bit samples, coded and decoded again. -/
theorem test_block_code : decodeBlock (codeBlock 3 1 2 2 2 12 (fun i j => 100 + 10 * i + j)).1 = some [100, 110, 101, 111] := by decide +kernel
theorem wit_BlockCode : (12 : Nat) ∈ [10, 12, 14, 16] ∧ 100 + 10 * 1 + 1 < 2 ^ 12 ∧ (4095 : Nat) < 2 ^ 12 := by decide

/-- A formatted store with room for extents, over context 1. -/
def stored (n : Nat) (recs : Tab Recording) : Dev :=
  let d := (sensing ctx1).fld [(fStoStatState, 1)]
  { d with store := { d.store with superOk := true, nextents := n, hostNs := 1, blocksPerSsd := 1000000, nssdFormatted := 1, clips := [(3, { st := 1, gen := 1, ctx := 1 })] },
           vid := { d.vid with pool := { d.vid.pool with recs := recs } } }
def recd : Recording := { clip := 0x10003, first := 9, next := 9 }
theorem wit_StartRecording : ((stored 8 []).given (cmd 3 0xC0 1 0 [])).ready 7 false 0xC0 ≠ none ∧ (stored 8 []).recOf 1 = none ∧ (stored 8 []).ownedBusy 11 = false
    ∧ (stored 8 []).storeUsable = true ∧ (sensing ctx1).storeUsable = false ∧ (stored 8 []).freeExts = 8 ∧ (stored 1 []).freeExts < 2 := by decide +kernel
theorem test_no_store : did (.startRecording 7) ((sensing ctx1).given (cmd 3 0xC0 1 0 [])) Dev.ended = some (some (0x700 + stNoStore)) := by decide +kernel
theorem test_store_full : did (.startRecording 7) ((stored 1 []).given (cmd 3 0xC0 1 0 [])) Dev.ended = some (some (0x700 + stStoreFull)) := by decide +kernel
theorem wit_StopRecording : ((stored 8 [(1, recd)]).given (cmd 3 0x98 7 1 [])).ready 7 false 0x98 ≠ none ∧ (cmd 3 0x98 7 1 []).w10 % 256 = kRecording
    ∧ (stored 8 [(1, recd)]).recOf 1 = some recd := by decide +kernel
theorem test_stop_recording : did (.stopRecording 7) ((stored 8 [(1, recd)]).given (cmd 3 0x98 7 1 [])) (fun d => (d.ended, (d.recOf 1).map (·.closing))) = some (some 0, some (some 7)) := by
  decide +kernel
def unit9 : FrameUnit := { frame := 9, width := 8, lines := 16, depth := 12, nexp := 1, tstart := 0, raw := some 9, visible := List.range 16 }
def recording1 (u : FrameUnit) (e : Bool) : Dev :=
  let d := stored 8 [(1, { recd with units := [u], ending := e })]
  snsMaps { d with sns := { d.sns with ctxs := [(1, { ctx1 with inFrame := true, cur := some rec9, frameNo := 9, recs := [], rawBuf := [(9, 9)] })] } }
theorem wit_BandReady : (recording1 unit9 true).bandReady 1 unit9 0 = true ∧ (recording1 { unit9 with visible := [] } true).bandReady 1 { unit9 with visible := [] } 0 = false
    ∧ ((recording1 unit9 true).ing 1).cur.map (·.frame) = some 9 ∧ (∀ p ∈ List.range 4, unit9.bandRows 0 (p % 4) ≠ []) := by decide +kernel
theorem test_band_not_ready : did (.bandReady 1 0) (recording1 { unit9 with visible := [] } true) (fun d => (d.recOf 1).map (fun r => r.units.map (·.ready))) = some (some [[]]) := by
  decide +kernel
theorem test_band_ready : did (.bandReady 1 0) (recording1 unit9 true) (fun d => (d.recOf 1).map (fun r => r.units.map (·.bands))) = some (some [[0]]) := by decide +kernel
theorem wit_BandPlane : tget (stored 8 []).vid.pool.work 0 = none ∧ (up.fld [(fCmpStatState 0, 1)]).fget (fCmpStatState 0) = 1 := by decide +kernel

/-! HEVC cores. -/

/-- A session of 64 by 64 pictures from compositor 1, Main profile, level 3, QP fixed, one reference. -/
def encBlock : List Byte :=
  fill 128 [(2, le 2 1), (4, le 2 64), (6, le 2 64), (0x0C, [1, 90]), (0x10, [1]), (0x14, [2, 0, 51, 30]), (0x20, le 4 20000), (0x28, le 8 0x200000), (0x30, le 4 0x10000),
    (0x38, le 8 0x220000), (0x40, le 8 0x40000)]
def encoding (st : Nat) (x : Encoder) : Dev :=
  let d := (mixing { mixer with width := 64, height := 64 }).fld [(fHevEncStatState 1, st)]
  { d with vid := { d.vid with enc := [(1, x)] } }
theorem wit_StartEncoder : ((encoding 0 {}).given (cmd 3 0xB9 1 0 encBlock)).ready 7 false 0xB9 ≠ none ∧ (encoding 0 {}).encSt 1 = 0 ∧ ((encoding 0 {}).enc 1).session = false
    ∧ (encoding 0 {}).unitBusy (.encoder 1) 8 = false ∧ (encoding 0 {}).fget fQfStatPstate ≠ 1 ∧ (encoding 0 {}).sessionOk encBlock = true ∧ (encoding 0 {}).sessionOk [] = false
    ∧ (encoding 4 {}).encSt 1 = 4 ∧ ((encoding 0 {}).fld [(fQfStatPstate, 1)]).fget fQfStatPstate = 1 := by decide +kernel
theorem test_start_encoder : did (.startEncoder 7) ((encoding 0 {}).given (cmd 3 0xB9 1 0 encBlock)) (fun d => (d.ended, (d.enc 1).session, d.encSt 1)) = some (some 0, true, 1) := by
  decide +kernel
theorem test_retired_encoder : did (.startEncoder 7) ((encoding 4 {}).given (cmd 3 0xB9 1 0 encBlock)) Dev.ended = some (some (0x700 + stCoreRetired)) := by decide +kernel
def change1 : List Byte := fill 96 [(0, le 4 16), (8, [20])]
def session1 : Encoder := { session := true, block := encBlock, picno := 4, lastDone := some 3 }
theorem wit_SetEncoder : ((encoding 1 session1).given (cmd 3 0xBD 1 0 change1)).ready 7 false 0xBD ≠ none ∧ changeOk change1 = true ∧ ebRatesOk (applyChange encBlock change1) = true
    ∧ (encoding 1 session1).levelOk (applyChange encBlock change1) = true ∧ changeStore change1 = none := by decide +kernel
theorem test_change_waits_for_pulse : did (.setEncoderParameters 7) ((encoding 1 session1).given (cmd 3 0xBD 1 0 change1)) (fun d => (d.ended, (d.jrec 7).map (·.result), (d.enc 1).staged.length))
    = some (some 0, some 4, 1) := by decide +kernel
def pic4 : EncPic := { picno := 4, ty := 0, src := { out1 with width := 64, height := 64 }, cap := 160000 }
theorem wit_StopEncoder : ((encoding 1 session1).given (cmd 3 0x98 8 1 [])).ready 7 false 0x98 ≠ none ∧ (cmd 3 0x98 8 1 []).w10 % 256 = kEncoder
    ∧ ((encoding 1 { session1 with cur := some pic4 }).enc 1).cur.isSome = true ∧ ebNr encBlock = 1 ∧ ((encoding 1 session1).enc 1).cur = none := by decide +kernel
theorem test_stop_encoder : did (.stopEncoder 7) ((encoding 1 session1).given (cmd 3 0x98 8 1 [])) (fun d => (d.ended, (d.jrec 7).map (·.result), d.encSt 1)) = some (some 0, some 3, 0)
    ∧ did (.stopEncoder 7) ((encoding 1 { session1 with cur := some pic4 }).given (cmd 3 0x98 8 1 [])) (fun d => (d.ended, d.encSt 1)) = some (none, 2) := by decide +kernel
theorem wit_PictureDone : let d := encoding 1 { session1 with cur := some { pic4 with row := 1 } }
    ebNr encBlock ≤ 1 ∧ ebHash encBlock = false ∧ ebMark encBlock = false ∧ d.rangeFault true 0 (ebWorkVa encBlock) (ebWork encBlock) true = none
      ∧ d.vpoison 0 (ebWorkVa encBlock) (ebWork encBlock) = false ∧ (d.ringWrite 1 encBlock (chunkHead 2 3 4 65535 0)).2.isNone = true := by decide +kernel
theorem test_last_row_ends_picture : did (.encoderPictureDone 1 [] []) (encoding 1 { session1 with cur := some { pic4 with row := 1 } }) (fun d => ((d.enc 1).cur.isNone, (d.enc 1).lastIdr)) = some (true, some 4) := by
  decide +kernel
/-- The second CTU row of a 64 by 128 session: one CTU within the guard, QP 30, one byte of 8 bits. -/
def enc2 : List Byte := fill 128 [(2, le 2 1), (4, le 2 64), (6, le 2 128), (0x0C, [1, 90]), (0x10, [1]), (0x14, [2, 0, 51, 30]), (0x20, le 4 40000), (0x28, le 8 0x200000), (0x30, le 4 0x20000),
    (0x38, le 8 0x220000), (0x40, le 8 0x40000)]
def row2 : EncRow := { qp := 30, head := 4, lead := [], bytes := [0x80], ctus := [4] }
theorem wit_EncoderRow : ebNr enc2 = 2 ∧ row2.ctus.length = ebNc enc2 ∧ row2.head ≤ 1024 ∧ 8 * row2.bytes.length = roundUp (row2.head + row2.ctus.sum) 8
    ∧ guardRow enc2 320000 64 1 row2.ctus 0 (0 + row2.head) false none true = (8, false, none, true) ∧ ebQpMin enc2 ≤ row2.qp ∧ row2.qp ≤ ebQpMax enc2 ∧ (ebRc enc2 = 2 ∧ row2.qp = min (max (ebQp enc2) (ebQpMin enc2)) (ebQpMax enc2))
    ∧ ((encoding 1 session1).ringWrite 1 enc2 [1, 2]).2.isNone = true := by decide +kernel
theorem test_row_without_picture : did (.encoderRowDone 1 row2) (encoding 1 session1) (fun d => (d.enc 1).cur.isNone) = some true := by decide +kernel
theorem wit_EncoderError : up.priming = false ∧ up.underTest (.encoder 1) = false ∧ up.passedLately (.encoder 1) = false ∧ up.isRetired (TUnit.encoder 1).place = false
    ∧ up.testMayStart (.encoder 1) = true ∧ up.encSt 1 < 3 ∧ up.underTest .decoder = false ∧ up.testMayStart .decoder = true ∧ up.decSt = 0 ∧ up.test.waiting = [] := by decide +kernel
theorem test_encoder_error : did (.encoderCoreError 1 0 []) up (fun d => (d.underTest (.encoder 1), d.encSt 1)) = some (true, 3) := by decide +kernel

def decBlock : List Byte := fill 64 [(0, le 8 0x200000), (8, le 4 4096), (0x0E, [2]), (0x10, le 4 9), (0x14, le 4 9)]
def decoding (st : Nat) : Dev :=
  let d := (roomy up).fld [(fHevDecStatState, st), (fHevDecWrWr, 64)]
  { d with mem := { d.mem with bytes := mwrite [] (cxlBase + 0x200000) [0, 0, 1, 2, 1] }, vid := { d.vid with dec := { inVa := 0x200000, inSize := 4096, asid := 0, bufs := [9, 9], ring := [9, 9] } } }
def dpic (poc : Int) : DecPic := { poc := poc, width := 0, height := 0, fmt := 5, luma := [], chroma := [] }
theorem wit_StartDecoder : ((roomy up).given (cmd 3 0xC1 0 0 decBlock)).ready 7 false 0xC1 ≠ none ∧ decBlock.length = 64 ∧ field decBlock 0 8 % 64 = 0 ∧ field decBlock 8 4 = 4096
    ∧ allZero decBlock 0x0F 1 = true ∧ allZero decBlock (0x10 + 4 * 2) (32 - 4 * 2) = true ∧ allZero decBlock 0x30 16 = true ∧ (roomy up).decSt = 0
    ∧ (roomy up).unitBusy .decoder 8 = false := by decide +kernel
theorem test_start_decoder : did (.startDecoder 7) ((roomy up).given (cmd 3 0xC1 0 0 decBlock)) (fun d => (d.ended, d.decSt, d.vid.dec.inSize)) = some (some 0, 1, 4096) := by decide +kernel
theorem wit_RestartStopDecoder : ((decoding 3).given (cmd 3 0xC4 0 0 [])).ready 7 false 0xC4 ≠ none ∧ (decoding 3).decSt = 3 ∧ ((decoding 3).given (cmd 3 0x98 9 0 [])).ready 7 false 0x98 ≠ none
    ∧ (cmd 3 0x98 9 0 []).w10 % 256 = kDecoder := by decide +kernel
theorem test_restart_decoder : did (.restartDecoder 7) ((decoding 3).given (cmd 3 0xC4 0 0 [])) (fun d => (d.ended, d.decSt)) = some (some 0, 1)
    ∧ did (.restartDecoder 7) (up.given (cmd 3 0xC4 0 0 [])) Dev.ended = some (some (0x700 + stBadHandle)) := by decide +kernel
theorem test_stop_decoder : did (.stopDecoder 7) ((decoding 3).given (cmd 3 0x98 9 0 [])) (fun d => (d.ended, (d.jrec 7).map (·.result), d.decSt)) = some (some 0, some 0xFFFFFFFF, 0) := by
  decide +kernel
theorem wit_DecoderNal : (decoding 2).rangeFault true 0 0x200000 8 false = none ∧ (decoding 2).vpoison 0 0x200000 8 = false ∧ nalType ((decoding 2).decInput 8) < 16
    ∧ ((decoding 2).fget fHevDecWrWr + 4096 - (decoding 2).fget fHevDecRdRd) % 4096 = 64 ∧ (decoding 2).vid.dec.skipRasl = false ∧ (decoding 2).vid.dec.stops = [] ∧ (decoding 2).vid.dec.held = [] ∧ (decoding 2).decLeased = false := by decide +kernel
theorem test_decoder_discards_while_seeking : did (.decoderNal 8 (.done [dpic 1] 0)) (decoding 1) (fun d => (d.decSt, d.vid.dec.consumed, d.vid.dec.pictures)) = some (1, 8, 0) := by decide +kernel
theorem test_decoder_counts_pictures : did (.decoderNal 8 (.done [dpic 1] 0)) (decoding 2) (fun d => (d.decSt, d.vid.dec.consumed, d.vid.dec.pictures)) = some (2, 8, 1) := by decide +kernel
theorem test_decoder_holds_in_order : (([dpic 4, dpic 2, dpic 8].foldl (fun l p => holdPic { cvs := 0, pic := p } l) []).map (·.pic.poc)) = [2, 4, 8]
    ∧ did (.decoderNal 8 (.done [dpic 1] 1)) (decoding 2) (fun d => (d.vid.dec.held, d.vid.dec.outs, d.vid.dec.newest.isSome)) = some ([], 1, true) := by decide +kernel
theorem test_decoder_stops_on_damage : did (.decoderNal 8 (.damage 3 0)) (decoding 2) (fun d => (d.decSt, d.fget fHevDecStatStatus)) = some (3, 3) := by decide +kernel
theorem test_decoder_error : did (.decoderCoreError 0 []) up (fun d => (d.underTest .decoder, d.decSt)) = some (true, 4) := by decide +kernel

/-! ## Host queues -/

def queued : Dev := { up with qf := { up.qf with sqs := [(0, { size := 4 }), (3, { size := 4, cqid := 3, tail := 1 })], cqs := [(0, { size := 4 }), (3, { size := 4 })] } }
theorem wit_Doorbells : queued.qf.en = true ∧ tget queued.qf.sqs 3 = some { size := 4, cqid := 3, tail := 1 } ∧ queued.qf.aers = [] ∧ tget queued.qf.cqs 3 = some { size := 4 }
    ∧ State.reset.dev.qf.en = false := by decide +kernel
theorem test_doorbell : did (.doorbellWrite false 3 3) queued (fun d => (tget d.qf.sqs 3).map (·.tail)) = some (some 3)
    ∧ did (.doorbellWrite false 3 4) queued (fun d => ((tget d.qf.sqs 3).map (·.tail), d.qf.badDoorbells)) = some (some 1, 1)
    ∧ did (.doorbellWrite true 3 2) queued (fun d => (tget d.qf.cqs 3).map (·.head)) = some (some 2) := by decide +kernel
theorem test_bad_doorbell_event : did (.doorbellWrite false 3 4) (let d := queued.given (cmd 0 0x0C 0 0 []); { d with qf := { d.qf with aers := [7] } }) (fun d => (d.ended, (d.jrec 7).map (·.result), d.qf.aers))
    = some (some 0, some 65792, []) := by decide +kernel
def sqe (opc : Byte) : Sqe := { opc := opc, nsid := 1 }
theorem wit_CommandFetch : queued.mayFetch 3 = true ∧ queued.mayFetch 0 = false ∧ atOnce 3 (sqe 0x80) 0 = none ∧ atOnce 3 (sqe 0x7F) 0 = some (0, 1) ∧ (sqe 0x80).opc ≠ 0 := by decide +kernel
theorem test_fetch : did (.commandFetch 3 (sqe 0x80) []) queued (fun d => (d.qf.head, (tget d.qf.sqs 3).map (·.head), (d.jrec 0).map (fun r => (r.sqid, r.opc)))) = some (1, some 1, some (3, 0x80)) := by
  decide +kernel
theorem test_fetch_refuses_opcode : did (.commandFetch 3 (sqe 0x7F) []) queued (fun d => (d.qf.head, (d.jrec 0).map (·.status), d.qf.ctxs.length)) = some (1, some 1, 0) := by decide +kernel
theorem wit_ControllerEnable : ({ up with qf := {} } : Dev).qf.en = false ∧ (up.fld [(fPrmStatQfReady, 1)]).flag fPrmStatQfReady = true ∧ State.reset.dev.flag fPrmStatQfReady = false := by decide +kernel
theorem test_enable : did (.controllerEnable 2 4096) { up.fld [(fPrmStatQfReady, 1)] with qf := {} } (fun d => (d.qf.rdy, (tget d.qf.sqs 0).map (·.size), (tget d.qf.cqs 0).map (·.size)))
    = some (true, some 2, some 4096) := by decide +kernel
theorem test_reset_aborts_accepted : did .controllerReset (queued.given (cmd 3 0x80 0 0 [])) (fun d => (d.qf.sqs.length, d.qf.ctxs.length, (d.jrec 7).map (·.st))) = some (0, 0, some .abortedReset) := by
  decide +kernel
theorem wit_Shutdown : (up.fld [(fThmGateOpen, 0)]).gateOpen = false ∧ up.gateOpen = true ∧ up.store.wbHost = [] ∧ up.store.wbSlots = [] := by decide +kernel
theorem test_shutdown : did (.shutdownNotification 1) up (fun d => (d.qf.shn, d.qf.shst)) = some (1, 1) ∧ did (.shutdownNotification 1) (up.fld [(fThmGateOpen, 0)]) (fun d => d.qf.shst) = some 2
    ∧ did (.shutdownNotification 0) up (fun d => d == up) = some true := by decide +kernel

/-! Admin commands. -/

def acmd (opc w10 w11 : Nat) : Ctx := cmd 0 opc w10 w11 []
theorem wit_AdminCommands : ∀ e ∈ [(0x05, 3 + 4 * 65536), (0x01, 3 + 4 * 65536), (0x04, 3), (0x00, 3), (0x02, 0xC0), (0x06, 1), (0x08, 3), (0x09, 8), (0x0A, 8), (0x0C, 0)],
    (queued.given (acmd e.1 e.2 1)).ready 7 true e.1 ≠ none := by decide +kernel
theorem test_create_cq : did (.createIoCq 7) (queued.given (acmd 0x05 (9 + 7 * 65536) 0x50003)) (fun d => (d.ended, (tget d.qf.cqs 9).map (fun k => (k.size, k.vector, k.ien)))) = some (some 0, some (8, 5, true)) := by
  decide +kernel
theorem test_create_cq_twice : did (.createIoCq 7) (queued.given (acmd 0x05 (3 + 7 * 65536) 0x50003)) Dev.ended = some (some 0x101) := by decide +kernel
theorem test_create_sq : did (.createIoSq 7) (queued.given (acmd 0x01 (9 + 7 * 65536) 0x30005)) (fun d => (d.ended, (tget d.qf.sqs 9).map (fun k => (k.size, k.cqid, k.prio)))) = some (some 0, some (8, 3, 2)) := by
  decide +kernel
theorem test_create_sq_without_cq : did (.createIoSq 7) (queued.given (acmd 0x01 (9 + 7 * 65536) 0x40005)) Dev.ended = some (some 0x100) := by decide +kernel
theorem test_delete_busy_cq : did (.deleteIoCq 7) (queued.given (acmd 0x04 3 0)) Dev.ended = some (some 0x10C) := by decide +kernel
theorem test_delete_sq : did (.deleteIoSq 7) (queued.given (acmd 0x00 3 0)) (fun d => (d.ended, (tget d.qf.sqs 3).isNone)) = some (some 0, true) := by decide +kernel
theorem test_unknown_log_page : did (.getLogPage 7) (queued.given (acmd 0x02 0x77 0)) Dev.ended = some (some 0x109) := by decide +kernel
theorem test_identify_unknown : did (.identify 7) (queued.given (acmd 0x06 4 0)) Dev.ended = some (some 2) := by decide +kernel
theorem test_abort_nothing : did (.abort 7) (queued.given (acmd 0x08 3 0)) (fun d => (d.ended, (d.jrec 7).map (·.result))) = some (some 0, some 1) := by decide +kernel
theorem test_set_and_get_feature : did (.setFeatures 7) (queued.given (acmd 0x09 8 0x64)) (fun d => (d.ended, tgetD d.qf.features 8 0)) = some (some 0, 0x64)
    ∧ did (.getFeatures 7) (let d := queued.given (acmd 0x0A 8 0); { d with qf := { d.qf with features := [(8, 0x64)] } }) (fun d => (d.jrec 7).map (·.result)) = some (some 0x64) := by decide +kernel
theorem test_event_request_is_held : did (.asynchronousEventRequest 7) (queued.given (acmd 0x0C 0 0)) (fun d => (d.ended, d.qf.aers)) = some (none, [7]) := by decide +kernel
theorem test_event_request_completes : did (.asynchronousEventRequest 7) (let d := queued.given (acmd 0x0C 0 0); { d with ev := { d.ev with unread := true } }) (fun d => (d.jrec 7).map (·.result))
    = some (some 0xC00007) := by decide +kernel

/-! Power states and firmware. -/

theorem wit_PowerState : (queued.given (acmd 0x09 2 1)).ready 7 true 0x09 ≠ none ∧ queued.qf.ps2 = .none ∧ queued.anyRuns = false ∧ graphUp.anyRuns = true
    ∧ queued.fget fQfStatPstate = 0 ∧ queued.runningFlows.length ≤ 128 ∧ queued.hevcRuns = false := by decide +kernel
theorem test_power_state_1 : did (.setPowerState 7) (queued.given (acmd 0x09 2 1)) (fun d => (d.ended, d.fget fQfStatPstate)) = some (some 0, 1) := by decide +kernel
theorem test_power_state_2_busy : did (.setPowerState 7) (graphUp.given (acmd 0x09 2 2)) Dev.ended = some (some (0x700 + stBusy)) := by decide +kernel
theorem test_power_state_2_drains : did (.setPowerState 7) (queued.given (acmd 0x09 2 2)) (fun d => (d.ended, d.qf.ps2)) = some (none, .draining) := by decide +kernel
theorem wit_Firmware : (queued.given (acmd 0x11 0 0)).ready 7 true 0x11 ≠ none ∧ (queued.given (acmd 0x10 8 0)).ready 7 true 0x10 ≠ none ∧ queued.qf.fw = none ∧ queued.gateOpen = true
    ∧ queued.fsOk 8 = true ∧ bits 8 5 3 = 1 ∧ bits 24 5 3 = 3 := by decide +kernel
theorem test_download : did (.firmwareImageDownload 7) (queued.given (cmd 0 0x11 0 1 [1, 2, 3, 4])) (fun d => (d.ended, ((d.fwSlot (!d.nv.activeB)).drop 4).take 4)) = some (some 0, [1, 2, 3, 4]) := by
  decide +kernel
theorem test_download_gate_closed : did (.firmwareImageDownload 7) ((queued.fld [(fThmGateOpen, 0)]).given (cmd 0 0x11 0 1 [1, 2, 3, 4])) Dev.ended = some (some (0x700 + stBusy)) := by decide +kernel
theorem wit_CommitOfNothing : queued.checkImage (queued.fwSlot (!queued.nv.activeB)) ≠ .ok := by decide +kernel
theorem test_commit_of_nothing : did (.firmwareCommit 7) (queued.given (acmd 0x10 8 0)) Dev.ended = some (some 0x107) := by decide +kernel
def activating (k : FwStep) : Dev := let d := queued.given (acmd 0x10 24 0); { d with qf := { d.qf with fw := some (k, 7) } }
theorem wit_Activation : (activating .checking).qf.fw = some (.checking, 7) ∧ (activating .checking).qf.aers = [] ∧ ((activating .checking).jrec 7).isSome = true ∧ 7 < (activating .checking).qf.head
    ∧ (activating .checking).qf.head < 7 + jnlSize ∧ (activating .checking).qf.ps2 = .none := by decide +kernel
theorem test_activation_pause : did .fwActivationPause (activating .loading) (fun d => (d.qf.fw, d.flag fQfStatPaused)) = some (some (.paused, 7), true) := by decide +kernel
theorem test_activation_switch : did .fwActivationSwitch (activating .paused) (fun d => (d.qf.fw, d.nv.activeB == up.nv.activeB)) = some (some (.checking, 7), true) := by decide +kernel
theorem test_self_check_pass : did .fwSelfCheckPass (activating .checking) (fun d => (d.ended, d.qf.fw, d.nv.activeB == up.nv.activeB)) = some (some 0, none, false) := by decide +kernel
theorem test_self_check_fail : did .fwSelfCheckFail (activating .checking) (fun d => (d.ended, d.qf.fw, d.nv.activeB == up.nv.activeB)) = some (some (0x700 + stActivationFailed), none, true) := by
  decide +kernel
def toPs2 (p : Ps2Step) : Dev := let d := queued.given (acmd 0x09 2 2); { d with qf := { d.qf with ps2 := p, ps2Seq := 7 } }
theorem wit_Ps2 : (toPs2 .draining).store.wbHost = [] ∧ (toPs2 .draining).store.wbSlots = [] ∧ (toPs2 .draining).nv.commits = [] ∧ (toPs2 .waiting).executing = false ∧ (toPs2 .waiting).qf.fw = none
    ∧ ((toPs2 .waiting).given (acmd 0x09 2 2)).executing = false := by decide +kernel
theorem test_ps2 : did .ps2BufferEmpty (toPs2 .draining) (fun d => (d.qf.ps2, d.flag fQfStatPaused)) = some (.waiting, true)
    ∧ did (.ps2DrainDone false) (toPs2 .waiting) (fun d => (d.ended, d.fget fQfStatPstate, d.fget (fMemChanStatState 3))) = some (some 0, 2, 1) := by decide +kernel

/-! Namespace 3. -/

def ncmd (opc lba nlb : Nat) (data : List Byte) : Ctx :=
  { cmd 3 opc lba 0 data with sqe := { (cmd 3 opc lba 0 data).sqe with nsid := 3, cdw12 := BitVec.ofNat 32 nlb } }
def block (b : Byte) : List Byte := b :: zeros 4095
theorem wit_HostBlocks : ∀ e ∈ [1, 2, 8], ((stored 8 []).given (ncmd e 5 0 [])).ready 7 false e ≠ none ∧ nvmFields (ncmd e 5 0 []).sqe 0xBC000000 = true
    ∧ (ncmd e 5 0 []).slba + (ncmd e 5 0 []).nlb + 1 ≤ (stored 8 []).nsBlocks 3 := by decide +kernel
theorem wit_HostStore : (stored 8 []).hostStore = true ∧ up.hostStore = false ∧ (stored 8 []).shareRoom 1 = true ∧ (stored 8 []).store.waiting = []
    ∧ ({ stored 8 [] with store := { (stored 8 []).store with wb := 0 } } : Dev).shareRoom 1 = false ∧ up.nsBlocks 3 < 1
    ∧ (stored 8 []).mustWait 7 [(5, 1)] = false ∧ (stored 8 []).ssdFailed (16384 + 5) = false := by decide +kernel
theorem test_write_past_end : did (.write 7) (up.given (ncmd 1 5 0 [])) Dev.ended = some (some 0x80) := by decide +kernel
theorem test_write : did (.write 7) ((stored 8 []).given (ncmd 1 5 0 [1, 2])) (fun d => (d.ended, d.store.wbHost.map (fun b => (b.lba, b.data)))) = some (some 0, [(5, [1, 2])]) := by decide +kernel
theorem test_write_waits_for_room : did (.write 7) (({ stored 8 [] with store := { (stored 8 []).store with wb := 0 } } : Dev).given (ncmd 1 5 0 [])) (fun d => (d.ended, d.store.waiting)) = some (none, [7]) := by
  decide +kernel
theorem test_read_of_buffer : (did (.read 7) (({ stored 8 [] with store := { (stored 8 []).store with wbHost := [{ seq := 1, lba := 5, data := [1, 2] }] } } : Dev).given (ncmd 2 5 0 [])) Dev.ended)
    = some (some 0) := by decide +kernel
def waitingWrite : Dev := let d := (stored 8 []).given (ncmd 1 5 0 [1, 2]); { d with store := { d.store with waiting := [7] } }
theorem wit_WriteBufferRoom : waitingWrite.store.waiting = [7] ∧ waitingWrite.mustWait 7 (ncmd 1 5 0 []).changes = false ∧ bit (ncmd 1 5 0 []).sqe.cdw12.toNat 30 = false := by decide +kernel
theorem test_room : did .writeBufferRoom waitingWrite (fun d => (d.ended, d.store.waiting, d.store.wbHost.length)) = some (some 0, [], 1) := by decide +kernel
def flushing (n : Nat) : Dev :=
  let d := (stored 8 []).given (ncmd 0 0 0 [])
  { d with store := { d.store with flushes := [{ seq := 7, host := true, clips := [] }], wbHost := (List.range n).map (fun i => { seq := 1, lba := i, data := [1] }) } }
theorem wit_Flush : (flushing 0).flushed { seq := 7, host := true, clips := [] } = true ∧ (flushing 1).flushed { seq := 7, host := true, clips := [] } = false := by decide +kernel
theorem test_flush : did (.flush 7) (flushing 0) (fun d => (d.ended, d.store.flushes.length)) = some (some 0, 0) ∧ did (.flush 7) (flushing 1) Dev.ended = some none := by decide +kernel
theorem wit_StoreWrite : (∀ b ∈ (flushing 2).store.wbHost, (flushing 2).ssdFailed (16384 + b.lba) = false) ∧ (flushing 2).mem.cxlDown = [] ∧ (∀ k < 4, (flushing 2).fget (fStoSsdStatState k) ≠ 3) := by decide +kernel
theorem test_store_write_without_cxl : did (.storeWriteDone (.host 1)) { flushing 2 with mem := { (flushing 2).mem with cxlDown := [0] } } (fun d => d.store.wbHost.length) = some 2 := by decide +kernel
theorem test_store_write : did (.storeWriteDone (.host 1)) (flushing 2) (fun d => (d.store.wbHost.map (·.lba), mget d.store.media 0)) = some ([1], 1) := by decide +kernel
theorem test_clip_on_media : did (.storeWriteDone (.clip 3 64)) { stored 8 [] with store := { (stored 8 []).store with clips := [(3, { st := 1, dataLen := 50 })] } } (fun d => (d.clip 3).dataOnMedia) = some 50 := by
  decide +kernel
theorem wit_Dataset : ((stored 8 []).given { ncmd 9 0 0 (zeros 16) with sqe := { (ncmd 9 0 0 []).sqe with cdw11 := 4 } }).ready 7 false 9 ≠ none := by decide +kernel

/-! Clips. -/

theorem wit_ConfigureStore : ((stored 8 []).given (cmd 0 0xC5 0 0 (fill 64 [(0, le 4 4)]))).ready 7 true 0xC5 ≠ none ∧ (stored 8 []).cxlBytes / gib = 16 ∧ (stored 8 []).mem.cxlDown = []
    ∧ (stored 8 []).poolInUse 4 0 = false ∧ (sensing { ctx1 with st := 0 }).cxlBytes / gib ≠ 0 := by decide +kernel
theorem test_configure_store : did (.configureStore 7) ((stored 8 []).given (cmd 0 0xC5 0 0 (fill 64 [(0, le 4 4)]))) (fun d => (d.ended, d.store.wb, d.store.ring)) = some (some 0, 4, 0)
    ∧ did (.configureStore 7) ((stored 8 []).given (cmd 0 0xC5 0 0 (fill 64 [(0, le 4 3)]))) Dev.ended = some (some (0x700 + stBadSize)) := by decide +kernel
theorem wit_Clips : ((stored 8 []).given (cmd 3 0x8A 0 0 [])).ready 7 false 0x8A ≠ none ∧ (stored 8 []).hasClips = true ∧ up.hasClips = false ∧ ((stored 8 []).given (cmd 3 0xCC 0x10003 0 [])).ready 7 false 0xCC ≠ none
    ∧ (stored 8 []).clipSlot 0x10003 = some 3 ∧ (stored 8 []).clipSlot 0x20003 = none := by decide +kernel
theorem test_delete_open_clip : did (.clipDelete 7) ((stored 8 []).given (cmd 3 0xCC 0x10003 0 [])) Dev.ended = some (some (0x700 + stBusy))
    ∧ did (.clipDelete 7) ((stored 8 []).given (cmd 3 0xCC 0x20003 0 [])) Dev.ended = some (some (0x700 + stBadHandle)) := by decide +kernel
theorem test_protect : did (.clipProtect 7) ((stored 8 []).given (cmd 3 0xCC 0x10003 1 [])) (fun d => (d.ended, (d.clip 3).flags)) = some (some 0, 1) := by decide +kernel
theorem test_unprotect : did (.clipUnprotect 7) (({ stored 8 [] with store := { (stored 8 []).store with clips := [(3, { st := 2, gen := 1, flags := 3 })] } } : Dev).given (cmd 3 0xCC 0x10003 2 []))
    (fun d => (d.ended, (d.clip 3).flags)) = some (some 0, 2) := by decide +kernel
theorem test_index_flush : did (.indexPageFlush 3) { stored 8 [] with store := { (stored 8 []).store with clips := [(3, { st := 1, indexLen := 96 })] } } (fun d => (d.clip 3).indexOnMedia) = some 96 := by decide +kernel
theorem wit_Manifest : ({ st := 2, mstate := 1 } : Clip).mstate = 1 ∧ (up.fld [(fSecStatLc, 3)]).fget fSecStatLc = 3 := by decide +kernel
theorem test_unsigned_manifest : did (.manifestReadbackDone 3 []) { (stored 8 []).fld [(fSecStatLc, 3)] with store := { (stored 8 []).store with clips := [(3, { st := 2, mstate := 1 })] } } (fun d => (d.clip 3).mstate) = some 3 := by
  decide +kernel
def closing1 (n : Nat) : Dev :=
  let d := recording1 { unit9 with final := true, bands := [0], next := 4 } false
  { d with store := { d.store with nextents := n } }
theorem wit_ExtentNeeded : (closing1 8).wantsExtent 1 = some 0 ∧ tfree (closing1 8).store.extents 0 8 = some 0 ∧ tfree (closing1 0).store.extents 0 0 = none ∧ recd.closing = none
    ∧ (stored 8 [(1, recd)]).wantsExtent 1 = none := by decide +kernel
theorem test_extent_taken : did (.extentNeeded 1) (closing1 8) (fun d => tget d.store.extents 0) = some (some 3) := by decide +kernel
theorem test_extent : did (.extentNeeded 1) (stored 8 [(1, recd)]) (fun d => d.store.extents) = some [] := by decide +kernel
theorem wit_ClipClose : (stored 8 [(1, { recd with closing := some 7, ending := true })]).recOf 1 = some { recd with closing := some 7, ending := true } ∧ recd.flags &&& cfCxlLost = 0 := by decide +kernel

/-! ## Registers, records and emergency controls -/

/-- An admin command with a room of bytes for data to the host in CDW12. -/
def rcmd (opc w10 w11 room : Nat) : Ctx := { acmd opc w10 w11 with sqe := { (acmd opc w10 w11).sqe with cdw12 := BitVec.ofNat 32 room } }
theorem wit_Registers : (queued.given (cmd 0 0xC1 0x800000 1 (le 4 0))).ready 7 true 0xC1 ≠ none ∧ regArgs 0x800000 1 = true ∧ regArgs 0x800001 1 = false ∧ touches 0x100000 1 0x100000 0x300000 = true
    ∧ touches 0x800000 1 0x100000 0x300000 = false ∧ (queued.given (rcmd 0xD2 0x500000 1 4)).ready 7 true 0xD2 ≠ none ∧ queued.regBusy 0x500000 1 = false
    ∧ (0x400000 : Nat) / 1048576 ∉ [1, 2, 3, 8, 9, 13, 17, 20, 21, 22, 23, 24] ∧ (∀ e ∈ regFields 0x700000, e.2 ≠ .rc) := by decide +kernel
theorem test_register_write_unaligned : did (.registerWrite 7) (queued.given (cmd 0 0xC1 0x500001 1 (le 4 0))) Dev.ended = some (some (0x700 + stBadParam)) := by decide +kernel
theorem test_security_registers_refused : did (.registerWrite 7) (queued.given (cmd 0 0xC1 0x100000 1 (le 4 0))) Dev.ended = some (some (0x700 + stNotPermitted)) := by decide +kernel
theorem test_register_write : did (.registerWrite 7) (queued.given (cmd 0 0xC1 0x502000 1 (le 4 0xFFFFFFFF))) (fun d => (d.ended, d.fget (fMemFloatStatLevel 0))) = some (some 0, 0) := by decide +kernel
theorem wit_Records : ∀ e ∈ [0xC2, 0xC6, 0xCA, 0xCE], (queued.given (rcmd e 255 0 64)).ready 7 true e ≠ none := by decide +kernel
theorem wit_RetainedRecord : newest queued.nv.rrA queued.nv.rrB = none ∧ ((up.given (cmd 3 0x86 1 0 [])).ready 7 false 0x86 ≠ none) ∧ (up.recordsOf 1 0).isSome = true ∧ up.recordsOf 15 0 = none := by decide +kernel
theorem test_read_journal_needs_room : did (.readJournal 7) (queued.given (rcmd 0xC2 0 0 63)) Dev.ended = some (some (0x700 + stBadParam)) := by decide +kernel
theorem test_read_sump_empty : did (.readSump 7) (queued.given (rcmd 0xC6 0 0 64)) (fun d => (d.ended, (d.jrec 7).map (·.result))) = some (some 0, some 0) := by decide +kernel
def asking : Dev := let d := queued.bound graph1; { d with qf := { d.qf with sqs := tput d.qf.sqs 0 { size := 4, tail := 1 } } }
theorem wit_Inventory : asking.mayFetch 0 = true ∧ skoazelLayout true (rcmd 0xCE 1 0 4096).sqe = true ∧ asking.unborn { kind := 1, st := 0, asid := 0, index := 1 } = false := by decide +kernel
theorem test_inventory_counts_graphs : did (.commandFetch 0 (rcmd 0xCE 1 0 4096).sqe []) asking (fun d => (tget d.qf.ctxs asking.qf.head).map (fun c => (field c.inv 12 4, c.inv.length))) = some (some (1, 96)) := by decide +kernel
theorem test_inventory_returned : did (.readInventory 7) (queued.given { rcmd 0xCE 1 0 4096 with inv := zeros 12 ++ le 4 1 }) (fun d => (d.jrec 7).map (·.result)) = some (some 1) := by decide +kernel
theorem test_frame_records : did (.readFrameRecords 7) ((sensing { ctx1 with recs := [rec9] }).given { cmd 3 0x86 0 0 [] with sqe := { (cmd 3 0x86 (1 * 65536) 0 []).sqe with cdw12 := 4096 } })
    (fun d => ((d.jrec 7).map (·.result))) = some (some 1) := by decide +kernel
theorem wit_ReleaseImage : (up.given (cmd 3 0x84 kImage 4 [])).ready 7 false 0x84 ≠ none ∧ tget up.vid.images 4 = none
    ∧ ({ up with vid := { up.vid with images := [(4, { flow := none, data := [] })] } } : Dev).imageHeld 4 = false := by decide +kernel
theorem test_release_image : did (.releaseImage 7) (({ up with vid := { up.vid with images := [(4, { flow := none, data := [] })] } } : Dev).given (cmd 3 0x84 kImage 4 [])) (fun d => (d.ended, d.vid.images.length))
    = some (some 0, 0) := by decide +kernel
theorem wit_Emergency : up.recovering = false ∧ (0x00 : Byte) ≠ 0xC3 := by decide +kernel
theorem test_safe_all : did (.safeAll 0xC3) up (fun d => (d.flag fSysEmergStatSafe, d.qf.head, d.fget fSysEmergStatCount)) = some (true, 1, 1)
    ∧ did (.safeAll 0xC2) up (fun d => (d.flag fSysEmergStatSafe, d.sump.hold.length)) = some (false, 1) := by decide +kernel
theorem test_fetch_halt : did (.fetchHalt 0xC3) up (fun d => d.qf.halted) = some true ∧ did (.safeClear 0xC3) (up.fld [(fSysEmergStatSafe, 1)]) (fun d => d.flag fSysEmergStatSafe) = some false := by decide +kernel
theorem test_rec_stop : did (.recStop 0xC3) (stored 8 [(1, recd)]) (fun d => (d.recOf 1).map (fun r => (r.ending, r.closing.isSome))) = some (some (true, true)) := by decide +kernel
theorem test_checkpoint : did .journalCheckpoint { up with qf := { up.qf with head := 5 } } (fun d => d.prime.ckptHead) ≠ none ∧ did .journalCheckpoint up (fun d => d == up) = some true := by decide +kernel
theorem test_bar0_width : did (.bar0BadAccess 0x20001 4 true 5) up (fun d => (d.qf.msix, d.sump.hold.length)) = some ([], 1)
    ∧ did (.bar0BadAccess 0x20004 4 true 5) up (fun d => d.qf.msix) = some [(0x20004, 5)]
    ∧ did (.bar0BadAccess 0x20004 2 false 0) up (fun d => d.qf.bar0Read) = some 0xFFFFFFFF := by decide +kernel
theorem wit_DebugWindow : (up.fld [(fSecStatLc, 2)]).debugLocked = true ∧ (up.fld [(fSecStatLc, 1)]).debugLocked = false := by decide +kernel
theorem test_locked_debug_window : did (.debugWindowAccess 0 0 false 0) (up.fld [(fSecStatLc, 2)]) (fun d => (d.qf.dbgUsed, d.qf.bar0Read, d.sump.hold.length)) = some (true, 0, 1) := by decide +kernel

/-! ## Lanes: lane 0 is Ethernet port 0 in 400G mode (lanes 0 to 3), lane 17 PCIe -/

def laned (st : Nat) : Dev := up.fld ([(fLaneGrpCfgProto 0, 1), (fLaneGrpCfgProto 2, 4)] ++ (List.range 4).map (fun n => (fLaneStatState n, st)))
theorem wit_DieLinks : (0 : Nat) ∉ up.lanes.dieDown ∧ tgetD up.lanes.dieFails 0 0 + 1 < 8 ∧ tgetD ({ up with lanes := { up.lanes with dieFails := [(0, 7)] } } : Dev).lanes.dieFails 0 0 + 1 = 8 := by decide +kernel
theorem test_eighth_flit_failure : did (.flitCrcRetry 0 false 3 false) { up with lanes := { up.lanes with dieFails := [(0, 7)] } } (fun d => (d.lanes.dieDown, d.sump.hold.map (·.cls))) = some ([0], [8])
    ∧ did (.flitCrcRetry 0 false 3 false) { up with lanes := { up.lanes with dieFails := [(0, 6)] } } (fun d => (d.lanes.dieDown, d.lanes.dieFails)) = some ([], [(0, 7)])
    ∧ did (.dieLinkRetrained 0) { up with lanes := { up.lanes with dieDown := [0] } } (fun d => d.lanes.dieDown) = some [] := by decide +kernel
theorem wit_LaneStates : (laned 1).laneSt 0 = lsDetect ∧ ((laned 1).laneX 0).wait = false ∧ (laned 1).isSdi 0 = false ∧ (laned 2).laneSt 0 = lsTrain ∧ (laned 1).isEth 0 = true
    ∧ (laned 3).laneSt 0 = lsBitlock ∧ (laned 4).laneSt 0 = lsBlocklock ∧ (laned 4).link 0 = [0, 1, 2, 3] ∧ (laned 5).laneSt 3 = lsCapex ∧ (laned 10).laneSt 0 = lsFault ∧ (laned 10).proto 0 ≠ 0
    ∧ (∀ m ∈ (laned 4).link 0, ((laned 4).laneX m).fails = []) ∧ eqOk 0 0 0 64 0 = false ∧ TrainReq.ok (.pcie 64 0 0) = false := by decide +kernel
theorem test_bring_up : did (.laneSignalDetect 0) (laned 1) (fun d => d.laneSt 0) = some lsTrain ∧ did (.laneTrainingDone 0) (laned 2) (fun d => d.laneSt 0) = some lsBitlock
    ∧ did (.laneBitLock 0) (laned 3) (fun d => (d.laneSt 0, d.flag (fLaneStatBitlock 0))) = some (lsBlocklock, true) := by decide +kernel
theorem test_block_lock_waits_for_link : did (.laneBlockLock 0) (laned 4) (fun d => (d.laneSt 0, d.flag (fLaneStatBlklock 0))) = some (lsBlocklock, true)
    ∧ did (.laneBlockLock 0) ((laned 4).fld [(fLaneStatBlklock 1, 1), (fLaneStatBlklock 2, 1), (fLaneStatBlklock 3, 1)]) (fun d => (d.laneSt 0, d.laneSt 3)) = some (lsCapex, lsCapex) := by decide +kernel
theorem test_capex : did (.linkCapexDone 0 6) (laned 5) (fun d => (d.laneSt 3, d.fget (fLaneStatRate 2), d.fget (fEthPortStatState 0))) = some (lsActive, 6, 2) := by decide +kernel
theorem test_bring_up_timeout : did (.bringupTimeout 0) (laned 3) (fun d => (d.laneSt 0, (d.laneX 0).fails.length)) = some (lsDetect, 1) := by decide +kernel
theorem test_lane_test : did (.laneTest 0) (laned 1) (fun d => (d.laneSt 0, (d.laneX 0).testing)) = some (lsTest, true) := by decide +kernel
def testing0 (st : Nat) : Dev := let d := laned st; d.setLaneX 0 (fun x => { x with testing := true })
theorem test_lane_verdict : did (.laneTestDone 0 1 10000000000) (testing0 8) (fun d => d.laneSt 0) = some lsDetect
    ∧ did (.laneTestDone 0 2 10000000000) (testing0 8) (fun d => (d.laneSt 0, d.isRetired (lanePlace 0))) = some (lsFault, true) := by decide +kernel
theorem test_lane_retry : did (.laneRetry 0) (laned 10) (fun d => d.laneSt 0) = some lsDetect ∧ did (.bringupRetry 0) ((laned 1).setLaneX 0 (fun x => { x with wait := true })) (fun d => (d.laneX 0).wait) = some false := by
  decide +kernel
theorem test_pcie_request : did (.trainingRequest 17 (.pcie 0 20 0)) ((laned 1).fld [(fLaneStatState 17, 2)]) (fun d => ((d.laneX 17).answer, d.eqTaps 17)) = some (some true, [0, 0, 0, 20, 0]) := by
  decide +kernel

theorem wit_LaneService : (laned 6).laneSt 0 = lsActive ∧ (laned 6).isEth 0 = true ∧ (∀ m ∈ (laned 6).linkAll 0, ¬((laned 6).laneSt m = lsFenced)) ∧ ((laned 6).fld [(fLaneGrpCfgProto 10, 7)]).eqWritable 80 = true ∧ refclkInRange 3 0 = true
    ∧ refclkInRange 3 2000000 = false ∧ (laned 6).flag (fLaneRefclkStatFault 3) = false := by decide +kernel
theorem test_lock_loss : did (.laneLockLoss 0 1) (laned 6) (fun d => (d.laneSt 2, d.fget (fLaneStatLockloss 0), d.fget (fEthPortStatDowns 0))) = some (lsDetect, 1, 1) := by decide +kernel
theorem test_fault_signalled : did (.faultSignalled 0 0) (laned 6) (fun d => (d.laneSt 2, d.sump.hold.map (·.cls))) = some (lsDetect, [9]) := by decide +kernel
theorem test_adaptation : did (.adaptationFreeze 0) (laned 6) (fun d => d.flag (fLaneStatFrozen 2)) = some true ∧ did (.adaptationResume 0) ((laned 6).fld [(fLaneStatFrozen 2, 1)]) (fun d => d.flag (fLaneStatFrozen 2)) = some false := by
  decide +kernel
theorem test_drift_once : did (.laneDrift 0 1 5 0) (laned 6) (fun d => (d.flag (fLaneStatDrift 0), (d.laneX 0).driftOpen)) = some (true, true)
    ∧ did (.laneDrift 0 1 5 999999999) ((laned 6).setLaneX 0 (fun x => { x with driftOpen := true })) (fun d => d.sump.hold.length) = some 0 := by decide +kernel
theorem test_endpoint_down_is_reset : did .endpointLinkDown queued (fun d => (d.prime.linkUp, d.qf.en, d.qf.sqs.length)) = some (false, false, 0) := by decide +kernel
theorem test_no_reference : did (.laneBitLock 0) ((laned 3).fld [(fLaneRefclkStatFault 0, 1)]) (fun d => d.laneSt 0) = some lsBitlock
    ∧ did (.refclkWindow 0 none) (laned 5) (fun d => (d.laneSt 0, d.laneSt 3)) = some (lsDetect, lsDetect) := by decide +kernel
/-- A retired lane keeps its Ethernet port down. -/
theorem test_retired_lane_holds_port : did (.laneBlockLock 0) ((laned 4).fld [(fLaneStatBlklock 1, 1), (fLaneStatBlklock 2, 1), (fLaneStatState 3, 10)]) (fun d => (d.laneSt 0, d.laneSt 1)) = some (lsBlocklock, lsBlocklock) := by decide +kernel
theorem test_root_port_loss : did (.nvmeRootPortLoss 2) up (fun d => d.fget (fStoSsdStatState 2)) = some 3 := by decide +kernel
theorem test_refclk : did (.refclkWindow 3 none) (laned 6) (fun d => (d.flag (fLaneRefclkStatFault 3), d.flag (fLaneRefclkStatSeen 3))) = some (true, true)
    ∧ did (.refclkWindow 3 (some 0)) { (laned 6).fld [(fLaneRefclkStatFault 3, 1)] with lanes := { up.lanes with refGood := [(3, 9)] } } (fun d => d.flag (fLaneRefclkStatFault 3)) = some false := by decide +kernel
theorem test_sdi_steer : did .sdiRateSteer up (fun d => d.lanes.sdiRate) = some 4294967296 := by decide +kernel
theorem test_group_select : did (.laneGrpSelWrite 0x13) up (fun d => (d.prime.rr.grpSel, d.flag fLaneGrpSelPending)) = some (0x13, true)
    ∧ did (.laneGrpSelWrite 0x13) (up.fld [(fThmGateOpen, 0)]) (fun d => d.sump.hold.length) = some 1 := by decide +kernel
theorem test_lane_eq : did (.laneEqWrite 80 (20 * 64)) ((laned 6).fld [(fLaneGrpCfgProto 10, 7)]) (fun d => (d.eqTaps 80, tget d.prime.rr.laneEq 80)) = some ([0, 0, 0, 20, 0], some 1280) := by decide +kernel
theorem test_lane_fence : did (.laneFence 17 8 3) ((laned 6).fld [(fLaneStatState 17, 6)]) (fun d => (d.laneSt 17, (d.laneX 17).testing)) = some (lsFenced, true) := by decide +kernel

def ethUp : Dev := (laned 6).fld [(fEthPortStatState 0, 2), (fEthIpAddr 0, 0x0A000001)]
theorem wit_Ethernet : ethUp.fget (fEthPortStatState 0) = 2 ∧ ethUp.fget (fEthIpAddr 0) = 0x0A000001 ∧ ethUp.portUsed 0 = false ∧ (ethUp.portX 0).arpAsked = [] ∧ ethUp.proto (firstLane 0) = 1 := by decide +kernel
theorem test_arp : did (.ethFrameReceived 0 (.arpRequest 0x0A000001)) ethUp (fun d => (d.portX 0).replies) = some 1
    ∧ did (.ethFrameReceived 0 (.arpRequest 0x0A000002)) ethUp (fun d => d.fget (fEthPortStatDropped 0)) = some 1
    ∧ did (.ethFrameReceived 0 (.arpReply 5 77)) (ethUp.setPortX 0 (fun x => { x with arpAsked := [5] })) (fun d => (tget (d.portX 0).arp 5, (d.portX 0).arpAsked)) = some (some 77, []) := by decide +kernel
theorem test_eth_ip : did (.ethIpWrite 0 0x0A000009) ethUp (fun d => d.fget (fEthIpAddr 0)) = some 0x0A000009 := by decide +kernel
theorem test_arp_refresh : did (.arpRefresh 0) (ethUp.setPortX 0 (fun x => { x with arp := [(5, 77)] })) (fun d => (d.portX 0).arpAsked) = some [5] := by decide +kernel
def later (ns : Nat) (d : Dev) : Dev := { d with time := { d.time with count := BitVec.ofNat 96 (ns * 4294967296) } }
theorem test_flow_resume : did (.flowResume 0 0) (later 100000000 (ethUp.setPortX 0 (fun x => { x with upAt := some 0 }))) (fun d => (d.portX 0).resumed) = some [0]
    ∧ did (.flowResume 0 0) (later 99999999 (ethUp.setPortX 0 (fun x => { x with upAt := some 0 }))) (fun d => (d.portX 0).resumed) = some [] := by decide +kernel

/-! ## Time, triggers and captures -/

def ptping (src st : Nat) (m : Option Master) : Dev :=
  let d := ethUp.fld [(fTimeCtlSrc, src), (fTimeStatState, st), (fTimeStatPort, 0), (fTimeStatRefok, 1)]
  { d with time := { d.time with ports := [(0, { master := m })] } }
theorem wit_TimeWrites : (ptping 0 0 none).timeSrc ≠ 1 ∧ (ptping 1 0 none).timeSrc = 1 ∧ (ptping 2 0 none).timeSrc = 2 := by decide +kernel
theorem test_broadcast : did .timeCountBroadcast up (fun d => (d.nowNs, d.time.bcast)) = some (32, 32) := by decide +kernel
theorem test_increment_clipped : did (.timeIncWrite true 3) (ptping 2 0 none) (fun d => d.time.inc.toNat) = some 0x200418937 ∧ did (.timeIncWrite true 3) (ptping 1 0 none) (fun d => d.time.inc.toNat) = some 0x200000000 := by
  decide +kernel
theorem test_step : did (.timeStepWrite true 0) (let d := ptping 2 0 none; { d with time := { d.time with stepLo := 50 } }) (fun d => (d.nowNs, d.fget fTimeStatSteps)) = some (50, 1) := by decide +kernel
theorem test_snapshot : did .timeNowSnapshot (later 4294967301 up) (fun d => (d.fget fTimeNowLoNow, d.fget fTimeNowHiNow)) = some (5, 1) := by decide +kernel
def gm : Master := { rank := 9, ident := 42 }
def sync1 (t1 raw : Int) : PtpSyncMsg := { source := 42, seqId := 3, twoStep := false, t1 := t1 * 65536, raw := raw * 65536, corr := 0 }
theorem wit_Ptp : (ptping 1 2 (some gm)).ptpOn = true ∧ ((ptping 1 2 (some gm)).ptp 0).master = some gm ∧ (sync1 0 0).source = gm.ident ∧ (ptping 1 2 (some gm)).qf.fw = none
    ∧ (ptping 1 2 (some gm)).flag fTimeStatRefok = true ∧ (ptping 1 2 (some gm)).fget fTimeStatPort = 0 ∧ (ptping 0 0 none).ptpOn = true ∧ (ptping 0 0 none).fget fTimeCtlDomain = up.fget fTimeCtlDomain
    ∧ (ptping 1 2 (some gm)).time.rejects = [] ∧ (ptping 1 2 (some gm)).time.slew = false := by decide +kernel
theorem test_announce : did (.ptpAnnounce 0 { domain := up.fget fTimeCtlDomain, rank := 9, ident := 42, inRange := true }) (ptping 1 0 none) (fun d => ((d.ptp 0).master, d.fget fTimeStatPort)) = some (some gm, 0)
    ∧ did (.ptpAnnounce 0 { domain := up.fget fTimeCtlDomain, rank := 9, ident := 42, inRange := false }) (ptping 1 0 none) (fun d => ((d.ptp 0).master, (d.ptp 0).dropped)) = some (none, 1) := by decide +kernel
theorem test_two_step_sync_waits : did (.ptpSync 0 { sync1 0 0 with twoStep := true }) (ptping 1 2 (some gm)) (fun d => ((d.ptp 0).sync.map (·.1), (d.ptp 0).last)) = some (some 3, none) := by decide +kernel
theorem test_outlier_rejected : did (.ptpSync 0 (sync1 0 1000000000)) (ptping 1 2 (some gm)) (fun d => (d.fget fTimeStatReject, d.time.rejects.length, d.fget fTimeStatState)) = some (1, 1, 2) := by decide +kernel
theorem test_follow_up_needs_its_sync : did (.ptpFollowUp 0 42 4 0 0) (let d := ptping 1 2 (some gm); d.setPtp 0 (fun x => { x with sync := some (3, 0) })) (fun d => (d.ptp 0).sync.isSome) = some true := by decide +kernel
theorem test_delay_req : did (.delayReqSend 0 100) (ptping 1 2 (some gm)) (fun d => ((d.ptp 0).seqOut, (d.ptp 0).req.map (·.1))) = some (1, some 1)
    ∧ did (.delayReqSend 0 (3000000002 * 65536 + 9)) (ptping 1 2 (some gm)) (fun d => (d.ptp 0).sent) = some (some { seqId := 1, sec := 3, ns := 2, corr := 9 }) ∧ did (.delayReqSend 0 100) (ptping 1 2 none) (fun d => (d.ptp 0).req.isNone) = some true := by
  decide +kernel
theorem test_announce_send : did (.announceSend 0) (ptping 1 2 none) (fun d => (d.ptp 0).announceSeq) = some 1 := by decide +kernel
theorem test_negative_path_delay : did (.ptpDelayResp 0 3 (-500) 0) (let d := ptping 1 2 (some gm); d.setPtp 0 (fun x => { x with req := some (3, 0), last := some (0, 100) })) (fun d => ((d.ptp 0).delays, d.sump.hold.length)) = some ([], 1)
    ∧ did (.ptpDelayResp 0 3 (500 * 65536) 0) (let d := ptping 1 2 (some gm); d.setPtp 0 (fun x => { x with req := some (3, 0), last := some (0, 100 * 65536) })) (fun d => ((d.ptp 0).delays, d.fget (fTimePortStatPath 0))) = some ([300 * 65536], 300) := by decide +kernel
theorem test_announce_timeout : did (.announceTimeout 0) (ptping 1 2 (some gm)) (fun d => ((d.ptp 0).master, d.fget fTimeStatPort)) = some (none, 7) := by decide +kernel
theorem test_sync_timeout : did (.syncTimeout 0) (later 1000000000 (ptping 1 2 (some gm))) (fun d => d.fget fTimeStatState) = some tsHoldover ∧ did (.syncTimeout 0) (later 999999999 (ptping 1 2 (some gm))) (fun d => d.fget fTimeStatState) = some 2 := by
  decide +kernel
theorem test_time_refclk : did (.timeRefclkWindow (some 10001)) (ptping 1 2 none) (fun d => (d.flag fTimeStatRefok, d.time.internal, d.fget fTimeStatState)) = some (false, true, tsHoldover)
    ∧ did (.timeRefclkWindow (some 10000)) (let d := (ptping 1 2 none).fld [(fTimeStatRefok, 0)]; { d with time := { d.time with refGood := 9 } }) (fun d => d.flag fTimeStatRefok) = some true := by decide +kernel

/-- Trigger unit 3: period 1,000 ns, periodic unless told otherwise. -/
def trig3 (l : List (Fld × Nat)) (x : Trig) : Dev :=
  let d := up.fld ([(fTrgPerNPerN 3, 1000), (fTrgPerRdPerD 3, 1), (fTrgPerRdPerR 3, 0), (fTrgCtlPeriodic 3, 1)] ++ l)
  { d with trg := [(3, x)] }
theorem wit_Triggers : (trig3 [(fTrgCtlEn 3, 1)] { target := some 500 }).flag (fTrgCtlEn 3) = true ∧ (trig3 [] {}).flag (fTrgCtlEn 3) = false ∧ (later 600 (trig3 [] {})).reached 500 1 = true
    ∧ (trig3 [] {}).reached 500 1 = false ∧ (trig3 [] {}).perD 3 = 1 ∧ (trig3 [] {}).trgConsumed 3 = false ∧ (trig3 [] {}).flag (fTrgCtlPinEn 3) = false ∧ (trig3 [(fTrgCtlAlign 3, 1)] {}).flag (fTrgCtlAlign 3) = true := by
  decide +kernel
theorem test_trigger_arm : did (.triggerArm 3) (trig3 [(fTrgStartStart 3, 700)] {}) (fun d => ((d.trig 3).target, d.flag (fTrgCtlEn 3))) = some (some 700, true)
    ∧ did (.triggerArm 3) (later 5500 (trig3 [(fTrgCtlAlign 3, 1), (fTrgStartStart 3, 700)] {})) (fun d => (d.trig 3).target) = some (some 6700) := by decide +kernel
theorem test_pulse : did (.triggerPulse 3) (later 600 (trig3 [(fTrgCtlEn 3, 1)] { target := some 500 })) (fun d => ((d.trig 3).target, (d.trig 3).ends, d.fget (fTrgLastLoLast 3))) = some (some 1500, 1000, 500)
    ∧ did (.triggerPulse 3) (trig3 [(fTrgCtlEn 3, 1)] { target := some 500 }) (fun d => (d.trig 3).pulse) = some false := by decide +kernel
theorem test_staged_write : did (.triggerStagedWrite 3 1 77) (trig3 [(fTrgCtlEn 3, 1)] {}) (fun d => (d.trig 3).staged.length) ≠ some 0 := by decide +kernel
theorem test_one_shot_ends : did (.triggerPulseEnd 3) (trig3 [(fTrgCtlEn 3, 1), (fTrgCtlPeriodic 3, 0)] { pulse := true, target := some 5 }) (fun d => ((d.trig 3).target, d.flag (fTrgCtlEn 3))) = some (none, false)
    ∧ did (.triggerPulseEnd 3) (later 7 (trig3 [(fTrgCtlEn 3, 1)] { pulse := true, ends := 8 })) (fun d => (d.trig 3).pulse) = some true := by decide +kernel
theorem test_last_read : did (.trgLastRead 3) (trig3 [] { last := 4294967297 }) (fun d => d.fget (fTrgLastHiLast 3)) = some 1 := by decide +kernel
def cap2 (l : List (Fld × Nat)) (x : CapUnit) : Dev := let d := later 1000 (up.fld ([(fCapCfgEn 2, 1), (fCapCfgEdge 2, 1), (fCapCfgFilt 2, 4), (fCapCfgMingap 2, 0)] ++ l)); { d with cap := [(2, x)] }
theorem wit_Captures : (cap2 [] {}).flag (fCapCfgEn 2) = true ∧ capSrcValid ((cap2 [] {}).fget (fCapCfgSrc 2)) = true ∧ capEdgeOn ((cap2 [] {}).fget (fCapCfgEdge 2)) true = true ∧ (cap2 [] {}).fget (fCapCfgFilt 2) = 4 := by
  decide +kernel
theorem test_capture : did (.captureEdge 2 true 4) (cap2 [] {}) (fun d => ((d.capU 2).stamps, d.fget (fCapStatLevel 2))) = some ([(992, true)], 1) ∧ did (.captureEdge 2 true 3) (cap2 [] {}) (fun d => (d.capU 2).stamps) = some [] := by
  decide +kernel
theorem test_capture_overflow : did (.captureEdge 2 true 4) (cap2 [] { stamps := (List.range 16).map (fun n => (n, true)) }) (fun d => ((d.capU 2).stamps.length, d.fget (fCapStatOvf 2))) = some (16, 1) := by decide +kernel
theorem test_pop : did (.capturePop 2) (cap2 [] { stamps := [(4294967301, true), (9, false)] }) (fun d => (d.fget (fCapTsLoTs 2), d.fget (fCapTsHiTs 2), (d.capU 2).stamps)) = some (5, 0x80000001, [(9, false)]) := by decide +kernel
theorem test_cap_timeout : did (.capTimeout 2) (cap2 [(fCapToutTout 2, 1000)] {}) (fun d => (d.capU 2).timedOut) = some true ∧ did (.capTimeout 2) (cap2 [(fCapToutTout 2, 1001)] {}) (fun d => (d.capU 2).timedOut) = some false := by
  decide +kernel

/-! ## Audio ports and motion axes -/

/-- Audio port 0 at 96 kHz over DEC 16 with blocks of 6 samples, its ring of 512 bytes mapped, in a state. -/
def sounding (st : Nat) (l : List (Fld × Nat)) (p : AudPort) : Dev :=
  let d := (mapped up).fld ([(fAudPortCfgState 0, st), (fAudPortCfgRate 0, 1), (fAudPortCfgDec4 0, 4), (fAudPortCfgBlk 0, 6), (fAudPortCfgMask 0, 3),
    (fAudRingLoVa 0, 0x200000), (fAudRingSizeSize 0, 512)] ++ l)
  { d with aud := { d.aud with port := [(0, p)] } }
def ones (n : Nat) : AudBits := { bits0 := List.replicate n true, bits1 := List.replicate n false, edge := 0, time := 100, last := 200 }
def starting (d : Dev) (k n : Nat) : Dev := d.given (cmd 3 0xC8 k n [])
def stopping (d : Dev) (k n : Nat) (now : Bool) : Dev := d.given (cmd 3 0x98 (k + 256 * now.toNat) n [])
theorem wit_AudioStart : (starting (sounding 0 [] {}) kAudio 0).ready 7 false 0xC8 ≠ none ∧ (sounding 0 [] {}).noStart = false ∧ (sounding 0 [] {}).audOk 0 = true
    ∧ (sounding 0 [(fAudRingSizeSize 0, 100)] {}).audOk 0 = false ∧ (sounding 0 [] {}).audTrig 0 = false ∧ (sounding 2 [] {}).audRuns 0 = true
    ∧ (sounding 0 [] {}).flag (fAudClkStatFault 0) = false := by decide +kernel
theorem wit_AudioStop : (stopping (sounding 2 [] {}) kAudio 0 false).ready 7 false 0x98 ≠ none ∧ (cmd 3 0x98 kAudio 0 []).stopNow = false ∧ (cmd 3 0x98 (kAudio + 256) 0 []).stopNow = true
    ∧ (sounding 2 [] {}).audSt 0 = 2 ∧ ((sounding 2 [] {}).audP 0).stops = [] := by decide +kernel
theorem wit_AudioBlock : (ones 96).bits0.length = (sounding 2 [] {}).audBlk 0 * (sounding 2 [] {}).audDec 0 ∧ (sounding 2 [] {}).audBytes 0 = 128
    ∧ (sounding 2 [] {}).rangeFault true ((sounding 2 [] {}).audAsid 0) ((sounding 2 [] {}).audVa 0) 128 true = none
    ∧ (sounding 2 [] {}).writePoison ((sounding 2 [] {}).audAsid 0) ((sounding 2 [] {}).audVa 0) 128 = false
    ∧ 512 - (384 + 512 - (sounding 2 [] {}).fget (fAudRingRdOff 0) % 512) % 512 = 128 ∧ 512 - (448 + 512 - 0) % 512 < (sounding 2 [] {}).audBytes 0 := by decide +kernel
theorem wit_AudioClock : (∀ n, n < 16 → (sounding 0 [] {}).audRuns n = false) ∧ (∀ m, m < 16 → m ≠ 0 → (sounding 1 [] {}).audRuns m = false) ∧ (sounding 1 [] {}).audSt 0 = 1
    ∧ (sounding 1 [] {}).fget (fAudPortCfgClk 0) = 0 ∧ ((sounding 2 [] {}).audP 0).stuck0 = none := by decide +kernel
theorem test_audio_start : did (.startAudioPort 7) (starting (sounding 0 [] {}) kAudio 0) (fun d => (d.ended, d.audSt 0)) = some (some 0, 2) ∧ did (.startAudioPort 7) (starting (sounding 2 [] {}) kAudio 0) Dev.ended = some (some (0x700 + stBusy))
    ∧ did (.startAudioPort 7) (starting (sounding 0 [(fAudPortCfgBlk 0, 5)] {}) kAudio 0) Dev.ended = some (some (0x700 + stBadParam)) ∧ did (.startAudioPort 7) (starting up kAudio 16) Dev.ended = some (some (0x700 + stBadHandle)) := by decide +kernel
theorem test_audio_stop : did (.stopAudioPort 7) (stopping (sounding 2 [] {}) kAudio 0 true) (fun d => (d.ended, d.audSt 0)) = some (some 0, 0) ∧ did (.stopAudioPort 7) (stopping (sounding 2 [] {}) kAudio 0 false) (fun d => (d.ended, (d.audP 0).stops)) = some (none, [7]) := by decide +kernel
theorem test_audio_block : did (.audioBlockDone 0 (ones 96)) (sounding 2 [(fAudRingWrOff 0, 384)] { first := true }) (fun d => (d.fget (fAudRingWrOff 0), (d.audP 0).sample)) = some (0, 6) := by
  decide +kernel
theorem test_audio_overrun : did (.audioBlockDone 0 (ones 96)) (sounding 2 [(fAudRingWrOff 0, 448)] {}) (fun d => (d.fget (fAudRingWrOff 0), d.fget (fAudStatOvr 0), (d.audP 0).sample)) = some (448, 1, 6) := by decide +kernel
/-- A filter full of ones gives 2 to the 22nd, of zeros its negative. -/
theorem test_full_scale : decSample 1 (List.replicate 49 true) = 4194304 ∧ decSample 1 (List.replicate 49 false) = 12582912 := by decide +kernel
theorem test_audio_clock_lost : did (.pdmClockWindow 0 none []) (sounding 2 [] {}) (fun d => (d.audSt 0, d.flag (fAudClkStatFault 0))) = some (3, true) ∧ did (.pdmClockWindow 0 (some 1536000) []) (sounding 2 [] {}) (fun d => (d.audSt 0, d.fget (fAudClkStatKhz 0))) = some (2, 1536) := by
  decide +kernel
theorem test_audio_clock_limit : (sounding 2 [] {}).audClockOk 0 1566720 = true ∧ (sounding 2 [] {}).audClockOk 0 1566721 = false := by decide +kernel
theorem test_audio_mask : did (.audioMaskWrite 0 1) (sounding 2 [] {}) (fun d => (d.fget (fAudPortCfgMask 0), (d.audP 0).mask)) = some (1, 3) := by decide +kernel
theorem test_audio_stuck : did (.audStuck 0 1 true) (sounding 2 [] {}) (fun d => ((d.audP 0).stuck1, d.fget (fAudStatStuck 0))) = some (some true, 1) := by decide +kernel
/-- Stream 3 carries channels 0 and 1, both of port 0 at 48 kHz in blocks of 48, over Ethernet port 0. -/
def streaming (l : List (Fld × Nat)) (x : AudStream) : Dev :=
  let d := ethUp.fld ([(fAudPortCfgRate 0, 0), (fAudPortCfgBlk 0, 48), (fAudStrCfgC0 3, 0), (fAudStrCfgNch 3, 1), (fAudStrCfgPort 3, 0), (fAudStrCfgSecport 3, 7), (fAudStrCfgPt 3, 97)] ++ l)
  { d with aud := { d.aud with stream := [(3, x)] } }
theorem wit_AudioStream : (streaming [] {}).strOk 3 = true ∧ (streaming [(fAudPortCfgBlk 0, 47)] {}).strOk 3 = false ∧ (streaming [] {}).flag (fAudStrCfgEn 3) = false
    ∧ ((streaming [] {}).placeStreams ((streaming [] {}).placed 512) (((streaming [] {}).strLegs 3).map (fun p => (p, (streaming [] {}).strRate 3))) [] []).isSome = true := by decide +kernel
theorem test_stream_on : did (.audioStreamEnable 3 true) (streaming [] {}) (fun d => (d.flag (fAudStrCfgEn 3), (d.str 3).on, (d.str 3).place.length)) = some (true, false, 1) ∧ did (.audioStreamEnable 3 true) (streaming [(fAudPortCfgBlk 0, 47)] {}) (fun d => (d.flag (fAudStrCfgEn 3), d.sump.hold.length)) = some (false, 1) := by
  decide +kernel
theorem test_stream_packet : did (.audioStreamPacket 3) (let d := streaming [(fAudPortCfgBlk 0, 6)] { due := true, seq := 65535 }; d) (fun d => ((d.str 3).seq, (d.str 3).last.map (fun p => (p.pt, p.data.length, p.heads.map (·.dscp))))) = some (0, some (97, 36, [])) := by decide +kernel

def turning (l : List (Fld × Nat)) (x : Axis) : Dev :=
  let d := up.fld ([(fAxCfgState 31, 1), (fAxCfgMode 31, 1), (fAxIdxCfgEn 31, 1), (fAxStillStill 31, 1), (fAxStatStill 31, 0)] ++ l)
  { d with axes := [(31, x)] }
theorem wit_AxisStart : (starting up kAxis 31).ready 7 false 0xC8 ≠ none ∧ up.axCounting 31 = false ∧ (turning [] {}).axCounting 31 = true ∧ (stopping (turning [] {}) kAxis 31 true).ready 7 false 0x98 ≠ none := by decide +kernel
theorem test_axis_start : did (.startMotionAxis 7) (starting (up.fld [(fAxPosPos 31, 5)]) kAxis 31) (fun d => (d.ended, d.axCounting 31, d.fget (fAxPosPos 31))) = some (some 0, true, 5)
    ∧ did (.startMotionAxis 7) (starting up kAxis 32) Dev.ended = some (some (0x700 + stBadHandle)) := by decide +kernel
theorem test_axis_stop : did (.stopMotionAxis 7) (stopping (turning [] {}) kAxis 31 true) (fun d => (d.ended, d.axCounting 31)) = some (some 0, false) ∧ did (.stopMotionAxis 7) (stopping (turning [] {}) kAxis 31 false) (fun d => (d.ended, (d.axis 31).stops)) = some (none, [7]) := by decide +kernel
/-- An axis at 10 ns after two run edges, 2 and 6 ns, at a speed of 0.25 counts per ns. -/
def decaying : Dev := turning [(fAxStatValid 31, 1), (fAxSpeedSpeed 31, 250000000)] { run := [6, 2], edges := 2, sample := some (9, 5, 4294967297) }
theorem wit_Axes : decaying.axCounting 31 = true ∧ decaying.flag (fAxCfgMode 31) = true ∧ (decaying.axis 31).fireNow = false ∧ (decaying.axis 31).armed = none ∧ decaying.flag (fAxStatValid 31) = true
    ∧ decaying.flag (fAxStatDir 31) = false ∧ (decaying.axis 31).run[0]? = some 6 ∧ (decaying.axis 31).run[min (2 ^ decaying.axAvg 31) ((decaying.axis 31).edges - 1)]? = some 2 ∧ decaying.flag (fAxStatStill 31) = false
    ∧ (decaying.axis 31).lastCount + decaying.axStillUs 31 * 1000 ≤ 1000000 ∧ decaying.flag (fAxIdxCfgEn 31) = true ∧ (decaying.axis 31).idx = none ∧ (decaying.axis 31).sample.isSome = true
    ∧ (turning [(fAxCfgMode 31, 0)] {}).flag (fAxCfgMode 31) = false := by decide +kernel
theorem test_axis_counts_down_below_zero : did (.axisCount 31 ⟨false, true, false⟩ 9) (turning [] {}) (fun d => d.fget (fAxPosPos 31)) = some 0xFFFFFFFF ∧ did (.axisCount 31 ⟨true, true, false⟩ 9) (turning [] {}) (fun d => (d.fget (fAxPosPos 31), d.fget (fAxStatColl 31))) = some (0, 1) := by
  decide +kernel
theorem test_quadrature : did (.axisCount 31 ⟨true, false, true⟩ 9) (turning [(fAxCfgMode 31, 0)] {}) (fun d => d.fget (fAxPosPos 31)) = some 0xFFFFFFFF ∧ did (.axisCount 31 ⟨true, false, true⟩ 9) (turning [(fAxCfgMode 31, 0), (fAxCfgDirinv 31, 1)] {}) (fun d => d.fget (fAxPosPos 31)) = some 1 := by
  decide +kernel
theorem test_speed_decay : did (.speedDecay 31 16) decaying (fun d => d.fget (fAxSpeedSpeed 31)) = some 100000000 ∧ did (.speedDecay 31 10) decaying (fun d => d.fget (fAxSpeedSpeed 31)) = some 250000000 := by decide +kernel
theorem test_standstill : did (.axisStandstill 31 1000) (turning [] {}) (fun d => d.flag (fAxStatStill 31)) = some true ∧ did (.axisStandstill 31 999) (turning [] {}) (fun d => d.flag (fAxStatStill 31)) = some false := by decide +kernel
theorem test_index : did (.axisIndexEdge 31) (turning [(fAxPosPos 31, 100), (fAxIdxCfgNom 31, 90), (fAxIdxCfgTol 31, 9)] { idx := some 0 }) (fun d => (d.fget (fAxIdxCntValue 31), d.fget (fAxStatIdxerrs 31))) = some (100, 1)
    ∧ did (.axisIndexEdge 31) (turning [(fAxPosPos 31, 100), (fAxIdxCfgNom 31, 90), (fAxIdxCfgTol 31, 10)] { idx := some 0 }) (fun d => d.fget (fAxStatIdxerrs 31)) = some 0 := by decide +kernel
theorem test_compare : did (.axisCompareArm 31) (turning [(fAxCmpTarget 31, 4)] {}) (fun d => ((d.axis 31).armed, d.flag (fAxCmpCtlLate 31))) = some (some 4, false)
    ∧ did (.axisCompareArm 31) (turning [(fAxCmpTarget 31, 0xFFFFFFFF)] {}) (fun d => d.flag (fAxCmpCtlLate 31)) = some true
    ∧ did (.axisCount 31 ⟨true, false, false⟩ 9) (turning [(fAxCmpCtlArm 31, 1)] { armed := some 1 }) (fun d => (d.flag (fAxCmpCtlFired 31), d.fget (fAxCmpTimeLoTime 31))) = some (true, 9) := by decide +kernel
theorem test_sample_read : did (.axisSampleRead 31) decaying (fun d => (d.fget (fAxSmpPosPos 31), d.fget (fAxSmpTimeHiTime 31), d.fget (fAxSmpFlagsStill 31))) = some (9, 1, 1) ∧ did (.axCmpTimeRead 31) (turning [] { cmpTime := 8589934592 }) (fun d => d.fget (fAxCmpTimeHiTime 31)) = some 2 := by
  decide +kernel

/-! ## Priming, errors, tests and commits -/

/-- The device while priming step `k` runs. -/
def primed (k : Nat) (p : Prime → Prime) : Dev :=
  let d := up.fld [(fPrmStatState, 0), (fPrmStatStep, k)]
  { d with prime := p { held := false, next := k }, ev := {} }
def here : Place := corePlace 80
theorem wit_PrimingStart : State.reset.dev.prime.held = true ∧ State.reset.dev.thm.trip = none ∧ up.prime.held = false := by decide +kernel
theorem wit_PrimingSteps : (∀ k, k < 16 → (primed k id).stepRuns k = true) ∧ (primed 3 id).stepRuns 2 = false ∧ up.stepRuns up.prime.next = false ∧ (primed 3 id).sump.hold = [] := by decide +kernel
theorem wit_BootRom : bit (primed 0 id).pins.straps 1 = false ∧ ({ primed 0 id with pins := { straps := 2 } } : Dev).pins.straps = 2 ∧ (primed 0 id).checkImage ((primed 0 id).fwSlot false) ≠ .ok
    ∧ (primed 0 id).checkImage ((primed 0 id).fwSlot true) ≠ .ok := by decide +kernel
theorem wit_Reprime : (primed 2 (fun p => { p with waitReset := true })).nv.commits = [] ∧ ((primed 2 id).fld [(fPrmStatReprime, 3)]).fget fPrmStatReprime = 3 ∧ (primed 2 id).fget fPrmStatReprime = 0 := by decide +kernel
theorem test_priming_start : did (.primingStart 5) State.reset.dev (fun d => (d.fget fPrmStatBoots, d.fget (fPrmStepState 0), d.pins.straps, d.stepRuns 0)) = some (1, 1, 5, true) := by decide +kernel
theorem test_boots_follow_the_log : did (.primingStart 0) { State.reset.dev with nv := { prog0 := [⟨9, 3, 2, 0, 0, here, 0⟩] } } (fun d => (d.fget fPrmStatBoots, d.prime.prev.length)) = some (10, 1) := by decide +kernel
theorem test_empty_slots_enter_recovery : did (.pm00BootRom .pass) (primed 0 id) (fun d => (d.fget fPrmStatState, d.prime.linkUp)) = some (3, true) := by decide +kernel
theorem test_essential_step_fails : did (.pm04DieLinks [] (.fail 5 here)) (primed 4 id) (fun d => (d.fget (fPrmStepState 4), d.prime.waitReset, d.nv.commits.length, d.sump.hold.map (fun e => (e.cls, e.sev)))) = some (3, true, 1, [(13, 3)]) := by decide +kernel
theorem test_optional_step_fails : did (.pm13TimePtp (.fail 5 here)) ((primed 13 id).fld [(fTimeCtlSrc, 1)]) (fun d => (d.fget (fPrmStepState 13), d.prime.next, d.fget fTimeCtlSrc, d.sump.hold.map (fun e => (e.cls, e.sev)))) = some (3, 14, 0, [(13, 2)]) := by
  decide +kernel
theorem test_step_timeout : did (.primingStepTimeout here) (primed 6 id) (fun d => (d.fget (fPrmStepState 6), d.prime.waitReset)) = some (3, true) ∧ did (.primingStepTimeout here) (primed 3 id) (fun d => d.prime.next) = some 4 := by decide +kernel
theorem test_reprime : did .reprime (primed 2 (fun p => { p with waitReset := true })) (fun d => (d.fget fPrmStatReprime, d.fget (fPrmStepState 0), d.prime.next)) = some (1, 1, 0)
    ∧ did .reprime ((primed 2 (fun p => { p with waitReset := true })).fld [(fPrmStatReprime, 3)]) (fun d => (d.fget fPrmStatReprime, d.fget fPrmStatState)) = some (4, 2) := by decide +kernel
/-- A step whose last failure raised its variant: V1 after a failure, V0 after a pass with few failures in its history. -/
theorem test_variants : choose 3 { variant := 0 } (some false) = ({ variant := 0, attempts := 1, history := 1 }, 1) ∧ choose 3 { variant := 3 } (some false) = ({ variant := 3, attempts := 1, history := 1 }, 3)
    ∧ (choose 3 { variant := 1, history := 1 } (some true)).2 = 0 ∧ (choose 3 { variant := 1, history := 7 } (some true)).2 = 1 := by decide +kernel

theorem wit_PrimingWork : newest (primed 11 id).nv.ckA (primed 11 id).nv.ckB = none ∧ (primed 11 id).ev.enabled = false ∧ (primed 6 id).variant 6 ≠ 1 ∧ (primed 14 id).prime.rr.startUp = none ∧ (primed 9 id).variant 9 ≠ 2
    ∧ (primed 15 (fun p => { p with variants := [(15, 1)] })).variant 15 ≠ 0 ∧ (primed 15 id).nv.commits.any (·.body.isRecord) = false ∧ (primed 15 id).prime.imageRollback ≤ (primed 15 id).fget fSecStatRollback := by decide +kernel
def probes (d : Option (Nat × Nat)) : List ChanProbe := List.replicate 24 ⟨d, true⟩
theorem wit_Pm05 : (probes (some (0, 2))).length = 24 ∧ (∀ x ∈ probes (some (0, 2)), x.dev = some (0, 2) ∧ x.trained = true) ∧ ∀ ch, ch < 24 → (primed 5 id).isRetired (dramPlace ch) = false := by decide +kernel
theorem wit_Pm07 : ([.pump 3 2, .spout 5] : List TUnit).all TUnit.ok = true ∧ TUnit.pump 3 2 ∈ pixelUnits ∧ TUnit.encoder 1 ∈ ioUnits ∧ (primed 8 id).prime.early = [] := by decide +kernel
theorem test_pm03 : did (.pm03PcieEndpoint .pass) (primed 3 id) (fun d => (d.fget (fPrmStepState 3), d.fget (fPrmStepState 4), d.prime.linkUp)) = some (2, 1, true) := by decide +kernel
/-- 24 channels of 8 × 2 GiB: 31/32 of 384 GiB usable, a twenty-third of it in reserve, 8 GiB for the device. -/
theorem test_pm05 : did (.pm05DramTraining (probes (some (0, 2))) .pass) (primed 5 id) (fun d => (d.fget fMemCapUsable, d.fget fMemCapReserve, d.fget fMemCapAlloc)) = some (372, 17, 347) := by decide +kernel
theorem test_pm05_mixed_devices : did (.pm05DramTraining (⟨some (1, 2), true⟩ :: (probes (some (0, 2))).tail) .pass) (primed 5 id) (fun d => d.fget (fPrmStepState 5)) = some 3 := by decide +kernel
theorem test_pm09 : did (.pm09Cxl [some 100, some 200] .pass) (primed 9 id) (fun d => (d.fget fCxlCapSize, d.fget fCxlCapIlv)) = some (300, 0) ∧ did (.pm09Cxl [none, none] .pass) (primed 9 id) (fun d => (d.fget (fPrmStepVariant 9), d.qf.fallback)) = some (2, true) := by
  decide +kernel
/-- A set of one SSD formatted twice: GEN 4 in slot A and GEN 5 in slot B. -/
def formatted : Dev :=
  let d := primed 10 id
  let old : Super := { gen := 4, storeId := 77, nssd := 1, hostNs := 2, blocks := 32768 }
  { d with store := (d.store.writeSuper old).writeSuper { old with gen := 5, storeId := 78, hostNs := 3 } }
theorem test_superblocks : did (.pm10Nvme [some ⟨2 ^ 34, false, false⟩, none, none, none] .pass) formatted (fun d => (d.store.superOk, d.store.storeId, d.store.hostNs)) = some (true, 78, 3)
    ∧ did (.pm10Nvme [some ⟨2 ^ 34, false, true⟩, none, none, none] .pass) formatted (fun d => (d.store.superOk, d.store.storeId, d.store.hostNs)) = some (true, 77, 2)
    ∧ formatted.store.superAt 0 0 = some { gen := 4, storeId := 77, nssd := 1, hostNs := 2, blocks := 32768 }
    ∧ formatted.store.superAt 0 1 = some { gen := 5, storeId := 78, nssd := 1, hostNs := 3, blocks := 32768 } := by decide +kernel
theorem test_pm10 : did (.pm10Nvme [none, none, none, none] .pass) (primed 10 id) (fun d => d.fget fStoStatState) = some 0 ∧ did (.pm10Nvme [some ⟨2 ^ 34, true, true⟩, some ⟨2 ^ 35, true, true⟩, none, none] .pass) (primed 10 id) (fun d => (d.fget fStoStatState, d.fget fStoStatNssd)) = some (1, 2) := by
  decide +kernel
/-- Without a checkpoint the first SEQ is 2 to the 63rd plus BOOTS times 2 to the 40th. -/
theorem test_pm11 : did (.pm11JournalClips .pass) (primed 11 (fun p => { p with boots := 3 })) (fun d => (d.qf.head, d.fget fPrmStatQfReady)) = some (2 ^ 63 + 3 * 2 ^ 40, 1) := by decide +kernel
theorem test_pm15_waits_for_the_commit : did (.pm15Commit .pass) (let d := primed 15 id; { d with nv := { d.nv with commits := [d.nv.newCommit (.record {})] } }) (fun d => d.prime.next) = some 15 := by decide +kernel
theorem test_pm15_enters_service : did (.pm15Commit .pass) (primed 15 id) (fun d => (d.fget fPrmStatState, d.prime.next, d.ev.enabled)) = some (1, 16, true) := by decide +kernel

def failing1 (cls sev : Nat) : SumpEntry := { sseq := 0, time := 5, place := here, cls := cls, detail := 3, sev := sev, step := 255, flags := 0, payload := [] }
def holding (e : SumpEntry) : Dev := { up with sump := { up.sump with hold := [e] } }
theorem wit_Sump : (holding (failing1 2 2)).sump.overflow = none ∧ (later 1000005 up).nowNs = (failing1 2 2).time + 1000000 ∧ up.sump.hold = [] := by decide +kernel
theorem wit_HardwareError : TUnit.ok (.lane 95) = true ∧ (TUnit.lane 95).tested = true ∧ TUnit.queueFront.tested = false ∧ (primed 5 id).priming = true ∧ up.priming = false ∧ pumpOfUnit (.lane 95) = none
    ∧ up.passedLately (.lane 95) = false ∧ up.isRetired (TUnit.lane 95).retirePlace = false ∧ up.testPossible (.lane 95) = true ∧ up.testMayStart (.lane 95) = true
    ∧ (up.fld [(fLaneStatState 95, lsActive)]).testMayStart (.lane 95) = false := by decide +kernel
def testing1 (u : TUnit) : Dev := { up with test := { up.test with running := [{ unit := u, cause := 0x201, start := 0 }] } }
theorem wit_Tests : (testing1 (.lane 95)).underTest (.lane 95) = true ∧ (testing1 (.lane 95)).test.passes = [] ∧ up.prime.rr.softRows = [] ∧ up.test.waiting = [] := by decide +kernel
theorem test_sump_commit : did .sumpCommit (later 1000005 (holding (failing1 2 2))) (fun d => (d.sump.hold.length, d.sump.ring.length, d.prime.rr.sumpTail.length, d.prime.dirty)) = some (0, 1, 1, true)
    ∧ did .sumpCommit (later 1000005 (holding (failing1 2 1))) (fun d => (d.sump.ring.length, d.prime.rr.sumpTail.length, d.prime.dirty)) = some (1, 0, false)
    ∧ did .sumpCommit (later 1000004 (holding (failing1 2 1))) (fun d => d.sump.hold.length) = some 1 := by decide +kernel
theorem test_error_of_untested_unit_is_fatal : did (.hardwareError .queueFront 0 2 9 []) up (fun d => (d.prime.waitReset, d.sump.hold.map (fun e => (e.cls, e.detail, e.sev)))) = some (true, [(2, 9, 3)])
    ∧ did (.hardwareError .queueFront 0 1 9 []) up (fun d => (d.prime.waitReset, d.sump.hold.map (·.sev))) = some (false, [1]) := by decide +kernel
theorem test_error_starts_a_test : did (.hardwareError (.lane 95) 0 2 9 []) up (fun d => d.underTest (.lane 95)) = some true ∧ did (.hardwareError (.lane 95) 0 2 9 []) (testing1 (.lane 95)) (fun d => d.test.running.map (·.errors)) = some [2] := by decide +kernel
theorem test_test_passes : did (.selfTest (.lane 95) true) (testing1 (.lane 95)) (fun d => (d.test.running.length, d.test.passes.length, d.isRetired (TUnit.lane 95).retirePlace)) = some (0, 1, false) := by decide +kernel
theorem test_test_fails : did (.selfTest (.lane 95) false) (testing1 (.lane 95)) (fun d => (d.test.running.length, d.isRetired (TUnit.lane 95).retirePlace)) = some (0, true) := by decide +kernel
theorem test_waiting_test_starts : did .selfTestDequeue { up with test := { up.test with waiting := [{ unit := .lane 95, cause := 0x201, start := 0 }] } } (fun d => (d.test.waiting.length, d.underTest (.lane 95))) = some (0, true) := by decide +kernel
def committing (l : Nat) (e : Bool) : Dev := { up with nv := { up.nv with commits := [{ body := .record {}, slotB := true, gen := 9, erased := e, pagesLeft := l }], rrA := some (8, {}) } }
theorem wit_Commits : (committing 512 false).gateOpen = true ∧ (committing 512 false).qf.lifecycle = none ∧ ((committing 1 true).fld [(fThmGateOpen, 0)]).gateOpen = false := by decide +kernel
theorem test_commit : did .pageProgramDone (committing 512 false) (fun d => d.nv.commits.map (fun c => (c.erased, c.pagesLeft))) = some [(true, 512)] ∧ did .pageProgramDone (committing 512 true) (fun d => d.nv.commits.map (·.pagesLeft)) = some [511]
    ∧ did .pageProgramDone (committing 1 true) (fun d => (d.nv.commits.length, d.nv.rrB.map (·.1), d.nv.rrA.map (·.1))) = some (0, some 9, some 8) := by decide +kernel
theorem wit_Refclk : (let d := later 20000000000 up; ({ d with power := { d.power with sysRef := some 10000000000 } } : Dev)).power.sysRef = some 10000000000 ∧ up.power.sysRef = none ∧ (later 20000000000 up).nowNs = 20000000000 := by decide +kernel
theorem test_sys_refclk : did (.sysRefclkWindow (some 5001)) up (fun d => (d.power.sysRef.isSome, d.sump.hold.map (fun e => (e.cls, e.sev)))) = some (true, [(10, 0)]) ∧ did (.sysRefclkWindow (some (-5000))) up (fun d => d.power.sysRef.isSome) = some false := by decide +kernel
theorem test_refclk_fatal : did .sysRefclkFatal (let d := later 20000000000 up; { d with power := { d.power with sysRef := some 10000000000 } }) (fun d => d.prime.waitReset) = some true ∧ did .sysRefclkFatal (let d := later 20000000000 up; { d with power := { d.power with sysRef := some 10000000001 } }) (fun d => d.prime.waitReset) = some false := by
  decide +kernel
theorem test_data_timeout : did (.dataTransferTimeout 7) (queued.given (cmd 0 0xC1 0 1 [])) Dev.ended = some (some 4) ∧ did (.dataTransferTimeout 7) (queued.given (cmd 0 0xC0 0 1 [])) Dev.ended = some none := by decide +kernel

/-! ## Security, thermal management, supplies and pins -/

theorem wit_Security : (queued.given { cmd 0 0xE1 0 0 (zeros 32) with unposted := false }).ready 7 true 0xE1 ≠ none ∧ (zeros 32).length = 32 ∧ queued.fget fSecStatLc ≠ 3 ∧ (queued.fld [(fSecStatLc, 3)]).fget fSecStatLc = 3
    ∧ (queued.given (cmd 0 0xE2 0 0 [])).ready 7 true 0xE2 ≠ none ∧ (queued.given (cmd 0 0xE5 0 0 [])).ready 7 true 0xE5 ≠ none ∧ (queued.given (cmd 0 0xE9 0 0 [])).ready 7 true 0xE9 ≠ none
    ∧ (queued.given (cmd 0 0xED 0 0 [])).ready 7 true 0xED ≠ none ∧ queued.anyRuns = false ∧ queued.qf.lifecycle = none := by decide +kernel
/-- A key block of 5,312 bytes with a purpose and a slot, its other bytes zero. -/
def keyBlk (purpose slot : Byte) : List Byte := purpose :: slot :: zeros 5310
theorem wit_KeyBlock : blkForm (keyBlk 1 3) = true ∧ blkPurpose (keyBlk 0x10 0) = 0x10 ∧ blkSlot (keyBlk 1 3) = 3 := by decide +kernel
theorem wit_KeyBlockChecks : (queued.fld [(fSecStatLc, 1)]).keyBlockError (keyBlk 1 3) = none ∧ (queued.fld [(fSecStatLc, 1)]).keyBlockError (keyBlk 2 3) = some stBadParam ∧ (queued.fld [(fSecStatLc, 3)]).keyBlockError (keyBlk 1 3) = some stNotPermitted := by
  decide +kernel
theorem test_attest_returned : did (.attest 7) ((queued.fld [(fSecStatLc, 3)]).given (cmd 0 0xE1 0 0 (zeros 32))) Dev.ended = some (some (0x700 + stNotPermitted)) ∧ did (.attest 7) (queued.given (cmd 0 0xE1 0 0 (zeros 31))) Dev.ended = some (some (0x700 + stBadParam)) := by
  decide +kernel
theorem test_enroll : did (.enrollKey 7) ((queued.fld [(fSecStatLc, 1)]).given (cmd 0 0xE5 0 0 (keyBlk 1 3))) (fun d => (d.ended, d.nv.keys.map (·.1))) = some (some 0, [3]) := by decide +kernel
theorem test_enroll_busy_slot : did (.enrollKey 7) (let d := (queued.fld [(fSecStatLc, 1)]).given (cmd 0 0xE5 0 0 (keyBlk 1 3)); { d with nv := { d.nv with keys := [(3, [1])] } }) Dev.ended = some (some (0x700 + stBusy)) := by decide +kernel
theorem test_revoke_unknown_key : did (.revokeKey 7) ((queued.fld [(fSecStatLc, 1)]).given (cmd 0 0xE9 0 0 (keyBlk 1 3))) Dev.ended = some (some (0x700 + stBadParam)) := by decide +kernel
theorem test_lifecycle_only_forward : did (.setLifecycle 7) ((queued.fld [(fSecStatLc, 1)]).given (cmd 0 0xED 0 0 (keyBlk 0x11 0))) Dev.ended = some (some (0x700 + stNotPermitted)) := by decide +kernel
def recovering : Dev := (primed 0 id).fld [(fPrmStatState, 3)]
theorem wit_Recovery : recovering.fget fPrmStatState = 3 ∧ recovering.checkImage [0] ≠ .ok ∧ (List.range 1).map (fun k => recovering.prime.rcvBuf.getD k 0) = [0] := by decide +kernel
theorem test_recovery_bad_image : did (.recoveryGo 0xC3 1) recovering (fun d => d.fget fSysRcvStatStatus) = some 3 ∧ did (.recoveryGo 0xC2 1) recovering (fun d => d.fget fSysRcvStatStatus) = some (recovering.fget fSysRcvStatStatus) := by decide +kernel

/-- 28 readings in quarter degrees. -/
def temps (t : Nat → Int) : List (Option Int) := (List.range 28).map (fun n => some (t n))
def warm (t : Nat → Int) : Dev := { up with thm := { sampled := true, sens := (List.range 28).map (fun n => (n, { reading := some (t n) })) } }
theorem wit_ThermalTrip : (temps (fun n => if n = 5 then 560 else 200)).length = 28 ∧ (temps (fun n => if n = 5 then 560 else 200))[5]? = some (some 560) ∧ up.thm.trip = none ∧ up.sns.cals = []
    ∧ up.flag (fThmSensFault 5) = false ∧ ((warm (fun _ => 520)).sensor 5).reading = some 520 := by decide +kernel
theorem wit_ThermalSample : (∀ n, n < 28 → up.flag (fThmSensFault n) = false ∧ (temps (fun _ => 461))[n]? = some (some 461)) ∧ (warm (fun _ => 452)).thm.sampled = true ∧ (warm (fun _ => 452)).gateOpen = true := by decide +kernel
theorem test_trip_at_140 : (warm (fun n => if n = 5 then 560 else 520)).checkTrip.thm.trip = some (1, 5, 560) ∧ (warm (fun n => if n = 5 then 559 else 520)).checkTrip.thm.trip = none := by decide +kernel
theorem test_gate_hysteresis : (warm (fun _ => 461)).updateGate.gateOpen = false ∧ (warm (fun _ => 460)).updateGate.gateOpen = true
    ∧ ((warm (fun _ => 453)).fld [(fThmGateOpen, 0)]).updateGate.gateOpen = false ∧ ((warm (fun _ => 452)).fld [(fThmGateOpen, 0)]).updateGate.gateOpen = true := by decide +kernel
theorem test_levels : up.nextLevel 433 0 0 = 1 ∧ up.nextLevel 432 0 0 = 0 := by decide +kernel
def rising (r0 r : Int) (f : Nat) : Dev :=
  let d := later 250000000 (up.fld [(fThmSensRise 3, f)])
  { d with thm := { sampled := true, sens := [(3, { reading := some r, hist := [(0, r0)] })] } }
theorem wit_ThermalRise : pastReading ((rising 440 470 0).sensor 3).hist (rising 440 470 0).nowNs = some 440 ∧ (∀ m, m < 28 → m ≠ 3 → ((rising 440 470 0).sensor m).reading = none) ∧ (up.riseLimit : Int) < 455 - 400 ∧ 4 * (up.riseFloor : Int) < 455 := by
  decide +kernel
theorem test_rise_trips : did .thermalRiseCheck (rising 440 470 0) (fun d => d.thm.trip) = some (some (2, 3, 470)) ∧ did .thermalRiseCheck (rising 400 455 0) (fun d => (d.thm.trip, d.flag (fThmSensRise 3))) = some (none, true) := by decide +kernel
theorem test_level_write_clips : did (.thmLevelWrite 2 0x8AFF00FF) up (fun d => (d.fget (fThmLevelTemp 2), d.fget (fThmLevelHyst 2), d.fget (fThmLevelEn 2))) = some (135, 20, 1) := by decide +kernel
theorem test_latch_clear : did .shutdownLatchClear { up with thm := { trip := some (1, 2, 600) } } (fun d => (d.thm.trip, d.pins.porst)) = some (none, false) := by decide +kernel

/-- The device with rails at their setpoints, after `n` samples of rail `r` outside tolerance and `b` below 85 %. -/
def supplied (r n b st : Nat) : Dev := let d := up.fld [(fPwrRailState r, st)]; { d with power := { outRun := [(r, n)], brownRun := [(r, b)] } }
theorem wit_Supplies : up.thm.trip = none ∧ up.railSet 5 = 1200 ∧ tgetD (supplied 5 3 0 0).power.outRun 5 0 = 3 ∧ tgetD (supplied 5 3 9 0).power.brownRun 5 0 = 9 ∧ (supplied 5 3 0 0).fget (fPwrRailState 5) = 0 ∧ up.power.fixed = false ∧ 2 < up.prime.next
    ∧ (up.fld [(fPwrRailState 1, 2), (fPwrRailMeas 1, 728)]).fget (fPwrRailState 1) = 2 ∧ 97 * up.railSet 1 ≤ 100 * 728 := by decide +kernel
theorem test_rail_fault_after_four : did (.railSample 5 (some 1261)) (supplied 5 3 0 0) (fun d => d.fget (fPwrRailState 5)) = some 1 ∧ did (.railSample 5 (some 1260)) (supplied 5 3 0 0) (fun d => d.fget (fPwrRailState 5)) = some 0 := by
  decide +kernel
theorem test_core_rail_low : did (.railSample 1 (some 712)) (supplied 1 3 0 0) (fun d => (d.fget (fPwrRailState 1), d.thm.coreLow, d.fget (fSysIslStatDiv 8), d.fget (fSysIslStatDiv 7))) = some (2, [1], 1, 0) := by decide +kernel
theorem test_brown_out : did (.railSample 5 (some 1019)) (supplied 5 9 9 1) (fun d => (d.pins.porst, d.prime.held)) = some (false, true) ∧ did (.railSample 5 (some 1020)) (supplied 5 9 9 1) (fun d => d.prime.held) = some false := by decide +kernel
theorem test_core_rail_recovers : did (.coreRailRecovered 1) (up.fld [(fPwrRailState 1, 2), (fPwrRailMeas 1, 728)]) (fun d => d.fget (fPwrRailState 1)) = some 0 ∧ did (.coreRailRecovered 1) (up.fld [(fPwrRailState 1, 2), (fPwrRailMeas 1, 727)]) (fun d => d.fget (fPwrRailState 1)) = some 2 := by
  decide +kernel
theorem test_avs : did (.avsSetpointDone 0 700 ((railIslands 0).map (fun n => (n, 700)))) up (fun d => (d.fget (fPwrRailSet 0), d.fget (fSysIslStatVmv 20))) = some (700, 700) := by decide +kernel
theorem test_porst : did .porstLFall { up with thm := { trip := some (1, 2, 600) } } (fun d => (d.thm.trip.isSome, d.prime.held, d.pins.porst)) = some (true, true, false) ∧ did .pwrgdFall up (fun d => d.pins.pwrgd) = some false := by decide +kernel
theorem test_perst : did .perstLFall up (fun d => d.prime.linkUp) = some false ∧ did .perstLRise { up with prime := { up.prime with linkUp := false } } (fun d => d.prime.linkUp) = some true ∧ did .endpointLinkDown up (fun d => d.qf.rdy) = some false := by decide +kernel
theorem test_smbus : did (.smbusRead 0) { up with thm := { trip := some (1, 2, 600) } } (fun d => d.pins.smb.length) = some 8 ∧ did (.smbusRead 3) up (fun d => d.pins.smb) = some (zeros 8) := by decide +kernel
/-- The TAP leaves Test-Logic-Reset for Run-Test/Idle on a rising TCK with TMS low, and TRST returns it. -/
theorem test_tap : did (.boundaryScan ⟨true, false, false, true, []⟩) up (fun d => d.pins.tap) = some (tapNext 0 false) ∧ tapNext 0 false ≠ 0 ∧ tapNext 0 true = 0 ∧ did (.boundaryScan ⟨true, false, false, false, []⟩) up (fun d => d.pins.tap) = some 0 := by decide +kernel

/-! ## The whole machine -/

theorem wit_QueueDrains : (⟨up, [.sumpCommit, .thermalRiseCheck]⟩ : State).queueOk = true ∧ Instr.wf .sumpCommit = true ∧ Instr.wf (.thermalSample []) = false := by decide +kernel
theorem wit_MemoryForm : Memory.wf (mwrite [] 5 (le 4 0x01020304)) = true ∧ (match step ⟨{ up with mem := { up.mem with bytes := mwrite [] 5 (le 4 0x01020304) } }, [.sumpCommit]⟩ with | .next t => t.dev.mem.bytes.length | _ => 0) = 4 := by
  decide +kernel
theorem test_queue_first_in_first_out : (match step ⟨up, [.timeCountBroadcast, .sumpCommit]⟩ with | .next t => (t.dev.nowNs, t.pending) | _ => (0, [])) = (32, [.sumpCommit]) := by decide +kernel

/-! ## Ends of tasks and strips, and dispatch -/

def endPort : Tab (BitVec 32) := [(0x74, 0xC0000000#32)]
theorem wit_StripEnds : (skipping (ported 4 [] 0 2) []).issues 0 4 0 ∧ ((skipping (ported 4 [] 0 2) []).core 0).regs.boundPorts 4 = []
    ∧ (skipping (ported 4 [] 0 2) []).role 0 ≠ .withdrawing ∧ ((skipping (ported 4 [] 0 2) []).core 0).task.any (fun t => t.2.rt && t.2.strip.isSome) = true
    ∧ (skipping (ported 4 [] 0 2) endPort).issues 0 4 0 ∧ ((skipping (ported 4 [] 0 2) endPort).core 0).regs.boundPorts 4 = [4]
    ∧ (skipping (ported 4 [] 0 2) endPort).portEnded 0 4 = false ∧ (skipping (ported 4 [] 0 2) endPort).portRoom 0 4 = 2
    ∧ (skipping (ported 4 [] 1 0) endPort).portRoom 0 4 = 0 := by unfold Dev.issues; decide +kernel
theorem test_yield_without_end_marker_is_a_skip : did (.yield 0) (skipping (ported 4 [] 0 2) endPort)
    (fun d => ((tget (d.core 0).tasks 0).map (fun t => (t.st, t.strip.isNone)), d.cores.rtFaults.map (fun b => field b 4 1))) = some (some (.waiting, true), [3]) := by
  decide +kernel
theorem test_yield_at_full_slot_stalls : did (.yield 0) (skipping (ported 4 [] 1 0) endPort) (fun d => (d.core 0).regs.pc) = some 0 := by decide +kernel
def backTwo (w : Nat) (g : Graph) : Dev := let d := (onPump false w 0 {}).bound g
  d.coreMod 0 (fun k => { k with tasks := [(0, task false), (1, { task false with st := .ready, savePtr := 4096 })] })
theorem wit_BackgroundEnds : (backTwo 4 graph1).issues 0 4 0 ∧ ((backTwo 4 graph1).graph 1).map (·.st) = some .built
    ∧ tget ((backTwo 4 graph1).core 0).tasks 1 = some { task false with st := .ready, savePtr := 4096 }
    ∧ (backTwo 4 { graph1 with st := .draining, frames := [fr 5] }).issues 0 4 0
    ∧ ((onPump true (fC 0 0 9 6) 0 {}).issues 0 (fC 0 0 9 6) 0) ∧ (onPump false 10 0 {}).issues 0 10 0 := by unfold Dev.issues; decide +kernel
theorem test_yield_offers_the_pump : did (.yield 0) (backTwo 4 graph1) (fun d => ((d.core 0).cur, (tget (d.core 0).tasks 0).map (fun t => (t.st, ((d.core 0).saved t).pc))))
    = some (some 1, some (.ready, 8)) := by decide +kernel
theorem test_yield_ends_in_a_draining_graph : did (.yield 0) (backTwo 4 { graph1 with st := .draining, frames := [fr 5] }) (fun d => (tget (d.core 0).tasks 0).map (·.st))
    = some (some .ended) := by decide +kernel
theorem test_svc_in_real_time_is_privileged : did (.svc 0) (onPump true (fC 0 0 9 6) 0 {}) (fun d => ((d.core 0).regs.crget 1).toNat % 256) = some excPrivileged := by
  decide +kernel

/-- Graph 2 has strip 0 ready for pump 0, which runs stage 0 of graph 1 and waits for a load. -/
def stalling : Dev :=
  let st := { stage1 with ins := [], outs := [], pumps := 1 :: List.replicate 15 0, pos := [(0, [0])] }
  let g := { graph1 with st := .armed, stages := [st], chans := [], frames := [{ fr 5 with admitted := true, obDone := [0] }] }
  let d := (onPump true 8 0 { loads := [{ space := some 0, va := 0, sz := 2, signed := false, rt := 5 }] }).bound { g with prio := [1] }
  let d := { d with cores := { d.cores with graphs := [(1, { g with prio := [1] }), (2, g)], well := [(0, { order := [0], codeLim := 8 })] } }
  d.coreMod 0 (fun k => { k with tasks := [(0, { task true with strip := some ⟨0, 5, 0⟩ }), (1, { task true with graph := 2, st := .waiting, savePtr := 4096 })] })
theorem wit_Dispatch : ((dispatching.readyStrips graph1).length, ((dispatching.graph 1).map (fun g => (dispatching.readyStrips g).map (fun r => (r.stage, r.strip)))))
      = (0, some [(0, 0)])
    ∧ (dispatching.graph 1).map (fun g => g.stages.map (fun st => dispatching.candidates 1 g 0 st)) = some [[0]] ∧ dispatching.pumpFree 0 = true
    ∧ (dispatching.graph 1).map (fun g => g.sourceStages) = some [] := by decide +kernel
theorem wit_StallPreempt : stalling.stalledIssue 0 = true ∧ (stalling.core 0).task.map (fun t => (t.2.rt, (stalling.taskRank t.2).map (·.prio))) = some (true, some 1)
    ∧ (stalling.graph 2).map (fun g => (stalling.readyStrips g).map (fun r => (r.rank.prio, r.stage, r.strip))) = some [(0, 0, 0)]
    ∧ (stalling.graph 2).map (fun g => g.stages.map (fun st => stalling.candidates 2 g 0 st)) = some [[0]] := by decide +kernel
theorem test_stalled_strip_gives_way : did (.rtStallPreempt 0) stalling (fun d => ((d.core 0).cur, (tget (d.core 0).tasks 0).map (·.st), (tget (d.core 0).tasks 1).map (·.strip)))
    = some (some 1, some .ready, some (some ⟨0, 5, 0⟩)) := by decide +kernel

/-! ## Further boundaries -/

theorem wit_RowGuards : guardRow enc2 320000 64 1 [4] 0 4 false none true = (8, false, none, true)
    ∧ (guardRow enc2 600 64 1 [4] 0 4 false none true).2.2 = (some 0, true) ∧ guardRow enc2 600 64 1 [64] 0 4 true none true = (68, true, none, true)
    ∧ (guardRow enc2 600 64 1 [65] 0 4 true none true).2.2.2 = false := by decide +kernel
theorem wit_LaneFence : (17 : Nat) < 96 ∧ (laned 6).widths 17 = [16, 8, 4] ∧ ((laned 6).linkAll 17).length = 16
    ∧ ((laned 6).fld [(fLaneStatState 17, 6)]).laneSt 17 = lsActive ∧ (laned 6).isEth 17 = false := by decide +kernel
theorem test_fence_of_no_width : did (.laneFence 17 2 3) ((laned 6).fld [(fLaneStatState 17, 6)]) (fun d => d.laneSt 17) = some 6
    ∧ did (.laneFence 17 16 3) ((laned 6).fld [(fLaneStatState 17, 6)]) (fun d => d.laneSt 17) = some 6 := by decide +kernel
theorem wit_Setpoint : ((railIslands 0).foldl (fun (d : Dev) n => d.fset (fSysIslStatVmv n) 750) up).islandsClose = true
    ∧ ((railIslands 0).foldl (fun (d : Dev) n => d.fset (fSysIslStatVmv n) 850) (up.fld ((railIslands 2).map (fun n => (fSysIslStatVmv n, 650))))).islandsClose = false := by
  decide +kernel
theorem wit_SiphonSchedule : (siphoning sph (desc1 0)).sphReady 0 = true ∧ (siphoning sph (desc1 0)).sphNext 0 = some 0
    ∧ ((siphoning sph (desc1 0)).sphDesc sph).map (·.total) = some 4
    ∧ (tget ((siphoning sph (desc1 0)).sphRun 0 (some 0) ((siphoning sph (desc1 0)).sphLeft 0)).mem.siphons 0).map (fun y => (y.progress, y.suspended)) = some (1, false)
    ∧ (siphoning sph []).sphDesc sph = none := by decide +kernel
theorem wit_SiphonRtWork : (draining [.mark 0x80000000]).rtDrain 0 = some (1, 0, 0) ∧ (draining []).rtDrain 1 = none := by decide +kernel
theorem wit_SyncEdges : framing.edgeCounts 1 (edgeAt 500) = true ∧ framing.edgeTime 1 (edgeAt 500) = 500 ∧ framing.edgeCounts 1 { stable := 3, copies := [], confirm := 9 } = false
    ∧ framing.edgeTime 1 { stable := 255, copies := [], confirm := 9 } = framing.recTime ∧ framing.inWindow 1 600 = false := by decide +kernel
theorem wit_BandUnits : ((recording1 unit9 true).recOf 1).bind (fun r => r.units.find? (fun u => (recording1 unit9 true).bandReady 1 u 0)) = some unit9 := by decide +kernel
theorem test_cxl_lane_trains : did (.laneSignalDetect 17) (laned 6 |>.fld [(fLaneGrpCfgProto 2, 4), (fLaneGrpCfgProto 3, 4), (fLaneStatState 17, 1)])
    (fun d => (d.laneSt 17, d.fget (fCxlPortStatState 0))) = some (lsTrain, 1) := by decide +kernel
theorem test_die_links_repaired : did (.pm04DieLinks [(2, 5), (2, 5)] .pass) (primed 4 id) (fun d => (d.prime.rr.dieRepair, d.fget fPrmRetiredLanes)) = some ([(2, 5)], 1) := by
  decide +kernel
theorem test_perst_clears_queue_registers : did .perstLFall { up with qf := { up.qf with aqa := 0x30003, asq := 4096 } } (fun d => (d.qf.aqa, d.qf.asq, d.prime.linkUp)) = some (0, 0, false) := by
  decide +kernel
theorem wit_FlowMember : (up.portX 0).memberUp = [] ∧ up.proto (firstLane 0) ≠ 1 ∧ tget ((up.setPortX 0 (fun x => { x with memberUp := [(2, 0)] })).portX 0).memberUp 2 = some 0 := by
  decide +kernel
theorem test_member_resumes : did (.flowResume 0 2) (later 100000000 (up.setPortX 0 (fun x => { x with memberUp := [(2, 0)] }))) (fun d => (d.portX 0).resumed) = some [2]
    ∧ did (.flowResume 0 2) (later 99999999 (up.setPortX 0 (fun x => { x with memberUp := [(2, 0)] }))) (fun d => (d.portX 0).resumed) = some [] := by decide +kernel

/-! ## The ball map: the examples of R561 to R563, and the counts of Tables ET-5, ET-14 and ET-15 -/

theorem test_lane_balls : ballAt 2 52 = .lane 45 false true ∧ ballAt 2 53 = .lane 45 false false ∧ ballAt 5 52 = .lane 45 true true
    ∧ ballAt 5 53 = .lane 45 true false ∧ ballName 2 52 = "B52" ∧ ballName 5 53 = "E53" := by decide
theorem test_sensor_balls : ballAt 28 52 = .sensor 1 43 true ∧ ballName 28 52 = "AJ52" ∧ ballAt 49 3 = .sensorTrig 0 0 ∧ ballAt 46 53 = .sensorTrig 1 0 := by
  decide
theorem test_axis_ball : ballAt 18 26 = .low (.axis 17 2) ∧ ballName 18 26 = "W26" := by decide
theorem test_lane_group_counts : ballCount (lanesFrom 1 6) (lanesFrom 1 54) (· != .vss) = 192 ∧ ballCount (lanesFrom 50 6) (lanesFrom 1 54) (· == .vss) = 132 := by
  decide +kernel
theorem test_supply_counts : (List.range 6).map (fun r => ballCount (lanesFrom 22 21) (lanesFrom 13 31) (· == .supply r)) = [126, 126, 126, 42, 45, 25]
    ∧ ballCount (lanesFrom 22 21) (lanesFrom 13 31) (· == .vss) = 126 := by decide +kernel
def powered : Dev := { up with pins := { up.pins with porst := true } }
theorem test_pins_in_reset : powered.flashHeld = false ∧ up.pins.porst = false ∧ up.flashHeld = true
    ∧ ({ powered with prime := { up.prime with next := 9 } } : Dev).laneIdle 64 = true ∧ ({ powered with prime := { up.prime with next := 9 } } : Dev).laneIdle 20 = false := by
  decide +kernel

end Sys2Proof.Machine
end

section
/-!
PROOFS. Emergency controls, the journal's checkpoint, and accesses to BAR0 and the debug windows (R41, R42, R385, R401).
-/
set_option autoImplicit false

namespace Sys2Proof.Machine

/-! ## Updates that leave most of the device alone -/

@[simp] theorem tget_tadj {α : Type} (t : Tab α) (i j : Nat) (f : α → α) :
    tget (tadj t i f) j = if j = i then (tget t i).map f else tget t j := by
  cases h : tget t i with
  | some v => simp only [tadj, h, tget_tput, Option.map_some]
  | none =>
    simp only [tadj, h]
    split
    · rename_i hj; rw [hj, h]; rfl
    · rfl

/-- A key that has an entry is listed. -/
theorem mem_tkeys_of_tget {α : Type} {t : Tab α} {i : Nat} {v : α} (h : tget t i = some v) : i ∈ tkeys t := by
  induction t with
  | nil => cases h
  | cons e t ih =>
    obtain ⟨k, w⟩ := e
    by_cases hk : i = k
    · exact List.mem_cons.mpr (.inl hk)
    · exact List.mem_cons_of_mem _ (ih (by simpa [tget, hk] using h))

/-- Writing several fields changes registers alone. -/
theorem Dev.fsets_regsOnly (l : List (Fld × Nat)) (d : Dev) : (d.fsets l).regsOnly d :=
  List.foldlRecOn l _ (motive := fun t : Dev => t.regsOnly d) rfl fun t h e _ => by
    rw [h]; rfl

@[simp] theorem Dev.fsets_qf (d : Dev) (l : List (Fld × Nat)) : (d.fsets l).qf = d.qf := by
  rw [Dev.fsets_regsOnly l d]

/-- A one-bit field that is set shows as a flag. -/
theorem Dev.flag_fset_one (d : Dev) (f : Fld) (hw : f.width = 1) : (d.fset f 1).flag f = true := by
  unfold Dev.flag; rw [Dev.fget_fset_same, hw]; rfl

theorem Dev.flag_fset_zero (d : Dev) (f : Fld) : (d.fset f 0).flag f = false := by
  unfold Dev.flag; rw [Dev.fget_fset_same, Nat.zero_mod]; rfl

/-- Apart from the queue front, the registers, the sump and the count of free values, the device is `d`. -/
def Dev.hostSide (t d : Dev) : Prop := ∃ q r m n, t = { d with qf := q, regs := r, sump := m, free := n }

theorem Dev.hostSide_refl (d : Dev) : d.hostSide d := ⟨_, _, _, _, rfl⟩

theorem Dev.hostSide_trans {a b c : Dev} (h : a.hostSide b) (k : b.hostSide c) : a.hostSide c := by
  obtain ⟨_, _, _, _, rfl⟩ := h
  obtain ⟨_, _, _, _, rfl⟩ := k
  exact ⟨_, _, _, _, rfl⟩

theorem Dev.hostSide_of_regsOnly {t d : Dev} (h : t.regsOnly d) : t.hostSide d := ⟨_, _, _, _, h⟩

/-- What lies outside the host's side of the device stays. -/
theorem Dev.hostSide_frame {t d : Dev} (h : t.hostSide d) :
    t.cores = d.cores ∧ t.mem = d.mem ∧ t.vid = d.vid ∧ t.nv = d.nv ∧ t.store = d.store := by
  obtain ⟨_, _, _, _, rfl⟩ := h
  exact ⟨rfl, rfl, rfl, rfl, rfl⟩

/-! ## The end of a command -/

theorem Dev.fieldFailure_hostSide (d : Dev) (sqid : Nat) (f : Ending) : (d.fieldFailure sqid f).hostSide d := by
  unfold Dev.fieldFailure
  split
  · exact ⟨_, _, _, _, rfl⟩
  · exact d.hostSide_refl

theorem Dev.hostSide_of_quiet {t d : Dev} (h : t.quiet d) : t.hostSide d := ⟨_, _, _, _, h.1⟩

theorem Dev.finishAs_hostSide (d : Dev) (st : JState) (seq : Nat) (f : Ending) : (d.finishAs st seq f).hostSide d := by
  unfold Dev.finishAs
  split
  · exact d.hostSide_refl
  · rename_i c _
    have freed (t : Dev) (g : JRec → JRec) (h : t.hostSide d) : ((t.jset seq g).freeCtx seq).hostSide d :=
      Dev.hostSide_trans (Dev.hostSide_of_quiet (Dev.quiet_trans (Dev.freeCtx_quiet _ _) (t.jset_quiet seq g))) h
    dsimp only
    split
    · exact Dev.hostSide_trans ⟨_, _, _, _, rfl⟩ (freed _ _ (d.fieldFailure_hostSide c.sqid f))
    · exact freed _ _ (d.fieldFailure_hostSide c.sqid f)

theorem Dev.settleSqDel_hostSide (d : Dev) (sqid : Nat) : (d.settleSqDel sqid).hostSide d := by
  unfold Dev.settleSqDel
  split
  · split
    · exact d.hostSide_refl
    · exact Dev.hostSide_trans (Dev.finishAs_hostSide _ _ _ _) ⟨_, _, _, _, rfl⟩
  · exact d.hostSide_refl

theorem Dev.finish_hostSide (d : Dev) (seq : Nat) (f : Ending) : (d.finish seq f).hostSide d := by
  unfold Dev.finish
  split
  · exact d.hostSide_refl
  · exact Dev.hostSide_trans (Dev.settleSqDel_hostSide _ _) (Dev.finishAs_hostSide _ _ _ _)

theorem Dev.finishes_hostSide (d : Dev) (l : List Nat) (f : Ending) : (l.foldl (fun d q => d.finish q f) d).hostSide d :=
  List.foldlRecOn l _ (motive := fun t : Dev => t.hostSide d) d.hostSide_refl fun t h q _ => Dev.hostSide_trans (t.finish_hostSide q f) h

/-! ## Journal records and commits -/

theorem Dev.journal_hostSide (d : Dev) (r : JRec) : (d.journal r).hostSide d :=
  Dev.hostSide_trans (Dev.hostSide_of_regsOnly (Dev.fsets_regsOnly _ _)) ⟨_, _, _, _, rfl⟩

/-- A record takes the next SEQ. -/
theorem Dev.journal_head (d : Dev) (r : JRec) : (d.journal r).qf.head = d.qf.head + 1 := by
  simp [Dev.journal, Dev.showHead]

/-- A record changes no register but those that show HEAD and OLDEST. -/
theorem Dev.journal_fget (d : Dev) (r : JRec) (g : Fld)
    (h : g.key ∉ [fSysJnlHeadHead, fJnlHeadLoHead, fJnlHeadHiHead, fJnlOldestLoOldest, fJnlOldestHiOldest].map Fld.key) :
    (d.journal r).fget g = d.fget g :=
  Dev.fget_fsets_ne _ _ _ (by simpa using h)

theorem Nv.newCommit_body (n : Nv) (b : CommitBody) : (n.newCommit b).body = b := by cases b <;> rfl

theorem Dev.showCommits_hostSide (d : Dev) : d.showCommits.hostSide d := by
  unfold Dev.showCommits Dev.settleShutdown
  dsimp only
  split <;> exact ⟨_, _, _, _, rfl⟩

/-- A commit takes the last place among the commits, whatever else it shows of itself. -/
theorem Dev.commit_hostSide (d : Dev) (b : CommitBody) : (d.commit b).hostSide { d with nv := { d.nv with
    commits := d.nv.commits.filter (fun c => c.body.isRecord != b.isRecord) ++ [d.nv.newCommit b] } } := by
  unfold Dev.commit
  refine Dev.hostSide_trans (Dev.showCommits_hostSide _) ?_
  split
  · exact Dev.hostSide_refl _
  · exact ⟨_, _, _, _, rfl⟩

/-- The checkpoint is among the commits, and only they and the host's side change. -/
theorem Dev.checkpoint_commits (d : Dev) : d.checkpoint.checkpoints ∧ d.checkpoint.cores = d.cores ∧ d.checkpoint.mem = d.mem
    ∧ d.checkpoint.store = d.store := by
  unfold Dev.checkpoint
  generalize hb : CommitBody.checkpoint _ = b
  obtain ⟨hc, hm, -, hn, hs⟩ := Dev.hostSide_frame (d.commit_hostSide b)
  refine ⟨⟨d.nv.newCommit b, ?_, ?_⟩, hc, hm, hs⟩
  · rw [hn]; simp
  · rw [Nv.newCommit_body, ← hb]; rfl

/-! ## STOP_NOW of a recording (R332) -/

theorem Dev.recOf_recChange (d : Dev) (i j : Nat) (f : Recording → Recording) :
    (d.recChange i f).recOf j = if j = i then (d.recOf i).map f else d.recOf j :=
  tget_tadj _ _ _ _

/-- Work on the units of recording `i`: the cores, the bytes of memory and every other recording stay, and `i` is there if it was. -/
structure Dev.cutOnly (t d : Dev) (i : Nat) : Prop where
  cores : t.cores = d.cores
  bytes : t.mem.bytes = d.mem.bytes
  other : ∀ j, j ≠ i → t.recOf j = d.recOf j
  here : (t.recOf i).isSome = (d.recOf i).isSome

theorem Dev.cutOnly_refl (d : Dev) (i : Nat) : d.cutOnly d i := ⟨rfl, rfl, fun _ _ => rfl, rfl⟩

theorem Dev.cutOnly_trans {a b c : Dev} {i : Nat} (h : a.cutOnly b i) (k : b.cutOnly c i) : a.cutOnly c i :=
  ⟨h.cores.trans k.cores, h.bytes.trans k.bytes, fun j hj => (h.other j hj).trans (k.other j hj), h.here.trans k.here⟩

theorem Dev.cutOnly_of_vid {t d : Dev} (i : Nat) (hc : t.cores = d.cores) (hm : t.mem.bytes = d.mem.bytes) (hv : t.vid = d.vid) :
    t.cutOnly d i := by
  have hr : t.recOf = d.recOf := by funext j; unfold Dev.recOf; rw [hv]
  exact ⟨hc, hm, fun j _ => congrFun hr j, by rw [hr]⟩

theorem Dev.cutOnly_of_hostSide {t d : Dev} (i : Nat) (h : t.hostSide d) : t.cutOnly d i := by
  obtain ⟨hc, hm, hv, -, -⟩ := Dev.hostSide_frame h
  exact Dev.cutOnly_of_vid i hc (congrArg Mem.bytes hm) hv

theorem Dev.cutOnly_ite {p : Prop} [Decidable p] {a b d : Dev} {i : Nat} (ha : a.cutOnly d i) (hb : b.cutOnly d i) :
    (if p then a else b).cutOnly d i := by
  split
  · exact ha
  · exact hb

theorem Dev.clipMod_cutOnly (d : Dev) (i slot : Nat) (f : Clip → Clip) : (d.clipMod slot f).cutOnly d i :=
  Dev.cutOnly_of_vid i rfl rfl rfl

theorem Dev.append_cutOnly (d : Dev) (i slot : Nat) (bs : List Byte) : (d.append slot bs).cutOnly d i :=
  d.clipMod_cutOnly i slot _

theorem Dev.retireLeases_cutOnly (d : Dev) (i kind index frame : Nat) : (d.retireLeases kind index frame).cutOnly d i :=
  Dev.cutOnly_of_vid i rfl rfl rfl

theorem Dev.dropLeases_cutOnly (d : Dev) (i kind index : Nat) : (d.dropLeases kind index).cutOnly d i :=
  Dev.cutOnly_of_vid i rfl rfl rfl

theorem Dev.recChange_cutOnly (d : Dev) (i : Nat) (f : Recording → Recording) : (d.recChange i f).cutOnly d i :=
  ⟨rfl, rfl, fun j hj => by rw [d.recOf_recChange, if_neg hj], by rw [d.recOf_recChange, if_pos rfl, Option.isSome_map]⟩

theorem Dev.unitMod_cutOnly (d : Dev) (i frame : Nat) (f : FrameUnit → FrameUnit) : (d.unitMod i frame f).cutOnly d i :=
  d.recChange_cutOnly i _

theorem Dev.unitBegin_cutOnly (d : Dev) (i slot : Nat) (u : FrameUnit) : (d.unitBegin i slot u).cutOnly d i := by
  unfold Dev.unitBegin
  split
  · exact d.cutOnly_refl i
  · exact Dev.cutOnly_trans (Dev.unitMod_cutOnly _ _ _ _) (Dev.append_cutOnly _ _ _ _)

theorem Dev.unitBlocks_cutOnly (d : Dev) (i slot frame : Nat) (bs : List (Nat × Option (List Byte))) :
    (d.unitBlocks i slot frame bs).cutOnly d i :=
  List.foldlRecOn bs _ (motive := fun t : Dev => t.cutOnly d i) (d.cutOnly_refl i) fun t h e _ => by
    cases e.2 with
    | none => exact h
    | some b => exact Dev.cutOnly_trans (Dev.unitMod_cutOnly _ _ _ _) (Dev.cutOnly_trans (t.append_cutOnly i slot b) h)

theorem Dev.unitClose_cutOnly (d : Dev) (i slot frame : Nat) : (d.unitClose i slot frame).cutOnly d i := by
  unfold Dev.unitClose
  split
  · exact d.cutOnly_refl i
  · exact Dev.cutOnly_trans (Dev.recChange_cutOnly _ _ _) (Dev.cutOnly_trans (Dev.retireLeases_cutOnly _ _ _ _ _)
      (Dev.cutOnly_trans (Dev.clipMod_cutOnly _ _ _ _) (d.append_cutOnly i slot _)))

theorem Dev.unitCut_cutOnly (d : Dev) (i : Nat) (u : FrameUnit) : (d.unitCut i u).cutOnly d i := by
  unfold Dev.unitCut
  split
  · exact d.cutOnly_refl i
  · refine Dev.cutOnly_ite ?_ ?_
    · exact Dev.cutOnly_trans (Dev.unitClose_cutOnly _ _ _ _) (Dev.cutOnly_trans (Dev.unitBlocks_cutOnly _ _ _ _ _)
        (Dev.cutOnly_trans (Dev.unitBegin_cutOnly _ _ _ _) (d.unitMod_cutOnly i u.frame _)))
    · refine Dev.cutOnly_trans (Dev.recChange_cutOnly _ _ _) (Dev.cutOnly_trans (Dev.retireLeases_cutOnly _ _ _ _ _) ?_)
      cases u.start with
      | some a => exact Dev.cutOnly_trans (Dev.clipMod_cutOnly _ _ _ _) (d.unitMod_cutOnly i u.frame _)
      | none => exact d.unitMod_cutOnly i u.frame _

theorem Dev.showBacklog_regsOnly (d : Dev) : d.showBacklog.regsOnly d := by
  have shown := Dev.fsets_regsOnly [(fCmpPoolBacklog, min 255 d.backlog), (fCmpPoolWorst, max (d.fget fCmpPoolWorst) (min 255 d.backlog))] d
  unfold Dev.showBacklog
  dsimp only
  generalize d.fsets _ = t at shown ⊢
  rw [shown]
  split
  · split <;> rfl
  · split <;> rfl

/-- A recording that has been stopped: no unit is left, none starts, and its clip awaits the close. -/
def Recording.stopped (r : Recording) : Prop := r.ending = true ∧ r.units = [] ∧ r.closing.isSome = true

/-- STOP_NOW as the recording itself shows it: its units and stops go, and its clip awaits the close under `seq`. -/
def Recording.stopNow (flags seq : Nat) (r : Recording) : Recording :=
  { r with units := [], stops := [], ending := true, flags := r.flags ||| flags, closing := some seq }

theorem Recording.stopNow_stopped (flags seq : Nat) (r : Recording) : (r.stopNow flags seq).stopped := ⟨rfl, rfl, rfl⟩

/-- What STOP_NOW does to a recording: after the work on its units it is marked and its leases go; the rest is the host's side
of the device. -/
theorem Dev.recStopNow_eq (d : Dev) (i flags : Nat) (earlier : List Nat) (note : Nat) (now : Option Nat) (r : Recording)
    (hr : d.recOf i = some r) : ∃ (t : Dev) (seq : Nat), t.cutOnly d i ∧
      (d.recStopNow i flags earlier note now).hostSide ((t.recChange i (Recording.stopNow flags seq)).dropLeases kRecording i) := by
  unfold Dev.recStopNow
  rw [hr]
  dsimp only
  refine ⟨r.units.foldl (fun d u => d.unitCut i u) d, now.getD (earlier.getLastD allOnes64), ?_, ?_⟩
  · exact List.foldlRecOn _ _ (motive := fun t : Dev => t.cutOnly d i) (d.cutOnly_refl i)
      fun t h u _ => Dev.cutOnly_trans (t.unitCut_cutOnly i u) h
  · have posted (t : Dev) (f : Ending) : (earlier.foldl (fun d q => d.finish q f) t.showBacklog).hostSide t :=
      Dev.hostSide_trans (Dev.finishes_hostSide _ _ _) (Dev.hostSide_of_regsOnly t.showBacklog_regsOnly)
    cases now with
    | none => exact posted _ _
    | some q => exact Dev.hostSide_trans (Dev.finish_hostSide _ _ _) (posted _ _)

theorem Dev.recStopNow_cutOnly (d : Dev) (i flags : Nat) (earlier : List Nat) (note : Nat) (now : Option Nat) :
    (d.recStopNow i flags earlier note now).cutOnly d i := by
  cases hr : d.recOf i with
  | none => unfold Dev.recStopNow; rw [hr]; exact d.cutOnly_refl i
  | some r =>
    obtain ⟨t, q, hcut, hend⟩ := d.recStopNow_eq i flags earlier note now r hr
    exact Dev.cutOnly_trans (Dev.cutOnly_of_hostSide i hend) (Dev.cutOnly_trans (Dev.dropLeases_cutOnly _ _ _ _)
      (Dev.cutOnly_trans (t.recChange_cutOnly i _) hcut))

theorem Dev.recStopNow_stops (d : Dev) (i flags : Nat) (earlier : List Nat) (note : Nat) (now : Option Nat) (r : Recording)
    (hr : d.recOf i = some r) : ∃ r', (d.recStopNow i flags earlier note now).recOf i = some r' ∧ r'.stopped := by
  obtain ⟨t, q, hcut, hend⟩ := d.recStopNow_eq i flags earlier note now r hr
  obtain ⟨-, -, hv, -, -⟩ := Dev.hostSide_frame hend
  obtain ⟨x, hx⟩ := Option.isSome_iff_exists.mp (hcut.here.trans (by rw [hr]; rfl))
  refine ⟨x.stopNow flags q, ?_, x.stopNow_stopped flags q⟩
  calc (d.recStopNow i flags earlier note now).recOf i
      = (t.recChange i (Recording.stopNow flags q)).recOf i := by unfold Dev.recOf; rw [hv]; rfl
    _ = some (x.stopNow flags q) := by rw [t.recOf_recChange, if_pos rfl, hx]; rfl

/-- Stopping several recordings stops each of them, and leaves stopped those that were. -/
theorem Dev.recStopNow_foldl_stops (flags : Nat) (l : List Nat) (d : Dev) (i : Nat) (r : Recording) (hr : d.recOf i = some r)
    (h : i ∈ l ∨ r.stopped) :
    ∃ r', (l.foldl (fun (d : Dev) i => d.recStopNow i flags [] 0 none) d).recOf i = some r' ∧ r'.stopped := by
  induction l generalizing d r with
  | nil => exact ⟨r, hr, h.resolve_left List.not_mem_nil⟩
  | cons k l ih =>
    rw [List.foldl_cons]
    by_cases hk : i = k
    · subst k
      obtain ⟨r', hr', hs⟩ := d.recStopNow_stops i flags [] 0 none r hr
      exact ih _ r' hr' (.inr hs)
    · exact ih _ r (((d.recStopNow_cutOnly k flags [] 0 none).other i hk).trans hr)
        (h.imp_left fun hm => (List.mem_cons.mp hm).resolve_left hk)

theorem Dev.recStopNow_foldl_frame (flags : Nat) (l : List Nat) (d : Dev) :
    let t := l.foldl (fun (d : Dev) i => d.recStopNow i flags [] 0 none) d
    t.cores = d.cores ∧ t.mem.bytes = d.mem.bytes :=
  List.foldlRecOn l _ (motive := fun t : Dev => t.cores = d.cores ∧ t.mem.bytes = d.mem.bytes) ⟨rfl, rfl⟩ fun t ⟨hc, hb⟩ i _ =>
    have hcut := t.recStopNow_cutOnly i flags [] 0 none
    ⟨hcut.cores.trans hc, hcut.bytes.trans hb⟩

/-! ## Emergency controls (R385) -/

theorem bits_emergWord (key act : Nat) (hk : key < 256) (ha : act < 16777216) : bits (emergWord key act) 31 24 = key := by
  unfold bits emergWord
  omega

/-- A write of SYS_EMERG_CTL under another key is refused. -/
theorem Dev.emergWrite_refused (d : Dev) (key : Byte) (act : Nat) (ha : act < 16777216) (hr : d.recovering = false)
    (hk : key ≠ 0xC3) :
    d.emergWrite (emergWord key.toNat act) = d.sumpRefused qfPlace 0x50000 (emergWord key.toNat act) := by
  have hkey : bits (emergWord key.toNat act) 31 24 ≠ 0xC3 := by
    rw [bits_emergWord _ _ key.isLt ha]
    exact fun h => hk (BitVec.eq_of_toNat_eq h)
  unfold Dev.emergWrite
  rw [if_neg (by simp [hr]), if_pos hkey]

/-- The device once an emergency control has passed its key: the control is counted and has its journal record. -/
def Dev.emergLogged (d : Dev) (v : Nat) : Dev := (d.finc fSysEmergStatCount).journalInternal 1 v

theorem Dev.emergLogged_head (d : Dev) (v : Nat) : (d.emergLogged v).qf.head = d.qf.head + 1 := by
  unfold Dev.emergLogged Dev.journalInternal
  rw [Dev.journal_head, Dev.finc, Dev.fadd, Dev.fset_qf]

theorem Dev.emergLogged_hostSide (d : Dev) (v : Nat) : (d.emergLogged v).hostSide d := by
  unfold Dev.emergLogged Dev.journalInternal
  exact Dev.hostSide_trans (Dev.journal_hostSide _ _) (Dev.hostSide_of_regsOnly rfl)

theorem Dev.emergLogged_count (d : Dev) (v : Nat) :
    (d.emergLogged v).fget fSysEmergStatCount = min fSysEmergStatCount.max (d.fget fSysEmergStatCount + 1) := by
  have hmax : fSysEmergStatCount.max < 2 ^ fSysEmergStatCount.width := by decide
  unfold Dev.emergLogged Dev.journalInternal
  rw [Dev.journal_fget _ _ _ (by decide), Dev.finc, Dev.fadd, Dev.fget_fset_same,
    Nat.mod_eq_of_lt (Nat.lt_of_le_of_lt (Nat.min_le_left _ _) hmax)]

section
variable (d : Dev) (hr : d.recovering = false)
include hr

/-! What each control does under its key, after its record. -/

theorem safeAll_keyed : safeAll 0xC3 d = (d.emergLogged (emergWord 0xC3 1)).fset fSysEmergStatSafe 1 := by
  unfold safeAll Dev.emergWrite; rw [hr]; rfl

theorem safeClear_keyed : safeClear 0xC3 d = (d.emergLogged (emergWord 0xC3 8)).fset fSysEmergStatSafe 0 := by
  unfold safeClear Dev.emergWrite; rw [hr]; rfl

theorem fetchHalt_keyed : fetchHalt 0xC3 d =
    ((d.emergLogged (emergWord 0xC3 4)).qfMod (fun q => { q with halted := true })).fset fSysEmergStatHalted 1 := by
  unfold fetchHalt Dev.emergWrite; rw [hr]; rfl

theorem recStop_keyed : recStop 0xC3 d = (tkeys (d.emergLogged (emergWord 0xC3 2)).vid.pool.recs).foldl
    (fun (d : Dev) i => d.recStopNow i cfStoppedNow [] 0 none) (d.emergLogged (emergWord 0xC3 2)) := by
  unfold recStop Dev.emergWrite; rw [hr]; rfl

theorem safeAll_effect : (safeAll 0xC3 d).flag fSysEmergStatSafe = true ∧ (safeAll 0xC3 d).qf.head = d.qf.head + 1
    ∧ (safeAll 0xC3 d).fget fSysEmergStatCount = min fSysEmergStatCount.max (d.fget fSysEmergStatCount + 1)
    ∧ (safeAll 0xC3 d).cores = d.cores ∧ (safeAll 0xC3 d).mem = d.mem := by
  obtain ⟨hc, hm, -⟩ := Dev.hostSide_frame (d.emergLogged_hostSide (emergWord 0xC3 1))
  rw [safeAll_keyed d hr, Dev.fset_qf, Dev.fset_cores, Dev.fset_mem, Dev.emergLogged_head]
  refine ⟨?_, rfl, ?_, hc, hm⟩
  · exact Dev.flag_fset_one _ _ rfl
  · rw [Dev.fget_fset_ne _ _ _ _ (by decide), Dev.emergLogged_count]

theorem safeClear_effect : (safeClear 0xC3 d).flag fSysEmergStatSafe = false ∧ (safeClear 0xC3 d).qf.head = d.qf.head + 1
    ∧ (safeClear 0xC3 d).cores = d.cores ∧ (safeClear 0xC3 d).mem = d.mem := by
  obtain ⟨hc, hm, -⟩ := Dev.hostSide_frame (d.emergLogged_hostSide (emergWord 0xC3 8))
  rw [safeClear_keyed d hr, Dev.fset_qf, Dev.fset_cores, Dev.fset_mem, Dev.emergLogged_head]
  exact ⟨Dev.flag_fset_zero _ _, rfl, hc, hm⟩

theorem fetchHalt_effect : (fetchHalt 0xC3 d).qf.halted = true ∧ (fetchHalt 0xC3 d).flag fSysEmergStatHalted = true
    ∧ (fetchHalt 0xC3 d).qf.head = d.qf.head + 1 ∧ (fetchHalt 0xC3 d).cores = d.cores ∧ (fetchHalt 0xC3 d).mem = d.mem := by
  obtain ⟨hc, hm, -⟩ := Dev.hostSide_frame (d.emergLogged_hostSide (emergWord 0xC3 4))
  rw [fetchHalt_keyed d hr, Dev.fset_qf, Dev.qfMod_qf, Dev.emergLogged_head]
  exact ⟨rfl, Dev.flag_fset_one _ _ rfl, rfl, hc, hm⟩

theorem recStop_effect : (recStop 0xC3 d).cores = d.cores ∧ (recStop 0xC3 d).mem.bytes = d.mem.bytes ∧
    ∀ i r, d.recOf i = some r → ∃ r', (recStop 0xC3 d).recOf i = some r' ∧ r'.stopped := by
  obtain ⟨hc, hm, hv, -⟩ := Dev.hostSide_frame (d.emergLogged_hostSide (emergWord 0xC3 2))
  have hrec : (d.emergLogged (emergWord 0xC3 2)).recOf = d.recOf := by funext i; unfold Dev.recOf; rw [hv]
  rw [recStop_keyed d hr]
  obtain ⟨fc, fb⟩ := Dev.recStopNow_foldl_frame cfStoppedNow (tkeys (d.emergLogged (emergWord 0xC3 2)).vid.pool.recs)
    (d.emergLogged (emergWord 0xC3 2))
  refine ⟨fc.trans hc, fb.trans (by rw [hm]), fun i r h => ?_⟩
  rw [← hrec] at h
  exact Dev.recStopNow_foldl_stops _ _ _ i r h (.inl (mem_tkeys_of_tget h))

end

/-! ## What reading a register leaves alone -/

theorem capturePop_qf (c : Nat) (d : Dev) : (capturePop c d).qf = d.qf := by
  unfold capturePop
  split
  · exact Dev.fsets_qf _ _
  · exact Dev.fsets_qf _ _

theorem axisSampleRead_qf (a : Nat) (d : Dev) : (axisSampleRead a d).qf = d.qf := by
  unfold axisSampleRead
  split
  · rfl
  · exact Dev.fsets_qf _ _

theorem Dev.showMeasured_qf (d : Dev) (a : Nat) : (d.showMeasured a).qf = d.qf := by
  unfold Dev.showMeasured
  split
  · dsimp only; split <;> rfl
  · split
    · split <;> rfl
    · split
      · split <;> rfl
      · rfl

/-- What a read does before it returns leaves the queue front. The tests of the address stand for themselves here: their literals,
kept in the goal, would have the kernel evaluate them. -/
theorem Dev.beforeRead_qf (d : Dev) (a : Nat) : (d.beforeRead a).qf = d.qf := by
  unfold Dev.beforeRead
  generalize elem 0x1600008 32 16 a = cap, elem 0x1500014 32 32 a = trg, elem 0x1800030 64 32 a = smp, elem 0x1800028 64 32 a = cmp
  split
  · exact Dev.fsets_qf _ _
  · split
    · exact Dev.fset_qf _ _ _
    · split
      · exact capturePop_qf _ _
      · split
        · exact Dev.fset_qf _ _ _
        · split
          · exact axisSampleRead_qf _ _
          · split
            · exact Dev.fset_qf _ _ _
            · exact d.showMeasured_qf a

theorem Dev.afterRead_qf (d : Dev) (a : Nat) (fs : List (Fld × Access)) : (d.afterRead a fs).qf = d.qf := by
  have cleared : (fs.foldl (fun (d : Dev) e => if e.2 = .rc then d.fset e.1 0 else d) d).qf = d.qf :=
    List.foldlRecOn fs _ (motive := fun t : Dev => t.qf = d.qf) rfl fun t h e _ => by
      split
      · exact h
      · exact h
  unfold Dev.afterRead
  dsimp only
  split
  · exact cleared
  · exact cleared

/-- A read of a register leaves the queue front as it was. -/
theorem Dev.regRead_qf (d : Dev) (a : Nat) : (d.regRead a).2.qf = d.qf :=
  (Dev.afterRead_qf _ _ _).trans (d.beforeRead_qf a)

/-! ## Accesses to BAR0 and the debug windows (R41, R42) -/

/-- An access that is not a naturally aligned one of 4 or 8 bytes is refused; a read of it returns all ones. -/
theorem bar0Access_misaligned (off width : Nat) (wr : Bool) (v : Nat) (d : Dev) (h : (width ≠ 4 ∧ width ≠ 8) ∨ off % width ≠ 0) :
    bar0Access off width wr v d = (if wr then d else d.qfMod (fun q => { q with bar0Read := allOnes32 })).sumpRefused qfPlace off v := by
  have hbad : ((width = 4 || width = 8) && off % width = 0) = false := by
    simp only [Bool.and_eq_false_imp, Bool.or_eq_true, decide_eq_true_eq, decide_eq_false_iff_not]
    rcases h with ⟨h4, h8⟩ | ho
    · exact fun hw => (hw.elim h4 h8).elim
    · exact fun _ => ho
  unfold bar0Access
  rw [hbad]
  rfl

section
variable (d : Dev) (off v : Nat) (ha : off % 4 = 0) (lo : 0x20000 ≤ off) (hi : off < 0x40000) (hr : d.recovering = false)
include lo hi hr

theorem Dev.bar0Write4_msix : d.bar0Write4 off v = d.qfMod (fun q => { q with msix := mwrite q.msix off (le 4 v) }) := by
  unfold Dev.bar0Write4
  rw [if_neg (by simp [hr]), if_neg (by omega), if_neg (by omega), if_neg (by simp; omega), if_neg (by simp; omega),
    if_neg (by simp; omega), if_pos (by simp; omega)]

theorem Dev.bar0Read4_msix : d.bar0Read4 off = (leNat (mread d.qf.msix off 4), d) := by
  unfold Dev.bar0Read4
  rw [if_neg (by simp [hr]), if_pos (by simp; omega)]

include ha

theorem bar0Access_msix_write : bar0Access off 4 true v d =
    d.qfMod (fun q => { q with msix := mwrite q.msix off (le 4 (v % 4294967296)) }) := by
  unfold bar0Access
  rw [if_pos (by simp [ha]), if_neg (by simp; omega), d.bar0Write4_msix off _ lo hi hr]
  rfl

theorem bar0Access_msix_read : bar0Access off 4 false v d = d.qfMod (fun q => { q with bar0Read := leNat (mread d.qf.msix off 4) }) := by
  unfold bar0Access Dev.bar0ReadAt
  rw [if_pos (by simp [ha]), if_neg (by simp; omega), d.bar0Read4_msix off lo hi hr]
  rfl

end

/-- With debug locked an access of a window is refused, and a read of it returns 0. -/
theorem debugWindowAccess_locked (w off : Nat) (wr : Bool) (v : Nat) (d : Dev) (hr : d.recovering = false) (hl : d.debugLocked = true) :
    let u := d.qfMod (fun q => { q with dbgUsed := true })
    debugWindowAccess w off wr v d =
      (if wr then u else u.qfMod (fun q => { q with bar0Read := 0 })).sumpRefused qfPlace (0x100000 + w * 262144 + off) v := by
  unfold debugWindowAccess
  rw [if_neg (by simp [hr])]
  exact if_pos hl

/-- With debug unlocked an access of a window reaches the register that its base and the offset name. -/
theorem debugWindowAccess_unlocked (w off : Nat) (wr : Bool) (v : Nat) (d : Dev) (hr : d.recovering = false) (hl : d.debugLocked = false) :
    let u := d.qfMod (fun q => { q with dbgUsed := true })
    let a := d.fget (fSysDbgBaseBase w) * 262144 + off / 4 * 4
    debugWindowAccess w off wr v d =
      if wr then u.regWrite a v else (u.regRead a).2.qfMod (fun q => { q with bar0Read := (u.regRead a).1 }) := by
  unfold debugWindowAccess
  rw [if_neg (by simp [hr])]
  exact if_neg (Bool.eq_false_iff.mp hl)

/-! ## The rows -/

theorem exec_safeAll (key : Byte) (s : State) : exec (.safeAll key) s = .next (s.to (safeAll key.toNat s.dev)) := rfl
theorem exec_safeClear (key : Byte) (s : State) : exec (.safeClear key) s = .next (s.to (safeClear key.toNat s.dev)) := rfl
theorem exec_fetchHalt (key : Byte) (s : State) : exec (.fetchHalt key) s = .next (s.to (fetchHalt key.toNat s.dev)) := rfl
theorem exec_recStop (key : Byte) (s : State) : exec (.recStop key) s = .next (s.to (recStop key.toNat s.dev)) := rfl
theorem exec_journalCheckpoint (s : State) : exec .journalCheckpoint s = .next (s.to (journalCheckpoint s.dev)) := rfl
theorem exec_bar0BadAccess (off : Word32) (width : Nat) (wr : Bool) (v : Word64) (s : State) :
    exec (.bar0BadAccess off width wr v) s = .next (s.to (bar0Access off.toNat width wr v.toNat s.dev)) := rfl
theorem exec_debugWindowAccess (w : Fin 4) (off : BitVec 18) (wr : Bool) (v : Word32) (s : State) :
    exec (.debugWindowAccess w off wr v) s = .next (s.to (debugWindowAccess w.val off.toNat wr v.toNat s.dev)) := rfl

section
variable (s : State) (w : Fin 4) (off : BitVec 18) (v : Word32) (hr : s.dev.recovering = false) (hl : s.dev.debugLocked = false)
include hr hl

theorem exec_debugWindowAccess_write : exec (.debugWindowAccess w off true v) s =
    .next (s.to ((s.dev.qfMod (fun q => { q with dbgUsed := true })).regWrite
      (s.dev.fget (fSysDbgBaseBase w) * 262144 + off.toNat / 4 * 4) v.toNat)) := by
  rw [exec_debugWindowAccess, debugWindowAccess_unlocked _ _ _ _ _ hr hl, if_pos rfl]

theorem exec_debugWindowAccess_read : ∃ t, exec (.debugWindowAccess w off false v) s = .next (s.to t)
    ∧ t.qf.bar0Read = ((s.dev.qfMod (fun q => { q with dbgUsed := true })).regRead
        (s.dev.fget (fSysDbgBaseBase w) * 262144 + off.toNat / 4 * 4)).1
    ∧ t.qf.dbgUsed = true := by
  refine ⟨_, exec_debugWindowAccess w off false v s, ?_⟩
  have returned (t : Dev) (x : Nat) : (t.qfMod (fun q => { q with bar0Read := x })).qf.bar0Read = x
      ∧ (t.qfMod (fun q => { q with bar0Read := x })).qf.dbgUsed = t.qf.dbgUsed := ⟨rfl, rfl⟩
  rw [debugWindowAccess_unlocked _ _ _ _ _ hr hl, if_neg Bool.false_ne_true, (returned _ _).1, (returned _ _).2, Dev.regRead_qf]
  exact ⟨rfl, rfl⟩

end

/-- Settles O43: a control under another key is refused and one under its key acts after its journal record, by what each leaves of the
device; the checkpoint is a commit; an access to BAR0 or a debug window is the refusal, the MSI-X table or the register that it names. -/
theorem emergencyAndBar0Access : Obligations.EmergencyAndBar0Access := by
  unfold Obligations.EmergencyAndBar0Access
  refine ⟨fun s key hr => ?_, fun s => ?_, fun s off width v => ?_, fun s w off v hr => ?_⟩
  · refine ⟨fun hk => ?_, fun hk => ?_⟩
    · have refused (act : Nat) (ha : act < 16777216) := congrArg (fun t => Host.Outcome.next (φ := Fault) (ρ := Refusal) (s.to t))
        (s.dev.emergWrite_refused key act ha hr hk)
      exact ⟨(exec_safeAll key s).trans (refused 1 (by decide)), (exec_safeClear key s).trans (refused 8 (by decide)),
        (exec_fetchHalt key s).trans (refused 4 (by decide)), (exec_recStop key s).trans (refused 2 (by decide))⟩
    · have hkey : key.toNat = 0xC3 := by rw [hk]; rfl
      rw [exec_safeAll, exec_safeClear, exec_fetchHalt, exec_recStop, hkey]
      exact ⟨⟨_, rfl, safeAll_effect s.dev hr⟩, ⟨_, rfl, safeClear_effect s.dev hr⟩, ⟨_, rfl, fetchHalt_effect s.dev hr⟩,
        ⟨_, rfl, recStop_effect s.dev hr⟩⟩
  · rw [exec_journalCheckpoint, journalCheckpoint]
    refine ⟨fun he => ?_, fun hne => ?_⟩
    · rw [if_pos he]; rfl
    · rw [if_neg hne]; exact ⟨_, rfl, s.dev.checkpoint_commits⟩
  · rw [exec_bar0BadAccess, exec_bar0BadAccess]
    refine ⟨fun h => ?_, ?_⟩
    · rw [bar0Access_misaligned _ _ _ _ _ h, bar0Access_misaligned _ _ _ _ _ h]
      exact ⟨rfl, rfl⟩
    · rintro rfl ha lo hi hr
      rw [bar0Access_msix_write _ _ _ ha lo hi hr, bar0Access_msix_read _ _ _ ha lo hi hr]
      exact ⟨rfl, rfl⟩
  · refine ⟨fun hl => ⟨true, ?_⟩, fun hl => ⟨exec_debugWindowAccess_write s w off v hr hl, exec_debugWindowAccess_read s w off v hr hl⟩⟩
    rw [exec_debugWindowAccess, exec_debugWindowAccess, debugWindowAccess_locked _ _ _ _ _ hr hl, debugWindowAccess_locked _ _ _ _ _ hr hl]
    exact ⟨rfl, rfl⟩

end Sys2Proof.Machine
end

section
/-!
PROOFS. Bundles whose slot 0 acts on the registers of its core alone: how they run and where the core goes on (R55, R56, R77, R88).
-/
set_option autoImplicit false

namespace Sys2Proof.Machine

/-! ## The instruction of a syllable, and its major -/

/-- The major of an instruction (Table YI-5). -/
def Op.major : Op → Nat
  | .bcc => 1 | .bp => 2 | .jal => 3 | .loop => 4 | .salu => 5 | .addi => 6 | .andi => 7 | .ori => 8 | .xori => 9 | .slti => 10
  | .muli => 11 | .addai => 12 | .ldl => 13 | .ldlu => 14 | .stl => 15 | .ldg => 16 | .stg => 17
  | .sin | .sout | .smarkr | .smarkw | .savail | .shead => 18
  | .valu => 19 | .vcmp => 20 | .vperm => 21 | .vmac => 22 | .vlut => 23 | .vimm => 24 | .pred => 25
  | _ => 0

/-- A syllable's major is that of the instruction that it names. -/
theorem yMajor_of_opOf {w : Nat} {op : Op} (h : opOf w = some op) : yMajor w = op.major := by
  unfold opOf at h
  split at h
  case h_1 hm => rw [hm]; split at h <;> cases h <;> rfl
  case h_19 hm => rw [hm]; split at h <;> cases h <;> rfl
  case h_27 => cases h
  all_goals cases h; assumption

/-- What a bundle that issues passed: slot 0 is legal. -/
theorem Dev.issues_legal {d : Dev} {c w0 w1 : Nat} (h : d.issues c w0 w1) : legalSyl (isPump c) (d.nlut c) w0 = true := by
  obtain ⟨-, -, hl, -⟩ := h
  unfold illegalSlot at hl
  by_contra hn
  rw [Bool.not_eq_true] at hn
  simp [hn] at hl

/-- A pump that issues a bundle is in no strip skip. -/
theorem Dev.issues_not_skipping {d : Dev} {c w0 w1 : Nat} (h : d.issues c w0 w1) :
    (isPump c && (d.core c).regs.stBit stSKIPPING) = false := by
  obtain ⟨hr, -⟩ := h
  unfold Dev.coreRuns at hr
  cases hp : isPump c
  · rfl
  · simp only [hp, if_true, Bool.and_eq_true, Bool.not_eq_true'] at hr
    exact hr.2

/-! ## Bundles that run and go on -/

/-- The instructions after which the bundle goes on by the advance of the pc. -/
def Op.goesOn : Op → Bool
  | .svc | .resume | .resumei | .yield | .halt | .skipstrip => false
  | _ => true

/-- Where a LOOP that skips its body goes on. -/
def Op.skip (op : Op) (w : Nat) (old : Regs) : Option (BitVec 48) := if op = .loop then (semLoop w old old).2 else none

/-- A bundle whose slot 0 makes `f r` of the registers `r`: slot 1 follows, then the advance (R55, R56, R88). -/
theorem Dev.runBundle_of_regs (d : Dev) (c w0 w1 : Nat) (op : Op) (f : Regs → Regs) (y z : Ender) (h : d.issues c w0 w1)
    (h0 : opOf w0 = some op) (hg : op.goesOn = true) (hf : d.semSlot0 c op w0 w1 (d.core c).regs = .ok (d.regsMod c f))
    (hs : ∀ r, (f r).stBit stSKIPPING = r.stBit stSKIPPING) :
    d.runBundle c y z w0 w1 =
      d.regsMod c (fun r => (d.slot1 c w0 w1 r (f r)).advance r.pc (target r w0) (op.skip w0 r)) := by
  have hns := Dev.issues_not_skipping h
  obtain ⟨-, -, -, -, hw0, hw1, hl0, hl1⟩ := h
  have hsvc : op ≠ .svc := by rintro rfl; cases hg
  have hres : (decide (op = .resume) || decide (op = .resumei)) = false := by
    cases op
    case resume | resumei => cases hg
    all_goals rfl
  unfold Dev.runBundle Dev.slot1
  simp only [h0, hw0, hw1, hl0, hl1, hf, Dev.core_regsMod, hs, hns, hsvc, hres, Bool.or_self, Bool.false_eq_true, if_false]
  split
  case h_4 =>
    split
    · cases opOf w1 <;> simp only [Dev.regsMod_regsMod] <;> exact Dev.regsMod_congr _ _ _ _ rfl
    · rw [Dev.regsMod_regsMod]; exact Dev.regsMod_congr _ _ _ _ rfl
  all_goals cases hg

theorem exec_row (op : Op) (c : Fin 84) (s : State) : exec (op.row c) s = .next { s with dev := s.dev.coreRow c op } := by
  cases op <;> rfl

/-- The row of an instruction in slot 0, where its effect `f` is on the registers alone. -/
theorem exec_row_of_regs (c : Fin 84) (s : State) (w0 w1 : Nat) (op : Op) (f : Regs → Regs) (h : s.dev.issues c w0 w1)
    (h0 : opOf w0 = some op) (hg : op.goesOn = true)
    (hf : s.dev.semSlot0 c op w0 w1 (s.dev.core c).regs = .ok (s.dev.regsMod c f))
    (hs : ∀ r, (f r).stBit stSKIPPING = r.stBit stSKIPPING) :
    exec (op.row c) s =
      .next (s.withRegs c (fun r => (s.dev.slot1 c w0 w1 r (f r)).advance r.pc (target r w0) (op.skip w0 r))) := by
  have hb (y z : Ender) := (s.dev.bundle_of_issues c w0 w1 op op y z h h0 (.inl rfl)).trans
    (s.dev.runBundle_of_regs c w0 w1 op f y z h h0 hg hf hs)
  rw [exec_row, Dev.coreRow_of_running _ _ _ (by rw [hb, Dev.core_regsMod]), hb]
  rfl

/-- What slot 0 makes of a register operation. -/
theorem Dev.semSlot0_of_onRegs (d : Dev) (c w ext : Nat) (op : Op) (old : Regs) (h : op.onRegs = true) :
    op.goesOn = true ∧ (∀ r, op.skip w r = none)
      ∧ d.semSlot0 c op w ext old = .ok (d.regsMod c (fun r => semReg (d.lutRead c) op w ext old r)) := by
  cases op
  case addi | andi | ori | xori | slti | muli | addai | vimm | salu | pred | valu | vcmp | vperm | vmac | vlut | bcc | bp =>
    exact ⟨rfl, fun _ => rfl, rfl⟩
  all_goals cases h

theorem State.withRegs_congr (s : State) (c : Nat) (f g : Regs → Regs) (h : f (s.dev.core c).regs = g (s.dev.core c).regs) :
    s.withRegs c f = s.withRegs c g :=
  congrArg (fun d => { s with dev := d }) (s.dev.regsMod_congr c f g h)

/-- The row of a register operation in slot 0 (Tables YI-5 to YI-8). -/
theorem exec_row_of_onRegs (c : Fin 84) (s : State) (w0 w1 : Nat) (op : Op) (h : s.dev.issues c w0 w1) (h0 : opOf w0 = some op)
    (ho : op.onRegs = true) :
    exec (op.row c) s = .next (s.bundleTo c w0 w1 (fun r => semReg (s.dev.lutRead c) op w0 w1 r r)) := by
  obtain ⟨hg, hskip, hf⟩ := s.dev.semSlot0_of_onRegs c w0 w1 op (s.dev.core c).regs ho
  rw [exec_row_of_regs c s w0 w1 op _ h h0 hg hf fun r => semReg_stBit _ _ _ _ _ _ _ (by decide) (by decide)]
  simp only [hskip]
  exact congrArg _ (s.withRegs_congr c _ _ rfl)

end Sys2Proof.Machine
end

section
/-!
PROOFS. Branches, JAL, LOOP and the ends of loop bodies (R68, R77, R88).
-/
set_option autoImplicit false

namespace Sys2Proof.Machine

/-! ## Status bits and the other control registers -/

theorem Regs.stBit_crput_ne (r : Regs) (i j : Nat) (v : BitVec 32) (h : i ≠ 0) : (r.crput i v).stBit j = r.stBit j := by
  unfold Regs.stBit Regs.status
  rw [Regs.crget_crput, if_neg h.symm]

theorem Regs.crget_stSet_ne (r : Regs) (i j : Nat) (b : Bool) (h : j ≠ 0) : (r.stSet i b).crget j = r.crget j := by
  unfold Regs.stSet
  rw [Regs.crget_crput, if_neg h]

theorem armedBit_ne_skipping (n : Nat) : stSKIPPING ≠ armedBit n := by unfold armedBit; split <;> decide

/-! ## Targets (R68) -/

/-- When a BCC whose condition code is legal is taken. -/
theorem bccTaken_iff {cond : Nat} (v : BitVec 32) (h : cond < 7) : bccTaken cond v = true ↔
    (cond = 0 ∧ v = 0) ∨ (cond = 1 ∧ v ≠ 0) ∨ (cond = 2 ∧ v.toInt < 0) ∨ (cond = 3 ∧ 0 ≤ v.toInt)
      ∨ (cond = 4 ∧ 0 < v.toInt) ∨ (cond = 5 ∧ v.toInt ≤ 0) ∨ cond = 6 := by
  interval_cases cond <;> simp [bccTaken]

/-- When a BP whose condition code is legal is taken. -/
theorem bpTaken_iff {cond : Nat} (p : BitVec 32) (h : cond < 4) : bpTaken cond p = true ↔
    (cond = 0 ∧ p ≠ 0) ∨ (cond = 1 ∧ p = 0) ∨ (cond = 2 ∧ p = BitVec.allOnes 32) ∨ (cond = 3 ∧ p ≠ BitVec.allOnes 32) := by
  interval_cases cond <;> simp [bpTaken]

theorem target_bcc {w : Nat} (r : Regs) (h : opOf w = some .bcc) :
    target r w = if bccTaken (yCond w) (r.sget (yBRs w)) then some (brTarget r.pc (yOff18 w)) else none := by
  simp only [target, yMajor_of_opOf h, Op.major]

theorem target_bp {w : Nat} (r : Regs) (h : opOf w = some .bp) :
    target r w = if bpTaken (yCond w) (r.pget (yBPn w)) then some (brTarget r.pc (yOff18 w)) else none := by
  simp only [target, yMajor_of_opOf h, Op.major]

theorem target_jal {w : Nat} (r : Regs) (h : opOf w = some .jal) : target r w = some (brTarget r.pc (yOff26 w)) := by
  simp only [target, yMajor_of_opOf h, Op.major]

theorem target_loop {w : Nat} (r : Regs) (h : opOf w = some .loop) : target r w = none := by
  simp only [target, yMajor_of_opOf h, Op.major]

/-- Condition code 7 of a BCC is illegal (R56). -/
theorem Dev.issues_bcc_cond {d : Dev} {c w0 w1 : Nat} (h : d.issues c w0 w1) (h0 : opOf w0 = some .bcc) : yCond w0 < 7 := by
  have hl := Dev.issues_legal h
  simp only [legalSyl, yMajor_of_opOf h0, Op.major, Bool.and_eq_true, bne_iff_ne] at hl
  have h8 : yCond w0 < 8 := Nat.mod_lt _ (by decide)
  omega

/-- The condition codes of a BP are 0 to 3 (R56). -/
theorem Dev.issues_bp_cond {d : Dev} {c w0 w1 : Nat} (h : d.issues c w0 w1) (h0 : opOf w0 = some .bp) : yCond w0 < 4 := by
  have hl := Dev.issues_legal h
  simp only [legalSyl, yMajor_of_opOf h0, Op.major, Bool.and_eq_true, decide_eq_true_eq] at hl
  exact hl.1.2

/-! ## LOOP (R77) -/

/-- A LOOP with a count of 0 disarms its loop and skips the body. -/
theorem semLoop_zero {w : Nat} {old : Regs} (new : Regs) (h : old.sget (yLoopRs w) = 0) :
    semLoop w old new = (new.stSet (armedBit (yLoopN w)) false, some (old.pc + 8 + BitVec.ofNat 48 (8 * yLoopLen w))) := by
  simp only [semLoop, h, if_true]

/-- A LOOP with another count arms its loop. -/
theorem semLoop_arms {w : Nat} {old : Regs} (new : Regs) (h : old.sget (yLoopRs w) ≠ 0) :
    semLoop w old new = ((((new.crput (0x20 + yLoopN w) (old.sget (yLoopRs w))).crput (0x22 + 2 * yLoopN w)
      ((old.pc + 8).truncate 32)).crput (0x23 + 2 * yLoopN w)
      ((old.pc + 8 + BitVec.ofNat 48 (8 * (yLoopLen w - 1))).truncate 32)).stSet (armedBit (yLoopN w)) true, none) := by
  simp only [semLoop, h, if_false]

theorem semLoop_skipping (w : Nat) (old new : Regs) : (semLoop w old new).1.stBit stSKIPPING = new.stBit stSKIPPING := by
  by_cases h : old.sget (yLoopRs w) = 0
  · rw [semLoop_zero new h, Regs.stBit_stSet _ _ _ _ (by decide), if_neg (armedBit_ne_skipping _)]
  · rw [semLoop_arms new h, Regs.stBit_stSet _ _ _ _ (by decide), if_neg (armedBit_ne_skipping _),
      Regs.stBit_crput_ne _ _ _ _ (by omega), Regs.stBit_crput_ne _ _ _ _ (by omega), Regs.stBit_crput_ne _ _ _ _ (by omega)]

/-! ## The end of a bundle (R77) -/

/-- The bundle at `pc` ends the body of the armed loop `n`. -/
def Regs.endsLoop (r : Regs) (pc : BitVec 48) (n : Nat) : Prop :=
  r.stBit (armedBit n) = true ∧ pc.toNat % 4294967296 = r.loopEnd n

theorem Regs.loopBack_elsewhere {r : Regs} {pc : BitVec 48} {n : Nat} (h : ¬ r.endsLoop pc n) : r.loopBack pc n = (r, false) := by
  unfold Regs.loopBack
  exact if_neg (by simpa [Regs.endsLoop] using h)

/-- A loop whose count is not spent goes back to its start. -/
theorem Regs.loopBack_again {r : Regs} {pc : BitVec 48} {n : Nat} (h : r.endsLoop pc n) (hc : r.crget (0x20 + n) ≠ 1) :
    r.loopBack pc n =
      ({ r.crput (0x20 + n) (r.crget (0x20 + n) - 1) with pc := bundlePc (r.crget (0x22 + 2 * n)) }, true) := by
  have hne : r.crget (0x20 + n) - 1 ≠ 0 := fun h0 => hc (by bv_omega)
  unfold Regs.loopBack
  rw [if_pos (by simpa [Regs.endsLoop] using h)]
  simp only [hne, if_false]
  rw [Regs.crget_crput, if_neg (by omega)]

/-- A loop whose count is spent is disarmed, and the bundle goes on. -/
theorem Regs.loopBack_spent {r : Regs} {pc : BitVec 48} {n : Nat} (h : r.endsLoop pc n) (hc : r.crget (0x20 + n) = 1) :
    r.loopBack pc n = ((r.crput (0x20 + n) 0).stSet (armedBit n) false, false) := by
  unfold Regs.loopBack
  rw [if_pos (by simpa [Regs.endsLoop] using h)]
  simp only [hc, BitVec.sub_self, BitVec.ofNat_eq_ofNat, if_true]

/-- Loop 1's count and armed bit are not loop 0's concern. -/
theorem Regs.endsLoop_zero_of_spent_one (r : Regs) (pc : BitVec 48) :
    ((r.crput 0x21 0).stSet stL1A false).endsLoop pc 0 ↔ r.endsLoop pc 0 := by
  unfold Regs.endsLoop Regs.loopEnd
  rw [Regs.stBit_stSet _ _ _ _ (by decide), if_neg (by decide), Regs.stBit_crput_ne _ _ _ _ (by decide),
    Regs.crget_stSet_ne _ _ _ _ (by decide), Regs.crget_crput, if_neg (by decide)]

section
variable {r : Regs} {pc : BitVec 48}

/-- A bundle that does not send control back by loop 1 is tested by loop 0, from the registers that the first test leaves. -/
theorem Regs.advance_of_loopBack {r1 r0 : Regs} {b : Bool} (h1 : r.loopBack pc 1 = (r1, false)) (h0 : r1.loopBack pc 0 = (r0, b)) :
    r.advance pc none none = if b then r0 else { r0 with pc := pc + 8 } := by
  simp only [Regs.advance, h1, h0, Bool.false_eq_true, if_false]

theorem Regs.advance_back_one {r1 : Regs} (h : r.loopBack pc 1 = (r1, true)) : r.advance pc none none = r1 := by
  simp only [Regs.advance, h, if_true]

end

/-! ## The rows -/

section
variable (c : Fin 84) (s : State) (w0 w1 : Nat) (h : s.dev.issues c w0 w1)
include h

theorem exec_bcc (h0 : opOf w0 = some .bcc) : exec (.bcc c) s = .next (s.bundleTo c w0 w1 (fun r => r)) :=
  exec_row_of_onRegs c s w0 w1 .bcc h h0 rfl

theorem exec_bp (h0 : opOf w0 = some .bp) : exec (.bp c) s = .next (s.bundleTo c w0 w1 (fun r => r)) :=
  exec_row_of_onRegs c s w0 w1 .bp h h0 rfl

theorem exec_jal (h0 : opOf w0 = some .jal) :
    exec (.jal c) s = .next (s.bundleTo c w0 w1 (fun r => r.sput 31 (((s.dev.core c).regs.pc + 8).truncate 32))) :=
  exec_row_of_regs c s w0 w1 .jal _ h h0 rfl rfl fun r => Regs.stBit_congr (r.cr_sput _ _) _

theorem exec_loop (h0 : opOf w0 = some .loop) :
    exec (.loop c) s = .next (s.withRegs c (fun r =>
      (s.dev.slot1 c w0 w1 r (semLoop w0 (s.dev.core c).regs r).1).advance r.pc none (semLoop w0 r r).2)) := by
  have h' := exec_row_of_regs c s w0 w1 .loop _ h h0 rfl rfl (semLoop_skipping w0 (s.dev.core c).regs)
  simp only [target_loop _ h0] at h'
  exact h'

end

section
variable (c : Nat) (s : State) (w0 w1 : Nat) (f : Regs → Regs)

/-- A bundle that jumps. -/
theorem State.bundleTo_jump {t : BitVec 48} (ht : target (s.dev.core c).regs w0 = some t) :
    s.bundleTo c w0 w1 f = s.withRegs c (fun q => { (s.dev.slot1 c w0 w1 q (f q)).leave t with pc := t }) :=
  s.withRegs_congr c _ _ (by rw [ht]; rfl)

/-- A bundle that does not jump. -/
theorem State.bundleTo_next (ht : target (s.dev.core c).regs w0 = none) :
    s.bundleTo c w0 w1 f = s.withRegs c (fun q => (s.dev.slot1 c w0 w1 q (f q)).advance q.pc none none) :=
  s.withRegs_congr c _ _ (by rw [ht])

end

/-- A bundle whose branch is taken exactly when `p`. -/
theorem exec_branch (c : Fin 84) (s : State) (w0 w1 : Nat) (i : Instr) (b : Bool) (p : Prop) (t : BitVec 48)
    (hx : exec i s = .next (s.bundleTo c w0 w1 (fun r => r)))
    (ht : target (s.dev.core c).regs w0 = if b then some t else none) (hb : b = true ↔ p) :
    (p → exec i s = .next (s.withRegs c (fun q => { (s.dev.slot1 c w0 w1 q q).leave t with pc := t }))) ∧
    (¬ p → exec i s = .next (s.withRegs c (fun q => (s.dev.slot1 c w0 w1 q q).advance q.pc none none))) := by
  rw [hx]
  refine ⟨fun hp => ?_, fun hp => ?_⟩
  · rw [s.bundleTo_jump c w0 w1 _ (ht.trans (if_pos (hb.mpr hp)))]
  · rw [s.bundleTo_next c w0 w1 _ (ht.trans (if_neg (mt hb.mp hp)))]

/-- Settles O10: a branch goes by its target, LOOP by its two cases, and the end of a bundle by the test of each loop in turn. -/
theorem branchesAndLoops : Obligations.BranchesAndLoops := by
  unfold Obligations.BranchesAndLoops
  refine ⟨fun c s w0 w1 h => ⟨fun h0 => ?bcc, fun h0 => ?bp, fun h0 => ?jal, fun h0 => ⟨fun hc => ?skip, fun hc => ?arm⟩⟩,
    fun r pc => ⟨fun n0 n1 => ?elsewhere, fun e1 hc => ?again1, fun e1 hc n0 => ?spent1, fun e0 n1 hc => ?again0,
      fun e0 n1 hc => ?spent0⟩⟩
  case bcc => exact exec_branch c s w0 w1 _ _ _ _ (exec_bcc c s w0 w1 h h0) (target_bcc _ h0) (bccTaken_iff _ (Dev.issues_bcc_cond h h0))
  case bp => exact exec_branch c s w0 w1 _ _ _ _ (exec_bp c s w0 w1 h h0) (target_bp _ h0) (bpTaken_iff _ (Dev.issues_bp_cond h h0))
  case jal => rw [exec_jal c s w0 w1 h h0, s.bundleTo_jump c w0 w1 _ (target_jal _ h0)]; rfl
  case skip =>
    rw [exec_loop c s w0 w1 h h0]
    exact ⟨false, congrArg _ (s.withRegs_congr c _ _ (by simp only [semLoop_zero _ hc]; rfl))⟩
  case arm =>
    rw [exec_loop c s w0 w1 h h0]
    exact congrArg _ (s.withRegs_congr c _ _ (by simp only [semLoop_arms _ hc]))
  case elsewhere => exact Regs.advance_of_loopBack (Regs.loopBack_elsewhere n1) (Regs.loopBack_elsewhere n0)
  case again1 => exact Regs.advance_back_one (Regs.loopBack_again e1 hc)
  case spent1 =>
    exact Regs.advance_of_loopBack (Regs.loopBack_spent e1 hc)
      (Regs.loopBack_elsewhere (mt (r.endsLoop_zero_of_spent_one pc).mp n0))
  case again0 => exact Regs.advance_of_loopBack (Regs.loopBack_elsewhere n1) (Regs.loopBack_again e0 hc)
  case spent0 => exact Regs.advance_of_loopBack (Regs.loopBack_elsewhere n1) (Regs.loopBack_spent e0 hc)

end Sys2Proof.Machine
end

section
/-!
PROOFS. Predicate functions, and when PIPE_STATUS.SAT is set (R67, R70, R71).
-/
set_option autoImplicit false

namespace Sys2Proof.Machine

/-! ## Predicate functions (R67) -/

/-- p0 reads all ones and takes no write (Table YI-1). -/
theorem Regs.p0 (r : Regs) (v : BitVec 32) : r.pget 0 = BitVec.allOnes 32 ∧ r.pput 0 v = r := ⟨rfl, rfl⟩

/-- The mask of the first `n` lanes of 32. -/
theorem laneMask_eq (n : Nat) :
    BitVec.ofNat 32 (2 ^ min n 32 - 1) = if n < 32 then 1#32 <<< n - 1#32 else BitVec.allOnes 32 := by
  by_cases h : n < 32
  · have hp : 2 ^ n < 2 ^ 32 := Nat.pow_lt_pow_right (by decide) h
    have h1 : 1#32 <<< n = BitVec.ofNat 32 (2 ^ n) := BitVec.eq_of_toNat_eq (by simp [Nat.shiftLeft_eq])
    rw [if_pos h, Nat.min_eq_left (by omega), h1, ← BitVec.ofNat_sub_ofNat_of_le _ _ (by decide) (Nat.one_le_two_pow)]
  · rw [if_neg h, Nat.min_eq_right (by omega)]
    rfl

theorem popc32_eq_countP (v : BitVec 32) : popc32 v = (List.range 32).countP (fun i => v.getLsbD i) :=
  List.countP_eq_length_filter.symm

section
variable (c : Fin 84) (s : State) (w0 w1 : Nat) (h : s.dev.issues c w0 w1) (h0 : opOf w0 = some .pred)
include h h0

theorem exec_pred : exec (.pred c) s = .next (s.bundleTo c w0 w1 (fun r => semPred w0 r r)) :=
  exec_row_of_onRegs c s w0 w1 .pred h h0 rfl

/-- A PRED function whose effect is `f`. -/
theorem exec_pred_of_eq (f : Regs → Regs) (hf : ∀ r, semPred w0 r r = f r) : exec (.pred c) s = .next (s.bundleTo c w0 w1 f) := by
  rw [exec_pred c s w0 w1 h h0, funext hf]

end

/-! ## What a saturating function clips (R71) -/

/-- A signed lane clips what lies outside its range. -/
theorem clipS_clips (w : Nat) (x : Int) : (clipS w x).2 = true ↔ x < -(2 ^ (w - 1)) ∨ 2 ^ (w - 1) - 1 < x := by
  have hpos : (0 : Int) < 2 ^ (w - 1) := by positivity
  unfold clipS satS
  rw [bne_iff_ne]
  generalize (2 : Int) ^ (w - 1) = m at hpos
  omega

/-- A scalar clips what lies outside 32 signed bits. -/
theorem sat32s_ne (x : Int) : (sat32s x != x) = (decide (x < -2147483648) || decide (2147483647 < x)) := by
  unfold sat32s
  rw [Bool.eq_iff_iff, bne_iff_ne, Bool.or_eq_true, decide_eq_true_eq, decide_eq_true_eq]
  omega

/-! ## SAT after a register operation -/

theorem Regs.stBit_stSet_sat (r : Regs) : (r.stSet stSAT true).stBit stSAT = true := by
  rw [Regs.stBit_stSet _ _ _ _ (by decide), if_pos rfl]

/-- Nothing clears SAT. -/
theorem Regs.satOnly_keeps {r new : Regs} (h : r.satOnly new) (hn : new.stBit stSAT = true) : r.stBit stSAT = true := by
  rcases h with h | h
  · exact (Regs.stBit_congr h _).trans hn
  · exact (Regs.stBit_congr h _).trans new.stBit_stSet_sat

/-- Only PIPE_STATUS changes. -/
theorem Regs.satOnly_crget {r new : Regs} (h : r.satOnly new) (j : Nat) : r.crget (j + 1) = new.crget (j + 1) := by
  rcases h with h | h
  · unfold Regs.crget; rw [h]
  · rw [← new.crget_stSet_ne stSAT (j + 1) true (by omega)]; unfold Regs.crget; rw [h]

/-- A masked write sets SAT when a lane that is written clips (R47, R71). -/
theorem Regs.vlanes_sat (new : Regs) (vd : Nat) (m : BitVec 32) (lw : Nat) (f : Nat → Nat × Bool) :
    (new.vlanes vd m lw f).stBit stSAT = true ↔
      new.stBit stSAT = true ∨ ∃ i, i < laneCount lw ∧ m.getLsbD (govBit lw i) = true ∧ (f i).2 = true := by
  have hany : (List.range (laneCount lw)).any (fun i => m.getLsbD (govBit lw i) && (f i).2) = true ↔
      ∃ i, i < laneCount lw ∧ m.getLsbD (govBit lw i) = true ∧ (f i).2 = true := by
    simp only [List.any_eq_true, List.mem_range, Bool.and_eq_true]
  unfold Regs.vlanes
  dsimp only
  split
  case isTrue hc => exact iff_of_true (Regs.stBit_stSet_sat _) (.inr (hany.mp hc))
  case isFalse hc =>
    rw [or_iff_left (mt hany.mpr hc)]
    exact Bool.eq_iff_iff.mp (Regs.stBit_congr (Regs.cr_vput ..) _)

/-- ADDS sets SAT when it clips. -/
theorem semSalu_adds_sat (w : Nat) (old new : Regs) (hf : yFn6 w = 0x02) :
    (semSalu w old new).stBit stSAT = (new.stBit stSAT
      || decide ((old.sget (yRs1 w)).toInt + (old.sget (yRs2 w)).toInt < -2147483648)
      || decide (2147483647 < (old.sget (yRs1 w)).toInt + (old.sget (yRs2 w)).toInt)) := by
  have hclip : saluClips 2 (old.sget (yRs1 w)) (old.sget (yRs2 w)) =
      (sat32s ((old.sget (yRs1 w)).toInt + (old.sget (yRs2 w)).toInt) != (old.sget (yRs1 w)).toInt + (old.sget (yRs2 w)).toInt) := by
    simp [saluClips]
  rw [Bool.or_assoc, ← sat32s_ne, ← hclip]
  simp only [semSalu, hf]
  cases saluClips 2 (old.sget (yRs1 w)) (old.sget (yRs2 w))
  · rw [Bool.or_false]; exact Regs.stBit_congr (Regs.cr_sput ..) _
  · rw [Bool.or_true]; exact Regs.stBit_stSet_sat _

/-- VADDS in lanes of 16 bits sets SAT when it clips a lane that is written. -/
theorem semValu_vadds_sat (w : Nat) (old new : Regs) (hw : yW w = false) (hf : yFn7 w = 0x01) :
    (semValu w old new).stBit stSAT = true ↔ new.stBit stSAT = true ∨ ∃ i, i < 32 ∧ (old.pget (yPg w)).getLsbD i = true
      ∧ (sext 16 (laneOf 16 (old.vget (yRs1 w)).toNat i) + sext 16 (laneOf 16 (old.vget (yRs2 w)).toNat i) < -32768
        ∨ 32767 < sext 16 (laneOf 16 (old.vget (yRs1 w)).toNat i) + sext 16 (laneOf 16 (old.vget (yRs2 w)).toNat i)) := by
  simp only [semValu, hf, hw, Bool.false_eq_true, if_false, Regs.vlanes_sat, valuLane, clipS_clips]
  rfl

/-- VADD leaves SAT as it was: its lanes wrap. -/
theorem semValu_vadd_sat (w : Nat) (old new : Regs) (hf : yFn7 w = 0x00) : (semValu w old new).stBit stSAT = new.stBit stSAT := by
  rw [Bool.eq_iff_iff]
  simp only [semValu, hf, Regs.vlanes_sat, valuLane, exact, Bool.false_eq_true, and_false, exists_false, or_false]

/-- Settles O4: each PRED function by its equation, and SAT by what a register operation may do to the control registers. -/
theorem predicatesAndSaturation : Obligations.PredicatesAndSaturation := by
  unfold Obligations.PredicatesAndSaturation
  refine ⟨fun c s w0 w1 h h0 => ?pred, fun lut op w ext old new => ?sat⟩
  case pred =>
    have run := exec_pred_of_eq c s w0 w1 h h0
    refine ⟨fun hf => run _ fun r => ?_, fun hf => run _ fun r => ?_, fun hf => run _ fun r => ?_, fun hf => run _ fun r => ?_,
      fun hf => run _ fun r => ?_, fun hf => run _ fun r => ?_, fun hf => run _ fun r => ?_, fun hf => run _ fun r => ?first,
      fun hf => run _ fun r => ?count, Regs.p0⟩
    case first => simp only [semPred, hf, laneMask_eq]
    case count => simp only [semPred, hf, popc32_eq_countP]
    all_goals simp only [semPred, hf]
  case sat =>
    have hs := semReg_satOnly lut op w ext old new
    refine ⟨fun j hj hne => semReg_stBit lut op w ext old new j hj hne, Regs.satOnly_keeps hs, Regs.satOnly_crget hs, ?_, ?_, ?_⟩
    · rintro rfl hf; exact semSalu_adds_sat w old new hf
    · rintro rfl hw hf; exact semValu_vadds_sat w old new hw hf
    · rintro rfl hf; exact semValu_vadd_sat w old new hf

end Sys2Proof.Machine
end

section
/-!
PROOFS. Reports of faults: what posting an event and writing a sump entry leave of the device (R381, R504).
-/
set_option autoImplicit false

namespace Sys2Proof.Machine

/-! ## The end of a command, whatever its journal record -/

theorem Dev.finishAs_quiet (d : Dev) (seq : Nat) (f : Ending) (hf : ¬((f.sct = 0 ∧ f.sc = 2) ∨ (f.sct = 7 ∧ f.sc = 1))) :
    (d.finishAs .done seq f).quiet d := by
  cases hc : tget d.qf.ctxs seq with
  | none => unfold Dev.finishAs; rw [hc]; exact d.quiet_refl
  | some c =>
    obtain ⟨g, cq, ir, po, e, -⟩ := d.finishAs_eq seq f c hc hf
    rw [e]; exact d.closed_quiet seq g cq ir po

theorem Dev.settleSqDel_quiet (d : Dev) (sqid : Nat) : (d.settleSqDel sqid).quiet d := by
  unfold Dev.settleSqDel
  split
  · split
    · exact d.quiet_refl
    · exact Dev.quiet_trans (Dev.finishAs_quiet _ _ _ (by decide)) (Dev.quiet_of_qf d.quiet_refl _)
  · exact d.quiet_refl

/-- The end of a command that has not failed a field check changes the queue front and its count of contexts alone. -/
theorem Dev.finish_quiet (d : Dev) (seq : Nat) (f : Ending) (hf : ¬((f.sct = 0 ∧ f.sc = 2) ∨ (f.sct = 7 ∧ f.sc = 1))) :
    (d.finish seq f).quiet d := by
  unfold Dev.finish
  split
  · exact d.quiet_refl
  · exact Dev.quiet_trans (Dev.settleSqDel_quiet _ _) (d.finishAs_quiet seq f hf)

/-! ## Reports -/

/-- A field of PWR_RAIL, which has 12 words. -/
def Fld.ofRail (f : Fld) : Prop := 0x400000 ≤ f.addr ∧ f.addr < 0x400030 ∧ f.lo < 32

/-- The device `d` has reported: `n` events have arisen, and nothing has changed but the host's side of the device (`Dev.hostSide`), the
event log and the counts of the voltage monitors; PWR_RAIL shows what it did. -/
structure Dev.reports (t d : Dev) (n : Nat) : Prop where
  rest : ∃ q r m k e p, t = { d with qf := q, regs := r, sump := m, free := k, ev := e, power := p }
  count : t.ev.next = d.ev.next + n
  rail : ∀ f : Fld, f.ofRail → t.fget f = d.fget f

theorem Dev.reports_refl (d : Dev) : d.reports d 0 := ⟨⟨_, _, _, _, _, _, rfl⟩, rfl, fun _ _ => rfl⟩

theorem Dev.reports_trans {a b c : Dev} {m n : Nat} (h : a.reports b m) (k : b.reports c n) : a.reports c (n + m) := by
  refine ⟨?_, by rw [h.count, k.count, Nat.add_assoc], fun f hf => (h.rail f hf).trans (k.rail f hf)⟩
  obtain ⟨_, _, _, _, _, _, rfl⟩ := h.rest
  obtain ⟨_, _, _, _, _, _, rfl⟩ := k.rest
  exact ⟨_, _, _, _, _, _, rfl⟩

theorem Dev.reports_frame {t d : Dev} {n : Nat} (h : t.reports d n) : t.mem = d.mem ∧ t.cores = d.cores ∧ t.thm = d.thm := by
  obtain ⟨_, _, _, _, _, _, rfl⟩ := h.rest
  exact ⟨rfl, rfl, rfl⟩

theorem Dev.reports_of_quiet {t d : Dev} (h : t.quiet d) : t.reports d 0 := by
  obtain ⟨hrest, hshow⟩ := h
  refine ⟨⟨_, _, _, _, _, _, hrest⟩, by rw [hrest]; rfl, fun f hf => hshow f ?_⟩
  obtain ⟨-, hi, hl⟩ := hf
  simp only [Fld.key, fQfStatCtx]
  omega

theorem Dev.announce_reports (d : Dev) : d.announce.reports d 0 := by
  unfold Dev.announce
  split
  · exact d.reports_refl
  · split
    · exact d.reports_refl
    · exact Dev.reports_trans (Dev.reports_of_quiet (Dev.finish_quiet _ _ _ (by decide))) ⟨⟨_, _, _, _, _, _, rfl⟩, rfl, fun _ _ => rfl⟩

/-- An event takes the next ESEQ, whether it is posted, held or lost. -/
theorem Dev.post_reports (d : Dev) (ty kind index : Nat) (place : Place) (data : List Byte) :
    (d.post ty kind index place data).reports d 1 := by
  unfold Dev.post
  dsimp only
  split
  · split <;> exact ⟨⟨_, _, _, _, _, _, rfl⟩, rfl, fun _ _ => rfl⟩
  · exact Dev.reports_trans (Dev.announce_reports _) ⟨⟨_, _, _, _, _, _, rfl⟩, rfl, fun _ _ => rfl⟩

theorem Dev.supply_reports (d : Dev) (r mv cause : Nat) (place : Place) : (d.supply r mv cause place).reports d 1 :=
  Dev.reports_trans (m := 0) ⟨⟨_, _, _, _, _, _, rfl⟩, rfl, fun _ _ => rfl⟩ (d.post_reports 0x6C 0 r place _)

end Sys2Proof.Machine
end

section
/-!
PROOFS. The voltage monitors, the power-on reset and the supplies of the cores (R34, R546, R548, R550).
-/
set_option autoImplicit false

namespace Sys2Proof.Machine

/-! ## Fields of PWR_RAIL and of SYS_ISL_STAT -/

theorem fPwrRailState_ofRail {r : Nat} (h : r < 12) : (fPwrRailState r).ofRail := by
  simp only [Fld.ofRail, fPwrRailState]; omega

theorem fPwrRailMeas_ofRail {r : Nat} (h : r < 12) : (fPwrRailMeas r).ofRail := by
  simp only [Fld.ofRail, fPwrRailMeas]; omega

theorem fget_meas_after_state (d : Dev) (r v : Nat) : (d.fset (fPwrRailState r) v).fget (fPwrRailMeas r) = d.fget (fPwrRailMeas r) :=
  d.fget_fset_ne _ _ _ (by simp only [Fld.key, fPwrRailState, fPwrRailMeas]; omega)

theorem fget_state_after_meas (d : Dev) (r v : Nat) : (d.fset (fPwrRailMeas r) v).fget (fPwrRailState r) = d.fget (fPwrRailState r) :=
  d.fget_fset_ne _ _ _ (by simp only [Fld.key, fPwrRailState, fPwrRailMeas]; omega)

/-! ## The islands' show -/

/-- Only registers have changed, and PWR_RAIL shows what it did. -/
def Dev.offRail (t d : Dev) : Prop := t.regsOnly d ∧ ∀ f : Fld, f.ofRail → t.fget f = d.fget f

/-- A field of a well island's SYS_ISL_STAT is none of PWR_RAIL. -/
theorem Dev.offRail_fset {t d : Dev} (h : t.offRail d) (w : Nat) (hw : w < 16) (g : Fld) (v : Nat)
    (hg : g ∈ [fSysIslStatState w, fSysIslStatDiv w, fSysIslStatSkip w]) : (t.fset g v).offRail d := by
  obtain ⟨ho, hf⟩ := h
  refine ⟨by rw [ho]; rfl, fun f ⟨lo, _⟩ => (t.fget_fset_ne _ _ _ ?_).trans (hf f ‹_›)⟩
  have hk : g.key < 32 * 0x400000 := by
    simp only [List.mem_cons, List.not_mem_nil, or_false] at hg
    rcases hg with rfl | rfl | rfl <;> simp only [Fld.key, fSysIslStatState, fSysIslStatDiv, fSysIslStatSkip] <;> omega
  have hr : 32 * 0x400000 ≤ f.key := by simp only [Fld.key]; omega
  omega

theorem Dev.showWells_offRail (d : Dev) : d.showWells.offRail d := by
  refine List.foldlRecOn (List.range 16) _ (motive := fun t : Dev => t.offRail d) ⟨rfl, fun _ _ => rfl⟩ fun t h w hw => ?_
  have hw : w < 16 := List.mem_range.mp hw
  have shown (v x : Nat) : ((t.fset (fSysIslStatSkip w) v).fset (fSysIslStatDiv w) x).offRail d :=
    Dev.offRail_fset (Dev.offRail_fset h w hw _ v (by simp)) w hw _ x (by simp)
  dsimp only
  generalize (if t.wellAction w ≤ 7 then t.wellAction w else 0) = v
  generalize (if t.wellAction w = 8 then 1 else if t.wellAction w = 9 then 2 else 0) = x
  split
  · exact Dev.offRail_fset (shown v x) w hw _ _ (by simp)
  · exact shown v x

/-! ## One sample of a rail (R548) -/

/-- A sample lies more than 5 % below the setpoint. -/
def Dev.railLow (d : Dev) (r v : Nat) : Bool := decide (100 * v < 95 * d.railSet r)

/-- A sample lies more than 5 % from the setpoint. -/
def Dev.railOut (d : Dev) (r v : Nat) : Bool := d.railLow r v || decide (105 * d.railSet r < 100 * v)

/-- The samples in a row, with this one, that lie more than 5 % from the setpoint. -/
def Dev.outRuns (d : Dev) (r v : Nat) : Nat := if d.railOut r v then tgetD d.power.outRun r 0 + 1 else 0

/-- The samples in a row, with this one, that lie below 85 % of the setpoint. -/
def Dev.brownRuns (d : Dev) (r v : Nat) : Nat :=
  if decide (100 * v < 85 * d.railSet r) then tgetD d.power.brownRun r 0 + 1 else 0

/-- The device once a sample is shown and counted. -/
def Dev.railCounted (d : Dev) (r v : Nat) : Dev :=
  { d.fset (fPwrRailMeas r) v with power := { d.power with
      outRun := tput d.power.outRun r (min 4 (d.outRuns r v)), brownRun := tput d.power.brownRun r (min 10 (d.brownRuns r v)) } }

/-- The verdict on a rail after `runs` samples in a row outside 5 %, this sample outside (`out`) and below (`low`). -/
def Dev.railJudged (d : Dev) (r v runs : Nat) (out low : Bool) : Dev :=
  let st := d.fget (fPwrRailState r)
  if 4 ≤ runs then
    if low && r < 2 then
      if st = 2 then d else
        let d := (d.fset (fPwrRailState r) 2).supply r v 5 (railPlace r)
        { d with thm := { d.thm with coreLow := (d.thm.coreLow ++ [r]).eraseDups } }
    else if st = 1 || st = 2 then d
    else (d.fset (fPwrRailState r) 1).supply r v 4 (railPlace r)
  else if out then d
  else if st = 2 then d else d.fset (fPwrRailState r) 0

/-- A core rail that lies more than 150 mV from rail `r`. -/
def Dev.railFar (d : Dev) (r v : Nat) : Option Nat :=
  if r < 3 then (List.range 3).find? (fun q => q != r && d.fget (fPwrRailMeas q) != 0
    && decide (150 < ((d.fget (fPwrRailMeas q) : Int) - v).natAbs)) else none

/-- The comparison of a core rail with the others, once the islands show their actions. -/
def Dev.railCompared (d : Dev) (r v : Nat) : Dev :=
  let d := d.showWells
  let far := d.railFar r v
  let n := if far.isSome then min 5 (tgetD d.power.farRun r 0 + 1) else 0
  let d := { d with power := { d.power with farRun := tput d.power.farRun r n } }
  match far with
  | some q =>
    let lo := if d.fget (fPwrRailMeas q) < v then q else r
    if n = 4 then d.supply lo (d.fget (fPwrRailMeas lo)) 6 (railIslandPlace lo) else d
  | none => d

section
variable (d : Dev) (r : Nat) (ht : d.thm.trip = none)
include ht

/-- A sample is counted; ten in a row below 85 % are a brown-out; else the rail is judged and compared. The proof names the model's
intermediate devices, so that each stage is compared on its own and not on the whole term of the stages before it. -/
theorem railSample_some (v : Nat) : railSample r (some v) d =
    if 10 ≤ d.brownRuns r v then (d.railCounted r v).powerOnReset
    else ((d.railCounted r v).railJudged r v (d.outRuns r v) (d.railOut r v) (d.railLow r v)).railCompared r v := by
  unfold railSample
  rw [if_neg (by simp [ht])]
  dsimp -zeta only
  extract_lets setpoint measured out low brown runs browns _ counted st _ _ judged
  have hc : d.railCounted r v = counted := rfl
  have hj : counted.railJudged r v (d.outRuns r v) (d.railOut r v) (d.railLow r v) = judged := rfl
  have hb : d.brownRuns r v = browns := rfl
  rw [hc, hj, hb]
  clear_value judged counted browns
  refine if_congr Iff.rfl rfl ?_
  unfold Dev.railCompared
  extract_lets
  rfl

theorem railSample_none : railSample r none d =
    if d.fget (fPwrRailState r) = 3 then d else (d.fset (fPwrRailState r) 3).supply r 0 4 (railPlace r) := by
  unfold railSample
  rw [if_neg (by simp [ht])]

end

theorem Dev.reports_of_offRail {t d : Dev} (h : t.offRail d) (p : Power) : Dev.reports { t with power := p } d 0 :=
  ⟨⟨_, _, _, _, _, _, by rw [h.1]⟩, by rw [h.1]; rfl, h.2⟩

/-- Comparing a rail with the others changes nothing of what the rails show. -/
theorem Dev.railCompared_reports (d : Dev) (r v : Nat) : ∃ n, (d.railCompared r v).reports d n := by
  unfold Dev.railCompared
  extract_lets shown far n _ counted
  have hc : counted.reports d 0 := Dev.reports_of_offRail d.showWells_offRail _
  clear_value counted
  cases far with
  | none => exact ⟨0, hc⟩
  | some q =>
    dsimp only
    split
    · exact ⟨1, Dev.reports_trans (Dev.supply_reports _ _ _ _ _) hc⟩
    · exact ⟨0, hc⟩

/-- A rail that feeds no core is compared with none. -/
theorem Dev.railCompared_of_io (d : Dev) (r v : Nat) (h : 3 ≤ r) : ∃ p, d.railCompared r v = { d.showWells with power := p } := by
  have hf (t : Dev) : t.railFar r v = none := if_neg (by omega)
  unfold Dev.railCompared
  simp only [hf]
  exact ⟨_, rfl⟩

/-! ## What the resets keep (R541, R550) -/

/-- Writing fields one after the other changes registers alone. -/
theorem Dev.foldl_fset_regsOnly {α : Type} (l : List α) (f : α → Fld) (v : α → Nat) (d : Dev) :
    (l.foldl (fun (t : Dev) a => t.fset (f a) (v a)) d).regsOnly d :=
  List.foldlRecOn l _ (motive := fun t : Dev => t.regsOnly d) rfl fun t h a _ => by rw [h]; rfl

theorem Dev.islandReset_eq (d : Dev) : ∃ regs, d.islandReset = {
    regs := regs, nv := d.nv.cutOff d.commitStarted, store := { d.store with waiting := [], flushes := [] }
    thm := d.thm, pins := d.pins, free := d.free, mem := { bytes := d.mem.bytes, poison := d.mem.poison } } := by
  unfold Dev.islandReset
  exact ⟨_, Dev.foldl_fset_regsOnly _ _ _ _⟩

/-- All that a power-on reset leaves beside registers. -/
theorem Dev.powerOnReset_eq (d : Dev) : ∃ regs, d.powerOnReset = {
    regs := regs, nv := d.nv.cutOff d.commitStarted, store := { d.store with waiting := [], flushes := [] }
    thm := { trip := d.thm.trip }
    pins := { d.pins with porst := false, gpioSrc := [], gpioOn := [], snsTrig := [] }
    free := d.free, mem := { bytes := d.mem.bytes, poison := d.mem.poison } } := by
  obtain ⟨g, hg⟩ := d.islandReset_eq
  unfold Dev.powerOnReset
  rw [hg]
  dsimp only
  generalize [fThmMaxTemp, fThmMaxSensor, fThmGateOpen] ++ (List.range 28).flatMap (fun s => [fThmSensTemp s, fThmSensFault s]) = l
  rw [Dev.foldl_fset_regsOnly l (fun f => f) (fun f => f.rst)]
  exact ⟨_, rfl⟩

/-- What a power-on reset leaves: PORST_L is low, a latched shutdown, the flash and the memory cells stay, and the rest is as at reset. -/
theorem Dev.powerOnReset_effect (d : Dev) : let t := d.powerOnReset
    t.pins.porst = false ∧ t.thm.trip = d.thm.trip ∧ t.nv = d.nv.cutOff d.commitStarted ∧ t.cores = {} ∧ t.prime = {} ∧ t.qf = {}
      ∧ t.mem.bytes = d.mem.bytes := by
  obtain ⟨g, hg⟩ := d.powerOnReset_eq
  rw [hg]
  exact ⟨rfl, rfl, rfl, rfl, rfl, rfl, rfl⟩

/-- While PORST_L is low the device holds its reset outputs low (Table ET-10). -/
theorem Dev.outLow_of_porst (d : Dev) (step : Nat) (h : d.pins.porst = false) : d.outLow step = true := by
  unfold Dev.outLow; rw [h]; rfl

theorem porstLFall_effect (d : Dev) : let t := porstLFall d
    t.pins.porst = false ∧ t.ddrResetLow = true ∧ t.cxlPerstLow = true ∧ t.nvmePerstLow = true ∧ t.thm.trip = d.thm.trip
      ∧ t.nv = d.nv.cutOff d.commitStarted ∧ t.cores = {} ∧ t.prime = {} ∧ t.qf = {} ∧ t.mem.bytes = d.mem.bytes := by
  have reset := d.powerOnReset_effect
  unfold porstLFall
  generalize d.powerOnReset = t at reset ⊢
  obtain ⟨hp, rest⟩ := reset
  exact ⟨hp, t.outLow_of_porst 5 hp, t.outLow_of_porst 9 hp, t.outLow_of_porst 10 hp, rest⟩

theorem pwrgdFall_effect (d : Dev) : let t := pwrgdFall d
    t.pins.porst = false ∧ t.pins.pwrgd = false ∧ t.thm.trip = d.thm.trip ∧ t.nv = d.nv.cutOff d.commitStarted ∧ t.cores = {}
      ∧ t.mem.bytes = d.mem.bytes := by
  have reset := d.powerOnReset_effect
  unfold pwrgdFall
  generalize d.powerOnReset = t at reset ⊢
  obtain ⟨hp, ht, hn, hc, -, -, hm⟩ := reset
  exact ⟨hp, rfl, ht, hn, hc, hm⟩

/-! ## The clauses of a rail's sample -/

/-- Counting a sample changes no field but the measurement. -/
theorem Dev.railCounted_fget (d : Dev) (r v : Nat) (g : Fld) (h : g.key ≠ (fPwrRailMeas r).key) :
    (d.railCounted r v).fget g = d.fget g :=
  d.fget_fset_ne _ _ _ h

theorem Dev.railCounted_meas (d : Dev) (r v : Nat) (h : v < 8192) : (d.railCounted r v).fget (fPwrRailMeas r) = v :=
  (d.fget_fset_same _ _).trans (Nat.mod_eq_of_lt h)

theorem Dev.railCounted_state (d : Dev) (r v : Nat) : (d.railCounted r v).fget (fPwrRailState r) = d.fget (fPwrRailState r) :=
  fget_state_after_meas d r v

theorem Dev.railCounted_commitStarted (d : Dev) (r v : Nat) : (d.railCounted r v).commitStarted = d.commitStarted := by
  have hg := d.railCounted_fget r v fThmGateOpen (by simp only [Fld.key, fPwrRailMeas, fThmGateOpen]; omega)
  have hs := d.railCounted_fget r v fThmGateSusp (by simp only [Fld.key, fPwrRailMeas, fThmGateSusp]; omega)
  simp only [Dev.commitStarted, Dev.gateOpen, Dev.flag, hg, hs]

/-- A sample within 5 % ends a fault of its rail, but for that of a core rail that is low. -/
theorem Dev.railJudged_inside (d : Dev) (r v : Nat) (low : Bool) : let t := d.railJudged r v 0 false low
    t.regsOnly d ∧ t.fget (fPwrRailMeas r) = d.fget (fPwrRailMeas r)
      ∧ (d.fget (fPwrRailState r) ≠ 2 → t.fget (fPwrRailState r) = 0) := by
  unfold Dev.railJudged
  dsimp only
  rw [if_neg (by decide), if_neg Bool.false_ne_true]
  split
  · exact ⟨rfl, rfl, fun h => absurd ‹_› h⟩
  · exact ⟨rfl, fget_meas_after_state d r 0, fun _ => (d.fget_fset_same _ 0).trans (Nat.zero_mod _)⟩

/-- The fourth sample in a row outside 5 % makes a rail faulty. -/
theorem Dev.railJudged_faulty (d : Dev) (r v : Nat) (low : Bool) (hl : (low && decide (r < 2)) = false)
    (hs : d.fget (fPwrRailState r) = 0) :
    d.railJudged r v 4 true low = (d.fset (fPwrRailState r) 1).supply r v 4 (railPlace r) := by
  unfold Dev.railJudged
  dsimp only
  rw [if_pos (Nat.le_refl 4), hl, if_neg Bool.false_ne_true, hs]
  rfl

/-- The fourth sample in a row more than 5 % low makes a core rail throttle the wells of its die. -/
theorem Dev.railJudged_core_low (d : Dev) (r v : Nat) (hr : r < 2) (hs : d.fget (fPwrRailState r) = 0) :
    let t := (d.fset (fPwrRailState r) 2).supply r v 5 (railPlace r)
    d.railJudged r v 4 true true = { t with thm := { t.thm with coreLow := (t.thm.coreLow ++ [r]).eraseDups } } := by
  unfold Dev.railJudged
  dsimp only
  rw [if_pos (Nat.le_refl 4), if_pos (by simp [hr]), if_neg (by rw [hs]; decide)]

section
variable (d : Dev) (r v : Nat)

/-- A sample within 5 % ends the run of those outside. -/
theorem Dev.railOut_of_inside (lo : 95 * d.railSet r ≤ 100 * v) (hi : 100 * v ≤ 105 * d.railSet r) : d.railOut r v = false := by
  simp only [Dev.railOut, Dev.railLow, Bool.or_eq_false_iff, decide_eq_false_iff_not]
  omega

/-- A sample of 85 % or more ends the run of those below. -/
theorem Dev.brownRuns_of_above (h : 85 * d.railSet r ≤ 100 * v) : ¬ 10 ≤ d.brownRuns r v := by
  unfold Dev.brownRuns
  rw [if_neg (by rw [decide_eq_true_eq]; omega)]
  omega

theorem Dev.outRuns_of_out (n : Nat) (ho : d.railOut r v = true) (hn : tgetD d.power.outRun r 0 = n) : d.outRuns r v = n + 1 := by
  unfold Dev.outRuns
  rw [if_pos ho, hn]

variable (ht : d.thm.trip = none)
include ht

/-- A rail that feeds no core and lies within 5 %: its measurement shows, and a fault that throttles no well ends. -/
theorem railSample_inside (hr : r < 12) (io : 3 ≤ r) (hv : v < 8192) (lo : 95 * d.railSet r ≤ 100 * v)
    (hi : 100 * v ≤ 105 * d.railSet r) : let t := railSample r (some v) d
    t.fget (fPwrRailMeas r) = v ∧ (d.fget (fPwrRailState r) ≠ 2 → t.fget (fPwrRailState r) = 0) ∧ t.ev = d.ev ∧ t.sump = d.sump
      ∧ t.mem = d.mem := by
  have ho := d.railOut_of_inside r v lo hi
  have hruns : d.outRuns r v = 0 := by unfold Dev.outRuns; rw [ho]; rfl
  have judged := (d.railCounted r v).railJudged_inside r v (d.railLow r v)
  rw [railSample_some d r ht, if_neg (d.brownRuns_of_above r v (by omega)), hruns, ho]
  generalize (d.railCounted r v).railJudged r v 0 false (d.railLow r v) = t at judged ⊢
  obtain ⟨hsame, hmeas, hstate⟩ := judged
  obtain ⟨p, hp⟩ := t.railCompared_of_io r v io
  rw [hp]
  have shown := (Dev.reports_of_offRail t.showWells_offRail p).rail
  refine ⟨?_, fun h => ?_, ?_, ?_, ?_⟩
  · exact (shown _ (fPwrRailMeas_ofRail hr)).trans (hmeas.trans (d.railCounted_meas r v hv))
  · exact (shown _ (fPwrRailState_ofRail hr)).trans (hstate (by rwa [d.railCounted_state]))
  all_goals dsimp only; rw [t.showWells_offRail.1, hsame]; rfl

/-- A rail that feeds no core and lies above 5 % for the fourth time in a row becomes faulty, with one event. -/
theorem railSample_faulty (hr : r < 12) (io : 3 ≤ r) (hi : 105 * d.railSet r < 100 * v) (hn : tgetD d.power.outRun r 0 = 3)
    (hs : d.fget (fPwrRailState r) = 0) : let t := railSample r (some v) d
    t.fget (fPwrRailState r) = 1 ∧ t.ev.next = d.ev.next + 1 ∧ t.mem = d.mem := by
  have ho : d.railOut r v = true := by unfold Dev.railOut; rw [decide_eq_true hi, Bool.or_true]
  have hl : (d.railLow r v && decide (r < 2)) = false := by rw [decide_eq_false (by omega), Bool.and_false]
  rw [railSample_some d r ht, if_neg (d.brownRuns_of_above r v (by omega)), d.outRuns_of_out r v 3 ho hn, ho,
    (d.railCounted r v).railJudged_faulty r v _ hl (by rwa [d.railCounted_state])]
  have filed := ((d.railCounted r v).fset (fPwrRailState r) 1).supply_reports r v 4 (railPlace r)
  generalize ((d.railCounted r v).fset (fPwrRailState r) 1).supply r v 4 (railPlace r) = t at filed ⊢
  obtain ⟨p, hp⟩ := t.railCompared_of_io r v io
  rw [hp]
  have all := Dev.reports_trans (Dev.reports_of_offRail t.showWells_offRail p) filed
  exact ⟨(all.rail _ (fPwrRailState_ofRail hr)).trans (Dev.fget_fset_same _ _ _), all.count, (Dev.reports_frame all).1⟩

/-- A core rail that lies more than 5 % low for the fourth time in a row throttles the wells of its die. -/
theorem railSample_core_low (hr : r < 2) (lo : 100 * v < 95 * d.railSet r) (hb : 85 * d.railSet r ≤ 100 * v)
    (hn : tgetD d.power.outRun r 0 = 3) (hs : d.fget (fPwrRailState r) = 0) : let t := railSample r (some v) d
    t.fget (fPwrRailState r) = 2 ∧ r ∈ t.thm.coreLow ∧ t.mem = d.mem := by
  have hl : d.railLow r v = true := decide_eq_true lo
  have ho : d.railOut r v = true := by unfold Dev.railOut; rw [hl, Bool.true_or]
  rw [railSample_some d r ht, if_neg (d.brownRuns_of_above r v hb), d.outRuns_of_out r v 3 ho hn, ho, hl,
    (d.railCounted r v).railJudged_core_low r v hr (by rwa [d.railCounted_state])]
  have filed := ((d.railCounted r v).fset (fPwrRailState r) 2).supply_reports r v 5 (railPlace r)
  generalize ((d.railCounted r v).fset (fPwrRailState r) 2).supply r v 5 (railPlace r) = t at filed ⊢
  obtain ⟨n, hc⟩ := Dev.railCompared_reports { t with thm := { t.thm with coreLow := (t.thm.coreLow ++ [r]).eraseDups } } r v
  have state := fPwrRailState_ofRail (r := r) (by omega)
  obtain ⟨hm, -, hthm⟩ := Dev.reports_frame hc
  refine ⟨?_, ?_, hm.trans (Dev.reports_frame filed).1⟩
  · exact (hc.rail _ state).trans ((filed.rail _ state).trans (Dev.fget_fset_same _ _ _))
  · rw [hthm]; simp

/-- The tenth sample in a row below 85 % acts as PORST_L low. -/
theorem railSample_brown_out (lo : 100 * v < 85 * d.railSet r) (hn : tgetD d.power.brownRun r 0 = 9) :
    let t := railSample r (some v) d
    t.pins.porst = false ∧ t.cores = {} ∧ t.nv = d.nv.cutOff d.commitStarted ∧ t.mem.bytes = d.mem.bytes := by
  have hb : d.brownRuns r v = 10 := by unfold Dev.brownRuns; rw [if_pos (decide_eq_true lo), hn]
  rw [railSample_some d r ht, hb, if_pos (Nat.le_refl 10)]
  obtain ⟨hp, -, hnv, hc, -, -, hm⟩ := (d.railCounted r v).powerOnReset_effect
  exact ⟨hp, hc, hnv.trans (by rw [d.railCounted_commitStarted]; rfl), hm⟩

/-- A missing sample puts a monitor in fault, with one event. -/
theorem railSample_missing (hr : r < 12) (hs : d.fget (fPwrRailState r) ≠ 3) : let t := railSample r none d
    t.fget (fPwrRailState r) = 3 ∧ t.ev.next = d.ev.next + 1 ∧ t.mem = d.mem ∧ t.cores = d.cores := by
  rw [railSample_none d r ht, if_neg hs]
  have filed := (d.fset (fPwrRailState r) 3).supply_reports r 0 4 (railPlace r)
  generalize (d.fset (fPwrRailState r) 3).supply r 0 4 (railPlace r) = t at filed ⊢
  obtain ⟨hm, hc, -⟩ := Dev.reports_frame filed
  exact ⟨(filed.rail _ (fPwrRailState_ofRail hr)).trans (Dev.fget_fset_same _ _ _), filed.count, hm, hc⟩

end

/-! ## The core rails: recovery and setpoint (R34, R546, R548) -/

/-- A core rail that was low and lies within 3 % is in order again, and its die's wells leave ÷2. -/
theorem coreRailRecovered_ok (d : Dev) (r : Nat) (hr : r < 12) (hs : d.fget (fPwrRailState r) = 2)
    (lo : 97 * d.railSet r ≤ 100 * d.fget (fPwrRailMeas r)) (hi : 100 * d.fget (fPwrRailMeas r) ≤ 103 * d.railSet r) :
    let t := coreRailRecovered r d
    t.fget (fPwrRailState r) = 0 ∧ t.thm.coreLow = d.thm.coreLow.filter (· != r) ∧ t.mem = d.mem ∧ t.cores = d.cores ∧ t.ev = d.ev := by
  unfold coreRailRecovered
  dsimp only
  rw [if_pos (by simp [hs, lo, hi])]
  obtain ⟨hshown, hrail⟩ := Dev.showWells_offRail
    { d.fset (fPwrRailState r) 0 with thm := { d.thm with coreLow := d.thm.coreLow.filter (· != r) } }
  refine ⟨(hrail _ (fPwrRailState_ofRail hr)).trans ((d.fget_fset_same (fPwrRailState r) 0).trans (Nat.zero_mod _)), ?_⟩
  rw [hshown]
  exact ⟨rfl, rfl, rfl, rfl⟩

theorem coreRailRecovered_not (d : Dev) (r : Nat)
    (h : ¬ (d.fget (fPwrRailState r) = 2 ∧ 97 * d.railSet r ≤ 100 * d.fget (fPwrRailMeas r)
      ∧ 100 * d.fget (fPwrRailMeas r) ≤ 103 * d.railSet r)) : coreRailRecovered r d = d := by
  unfold coreRailRecovered
  exact if_neg (by simpa [and_assoc] using h)

theorem fSysIslStatVmv_key {m n : Nat} (h : (fSysIslStatVmv m).key = (fSysIslStatVmv n).key) : m = n := by
  simp only [Fld.key, fSysIslStatVmv] at h
  omega

theorem railIslands_lt (r n : Nat) (h : n ∈ railIslands r) : n < 40 := by
  unfold railIslands at h
  split at h
  · simp at h; omega
  · split at h <;> (simp at h; omega)

theorem railIslands_length_pos (r : Nat) : 0 < (railIslands r).length := by
  unfold railIslands
  split
  · simp
  · split <;> simp

/-- A setpoint for each of several islands: those show it. -/
theorem fget_vmv_foldl (l : List Nat) (mv : Nat) (hv : mv < 1024) (d : Dev) (n : Nat)
    (h : n ∈ l ∨ d.fget (fSysIslStatVmv n) = mv) :
    (l.foldl (fun (d : Dev) n => d.fset (fSysIslStatVmv n) mv) d).fget (fSysIslStatVmv n) = mv := by
  induction l generalizing d with
  | nil => exact h.resolve_left List.not_mem_nil
  | cons k l ih =>
    refine ih _ ?_
    by_cases hk : n = k
    · subst k
      exact .inr ((d.fget_fset_same _ _).trans (Nat.mod_eq_of_lt hv))
    · rw [d.fget_fset_ne _ _ _ (fun e => hk (fSysIslStatVmv_key e))]
      exact h.imp_left fun hm => (List.mem_cons.mp hm).resolve_left hk

/-- Under variant V1 of PM02 no setpoint is written. -/
theorem avsSetpointDone_fixed (d : Dev) (r mv : Nat) (vmv : List (Nat × Nat)) (h : d.power.fixed = true) :
    avsSetpointDone r mv vmv d = d := by
  unfold avsSetpointDone
  simp [h]

/-- A setpoint in 5 mV steps from 650 to 850 mV, at which every island of its rail is set, is shown where no neighbours are left
more than 150 mV apart. -/
theorem avsSetpointDone_ok (d : Dev) (r mv : Nat) (hr : r < 12) (hf : d.power.fixed = false) (hp : 2 < d.prime.next) (h5 : mv % 5 = 0)
    (lo : 650 ≤ mv) (hi : mv ≤ 850)
    (hc : ((railIslands r).foldl (fun (d : Dev) n => d.fset (fSysIslStatVmv n) mv) d).islandsClose = true) :
    let t := avsSetpointDone r mv ((railIslands r).map (fun n => (n, mv))) d
    t.fget (fPwrRailSet r) = mv ∧ (∀ n ∈ railIslands r, t.fget (fSysIslStatVmv n) = mv) ∧ t.regsOnly d := by
  have setpoint : ∀ n ∈ railIslands r, _ := fun n hn => fget_vmv_foldl (railIslands r) mv (by omega) d n (.inl hn)
  have only := Dev.foldl_fset_regsOnly (railIslands r) fSysIslStatVmv (fun _ => mv) d
  unfold avsSetpointDone
  rw [List.foldl_map]
  dsimp only
  generalize (railIslands r).foldl (fun (d : Dev) n => d.fset (fSysIslStatVmv n) mv) d = u at setpoint only hc ⊢
  have top : ((railIslands r).map (fun i => u.fget (fSysIslStatVmv i))).foldl max 0 = mv := by
    rw [List.map_congr_left setpoint, List.map_const', List.foldl_max, List.max?_replicate_of_pos (railIslands_length_pos r)]
    exact Nat.zero_max mv
  rw [if_pos (by simp [hf, hp, h5, lo, hi, hc, top])]
  refine ⟨(u.fget_fset_same _ _).trans (Nat.mod_eq_of_lt (by simp only [Fld.width, fPwrRailSet]; omega)), fun n hn => ?_, by rw [only]; rfl⟩
  have hn40 := railIslands_lt r n hn
  exact (u.fget_fset_ne _ _ _ (by simp only [Fld.key, fSysIslStatVmv, fPwrRailSet]; omega)).trans (setpoint n hn)

end Sys2Proof.Machine
end

section
/-!
PROOFS. The rails, the resets, SMBus and boundary scan as the commands answer them (R546, R548, R550, R551, R555, R556).
-/
set_option autoImplicit false

namespace Sys2Proof.Machine

/-! ## SMBus and boundary scan -/

theorem smbusRead_status (d : Dev) : smbusRead 0 d = { d with pins := { d.pins with
    smb := le 2 (d.fget fThmMaxTemp) ++ le 1 (d.fget fPrmStatState) ++ d.tripBytes ++ zeros 1 } } := rfl

theorem smbusRead_other (d : Dev) (code : Nat) (h : code ≠ 0) : smbusRead code d = { d with pins := { d.pins with smb := zeros 8 } } := by
  unfold smbusRead
  rw [if_neg h]

theorem Dev.tripBytes_none (d : Dev) (h : d.thm.trip = none) : d.tripBytes = [0, 255, 0, 0] := by
  unfold Dev.tripBytes
  rw [h]
  rfl

/-- TRST_L low resets the TAP. -/
theorem boundaryScan_reset (e : JtagEdge) (d : Dev) (h : e.trst = false) :
    (boundaryScan e d).pins.tap = 0 ∧ (boundaryScan e d).pins.tapIr = [] := by
  unfold boundaryScan
  simp [h]

/-- A rising edge of JTAG_TCK moves the TAP by TMS. -/
theorem boundaryScan_rise (e : JtagEdge) (d : Dev) (h : e.trst = true) (hk : e.tck = true) (hp : d.pins.tck = false) :
    (boundaryScan e d).pins.tap = tapNext d.pins.tap e.tms := by
  unfold boundaryScan
  simp [h, hk, hp]

/-- A falling edge of JTAG_TCK puts the shift register's first bit on TDO. -/
theorem boundaryScan_fall (e : JtagEdge) (d : Dev) (h : e.trst = true) (hk : e.tck = false) (hp : d.pins.tck = true) :
    (boundaryScan e d).pins.tap = d.pins.tap ∧ (boundaryScan e d).pins.tdo = (d.pins.tapShift.head?).getD false := by
  unfold boundaryScan
  simp [h, hk, hp]

/-- Without an edge of JTAG_TCK nothing changes. -/
theorem boundaryScan_steady (e : JtagEdge) (d : Dev) (h : e.trst = true) (hk : e.tck = d.pins.tck) : boundaryScan e d = d := by
  unfold boundaryScan
  simp [h, hk]

/-- JTAG reaches the TAP's own pins alone. -/
theorem boundaryScan_frame (e : JtagEdge) (d : Dev) : boundaryScan e d = { d with pins := (boundaryScan e d).pins }
    ∧ (boundaryScan e d).pins.smb = d.pins.smb ∧ (boundaryScan e d).pins.straps = d.pins.straps := by
  unfold boundaryScan
  refine ⟨rfl, ?_⟩
  dsimp only
  split
  · exact ⟨rfl, rfl⟩
  · split
    · exact ⟨rfl, rfl⟩
    · split <;> exact ⟨rfl, rfl⟩

/-! ## The rows -/

theorem exec_railSample (r : Fin 12) (mv : Option Nat) (s : State) :
    exec (.railSample r mv) s = .next (s.to (railSample r.val mv s.dev)) := rfl
theorem exec_coreRailRecovered (r : Fin 2) (s : State) : exec (.coreRailRecovered r) s = .next (s.to (coreRailRecovered r.val s.dev)) := rfl
theorem exec_avsSetpointDone (r : Fin 3) (mv : Nat) (vmv : List (Nat × Nat)) (s : State) :
    exec (.avsSetpointDone r mv vmv) s = .next (s.to (avsSetpointDone r.val mv vmv s.dev)) := rfl
theorem exec_porstLFall (s : State) : exec .porstLFall s = .next (s.to (porstLFall s.dev)) := rfl
theorem exec_pwrgdFall (s : State) : exec .pwrgdFall s = .next (s.to (pwrgdFall s.dev)) := rfl
theorem exec_smbusRead (code : Byte) (s : State) : exec (.smbusRead code) s = .next (s.to (smbusRead code.toNat s.dev)) := rfl
theorem exec_boundaryScan (e : JtagEdge) (s : State) : exec (.boundaryScan e) s = .next (s.to (boundaryScan e s.dev)) := rfl

theorem State.to_dev (s : State) : s.to s.dev = s := rfl

/-- Settles O57: a rail's sample by the run of samples that it ends or prolongs; recovery and setpoint by their tests; the resets by
what a power-on reset keeps; PERST_L by the link-down that it acts as; JTAG by the edges of its clock. -/
theorem suppliesAndPins : Obligations.SuppliesAndPins := by
  unfold Obligations.SuppliesAndPins
  refine ⟨fun s r mv => ?_, fun s r => ?_, fun s r mv => ?_, fun s => ?_⟩
  · rw [exec_railSample]
    refine ⟨fun h => ?_, fun ht => ⟨?_, ?_, ?_⟩⟩
    · unfold railSample; rw [if_pos h]; rfl
    · rintro rfl hs
      rw [railSample_none _ _ ht, if_pos hs]; rfl
    · rintro rfl hs
      exact ⟨_, rfl, railSample_missing s.dev r ht r.isLt hs⟩
    · rintro v rfl hv
      exact ⟨fun lo hi io => ⟨_, rfl, railSample_inside s.dev r v ht r.isLt io hv lo hi⟩,
        fun hi io hn hs => ⟨_, rfl, railSample_faulty s.dev r v ht r.isLt io hi hn hs⟩,
        fun lo hb hr hn hs => ⟨_, rfl, railSample_core_low s.dev r v ht hr lo hb hn hs⟩,
        fun lo hn => ⟨_, rfl, railSample_brown_out s.dev r v ht lo hn⟩⟩
  · rw [exec_coreRailRecovered]
    refine ⟨fun h => ?_, fun ⟨hs, lo, hi⟩ => ⟨_, rfl, coreRailRecovered_ok s.dev r (by omega) hs lo hi⟩⟩
    rw [coreRailRecovered_not _ _ h, s.to_dev]
  · refine ⟨fun hf vmv => ?_, fun hf hp h5 lo hi hc => ?_⟩
    · rw [exec_avsSetpointDone, avsSetpointDone_fixed _ _ _ _ hf, s.to_dev]
    · exact ⟨_, exec_avsSetpointDone r mv _ s, avsSetpointDone_ok s.dev r mv (by omega) hf hp h5 lo hi hc⟩
  · refine ⟨⟨_, exec_porstLFall s, porstLFall_effect s.dev⟩, ⟨_, exec_pwrgdFall s, pwrgdFall_effect s.dev⟩, ⟨rfl, rfl⟩, rfl, ?_,
      fun code hc => ?_, s.dev.tripBytes_none, fun e => ⟨_, exec_boundaryScan e s, ?_⟩⟩
    · rw [exec_smbusRead]; exact congrArg _ (congrArg s.to (smbusRead_status s.dev))
    · rw [exec_smbusRead, smbusRead_other _ _ fun h => hc (BitVec.eq_of_toNat_eq h)]
    · obtain ⟨rest, smb, straps⟩ := boundaryScan_frame e s.dev
      exact ⟨rest, smb, straps, boundaryScan_reset e s.dev, boundaryScan_rise e s.dev, boundaryScan_steady e s.dev,
        boundaryScan_fall e s.dev⟩

end Sys2Proof.Machine
end
